-- ==== Sys2Proof/Word.lean ====
section
/-!
DEFINITION. The word types of the JC418: a byte, a 16-byte cipher block, a 32-byte key, a 40-bit address,
and the 32-bit millisecond count (00_scope.md, Conventions).
-/

namespace Sys2Proof

/-- One byte of memory or of a frame. -/
abbrev Byte := BitVec 8

/-- One 16-byte block, read as a 128-bit big-endian number: byte 0 is bits 127 to 120 (R34). -/
abbrev Block := BitVec 128

/-- Key material: 32 bytes (R114, R116), byte 0 in the most significant place. -/
abbrev KeyBits := BitVec 256

/-- A bus address: 40 bits (00_scope.md, Conventions). -/
abbrev Addr := BitVec 40

/-- The Time Base's millisecond count: 32 bits, modulo 2^32 (R182). -/
abbrev Time := BitVec 32

end Sys2Proof
end

