-- ==== Sys2Proof/Config.lean ====
section
/-!
DEFINITION. What the machine is built with: the sizes of its tables (00_scope.md, Blocks) and the values the
spec leaves open, as constants without a body (notes/assumptions/2.md).
-/

namespace Sys2Proof.Config

/-- Transit table entries (R12). -/
def transitSize : Nat := 16
/-- Injection queue entries (R16). -/
def injectionSize : Nat := 8
/-- The passover count's top (R17). -/
def passoverTop : Nat := 8
/-- Slot records of the pool (1.2). -/
def poolSize : Nat := 512
/-- Keystream miss file entries (R45). -/
def missSize : Nat := 8
/-- Merge queue entries (R59). -/
def mergeSize : Nat := 32
/-- Protocol notice list entries (R164). -/
def protocolSize : Nat := 16
/-- Report queue places (R173). -/
def reportQueueSize : Nat := 8
/-- Bytes of a frame slot (R1). -/
def slotBytes : Nat := 2048
/-- Bytes of a line. -/
def lineBytes : Nat := 128
/-- The longest payload (R30). -/
def maxPayload : Nat := 2016
/-- The top of a 32-bit count that is held there (R110, R154, R180). -/
def top32 : Nat := 4294967295
/-- The top of a key slot's bytes used (R125). -/
def bytesUsedTop : Nat := 281474976710655
/-- The top of a fault entry's count (R151). -/
def countTop : Nat := 65535
/-- The next outbound sequence that is never assigned (R122). -/
def sequenceEnd : Nat := 4294967296

/-- FREE VALUE. Whether ROOT_BLANK is taken before RESTART on leaving warm reset with fuses BLANK: R159 says
'in either order'. The argument is the state's free-value counter. -/
opaque rootBlankFirst : Nat → Bool

/-- FREE VALUE. The report producer index after the OKAY answer to a record write that was outstanding when
SET_POLICY wrote ring size 0: R179 says 'modulo the size', and the spec states no result for size 0. -/
opaque ringlessIndex : Nat → BitVec 32

/-- FREE VALUE. The lost total when a completed notice carried more than the total now holds (CLEAR_FAULTS with
scope all came between): R169 subtracts, and the spec states no result below 0. The total is the lower of this and what
it now holds, since R154 has no completion raise it. -/
opaque lostBelowZero : Nat → BitVec 32

end Sys2Proof.Config
end

