-- ==== Sys2Proof/Syntax.lean ====
section
/-!
DEFINITION. The commands of the block: one constructor for each row of spec/opcode_table.json, in the table's
order, with the operands that come from outside the part (a pin's value, a bus transaction, the response to an
entry, a channel). The rows that name a control-page command take no operand: the record that the part fetched
holds their arguments (R28, R175).
-/

namespace Sys2Proof

/-- What the one-time fuses hold (00_scope.md, Pins, straps and fuses; R116). -/
structure Fuses where
  /-- PROGRAMMED when set, BLANK when clear. -/
  programmed : Bool
  /-- The shop's root key. -/
  rootKey : KeyBits
  /-- The 32-bit shop identity. -/
  shopId : BitVec 32
  deriving DecidableEq, Repr

/-- The direction of a bus transaction with its bytes. A write lists one entry for each byte of its span from the
lowest address on: the byte it strobes, or none where its strobe is clear (R9). -/
inductive Access where
  /-- A read of this many 8-byte beats. -/
  | read (beats : Nat)
  /-- A write; eight entries a beat. -/
  | write (bytes : List (Option Byte))
  deriving DecidableEq, Repr

/-- A transaction offered at the upstream port. -/
structure Transaction where
  /-- The initiator number, 0 to 15. -/
  initiator : Fin 16
  /-- The transaction's address; its span starts at the 8-byte unit that holds it (R9). -/
  addr : Addr
  /-- Direction and bytes. -/
  access : Access
  deriving DecidableEq, Repr

/-- The two events the row CONTROL_PAGE_OTHER_WRITE names: the acceptance of a write to the control page, and the
completion of one that takes neither index word (R10, R15). -/
inductive PageWrite where
  /-- The upstream port accepts this write. -/
  | accepted (t : Transaction)
  /-- The OKAY response to this transit entry arrives. -/
  | completed (entry : Nat)
  deriving DecidableEq, Repr

/-- The commands: one constructor for each row of spec/opcode_table.json. -/
inductive Instr where
  /-- POWER_ON_RESET (R21): PORSTN is asserted and the strap pins CPBASE[39:12] are sampled. -/
  | powerOnReset (cpbase : BitVec 28)
  /-- LEAVE_POWER_ON_RESET (R116): PORSTN is released and the fuses are sampled. -/
  | leavePowerOnReset (fuses : Fuses)
  /-- WARM_RESET (R21): WRSTN is asserted. -/
  | warmReset
  /-- LEAVE_WARM_RESET (R159): WRSTN is released. -/
  | leaveWarmReset
  /-- TRANSACTION_ACCEPT (R9). -/
  | transactionAccept (t : Transaction)
  /-- OUTBOUND_CLEAR_WRITE (R51). -/
  | outboundClearWrite (t : Transaction)
  /-- OUTBOUND_CLEAR_READ (R62). -/
  | outboundClearRead (t : Transaction)
  /-- OUTBOUND_LINE_WRITE (R69). -/
  | outboundLineWrite (t : Transaction)
  /-- INBOUND_LINE_WRITE (R74). -/
  | inboundLineWrite (t : Transaction)
  /-- INBOUND_CLEAR_HEADER_WRITE (R80). -/
  | inboundClearHeaderWrite (t : Transaction)
  /-- INBOUND_CLEAR_PAYLOAD_WRITE (R93). -/
  | inboundClearPayloadWrite (t : Transaction)
  /-- INBOUND_CLEAR_READ (R90). -/
  | inboundClearRead (t : Transaction)
  /-- NOTICE_CLEAR_HEADER_WRITE (R163). -/
  | noticeClearHeaderWrite (t : Transaction)
  /-- CONTROL_PAGE_OTHER_WRITE (R15). -/
  | controlPageOtherWrite (w : PageWrite)
  /-- COMMAND_PRODUCER_INDEX_WRITE (R174): the OKAY response to this transit entry arrives. -/
  | commandProducerIndexWrite (entry : Nat)
  /-- REPORT_CONSUMER_INDEX_WRITE (R174): the OKAY response to this transit entry arrives. -/
  | reportConsumerIndexWrite (entry : Nat)
  /-- DOWNSTREAM_GRANT (R17): the DRAM controller will accept a transaction. -/
  | downstreamGrant
  /-- PASSED_RESPONSE (R15): OKAY for this transit entry, with a read's bytes. -/
  | passedResponse (entry : Nat) (data : List Byte)
  /-- PASSED_ERROR_RESPONSE (R18): ERROR for this transit entry, with whatever bytes a read returned. -/
  | passedErrorResponse (entry : Nat) (data : List Byte)
  /-- INJECTION_REQUEST_SERVED (R16). -/
  | injectionRequestServed
  /-- INJECTED_ERROR (R19): ERROR for this injection queue entry. -/
  | injectedError (entry : Nat)
  /-- DOWNSTREAM_TIMEOUT (R20): this injection queue entry's timeout. -/
  | downstreamTimeout (entry : Nat)
  /-- STALE_RESPONSE (R20): a response for an entry that is no longer there. -/
  | staleResponse (entry : Nat)
  /-- CIPHER_GRANT (R48). -/
  | cipherGrant
  /-- KEYSTREAM_MISS_COMPLETE (R46). -/
  | keystreamMissComplete
  /-- BACKGROUND_CIPHER_COMPLETE (R48). -/
  | backgroundCipherComplete
  /-- ROOT_SUBKEY_COMPLETE (R33). -/
  | rootSubkeyComplete
  /-- MULTIPLIER_GRANT (R49). -/
  | multiplierGrant
  /-- MULTIPLIER_PRODUCT_RETURN (R37). -/
  | multiplierProductReturn
  /-- FINISH_DECISION (R38) for this slot record. -/
  | finishDecision (slot : Nat)
  /-- TAIL_FETCH_RETURN (R40): OKAY for this injection queue entry with its 16 bytes. -/
  | tailFetchReturn (entry : Nat) (data : List Byte)
  /-- SWEEP_READ_RETURN (R41): OKAY for this injection queue entry with its bytes. -/
  | sweepReadReturn (entry : Nat) (data : List Byte)
  /-- DIRECT_FINISH_COMPLETE (R39) for this slot record. -/
  | directFinishComplete (slot : Nat)
  /-- FRAME_WRITE_ANSWERED (R64): OKAY for this injection queue entry. -/
  | frameWriteAnswered (entry : Nat)
  /-- TAG_READ_RETURN (R82): OKAY for this injection queue entry with the 16 tag bytes. -/
  | tagReadReturn (entry : Nat) (data : List Byte)
  /-- OFFER_RULING_START (R135) on this channel. -/
  | offerRulingStart (channel : Fin 16)
  /-- OFFER_PAYLOAD_READ_RETURN (R136): OKAY for this injection queue entry with the 64 payload bytes. -/
  | offerPayloadReadReturn (entry : Nat) (data : List Byte)
  /-- HASH_SUBKEY_RETURN (R142). -/
  | hashSubkeyReturn
  /-- PROTOCOL_NOTICE_START (R165). -/
  | protocolNoticeStart
  /-- FAULT_NOTICE_START (R168). -/
  | faultNoticeStart
  /-- NOTICE_LINE1_WRITE_ANSWERED (R166): OKAY for this injection queue entry. -/
  | noticeLine1WriteAnswered (entry : Nat)
  /-- NOTICE_COMPOSITION_COMPLETE (R169): OKAY for this injection queue entry. -/
  | noticeCompositionComplete (entry : Nat)
  /-- COMMAND_FETCH_RETURN (R175): OKAY for this injection queue entry with the 32 record bytes. -/
  | commandFetchReturn (entry : Nat) (data : List Byte)
  /-- SET_WINDOW (R3). -/
  | setWindow
  /-- CLEAR_WINDOW (R5). -/
  | clearWindow
  /-- SET_INITIATOR (R8). -/
  | setInitiator
  /-- SET_CHANNEL (R103). -/
  | setChannel
  /-- SET_CHANNEL_STATE (R99). -/
  | setChannelState
  /-- DROP_KEYS (R101). -/
  | dropKeys
  /-- REQUEST_RENEWAL (R177). -/
  | requestRenewal
  /-- SET_METER (R106). -/
  | setMeter
  /-- SET_POLICY (R177). -/
  | setPolicy
  /-- CLEAR_FAULTS (R160). -/
  | clearFaults
  /-- SNAPSHOT_FAULTS (R161). -/
  | snapshotFaults
  /-- SNAPSHOT_RECORD_HANDED (R178). -/
  | snapshotRecordHanded
  /-- UNKNOWN_COMMAND (R28). -/
  | unknownCommand
  /-- COMMAND_DONE_HANDED (R176). -/
  | commandDoneHanded
  /-- STATUS_WRITE_ANSWERED (R176): OKAY for this injection queue entry. -/
  | statusWriteAnswered (entry : Nat)
  /-- REPORT_RECORD_WRITE_ANSWERED (R179): OKAY for this injection queue entry. -/
  | reportRecordWriteAnswered (entry : Nat)
  /-- REPORT_PRODUCER_WORD_ANSWERED (R179): OKAY for this injection queue entry. -/
  | reportProducerWordAnswered (entry : Nat)
  /-- LOST_REPORT_COUNT_WRITE_ANSWERED (R180): OKAY for this injection queue entry. -/
  | lostReportCountWriteAnswered (entry : Nat)
  /-- TIME_BASE_TICK (R182): the end of one 250-microsecond interval. -/
  | timeBaseTick
  /-- METER_REFILL (R107). -/
  | meterRefill
  /-- CUTOVER_TIMER_EXPIRY (R144) on this channel. -/
  | cutoverTimerExpiry (channel : Fin 16)
  /-- GRACE_TIMER_EXPIRY (R132) on this channel. -/
  | graceTimerExpiry (channel : Fin 16)
  /-- HOLDOFF_TIMER_EXPIRY (R167). -/
  | holdoffTimerExpiry
  /-- KEY_LIFETIME_TICK (R126). -/
  | keyLifetimeTick
  /-- HEADER_RESULT_WRITE_ANSWERED (R24): OKAY for this injection queue entry. -/
  | headerResultWriteAnswered (entry : Nat)
  /-- RESET_ZEROING_WRITE_ANSWERED (R173): OKAY for this injection queue entry. -/
  | resetZeroingWriteAnswered (entry : Nat)
  deriving DecidableEq, Repr

end Sys2Proof
end

