-- ==== Sys2Proof/WellFormed.lean ====
section
/-!
DEFINITION. Which commands are well formed: a transaction is a burst that the bus can carry (00_scope.md,
Conventions, 'Bursts are 1 to 16 beats'; R9).
-/

namespace Sys2Proof

/-- The number of beats of an access. -/
def Access.beats : Access → Nat
  | .read n => n
  | .write bytes => bytes.length / 8

/-- The address of the first byte of the span: the start of the 8-byte unit that holds the address (R9). -/
def Transaction.start (t : Transaction) : Nat := t.addr.toNat / 8 * 8

/-- The number of bytes an access covers: eight a beat (R9). -/
def Access.size (a : Access) : Nat := 8 * a.beats

/-- The number of bytes of the span. -/
def Transaction.size (t : Transaction) : Nat := t.access.size

/-- The address of the last byte of the span (R9). -/
def Transaction.last (t : Transaction) : Nat := t.start + t.size - 1

/-- 1 to 16 beats, a write with eight byte entries a beat, and a span inside the 40-bit address space. -/
def Transaction.wellFormed (t : Transaction) : Bool :=
  decide (1 ≤ t.access.beats) && decide (t.access.beats ≤ 16) &&
  (match t.access with
    | .read _ => true
    | .write bytes => bytes.length % 8 == 0) &&
  decide (t.start + t.size ≤ 2 ^ 40)

/-- A command is well formed when the transaction it carries is, and when the bytes a response returns are whole beats
of a burst. (DESIGN CHOICE, notes/assumptions/7.md.) -/
def Instr.wellFormed : Instr → Bool
  | .transactionAccept t | .outboundClearWrite t | .outboundClearRead t | .outboundLineWrite t
  | .inboundLineWrite t | .inboundClearHeaderWrite t | .inboundClearPayloadWrite t | .inboundClearRead t
  | .noticeClearHeaderWrite t | .controlPageOtherWrite (.accepted t) => t.wellFormed
  | .passedResponse _ d | .passedErrorResponse _ d => d.length % 8 == 0 && decide (d.length ≤ 128)
  | .tailFetchReturn _ d | .tagReadReturn _ d => d.length == 16
  | .sweepReadReturn _ d => d.length % 16 == 0 && decide (d.length ≤ 128)
  | .offerPayloadReadReturn _ d => d.length == 64
  | .commandFetchReturn _ d => d.length == 32
  | .powerOnReset _ | .leavePowerOnReset _ | .warmReset | .leaveWarmReset
  | .controlPageOtherWrite (.completed _) | .commandProducerIndexWrite _ | .reportConsumerIndexWrite _
  | .downstreamGrant | .injectionRequestServed | .injectedError _ | .downstreamTimeout _ | .staleResponse _
  | .cipherGrant | .keystreamMissComplete | .backgroundCipherComplete | .rootSubkeyComplete | .multiplierGrant
  | .multiplierProductReturn | .finishDecision _ | .directFinishComplete _ | .frameWriteAnswered _
  | .offerRulingStart _ | .hashSubkeyReturn | .protocolNoticeStart | .faultNoticeStart
  | .noticeLine1WriteAnswered _ | .noticeCompositionComplete _ | .setWindow | .clearWindow | .setInitiator
  | .setChannel | .setChannelState | .dropKeys | .requestRenewal | .setMeter | .setPolicy | .clearFaults
  | .snapshotFaults | .snapshotRecordHanded | .unknownCommand | .commandDoneHanded | .statusWriteAnswered _
  | .reportRecordWriteAnswered _ | .reportProducerWordAnswered _ | .lostReportCountWriteAnswered _
  | .timeBaseTick | .meterRefill | .cutoverTimerExpiry _ | .graceTimerExpiry _ | .holdoffTimerExpiry
  | .keyLifetimeTick | .headerResultWriteAnswered _ | .resetZeroingWriteAnswered _ => true

end Sys2Proof
end

