-- ==== Sys2Proof/Decode.lean ====
section
/-!
DEFINITION. The words of the command table. spec/opcode_table.json gives no row any bits (every row's "fields" is
empty and none has a pattern), so no word spells a command (notes/assumptions/3.md).
-/

namespace Sys2Proof

/-- The command that the low nbits bits of w spell by the table: none, since the table gives no row any bits. -/
def decodeTableWord (_nbits _w : Nat) : Option Instr := none

end Sys2Proof
end

