-- ==== Sys2Proof/Machine/State.lean ====
section
/-!
DEFINITION. The state of the JC418 as plain data: everything spec/ gives the part, the queue of commands that wait,
and a few fields of the model's own (the stamp counter, the free-value counter, the logs of what left the two
ports), each named as such. INVENTORY.md lists every field with its rule and its reset value.
-/

namespace Sys2Proof.Machine

/-! ## Windows, initiators, slot records (chapter 1) -/

/-- The role of a window in use (1.1). -/
inductive WinRole where
  | controlPage | outbound | inbound | notice | report
  deriving DecidableEq, Repr

/-- A window table entry in use (1.1). An entry whose in-use flag is clear has no fields, and is `none` in the table. -/
structure Window where
  /-- The window's role; control page for entry 0. -/
  role : WinRole
  /-- Address of the window's first byte. -/
  base : Addr
  /-- Slots, or report records; 0 for the control page. -/
  count : Nat
  /-- The bound channel of an OUTBOUND window. -/
  channel : Option (Fin 16)
  /-- The slot record that serves slot 0, for a window with slots. -/
  first : Option Nat
  deriving DecidableEq, Repr

/-- The class of an initiator (R8). -/
inductive InitClass where
  | clear | line | blocked
  deriving DecidableEq, Repr

/-- The states of a slot record (1.2; R50, R73, R162). -/
inductive SlotState where
  | free | filling | tagging | tagged | failed | arriving | checking | passed | rejected | composing
  deriving DecidableEq, Repr

/-- The reason codes of 2.2. -/
inductive Reason where
  | none | channelDown | noKey | keySpent | metered | badKind | badLength | disturbed | memory | tag | replayed
  | malformed | channelGuarded | timeout
  deriving DecidableEq, Repr

/-- The key a frame is protected under: the root key or a key slot. -/
inductive KeyRef where
  | root
  | slot (k : Fin 32)
  deriving DecidableEq, Repr

/-- How far the finish of a tag has come (3.5). -/
inductive FinishStage where
  /-- Waiting under R37 for the decision of R38. -/
  | waiting
  /-- The merge entries are settled and the padded fold's product is waited for (R38). -/
  | settled
  /-- A tail fetch: its read or its correction product is owed (R40). -/
  | tail
  /-- A sweep that still owes this many reads (R41). -/
  | sweep (reads : Nat)
  /-- A direct finish: the length term, the mask or the forming of the tag is owed (R39). -/
  | direct
  deriving DecidableEq, Repr

/-- A finish in flight. -/
structure Finish where
  /-- Its stage. -/
  stage : FinishStage
  /-- The frame's payload length, frozen at CLOSE or CHECK (R55, R63). -/
  len : Nat
  /-- The product LB·H^(n+1), once returned (R39). -/
  lenTerm : Option Block
  /-- The mask, once returned (R39). -/
  mask : Option Block
  /-- The tag, once formed (R39). -/
  tag : Option Block
  deriving DecidableEq, Repr

/-- A slot record that serves a slot (1.2), with what its frame unit keeps of work in flight. -/
structure SlotRec where
  /-- OUTBOUND, INBOUND or NOTICE. -/
  role : WinRole
  /-- Its state. -/
  state : SlotState
  /-- The window of its slot. -/
  window : Fin 16
  /-- The slot index in the window. -/
  slot : Nat
  /-- The channel, or absent. -/
  channel : Option (Fin 16)
  /-- The kind captured from the header, or absent. -/
  kind : Option Byte
  /-- The key generation, or absent. -/
  gen : Option Byte
  /-- The sequence, or absent. -/
  seq : Option (BitVec 32)
  /-- The captured payload length, or absent. -/
  length : Option Nat
  /-- The key the record names, or absent. -/
  key : Option KeyRef
  /-- The accumulator value (R36). -/
  acc : Block
  /-- The accumulator's valid flag. -/
  valid : Bool
  /-- The folded set: block numbers, without repeats. -/
  folded : List Nat
  /-- The whole-folded set. -/
  whole : List Nat
  /-- The header-seen flag. -/
  headerSeen : Bool
  /-- The doomed flag. -/
  doomed : Bool
  /-- The reason. -/
  reason : Reason
  /-- The stamp of the present opening, arrival or composition (R37, R74); absent when none is open. -/
  opening : Option Nat
  /-- The finish in flight. -/
  finish : Option Finish
  /-- Set once the frame write has been requested (R64). -/
  frameAsked : Bool
  /-- Set when a header write taken after that strobed byte 14 or 15 (R64). -/
  retouched : Bool
  /-- The tag read from the slot, once returned (R82). -/
  tagRead : Option Block
  /-- The reason noted on a CHECKING slot (R82). -/
  noted : Option Reason
  /-- The Renewal Engine's claim on the slot (R89, R94). -/
  claimed : Bool
  deriving DecidableEq, Repr

/-- The starting contents of R7. -/
def SlotRec.fresh (role : WinRole) (window : Fin 16) (slot : Nat) : SlotRec where
  role := role
  state := .free
  window := window
  slot := slot
  channel := none
  kind := none
  gen := none
  seq := none
  length := none
  key := none
  acc := 0
  valid := false
  folded := []
  whole := []
  headerSeen := false
  doomed := false
  reason := .none
  opening := none
  finish := none
  frameAsked := false
  retouched := false
  tagRead := none
  noted := none
  claimed := false

/-! ## The bus (chapter 1) -/

/-- What the part does with one byte of a passed read (R62, R90). -/
inductive Treat where
  | raw | decipher | zero
  deriving DecidableEq, Repr

/-- The keystream of one beat of a transit table entry. -/
inductive BeatKey where
  /-- None is needed, or a write's beat has been enciphered. -/
  | none
  /-- Asked for, not yet in hand. -/
  | waiting
  /-- In hand for a read's beat. -/
  | held (ks : BitVec 64)
  /-- Withdrawn under R47: a read's beat is delivered as zeros. -/
  | withdrawn
  deriving DecidableEq, Repr

/-- A transit table entry (1.5). WAITING and READY are computed from the ages, the lines and the keystream still
awaited (R12, R13); ISSUED is held. (DESIGN CHOICE, notes/assumptions/8.md.) -/
structure TransitEntry where
  /-- Its age: the moment of acceptance (R13). No two entries of either collection share one. -/
  id : Nat
  /-- The initiator. -/
  initiator : Fin 16
  /-- The first byte of the span. -/
  start : Nat
  /-- The direction, and the bytes as they will be forwarded. -/
  access : Access
  /-- The window, for a window transaction. -/
  window : Option (Fin 16)
  /-- The slot index, in a window with slots. -/
  slot : Option Nat
  /-- The slot record, in a window with slots. -/
  recNo : Option Nat
  /-- Set for a transaction of a CLEAR initiator. -/
  clear : Bool
  /-- The opening or arrival the transaction belongs to (R58, R74). -/
  opening : Option Nat
  /-- Set for a clear-side write with payload accepted in FILLING (R70). -/
  fills : Bool
  /-- A read's bytes, one entry each. -/
  treat : List Treat
  /-- The keystream of the beats, one entry each. -/
  beatKeys : List BeatKey
  /-- ISSUED. -/
  issued : Bool
  /-- The downstream response of a read that waits for keystream: OKAY or ERROR, and its bytes (R15). -/
  back : Option (Bool × List Byte)
  deriving DecidableEq, Repr

/-- The operation an injected transaction serves (1.6). -/
inductive InjOp where
  | tagRead (recNo opening : Nat)
  | tailFetch (recNo opening : Nat)
  | sweepRead (recNo opening firstBlock : Nat)
  | headerResult (recNo : Nat) (inbound : Bool)
  | frameWrite (recNo opening : Nat)
  | offerRead (channel : Fin 16) (work : Nat)
  | noticeLine1 (opening : Nat)
  | noticeLine0 (opening : Nat)
  | resetZero
  | fetch
  | statusWrite
  | reportRecord
  | reportWord
  | lostWord
  deriving DecidableEq, Repr

/-- A request for an injection queue entry (R16). An injected sweep or tail read of an inbound finish is the Inbound
Frame Unit's, and of an outbound one the Outbound Frame Unit's. -/
structure InjReq where
  /-- The operation served. -/
  op : InjOp
  /-- The order of R16 among requests made together: 0 Inbound, 1 Outbound, 2 Renewal, 3 Notice, 4 Control. -/
  unit : Fin 5
  /-- Address of the first byte. -/
  start : Nat
  /-- Direction and bytes. -/
  access : Access
  /-- The window concerned (R11). -/
  window : Option (Fin 16)
  /-- The slot concerned. -/
  slot : Option Nat
  deriving DecidableEq, Repr

/-- An injection queue entry (R16). -/
structure InjEntry where
  /-- Its age: the moment of entry (R13). -/
  id : Nat
  /-- What it carries. -/
  req : InjReq
  /-- ISSUED. -/
  issued : Bool
  /-- The timeout setting in force at its grant (R20). -/
  timeout : Nat
  /-- The 250-microsecond expiries counted since its grant (R20). -/
  ticks : Nat
  deriving DecidableEq, Repr

/-- A response driven on the upstream port. -/
structure UpResponse where
  /-- Whose transaction it answers. -/
  initiator : Fin 16
  /-- The first byte of that transaction's span. -/
  start : Nat
  /-- OKAY or ERROR. -/
  ok : Bool
  /-- A read's bytes; empty for a write. -/
  data : List Byte
  deriving DecidableEq, Repr

/-- A transaction driven on the downstream port at a grant. -/
structure DownIssue where
  /-- The entry's age, by which its response names it. -/
  id : Nat
  /-- Set for an injected transaction. -/
  injected : Bool
  /-- The first byte of the span. -/
  start : Nat
  /-- Direction and bytes. -/
  access : Access
  deriving DecidableEq, Repr

/-- The Bus Transit Unit's queues, ports and settings. -/
structure Bus where
  /-- The transit table, in age order. -/
  transit : List TransitEntry
  /-- The injection queue, in age order. -/
  inj : List InjEntry
  /-- Requests that wait for an injection queue entry, in the order they were made. -/
  injWaiting : List InjReq
  /-- MODEL's own: the requests made in the step under way; empty between steps. -/
  injAsked : List InjReq
  /-- The passover count (R17). -/
  passover : Nat
  /-- The downstream timeout setting (R20). -/
  timeout : Nat
  /-- MODEL's own: every response driven on the upstream port, the latest first. (DESIGN CHOICE,
  notes/assumptions/8.md.) -/
  up : List UpResponse
  /-- MODEL's own: every transaction driven on the downstream port, the latest first. (DESIGN CHOICE,
  notes/assumptions/8.md.) -/
  down : List DownIssue
  deriving DecidableEq, Repr

/-! ## The Keystream Unit (chapter 3) and the merge queue (R59) -/

/-- A keystream cache entry in use (R43). -/
structure CacheEntry where
  /-- The key slot. -/
  key : Fin 32
  /-- The counter block. -/
  ctr : Block
  /-- The keystream for them. -/
  ks : Block
  deriving DecidableEq, Repr

/-- A beat that waits for keystream: its transit table entry and its number in the burst. -/
structure Waiter where
  /-- The transit table entry. -/
  entry : Nat
  /-- The beat, from 0. -/
  beat : Nat
  deriving DecidableEq, Repr

/-- A miss file entry (R45). -/
structure MissEntry where
  /-- Its age: the moment it was taken. -/
  id : Nat
  /-- The key slot. -/
  key : Fin 32
  /-- The counter block. -/
  ctr : Block
  /-- The waiting beats in the order they joined. -/
  waiters : List Waiter
  /-- Set once the cipher engine has granted it. -/
  granted : Bool
  deriving DecidableEq, Repr

/-- A beat in the overflow list (R45). -/
structure OverflowBeat where
  /-- The beat. -/
  who : Waiter
  /-- The key slot it names. -/
  key : Fin 32
  /-- The counter block it names. -/
  ctr : Block
  deriving DecidableEq, Repr

/-- Who asked for a background block (R48). -/
inductive BgUse where
  | rootSubkey
  | hashSubkey
  | offerPlain (channel : Fin 16) (work block : Nat)
  | mask (recNo opening : Nat)
  | noticeBlock (opening block : Nat)
  deriving DecidableEq, Repr

/-- A background request of the cipher engine (R48). -/
structure BgReq where
  /-- Who asked. -/
  use : BgUse
  /-- The key. -/
  key : KeyRef
  /-- The block to encipher. -/
  input : Block
  deriving DecidableEq, Repr

/-- What the cipher engine works on. -/
inductive CipherJob where
  /-- The miss file entry with this age. -/
  | miss (id : Nat)
  /-- A background request. -/
  | background (r : BgReq)
  deriving DecidableEq, Repr

/-- The cipher engine's grant in progress (R48). -/
structure CipherGrant where
  /-- What it works on. -/
  job : CipherJob
  /-- The key. -/
  key : KeyRef
  /-- The block it enciphers. -/
  input : Block
  /-- Set when R47 has withdrawn it: its output is discarded. -/
  withdrawn : Bool
  deriving DecidableEq, Repr

/-- What a multiplier product is for (R49). -/
inductive MulUse where
  | fold | correction | lenTerm
  deriving DecidableEq, Repr

/-- A request of the tag multiplier (R49). -/
structure MulReq where
  /-- What for. -/
  use : MulUse
  /-- The slot record that asked. -/
  recNo : Nat
  /-- The opening that asked (R37). -/
  opening : Nat
  /-- The key whose subkey is used. -/
  key : KeyRef
  /-- The block. -/
  block : Block
  /-- The exponent, 1 to 127. -/
  exp : Nat
  deriving DecidableEq, Repr

/-- The Keystream Unit. -/
structure Keystream where
  /-- The keystream cache (R43). -/
  cache : Vector (Option CacheEntry) 16
  /-- The replacement pointer (R43). -/
  pointer : Fin 16
  /-- The miss file, in age order (R45). -/
  misses : List MissEntry
  /-- The overflow list, in age order (R45). -/
  overflow : List OverflowBeat
  /-- The background queue, in age order (R48). -/
  background : List BgReq
  /-- The cipher engine's grant in progress, or idle (R48). -/
  cipher : Option CipherGrant
  /-- The tag multiplier's queue, in age order (R49). -/
  mulQueue : List MulReq
  /-- The multiplier's grant in progress, with its withdrawn mark (R47), or idle. -/
  mulBusy : Option (MulReq × Bool)
  /-- The root subkey, once computed (R116). -/
  rootSubkey : Option Block
  deriving DecidableEq, Repr

/-- A merge queue entry (R59). -/
structure MergeEntry where
  /-- The slot record. -/
  recNo : Nat
  /-- The block number. -/
  block : Nat
  /-- Its sixteen bytes: the ciphertext of those present. -/
  bytes : List (Option Byte)
  deriving DecidableEq, Repr

/-! ## Channels and meters (chapters 6 and 8) -/

/-- The state of a channel (6.2). -/
inductive ChanState where
  | disabled | guarded | opened
  deriving DecidableEq, Repr

/-- The two uplinks. -/
inductive Link where
  | a | b
  deriving DecidableEq, Repr

/-- The role of a key slot on its channel (R97). -/
inductive KeyRole where
  | previous | current | next
  deriving DecidableEq, Repr

/-- The renewal states (R134). -/
inductive Renewal where
  | idle | installing | confirming | cutoverWait
  deriving DecidableEq, Repr

/-- A timer counted in second expiries: stopped, or running with so many expiries to come. A timer with none to come
has run out, and its expiry is the next event of its row. (DESIGN CHOICE, notes/assumptions/10.md.) -/
inductive Timer where
  | stopped
  | running (left : Nat)
  deriving DecidableEq, Repr

/-- The offer in a channel's hold (R134). -/
structure Hold where
  /-- The slot record of its inbound slot. -/
  recNo : Nat
  /-- Its serial. -/
  serial : BitVec 32
  /-- Its offered generation. -/
  gen : Byte
  /-- The key slot allocated for it. -/
  key : Fin 32
  deriving DecidableEq, Repr

/-- A reading of an offer's payload in flight, at a ruling or at a loading (R136). -/
structure OfferWork where
  /-- The stamp its read and its plaintext requests carry. -/
  id : Nat
  /-- The slot record of the offer. -/
  recNo : Nat
  /-- The four ciphertext blocks, once read. -/
  data : Option (List Block)
  /-- The plaintext blocks in hand, blocks 1 to 4. -/
  plain : List (Option Block)
  deriving DecidableEq, Repr

/-- A channel record (R97) with the Renewal Engine's fields of R134. -/
structure Channel where
  state : ChanState
  link : Link
  /-- 0 to 7. -/
  priority : Nat
  /-- The reject threshold: 0 off, or 1 to 255. -/
  threshold : Nat
  /-- The consecutive reject count, 0 to 255. -/
  rejects : Nat
  /-- The soft percent override, 50 to 95. -/
  softOverride : Option Nat
  cutoverSecs : Nat
  graceSecs : Nat
  /-- The key roles. -/
  prev : Option (Fin 32)
  cur : Option (Fin 32)
  next : Option (Fin 32)
  renewal : Renewal
  /-- The offer hold. -/
  hold : Option Hold
  /-- The loading of the held offer; the loading flag of R134 is its presence. -/
  loading : Option OfferWork
  /-- The install buffer. -/
  installBuf : Option (List Block)
  /-- The installing key slot, with the role that seating gave it (R142). -/
  installing : Option (Fin 32 × KeyRole)
  /-- The offer high mark. -/
  highMark : Nat
  /-- The cutover timer and, while it runs, the key slot it will promote. -/
  cutover : Timer
  cutoverKey : Option (Fin 32)
  /-- The grace timer. -/
  grace : Timer
  /-- The ruling queue: slot records of CHECKING offers that wait for a ruling, oldest first. -/
  rulingQueue : List Nat
  /-- The ruling in flight. -/
  ruling : Option OfferWork
  deriving DecidableEq, Repr

/-- A link meter (R105). -/
structure Meter where
  metered : Bool
  cir : Nat
  cbs : Nat
  ebs : Nat
  yellow : Nat
  red : Nat
  /-- The committed level. -/
  c : Nat
  /-- The excess level. -/
  e : Nat
  /-- The overdraw total. -/
  overdraw : Nat
  deriving DecidableEq, Repr

/-! ## Key Store (chapter 7) -/

/-- The state of a key slot (R114). -/
inductive KeyState where
  | free | staged | active | retiring
  deriving DecidableEq, Repr

/-- The load state of a key slot (R114). -/
inductive LoadState where
  | empty | part | loaded
  deriving DecidableEq, Repr

/-- A key slot (R114). Its role is held once, in its channel's record, and computed from there. -/
structure KeySlot where
  state : KeyState
  load : LoadState
  owner : Option (Fin 16)
  gen : Byte
  material : KeyBits
  subkey : Block
  serial : BitVec 32
  nonce : BitVec 64
  frameLimit : Nat
  /-- In units of 65,536 bytes. -/
  byteLimit : Option Nat
  /-- The offered soft percent. -/
  softPercent : Nat
  /-- In minutes. -/
  lifetime : Option Nat
  /-- Minutes remaining. -/
  minutes : Nat
  /-- Frames used. -/
  frames : Nat
  /-- Bytes used. -/
  bytes : Nat
  /-- Next outbound sequence. -/
  nextSeq : Nat
  /-- The replay high mark. -/
  high : Nat
  /-- The marked sequence positions below the high mark. -/
  marks : List Nat
  /-- The renewal-asked flag. -/
  asked : Bool
  /-- The spent flag. -/
  spent : Bool
  /-- The reference count. -/
  refs : Nat
  /-- MODEL's own: the role that seating gave it, which is the role that its KEY_CONFIRM is for (R143). (DEDUCED,
  notes/assumptions/24.md.) -/
  seatedAs : Option KeyRole
  deriving DecidableEq, Repr

/-- The values of R114's last column: FREE and zeroised. -/
def KeySlot.zeroised : KeySlot where
  state := .free
  load := .empty
  owner := none
  gen := 0
  material := 0
  subkey := 0
  serial := 0
  nonce := 0
  frameLimit := 0
  byteLimit := none
  softPercent := 0
  lifetime := none
  minutes := 0
  frames := 0
  bytes := 0
  nextSeq := 1
  high := 0
  marks := []
  asked := false
  spent := false
  refs := 0
  seatedAs := none

/-- The Key Store: the key slots and the free list, oldest first (R117). -/
structure KeyStore where
  slots : Vector KeySlot 32
  freeList : List (Fin 32)
  deriving DecidableEq, Repr

/-! ## Fault Unit (chapter 9) -/

/-- The fault classes (R149). -/
inductive FaultClass where
  | tagMismatch | replayed | malformed | overrun | gatedRead | mergeEviction | metered | offerDisplaced | restart
  | noKey | conflict | disturbed | keySpent | keySequence | keyStoreFull | noticeBlocked | blockedInitiator
  | busProtocol | memoryError | integrityStorm | downstreamTimeout | rootBlank
  deriving DecidableEq, Repr

/-- The severities. -/
inductive Severity where
  | correctable | degraded | fatal
  deriving DecidableEq, Repr

/-- The notice states of a fault entry (9.2). -/
inductive NoticeState where
  | none | pending | composing | sent
  deriving DecidableEq, Repr

/-- A fault occurrence (R148); its time is the Time Base count when it is taken. -/
structure Occurrence where
  cls : FaultClass
  severity : Severity
  channel : Option (Fin 16)
  window : Option (Fin 16)
  slot : Option Nat
  initiator : Option (Fin 16)
  quiet : Bool
  deriving DecidableEq, Repr

/-- A fault table entry in use (9.2). -/
structure FaultEntry where
  cls : FaultClass
  severity : Severity
  /-- Absent for a device-scoped entry. -/
  channel : Option (Fin 16)
  window : Option (Fin 16)
  slot : Option Nat
  initiator : Option (Fin 16)
  count : Nat
  /-- Count at last notice. -/
  lastCount : Nat
  firstTime : Time
  lastTime : Time
  notice : NoticeState
  /-- The late occurrence mark. -/
  late : Bool
  /-- The update order: a greater number was updated more recently. -/
  updated : Nat
  deriving DecidableEq, Repr

/-- A set of severities: bits 0, 1 and 2 of a mask of SET_POLICY. -/
structure SevMask where
  correctable : Bool
  degraded : Bool
  fatal : Bool
  deriving DecidableEq, Repr

/-- The Fault Unit. -/
structure FaultUnit where
  /-- The fault table. -/
  table : Vector (Option FaultEntry) 32
  /-- The lost total (R154). -/
  lost : Nat
  /-- The local report mask (R155). -/
  localMask : SevMask
  /-- The notice mask (R155). -/
  noticeMask : SevMask
  /-- guard-on-fatal (R155). -/
  guardOnFatal : Bool
  /-- MODEL's own: the next number of the update order. -/
  updates : Nat
  deriving DecidableEq, Repr

/-! ## Notice Engine (chapter 10) -/

/-- Why a renewal is asked for (2.4). -/
inductive RenewReason where
  | softFrames | softBytes | softLifetime | spent | requested
  deriving DecidableEq, Repr

/-- What a protocol notice list entry asks for (R164). -/
inductive ProtoKind where
  | keyConfirm (key : Fin 32)
  | renewRequest (why : RenewReason)
  deriving DecidableEq, Repr

/-- An entry of the protocol notice list (R164). -/
structure ProtoEntry where
  channel : Fin 16
  kind : ProtoKind
  deriving DecidableEq, Repr

/-- A fault entry as a fault notice carries it (R168): its number, its key and its count. -/
structure Carried where
  number : Fin 32
  cls : FaultClass
  channel : Option (Fin 16)
  count : Nat
  deriving DecidableEq, Repr

/-- The composition in flight (R166). -/
structure Composition where
  /-- The slot record it fills. -/
  recNo : Nat
  /-- Its stamp. -/
  opening : Nat
  /-- The key slot it is protected under. -/
  key : Fin 32
  /-- The plaintext payload blocks. -/
  plain : List Block
  /-- The enciphered blocks in hand, block 1 first. -/
  cipher : List (Option Block)
  /-- The key slot a KEY_CONFIRM confirms. -/
  confirms : Option (Fin 32)
  /-- The fault entries a FAULT_NOTICE carries. -/
  carried : List Carried
  /-- The lost total a FAULT_NOTICE carries. -/
  lost : Nat
  deriving DecidableEq, Repr

/-- The holdoff timer (R167). -/
inductive Holdoff where
  | stopped
  | running (left : Nat)
  | ranOut
  deriving DecidableEq, Repr

/-- The Notice Engine. -/
structure NoticeEngine where
  /-- The protocol notice list, in order of arrival. -/
  list : List ProtoEntry
  /-- The composition in flight; the Engine is idle without one. -/
  comp : Option Composition
  /-- The holdoff timer. -/
  holdoff : Holdoff
  /-- The holdoff setting in seconds. -/
  holdoffSecs : Nat
  /-- The reporting channel. -/
  reporting : Fin 16
  /-- The blocked flag (R171). -/
  blocked : Bool
  deriving DecidableEq, Repr

/-! ## Control Unit and Time Base (chapter 11) -/

/-- The command states (R173). -/
inductive CmdState where
  | idle | fetching | executing | completing | halted
  deriving DecidableEq, Repr

/-- What a report record tells, by kind (2.7). -/
inductive ReportBody where
  | commandDone (tag code status : Byte)
  | fault (e : FaultEntry)
  /-- promoted or installed, the generation, the key slot and the offer serial. -/
  | keyEvent (promoted : Bool) (gen : Byte) (key : Fin 32) (serial : BitVec 32)
  | noticeReady (kind gen : Byte) (seq : BitVec 32) (len : Nat)
  | snapshot (e : FaultEntry)
  deriving DecidableEq, Repr

/-- A report record (2.7); its channel byte as it will be written. -/
structure Report where
  body : ReportBody
  channel : Byte
  window : Option (Fin 16)
  slot : Option Nat
  time : Time
  deriving DecidableEq, Repr

/-- The Control Unit (R173). -/
structure ControlUnit where
  /-- The command producer copy. -/
  producer : Nat
  /-- The command consumer index. -/
  consumer : Nat
  /-- The command state. -/
  state : CmdState
  /-- The command record that is being executed, as fetched. -/
  record : List Byte
  /-- The last status: command code, tag and status code. -/
  lastCode : Byte
  lastTag : Byte
  lastStatus : Byte
  /-- The report ring size. -/
  ringSize : Nat
  /-- The report producer index. -/
  ringProducer : Nat
  /-- The report consumer copy. -/
  ringConsumer : Nat
  /-- The report queue, oldest first. -/
  queue : List Report
  /-- The lost-report count. -/
  lost : Nat
  /-- The value the last requested lost-report count write carried (R180). -/
  lostWritten : Nat
  /-- The interrupt: IRQN driven low. -/
  irq : Bool
  /-- A COMMAND_DONE record that waits in COMPLETING for a place (R176). -/
  doneWaiting : Option Report
  /-- The image entries of a snapshot still to be handed on, while one is under way (R178). -/
  snapshot : Option (List FaultEntry)
  /-- A SET_WINDOW waits for transit table entries, and the upstream port is held (R3). -/
  windowWait : Bool
  deriving DecidableEq, Repr

/-- The Time Base (R182). -/
structure TimeBase where
  /-- The millisecond count. -/
  ms : Time
  /-- Milliseconds within the present second. -/
  subMs : Nat
  /-- Seconds within the present minute. -/
  subSec : Nat
  /-- 250-microsecond intervals within the present millisecond. -/
  quarter : Nat
  /-- Millisecond expiries whose meter refill has not been taken yet. -/
  refillsDue : Nat
  /-- Minute expiries whose lifetime countdown has not been taken yet. -/
  minutesDue : Nat
  deriving DecidableEq, Repr

/-- The reset that holds the part: none, power-on reset while PORSTN is asserted, or warm reset while WRSTN alone is. -/
inductive ResetLine where
  | released | powerOn | warm
  deriving DecidableEq, Repr

/-! ## The machine -/

/-- The state of the part and the queue of commands that wait for it. -/
structure State where
  /-- The commands that wait, first in, first out. -/
  pending : List Instr
  /-- The reset that holds the part (R21). -/
  line : ResetLine
  /-- Set while WRSTN is asserted beside PORSTN; read under power-on reset alone (R21). (DEDUCED,
  notes/assumptions/11.md.) -/
  wrstnToo : Bool
  /-- The strap value sampled at the last power-on reset: address bits 39 to 12 of the control page base. -/
  straps : BitVec 28
  /-- The one-time fuses. -/
  fuses : Fuses
  /-- The window table. -/
  windows : Vector (Option Window) 16
  /-- The initiator class table. -/
  classes : Vector InitClass 16
  /-- The assigned slot records with their numbers, rising; a record not listed is unassigned. -/
  pool : List (Nat × SlotRec)
  /-- The Bus Transit Unit's queues. -/
  bus : Bus
  /-- The Keystream Unit. -/
  ks : Keystream
  /-- The merge queue, in age order. -/
  merges : List MergeEntry
  /-- The Channel Table. -/
  channels : Vector Channel 16
  /-- Meter A. -/
  meterA : Meter
  /-- Meter B. -/
  meterB : Meter
  /-- The Key Store. -/
  keys : KeyStore
  /-- The Fault Unit. -/
  faults : FaultUnit
  /-- The Notice Engine. -/
  notices : NoticeEngine
  /-- The Control Unit. -/
  ctl : ControlUnit
  /-- The Time Base. -/
  time : TimeBase
  /-- MODEL's own: the next stamp; ages and openings are stamps. -/
  stamp : Nat
  /-- MODEL's own: the counter that free values are read at. -/
  free : Nat
  deriving DecidableEq, Repr

/-! ## Reset values -/

/-- The control page window of entry 0 (R2). -/
def Window.controlPage (straps : BitVec 28) : Window where
  role := .controlPage
  base := straps ++ (0 : BitVec 12)
  count := 0
  channel := none
  first := none

/-- The window table after either reset: entry 0 alone (R2). -/
def resetWindows (straps : BitVec 28) : Vector (Option Window) 16 :=
  (Vector.replicate 16 none).set 0 (some (Window.controlPage straps))

/-- The initiator class table after either reset (R8). -/
def resetClasses : Vector InitClass 16 := (Vector.replicate 16 .line).set 0 .clear

/-- The bus after either reset (R21); what has left the ports is kept. -/
def Bus.cleared (up : List UpResponse) (down : List DownIssue) : Bus where
  transit := []
  inj := []
  injWaiting := []
  injAsked := []
  passover := 0
  timeout := 16
  up := up
  down := down

/-- The Keystream Unit after either reset (R43, R45, R48, R49). -/
def Keystream.cleared : Keystream where
  cache := Vector.replicate 16 none
  pointer := 0
  misses := []
  overflow := []
  background := []
  cipher := none
  mulQueue := []
  mulBusy := none
  rootSubkey := none

/-- A channel record after a reset that leaves this offer high mark (R97, R134). -/
def Channel.cleared (highMark : Nat) : Channel where
  state := .disabled
  link := .a
  priority := 0
  threshold := 0
  rejects := 0
  softOverride := none
  cutoverSecs := 10
  graceSecs := 60
  prev := none
  cur := none
  next := none
  renewal := .idle
  hold := none
  loading := none
  installBuf := none
  installing := none
  highMark := highMark
  cutover := .stopped
  cutoverKey := none
  grace := .stopped
  rulingQueue := []
  ruling := none

/-- A meter after either reset (R105). -/
def Meter.cleared : Meter where
  metered := false
  cir := 0
  cbs := 2048
  ebs := 2048
  yellow := 4
  red := 7
  c := 2048
  e := 2048
  overdraw := 0

/-- The Key Store after either reset: every slot FREE, the free list in number order (R114, R117). -/
def KeyStore.cleared : KeyStore where
  slots := Vector.replicate 32 KeySlot.zeroised
  freeList := List.finRange 32

/-- The mask of all three severities. -/
def SevMask.all : SevMask := ⟨true, true, true⟩
/-- The empty mask. -/
def SevMask.empty : SevMask := ⟨false, false, false⟩

/-- The Fault Unit after power-on reset (R150, R155). -/
def FaultUnit.cleared : FaultUnit where
  table := Vector.replicate 32 none
  lost := 0
  localMask := .all
  noticeMask := .empty
  guardOnFatal := true
  updates := 0

/-- The Notice Engine after either reset (R164, R167, R171). -/
def NoticeEngine.cleared : NoticeEngine where
  list := []
  comp := none
  holdoff := .stopped
  holdoffSecs := 0
  reporting := 0
  blocked := false

/-- The Control Unit after either reset (R173). -/
def ControlUnit.cleared : ControlUnit where
  producer := 0
  consumer := 0
  state := .idle
  record := []
  lastCode := 0
  lastTag := 0
  lastStatus := 0
  ringSize := 0
  ringProducer := 0
  ringConsumer := 0
  queue := []
  lost := 0
  lostWritten := 0
  irq := false
  doneWaiting := none
  snapshot := none
  windowWait := false

/-- The Time Base while PORSTN is asserted (R182). -/
def TimeBase.zero : TimeBase where
  ms := 0
  subMs := 0
  subSec := 0
  quarter := 0
  refillsDue := 0
  minutesDue := 0

/-- The machine right after power-on reset, PORSTN still asserted: every field at the value the spec gives it. The
straps, the fuses and WRSTN, which come from outside, read as zero, BLANK and not asserted (DESIGN CHOICE, notes/assumptions/1.md);
LEAVE_POWER_ON_RESET is the first command that has an effect. -/
def State.reset : State where
  pending := []
  line := .powerOn
  wrstnToo := false
  straps := 0
  fuses := ⟨false, 0, 0⟩
  windows := resetWindows 0
  classes := resetClasses
  pool := []
  bus := Bus.cleared [] []
  ks := Keystream.cleared
  merges := []
  channels := Vector.replicate 16 (Channel.cleared 0)
  meterA := Meter.cleared
  meterB := Meter.cleared
  keys := KeyStore.cleared
  faults := FaultUnit.cleared
  notices := NoticeEngine.cleared
  ctl := ControlUnit.cleared
  time := TimeBase.zero
  stamp := 0
  free := 0

/-! ## Why a step can stop -/

/-- The faults of a step. -/
inductive Fault where
  /-- Raised by a command that carries a transaction which is no burst of 1 to 16 beats inside the 40-bit address
  space: the bus cannot carry it, and the spec gives it no effect. Safe: the model stops where the hardware has no
  such event. -/
  | notABurst
  /-- Raised by a command that returns read data whose length is not that of the entry it answers: no bus response
  has that form. Safe for the same reason. -/
  | wrongBeatCount
  deriving DecidableEq, Repr

/-- The refusals of a step. -/
inductive Refusal where
  /-- Raised by exec for a command that has no meaning yet; safe. No arm of this model raises it. -/
  | notModelled (mnemonic : String)
  deriving DecidableEq, Repr

end Sys2Proof.Machine
end

