-- ==== Sys2Proof/Machine/Bytes.lean ====
section
/-!
DEFINITION. Bytes, big-endian numbers and blocks, and the codes of chapter 2: state bytes, reason codes, kinds,
class codes, severity codes, status codes, and the frame header (00_scope.md, Conventions; 02, 2.1 to 2.7).
-/

namespace Sys2Proof.Machine

/-! ## Big-endian numbers -/

/-- The n bytes of a number, most significant first (00_scope.md, Byte order). -/
def beBytes : Nat → Nat → List Byte
  | 0, _ => []
  | n + 1, v => BitVec.ofNat 8 (v / 256 ^ n) :: beBytes n v

/-- The number that bytes spell, most significant first. -/
def beNat (l : List Byte) : Nat := l.foldl (fun acc b => acc * 256 + b.toNat) 0

/-- The sixteen bytes of a block (R34). -/
def blockBytes (b : Block) : List Byte := beBytes 16 b.toNat

/-- The block that bytes spell (R34). -/
def blockOf (l : List Byte) : Block := BitVec.ofNat 128 (beNat l)

/-- The bytes of a beat of keystream: the first half of a block, or the second (R29). -/
def halfOf (b : Block) (second : Bool) : BitVec 64 :=
  if second then b.extractLsb' 0 64 else b.extractLsb' 64 64

/-- The eight bytes of a beat. -/
def beatBytes (b : BitVec 64) : List Byte := beBytes 8 b.toNat

/-- Bytes cut into runs of sixteen and read as blocks; a short last run is not read. -/
def blocksOf : List Byte → List Block
  | b0 :: b1 :: b2 :: b3 :: b4 :: b5 :: b6 :: b7 :: b8 :: b9 :: b10 :: b11 :: b12 :: b13 :: b14 :: b15 :: rest =>
    blockOf [b0, b1, b2, b3, b4, b5, b6, b7, b8, b9, b10, b11, b12, b13, b14, b15] :: blocksOf rest
  | _ => []

/-- A block with bytes t to 15 replaced by zero: the padded last block of R35. -/
def padBlock (t : Nat) (b : Block) : Block :=
  blockOf ((blockBytes b).take t ++ List.replicate (16 - t) 0)

/-- A block with bytes 0 to t − 1 replaced by zero: the correction of R40 for a whole-folded block. -/
def tailBlock (t : Nat) (b : Block) : Block :=
  blockOf (List.replicate t 0 ++ (blockBytes b).drop t)

/-- A write of these bytes with every strobe set. -/
def strobeAll (l : List Byte) : List (Option Byte) := l.map some

/-! ## Codes of chapter 2 -/

/-- The mirror of a slot record's state in header byte 14 (2.2, R50, R73, R162). -/
def SlotState.mirror : SlotState → Byte
  | .free | .filling | .arriving | .composing => 0
  | .tagging => 2
  | .tagged => 3
  | .failed => 4
  | .checking => 6
  | .passed => 7
  | .rejected => 8

/-- The reason codes (2.2). -/
def Reason.code : Reason → Byte
  | .none => 0
  | .channelDown => 1
  | .noKey => 2
  | .keySpent => 3
  | .metered => 4
  | .badKind => 5
  | .badLength => 6
  | .disturbed => 7
  | .memory => 8
  | .tag => 9
  | .replayed => 10
  | .malformed => 11
  | .channelGuarded => 12
  | .timeout => 13

/-- The frame kinds (2.2). -/
def kindData : Byte := 0x01
def kindOffer : Byte := 0x02
def kindConfirm : Byte := 0x03
def kindRenew : Byte := 0x04
def kindFaultNotice : Byte := 0x05

/-- The class codes (2.4). -/
def FaultClass.code : FaultClass → Byte
  | .tagMismatch => 1
  | .replayed => 2
  | .malformed => 3
  | .overrun => 4
  | .gatedRead => 5
  | .mergeEviction => 6
  | .metered => 7
  | .offerDisplaced => 8
  | .restart => 9
  | .noKey => 10
  | .conflict => 11
  | .disturbed => 12
  | .keySpent => 13
  | .keySequence => 14
  | .keyStoreFull => 15
  | .noticeBlocked => 16
  | .blockedInitiator => 17
  | .busProtocol => 18
  | .memoryError => 19
  | .integrityStorm => 20
  | .downstreamTimeout => 21
  | .rootBlank => 22

/-- The severity codes (2.4), which also order the severities. -/
def Severity.code : Severity → Nat
  | .correctable => 1
  | .degraded => 2
  | .fatal => 3

/-- The severity of a class (R149); MEMORY_ERROR's occurrences carry their own. -/
def FaultClass.severity : FaultClass → Severity
  | .tagMismatch | .replayed | .malformed | .overrun | .gatedRead | .mergeEviction | .metered | .offerDisplaced
  | .restart => .correctable
  | .noKey | .conflict | .disturbed | .keySpent | .keySequence | .keyStoreFull | .noticeBlocked | .blockedInitiator
  | .busProtocol | .memoryError => .degraded
  | .integrityStorm | .downstreamTimeout | .rootBlank => .fatal

/-- The device-scoped classes (R149). -/
def FaultClass.deviceScoped : FaultClass → Bool
  | .restart | .blockedInitiator | .busProtocol | .memoryError | .downstreamTimeout | .rootBlank => true
  | .tagMismatch | .replayed | .malformed | .overrun | .gatedRead | .mergeEviction | .metered | .offerDisplaced
  | .noKey | .conflict | .disturbed | .keySpent | .keySequence | .keyStoreFull | .noticeBlocked
  | .integrityStorm => false

/-- Whether a mask holds a severity (R155). -/
def SevMask.has (m : SevMask) : Severity → Bool
  | .correctable => m.correctable
  | .degraded => m.degraded
  | .fatal => m.fatal

/-- The mask of an argument byte of SET_POLICY: bits 0, 1 and 2 (2.6). -/
def SevMask.ofByte (b : Byte) : SevMask := ⟨b.getLsbD 0, b.getLsbD 1, b.getLsbD 2⟩

/-- The codes of a notice state in a SNAPSHOT record (2.7). -/
def NoticeState.code : NoticeState → Byte
  | .none => 0
  | .pending => 1
  | .composing => 2
  | .sent => 3

/-- The codes of a RENEW_REQUEST's reason (2.4). -/
def RenewReason.code : RenewReason → Byte
  | .softFrames => 1
  | .softBytes => 2
  | .softLifetime => 3
  | .spent => 4
  | .requested => 5

/-- The status of a completed command (2.5). -/
def statusOk : Byte := 0
def statusBadArgument : Byte := 1
def statusOverlap : Byte := 2
def statusNoRecords : Byte := 3
def statusBusy : Byte := 4
def statusNoKey : Byte := 5
def statusUnknown : Byte := 6

/-- A channel as a byte, 0xFF where there is none (R28). -/
def chanByte : Option (Fin 16) → Byte
  | some c => BitVec.ofNat 8 c.val
  | none => 0xFF

/-- A window index as a byte, 0xFF where there is none (R28). -/
def windowByte : Option (Fin 16) → Byte := chanByte

/-- A slot index as two bytes, 0xFFFF where there is none (R28). -/
def slotBytesOf : Option Nat → List Byte
  | some n => beBytes 2 n
  | none => [0xFF, 0xFF]

/-! ## The frame header and the two header writes (R24) -/

/-- The sixteen header bytes of a frame write: format 0x31, state TAGGED, reason NONE (R24). -/
def frameHeader (kind chan gen : Byte) (seq shop : BitVec 32) (len : Nat) : List Byte :=
  [0x31, kind, chan, gen] ++ beBytes 4 seq.toNat ++ beBytes 4 shop.toNat ++ beBytes 2 len ++
    [SlotState.tagged.mirror, Reason.none.code]

/-- The counter block of 3.2. The length block of R35 has the same bytes 0 to 11, and the length where the block
number stands. -/
def counterBlock (kind chan gen dir : Byte) (seq shop : BitVec 32) (number : Nat) : Block :=
  kind ++ chan ++ gen ++ dir ++ seq ++ shop ++ (0 : BitVec 16) ++ BitVec.ofNat 16 number

/-- The direction byte of a counter block: shop to office, or office to shop (3.2). -/
def dirOut : Byte := 0x0F
def dirIn : Byte := 0xF0

/-- The block count n of a payload length (R30). -/
def blockCount (len : Nat) : Nat := (len + 15) / 16

/-- The tail t of a payload length (R30). -/
def tailOf (len : Nat) : Nat := len % 16

/-! ## Report records (2.7, R28) -/

/-- The twenty detail bytes from byte 12 on. -/
def ReportBody.detail : ReportBody → List Byte
  | .commandDone _ code status => [code, status] ++ List.replicate 18 0
  | .fault e => [chanByte e.initiator, 0, 0, 0] ++ beBytes 4 e.count ++ List.replicate 12 0
  | .keyEvent _ gen key serial => [gen, BitVec.ofNat 8 key.val, 0, 0] ++ beBytes 4 serial.toNat ++ List.replicate 12 0
  | .noticeReady _ gen seq len => [gen, 0, 0, 0] ++ beBytes 4 seq.toNat ++ beBytes 2 len ++ List.replicate 10 0
  | .snapshot e => [chanByte e.initiator, e.notice.code, 0, 0] ++ beBytes 4 e.count ++ beBytes 4 e.lastCount ++
      beBytes 4 e.firstTime.toNat ++ beBytes 4 e.lastTime.toNat

/-- The kind byte of a record. -/
def ReportBody.kind : ReportBody → Byte
  | .commandDone .. => 1
  | .fault _ => 2
  | .keyEvent .. => 3
  | .noticeReady .. => 4
  | .snapshot _ => 5

/-- Byte 1 of a record. -/
def ReportBody.second : ReportBody → Byte
  | .commandDone tag _ _ => tag
  | .fault e | .snapshot e => e.cls.code
  | .keyEvent promoted .. => if promoted then 2 else 1
  | .noticeReady kind .. => kind

/-- Byte 6 of a record. -/
def ReportBody.severityByte : ReportBody → Byte
  | .fault e | .snapshot e => BitVec.ofNat 8 e.severity.code
  | .commandDone .. | .keyEvent .. | .noticeReady .. => 0

/-- The 32 bytes of a report record. -/
def Report.bytes (r : Report) : List Byte :=
  [r.body.kind, r.body.second, r.channel, windowByte r.window] ++ slotBytesOf r.slot ++
    [r.body.severityByte, 0] ++ beBytes 4 r.time.toNat ++ r.body.detail

end Sys2Proof.Machine
end

