-- ==== Sys2Proof/Machine/Aes.lean ====
section
/-!
DEFINITION. The one primitive the manual takes as given: E(K, X), AES encryption of one 16-byte block under a 256-bit
key (03, opening). The spec names the cipher and does not reproduce it; the text here follows FIPS 197 (PRESUMED,
notes/assumptions/4.md). Bytes are numbers below 256 and the cipher's state is the list of its sixteen bytes in input order.
-/

namespace Sys2Proof.Machine.Aes

/-- The substitution box, its entry for 0 in the least significant byte. -/
def sboxNumber : Nat :=
  0x16bb54b00f2d99416842e6bf0d89a18cdf2855cee9871e9b948ed9691198f8e19e1dc186b95735610ef6034866b53e708a8bbd4b1f74dde8c6b4a61c2e2578ba08ae7a65eaf4566ca94ed58d6d37c8e779e4959162acd3c25c2406490a3a32e0db0b5ede14b8ee4688902a22dc4f816073195d643d7ea7c41744975fec130ccdd2f3ff1021dab6bcf5389d928f40a351a89f3c507f02f94585334d43fbaaefd0cf584c4a39becb6a5bb1fc20ed00d153842fe329b3d63b52a05a6e1b1a2c830975b227ebe28012079a059618c323c7041531d871f1e5a534ccf73f362693fdb7c072a49cafa2d4adf04759fa7dc982ca76abd7fe2b670130c56f6bf27b777c63

/-- The substitution of one byte. -/
def sub (x : Nat) : Nat := (sboxNumber >>> (8 * x)) % 256

/-- Multiplication by x in the cipher's field. -/
def xtime (x : Nat) : Nat := if x < 128 then 2 * x else (2 * x) % 256 ^^^ 0x1B

/-- One column of the column mixing. -/
def mixColumn : List Nat → List Nat
  | [a, b, c, d] =>
    let all := a ^^^ b ^^^ c ^^^ d
    [a ^^^ all ^^^ xtime (a ^^^ b), b ^^^ all ^^^ xtime (b ^^^ c), c ^^^ all ^^^ xtime (c ^^^ d),
      d ^^^ all ^^^ xtime (d ^^^ a)]
  | l => l

/-- The column mixing of a whole state. -/
def mixColumns (s : List Nat) : List Nat :=
  mixColumn (s.take 4) ++ mixColumn ((s.drop 4).take 4) ++ mixColumn ((s.drop 8).take 4) ++ mixColumn (s.drop 12)

/-- The substitution and the row shift of a whole state: row r turns by r columns. -/
def subShift (s : List Nat) : List Nat :=
  [0, 5, 10, 15, 4, 9, 14, 3, 8, 13, 2, 7, 12, 1, 6, 11].map fun i => sub (s.getD i 0)

/-- The exclusive-or of two byte lists. -/
def xorBytes (a b : List Nat) : List Nat := List.zipWith (· ^^^ ·) a b

/-- The next eight words of the key schedule, as 32 bytes, from the last eight and the round constant. -/
def nextKeys (k : List Nat) (rcon : Nat) : List Nat :=
  let w (i : Nat) := (k.drop (4 * i)).take 4
  let turned := match w 7 with
    | [a, b, c, d] => [sub b ^^^ rcon, sub c, sub d, sub a]
    | l => l
  let w0 := xorBytes (w 0) turned
  let w1 := xorBytes (w 1) w0
  let w2 := xorBytes (w 2) w1
  let w3 := xorBytes (w 3) w2
  let w4 := xorBytes (w 4) (w3.map sub)
  let w5 := xorBytes (w 5) w4
  let w6 := xorBytes (w 6) w5
  let w7 := xorBytes (w 7) w6
  w0 ++ w1 ++ w2 ++ w3 ++ w4 ++ w5 ++ w6 ++ w7

/-- Two rounds at a time, each but the last of the cipher with the column mixing: n more pairs, then the last two
round keys. k holds two round keys, the first of them already added to the state. -/
def rounds : Nat → Nat → List Nat → List Nat → List Nat
  | 0, rcon, k, s =>
    let s := xorBytes (mixColumns (subShift s)) (k.drop 16)
    xorBytes (subShift s) ((nextKeys k rcon).take 16)
  | n + 1, rcon, k, s =>
    let s := xorBytes (mixColumns (subShift s)) (k.drop 16)
    let k' := nextKeys k rcon
    rounds n (xtime rcon) k' (xorBytes (mixColumns (subShift s)) (k'.take 16))

/-- The cipher on bytes: fourteen rounds. -/
def encryptBytes (key input : List Nat) : List Nat :=
  rounds 6 1 key (xorBytes input (key.take 16))

end Sys2Proof.Machine.Aes

namespace Sys2Proof.Machine

/-- E(K, X) (03, opening): AES with a 256-bit key on one block. -/
def cipherBlock (key : KeyBits) (x : Block) : Block :=
  blockOf ((Aes.encryptBytes ((beBytes 32 key.toNat).map BitVec.toNat)
    ((blockBytes x).map BitVec.toNat)).map (BitVec.ofNat 8))

end Sys2Proof.Machine
end

