-- ==== Sys2Proof/Machine/Field.lean ====
section
/-!
DEFINITION. The field of 2^128 elements in which the tag is summed (R34).
-/

namespace Sys2Proof.Machine

/-- Multiplication by x, reduced modulo x^128 + x^7 + x^2 + x + 1 (R34). -/
def fieldDouble (a : Block) : Block := if a.msb then (a <<< 1) ^^^ 0x87 else a <<< 1

/-- The product of x with the n highest coefficients of y, read as a polynomial of degree below n. -/
def fieldMulHigh (x y : Block) : Nat → Block
  | 0 => 0
  | n + 1 => fieldDouble (fieldMulHigh x y n) ^^^ (if y.getMsbD n then x else 0)

/-- The product X·Y (R34). -/
def fieldMul (x y : Block) : Block := fieldMulHigh x y 128

/-- H^e: H^1 is H and H^(e+1) is H^e·H (R34); H^0 is the block of the number 1. -/
def fieldPow (h : Block) : Nat → Block
  | 0 => 1
  | e + 1 => fieldMul (fieldPow h e) h

end Sys2Proof.Machine
end

