-- ==== Sys2Proof/Machine/Operands.lean ====
section
/-!
DEFINITION. Where a transaction lies and where it goes: windows and their runs (R1), lines, position arithmetic
(R29), the strobes of a write, the classification of R9 and the dispatch of R10. Also the access to the tables of
the state that the operands of a command index.
-/

namespace Sys2Proof.Machine

/-! ## Tables -/

/-- A slot record by its number; none for an unassigned one. -/
def State.slotRec (s : State) (n : Nat) : Option SlotRec := s.pool.lookup n

/-- The state of a slot record by its number. -/
def State.recState (s : State) (n : Nat) : Option SlotState :=
  match s.slotRec n with
  | some r => some r.state
  | none => none

/-- The stage of a slot record's finish, when one is in flight. -/
def SlotRec.stage (r : SlotRec) : Option FinishStage :=
  match r.finish with
  | some f => some f.stage
  | none => none

/-- A slot record changed in place. -/
def State.setRec (s : State) (n : Nat) (f : SlotRec → SlotRec) : State :=
  { s with pool := s.pool.map fun p => if p.1 == n then (p.1, f p.2) else p }

/-- A channel record. -/
def State.chan (s : State) (c : Fin 16) : Channel := s.channels[c]

/-- A channel record changed in place. -/
def State.setChan (s : State) (c : Fin 16) (f : Channel → Channel) : State :=
  { s with channels := s.channels.set c (f s.channels[c]) }

/-- A key slot. -/
def State.key (s : State) (k : Fin 32) : KeySlot := s.keys.slots[k]

/-- A key slot changed in place. -/
def State.setKey (s : State) (k : Fin 32) (f : KeySlot → KeySlot) : State :=
  { s with keys := { s.keys with slots := s.keys.slots.set k (f s.keys.slots[k]) } }

/-- The role of a key slot on its owning channel (R97, R114). (DESIGN CHOICE, notes/assumptions/23.md.) -/
def State.keyRole (s : State) (k : Fin 32) : Option KeyRole :=
  match (s.key k).owner with
  | none => none
  | some c =>
    if (s.chan c).cur = some k then some .current
    else if (s.chan c).next = some k then some .next
    else if (s.chan c).prev = some k then some .previous
    else none

/-- The meter of a link (R104). -/
def State.meter (s : State) : Link → Meter
  | .a => s.meterA
  | .b => s.meterB

/-- The meter of a link changed. -/
def State.setMeter (s : State) (l : Link) (f : Meter → Meter) : State :=
  match l with
  | .a => { s with meterA := f s.meterA }
  | .b => { s with meterB := f s.meterB }

/-- The shop identity of headers and counter blocks; zero with fuses BLANK (R25, R31). -/
def State.shop (s : State) : BitVec 32 := if s.fuses.programmed then s.fuses.shopId else 0

/-! ## Windows (R1) -/

/-- The length of a window's run in bytes (R1). -/
def Window.run (w : Window) : Nat :=
  match w.role with
  | .outbound | .inbound | .notice => w.count * Config.slotBytes
  | .report => w.count * 32
  | .controlPage => 4096

/-- Whether an address lies in a window (R1). -/
def Window.holds (w : Window) (a : Nat) : Bool := decide (w.base.toNat ≤ a) && decide (a < w.base.toNat + w.run)

/-- Whether a window's role has slots and slot records (R1). -/
def WinRole.hasSlots : WinRole → Bool
  | .outbound | .inbound | .notice => true
  | .report | .controlPage => false

/-- Whether window i is in use and holds the address. -/
def State.windowHolds (s : State) (a : Nat) (i : Fin 16) : Bool :=
  match s.windows[i] with
  | some w => w.holds a
  | none => false

/-- The window in use that an address lies in (R1); windows in use never overlap. -/
def State.windowAt (s : State) (a : Nat) : Option (Fin 16) := (List.finRange 16).find? (s.windowHolds a)

/-- The address of the first byte of the slot that a record serves (R1). -/
def State.slotBase (s : State) (r : SlotRec) : Nat :=
  match s.windows[r.window] with
  | some w => w.base.toNat + r.slot * Config.slotBytes
  | none => 0

/-- The address of the control page (R2). -/
def State.pageBase (s : State) : Nat := (s.straps ++ (0 : BitVec 12)).toNat

/-! ## Lines -/

/-- The line of an address. -/
def lineOf (a : Nat) : Nat := a / Config.lineBytes

/-- Whether two non-empty byte runs touch a common line (R13). -/
def shareLine (start1 size1 start2 size2 : Nat) : Bool :=
  decide (lineOf start1 ≤ lineOf (start2 + size2 - 1)) && decide (lineOf start2 ≤ lineOf (start1 + size1 - 1))

/-! ## The bytes of a write by their place in a slot (R29) -/

/-- The byte a write strobes at slot offset k, when its span starts at slot offset off. -/
def strobedAt (bytes : List (Option Byte)) (off k : Nat) : Option Byte :=
  if off ≤ k then (bytes[k - off]?).join else none

/-- Whether a write strobes a byte at a slot offset from lo to hi − 1. -/
def strobesIn (bytes : List (Option Byte)) (off lo hi : Nat) : Bool :=
  (List.range bytes.length).any fun i =>
    (bytes[i]?).join.isSome && decide (lo ≤ off + i) && decide (off + i < hi)

/-- Whether a write strobes every byte at slot offsets lo to hi − 1. -/
def strobesAll (bytes : List (Option Byte)) (off lo hi : Nat) : Bool :=
  (List.range (hi - lo)).all fun i => (strobedAt bytes off (lo + i)).isSome

/-- The bytes a write strobes at slot offsets lo to hi − 1, zero where the strobe is clear. -/
def strobedRun (bytes : List (Option Byte)) (off lo hi : Nat) : List Byte :=
  (List.range (hi - lo)).map fun i => (strobedAt bytes off (lo + i)).getD 0

/-- A write's bytes changed by their slot offset. -/
def mapOffsets (bytes : List (Option Byte)) (off : Nat) (f : Nat → Option Byte → Option Byte) : List (Option Byte) :=
  bytes.zipIdx.map fun p => f (off + p.2) p.1

/-- The slot offset of the first byte of payload block b (R29). -/
def blockOffset (b : Nat) : Nat := 32 + 16 * (b - 1)

/-- The payload block of a slot offset at or above 32 (R29). -/
def blockAt (k : Nat) : Nat := (k - 32) / 16 + 1

/-- The sixteen entries of payload block b in a write. -/
def blockBytesIn (bytes : List (Option Byte)) (off b : Nat) : List (Option Byte) :=
  (List.range 16).map fun j => strobedAt bytes off (blockOffset b + j)

/-- The payload blocks of which a write strobes a byte, in order. -/
def blocksStrobed (bytes : List (Option Byte)) (off : Nat) : List Nat :=
  (List.range 127).filter fun b => decide (1 ≤ b) && (blockBytesIn bytes off b).any Option.isSome

/-- The block that sixteen strobed bytes make; zero where a byte is absent. -/
def blockOfStrobed (l : List (Option Byte)) : Block := blockOf (l.map fun b => b.getD 0)

/-! ## Classification (R9, R10) -/

/-- The side of a transaction. -/
def State.classOf (s : State) (t : Transaction) : InitClass := s.classes[t.initiator]

/-- The window that a span touches: the one of its first byte in a window. A span touches at most two lines and
windows are runs of whole lines, so its first and last bytes tell (R1, R9). -/
def State.touched (s : State) (t : Transaction) : Option (Fin 16) :=
  match s.windowAt t.start with
  | some i => some i
  | none => s.windowAt t.last

/-- The first address of a span that lies in the window it touches. -/
def State.touchedAddr (s : State) (t : Transaction) (i : Fin 16) : Nat :=
  match s.windows[i] with
  | some w => max t.start w.base.toNat
  | none => t.start

/-- A window, slot and slot record of an address, and its offset in the slot, or in the window without slots (R29). -/
structure Place where
  /-- The window's index. -/
  window : Fin 16
  /-- Its role. -/
  role : WinRole
  /-- The slot index. -/
  slot : Option Nat
  /-- The slot record's number. -/
  recNo : Option Nat
  /-- The offset. -/
  off : Nat
  deriving DecidableEq, Repr

/-- The place of an address that lies in window i (R29). -/
def State.placeIn (s : State) (a : Nat) (i : Fin 16) : Option Place :=
  match s.windows[i] with
  | none => none
  | some w =>
    let d := a - w.base.toNat
    if w.role.hasSlots then
      some ⟨i, w.role, some (d / Config.slotBytes), w.first.map (· + d / Config.slotBytes), d % Config.slotBytes⟩
    else some ⟨i, w.role, none, none, d⟩

/-- The place a transaction concerns: that of the first byte of its span that lies in a window. -/
def State.placeOf (s : State) (t : Transaction) : Option Place :=
  match s.touched t with
  | some i => s.placeIn (s.touchedAddr t i) i
  | none => none

/-- Where the classification of R9 and the table of R10 send a transaction. -/
inductive Route where
  /-- Outside every window: passed unchanged (R9 step 1). -/
  | untouched
  /-- Touches a window and more than one line (R9 step 2). -/
  | busProtocol
  /-- From a BLOCKED initiator (R9 step 3). -/
  | blocked
  /-- Passed downstream unchanged (R10). -/
  | raw
  /-- Refused CONFLICT with no frame unit to tell (R10). -/
  | conflict
  | outboundClearWrite | outboundClearRead | outboundLineWrite
  | inboundLineWrite | inboundClearHeader | inboundClearPayload | inboundClearRead
  | noticeClearHeader
  /-- A CLEAR write to the control page: forwarded unchanged and watched (R10). -/
  | pageWrite
  deriving DecidableEq, Repr

/-- The dispatch table of R10 for a transaction inside one line of a window, by role, side and strobes. -/
def dispatchRoute (role : WinRole) (clear : Bool) (off : Nat) : Access → Route
  | .read _ =>
    match role, clear with
    | .outbound, true => .outboundClearRead
    | .inbound, true => .inboundClearRead
    | _, _ => .raw
  | .write bytes =>
    match role, clear with
    | .outbound, true => .outboundClearWrite
    | .outbound, false => .outboundLineWrite
    | .inbound, true => if strobesIn bytes off 16 Config.slotBytes then .inboundClearPayload else .inboundClearHeader
    | .inbound, false => .inboundLineWrite
    | .notice, true => if strobesIn bytes off 16 Config.slotBytes then .conflict else .noticeClearHeader
    | .controlPage, true => .pageWrite
    | .notice, false | .report, _ | .controlPage, false => .conflict

/-- The classification of R9, in its order, and the dispatch of R10. -/
def State.routeOf (s : State) (t : Transaction) : Route :=
  match s.placeOf t with
  | none => .untouched
  | some p =>
    if lineOf t.start ≠ lineOf t.last then .busProtocol
    else
      match s.classOf t with
      | .blocked => .blocked
      | .clear => dispatchRoute p.role true p.off t.access
      | .line => dispatchRoute p.role false p.off t.access

/-- Whether the upstream port accepts a transaction at all: no reset line asserted (R21), a transit table entry free
(R12), and no SET_WINDOW waiting (R3). -/
def State.accepting (s : State) : Bool :=
  decide (s.line = .released) && decide (s.bus.transit.length < Config.transitSize) && !s.ctl.windowWait

end Sys2Proof.Machine
end

