-- ==== Sys2Proof/Machine/Flags.lean ====
section
/-!
DEFINITION. What the part judges from its state without changing it: readiness of queue entries (R12, R13, R16), the
colour of a meter (R108, R109, R111), the marks of a budget (R124), the replay window (R77, R85), key readiness
(R117), report ring liveness and the interrupt (R173, R181), the eligibility of fault entries (R167).
-/

namespace Sys2Proof.Machine

/-! ## READY (R12, R13, R16) -/

/-- Whether an entry's handling unit has released it: no beat of a write still waits for keystream (R12, R51). -/
def TransitEntry.released (e : TransitEntry) : Bool :=
  match e.access with
  | .read _ => true
  | .write _ => !e.beatKeys.contains .waiting

/-- Whether an older entry of either collection touches a line of the run (R13). -/
def Bus.olderOn (b : Bus) (id start size : Nat) : Bool :=
  b.transit.any (fun f => decide (f.id < id) && shareLine start size f.start f.access.size) ||
  b.inj.any (fun f => decide (f.id < id) && shareLine start size f.req.start f.req.access.size)

/-- Whether a transit table entry is READY (R12). -/
def Bus.transitReady (b : Bus) (e : TransitEntry) : Bool :=
  !e.issued && e.released && !b.olderOn e.id e.start e.access.size

/-- Whether an injection queue entry is READY (R16). -/
def Bus.injReady (b : Bus) (e : InjEntry) : Bool :=
  !e.issued && !b.olderOn e.id e.req.start e.req.access.size

/-- The oldest READY transit table entry. -/
def Bus.oldestTransit (b : Bus) : Option TransitEntry :=
  b.transit.find? fun e => b.transitReady e && b.transit.all fun f => !b.transitReady f || decide (e.id ≤ f.id)

/-- The oldest READY injection queue entry. -/
def Bus.oldestInj (b : Bus) : Option InjEntry :=
  b.inj.find? fun e => b.injReady e && b.inj.all fun f => !b.injReady f || decide (e.id ≤ f.id)

/-- A transit table entry by its age. -/
def Bus.entry (b : Bus) (id : Nat) : Option TransitEntry := b.transit.find? (·.id == id)

/-- An injection queue entry by its age. -/
def Bus.injEntry (b : Bus) (id : Nat) : Option InjEntry := b.inj.find? (·.id == id)

/-- Whether an injected transaction with this property is outstanding or waits for an entry. -/
def Bus.outstanding (b : Bus) (p : InjOp → Bool) : Bool :=
  b.inj.any (fun e => p e.req.op) || b.injWaiting.any (fun r => p r.op) || b.injAsked.any (fun r => p r.op)

/-! ## Meters (R108 to R111) -/

/-- The colours of a meter. -/
inductive Colour where
  | green | yellow | red
  deriving DecidableEq, Repr

/-- The colour of a meter: GREEN when UNMETERED (R111), else by its levels (R108). -/
def Meter.colour (m : Meter) : Colour :=
  if !m.metered then .green
  else if 2048 ≤ m.c then .green
  else if 2048 ≤ m.c + m.e then .yellow
  else .red

/-- Whether a meter admits a channel of this priority (R108). -/
def Meter.admits (m : Meter) (priority : Nat) : Bool :=
  match m.colour with
  | .green => true
  | .yellow => decide (m.yellow ≤ priority)
  | .red => decide (m.red ≤ priority)

/-- Whether a colour admits a fault entry of this severity to a notice (R109). -/
def Colour.admitsSeverity : Colour → Severity → Bool
  | .green, _ => true
  | .yellow, .correctable => false
  | .yellow, _ => true
  | .red, .fatal => true
  | .red, _ => false

/-- The credit of one refill spent on a meter (R107). -/
def Meter.refill (m : Meter) : Meter :=
  if !m.metered then m
  else
    let paid := min m.overdraw m.cir
    let intoC := min (m.cbs - m.c) (m.cir - paid)
    let intoE := min (m.ebs - m.e) (m.cir - paid - intoC)
    { m with overdraw := m.overdraw - paid, c := m.c + intoC, e := m.e + intoE }

/-- The debit of a tagged frame (R110); an UNMETERED meter takes none (R111). -/
def Meter.debit (m : Meter) (size : Nat) : Meter :=
  if !m.metered then m
  else
    let fromC := min m.c size
    let fromE := min m.e (size - fromC)
    { m with c := m.c - fromC, e := m.e - fromE,
             overdraw := min (m.overdraw + (size - fromC - fromE)) Config.top32 }

/-- Whether a debit of this size is red: a shortfall is left (R110). -/
def Meter.debitIsRed (m : Meter) (size : Nat) : Bool := m.metered && decide (m.c + m.e < size)

/-! ## Budgets (R124) -/

/-- Whether a frames, bytes, minutes or sequence spent mark is reached (R124). -/
def KeySlot.spentReached (k : KeySlot) : Bool :=
  decide (k.frameLimit ≤ k.frames) ||
  (match k.byteLimit with
    | some v => decide (v * 65536 ≤ k.bytes)
    | none => false) ||
  (k.lifetime.isSome && k.minutes == 0) ||
  decide (Config.sequenceEnd ≤ k.nextSeq)

/-- The first quantity, in the order frames, bytes, minutes, whose soft mark is reached at soft percent p (R124, R128). -/
def KeySlot.softReached (k : KeySlot) (p : Nat) : Option RenewReason :=
  if k.frameLimit * p / 100 ≤ k.frames then some .softFrames
  else
    match k.byteLimit.map fun v => decide (v * 65536 * p / 100 ≤ k.bytes) with
    | some true => some .softBytes
    | _ =>
      match k.lifetime.map fun l => decide (l * p / 100 ≤ l - k.minutes) with
      | some true => some .softLifetime
      | _ => none

/-- The effective soft percent of a key slot (R124). -/
def State.softPercent (s : State) (k : Fin 32) : Nat :=
  match (s.key k).owner.bind fun c => (s.chan c).softOverride with
  | some p => p
  | none => (s.key k).softPercent

/-- Whether a key slot's sequences are exhausted (R122). -/
def KeySlot.exhausted (k : KeySlot) : Bool := decide (Config.sequenceEnd ≤ k.nextSeq)

/-! ## The replay window (R77, R85) -/

/-- Whether a sequence is a passed position (R77). -/
def KeySlot.passedPosition (k : KeySlot) (n : Nat) : Bool := (decide (n = k.high) && decide (1 ≤ k.high)) || k.marks.contains n

/-- Whether a sequence is too old (R77). -/
def KeySlot.tooOld (k : KeySlot) (n : Nat) : Bool := decide (n + 64 ≤ k.high)

/-- The decision of R85: the window afterwards, or none for REPLAYED. -/
def KeySlot.replayDecision (k : KeySlot) (n : Nat) : Option KeySlot :=
  if k.high < n then
    let old := if 1 ≤ k.high then k.high :: k.marks else k.marks
    some { k with high := n, marks := old.filter fun m => decide (n ≤ m + 64) }
  else if k.high < n + 64 ∧ n ≠ k.high ∧ k.marks.contains n = false then
    some { k with marks := n :: k.marks }
  else none

/-! ## Keys ready for work (R49, R117) -/

/-- Whether the cipher engine and the multiplier may use a key: the root key once its subkey is computed, a key slot
once LOADED. -/
def State.keyReady (s : State) : KeyRef → Bool
  | .root => s.ks.rootSubkey.isSome
  | .slot k => decide ((s.key k).load = .loaded)

/-- Whether a background request may be granted: a subkey request always, an offer's plaintext under the root key
always, any other once its key slot is LOADED (R48, R117). (DEDUCED, notes/assumptions/23.md.) -/
def State.bgReady (s : State) (r : BgReq) : Bool :=
  match r.use, r.key with
  | .rootSubkey, _ => true
  | .hashSubkey, _ => true
  | _, .root => true
  | _, .slot k => decide ((s.key k).load = .loaded)

/-- The material a key reference stands for. -/
def State.materialOf (s : State) : KeyRef → KeyBits
  | .root => s.fuses.rootKey
  | .slot k => (s.key k).material

/-- The hash subkey a key reference stands for. -/
def State.subkeyOf (s : State) : KeyRef → Block
  | .root => s.ks.rootSubkey.getD 0
  | .slot k => (s.key k).subkey

/-- The products that an opening of a slot record is still owed by the multiplier (R37). -/
def Keystream.productsOwed (k : Keystream) (recNo opening : Nat) : Nat :=
  (k.mulQueue.filter fun r => r.recNo == recNo && r.opening == opening).length +
  (match k.mulBusy with
    | some (r, _) => if r.recNo == recNo && r.opening == opening then 1 else 0
    | none => 0)

/-! ## The report ring and the interrupt (R173, R181) -/

/-- The REPORT window in use, if there is one. -/
def State.reportWindow (s : State) : Option (Fin 16 × Window) :=
  (List.finRange 16).findSome? fun i =>
    match s.windows[i] with
    | some w => if w.role = .report then some (i, w) else none
    | none => none

/-- Whether the report ring is live (R173). -/
def State.ringLive (s : State) : Bool :=
  decide (0 < s.ctl.ringSize) &&
  (match s.reportWindow with
    | some (_, w) => decide (w.count = s.ctl.ringSize)
    | none => false)

/-- What the interrupt is judged to (R181). -/
def State.irqWanted (s : State) : Bool := s.ringLive && decide (s.ctl.ringProducer ≠ s.ctl.ringConsumer)

/-- Whether command records are pending (R174). -/
def ControlUnit.recordsPending (c : ControlUnit) : Bool := decide (c.producer ≠ c.consumer)

/-! ## Fault entries (R150, R167) -/

/-- Whether an entry has this key: its class and its channel, or its class and the device. -/
def FaultEntry.hasKey (e : FaultEntry) (cls : FaultClass) (channel : Option (Fin 16)) : Bool :=
  decide (e.cls = cls) && decide (e.channel = channel)

/-- The unreported delta of an entry (9.2). -/
def FaultEntry.delta (e : FaultEntry) : Nat := e.count - e.lastCount

/-- Whether an entry is eligible for a notice under this mask (R167). -/
def FaultEntry.eligible (e : FaultEntry) (mask : SevMask) : Bool :=
  decide (e.notice = .pending) && mask.has e.severity

/-- The numbers and entries of the table in use, in entry-number order. -/
def FaultUnit.used (f : FaultUnit) : List (Fin 32 × FaultEntry) :=
  (List.finRange 32).filterMap fun i => (f.table[i]).map fun e => (i, e)

/-- The eligible entries with their numbers (R167). -/
def FaultUnit.eligible (f : FaultUnit) : List (Fin 32 × FaultEntry) :=
  f.used.filter fun p => p.2.eligible f.noticeMask

/-- Whether a fault notice is due (R167). -/
def State.noticeDue (s : State) : Bool :=
  s.faults.eligible.any (fun p => decide (p.2.severity = .fatal)) ||
  decide (s.notices.holdoff = .ranOut) ||
  decide (8 ≤ s.faults.eligible.length)

/-- The FREE notice slot with the lowest slot index (R162). -/
def State.freeNoticeSlot (s : State) : Option Nat :=
  match (List.finRange 16).findSome? fun i =>
      match s.windows[i] with
      | some w => if w.role = .notice then some w else none
      | none => none with
  | none => none
  | some w =>
    (List.range w.count).findSome? fun i =>
      match w.first with
      | none => none
      | some f =>
        match s.slotRec (f + i) with
        | some r => if r.state = .free then some (f + i) else none
        | none => none

end Sys2Proof.Machine
end

