-- ==== Sys2Proof/Machine/Ops.lean ====
section
/-!
DEFINITION. The shared operations of the Bus Transit Unit's queues, the Control Unit's report queue, the Fault Unit,
the protocol notice list and the meters, and the settling that ends every step. Operations on frames, keys and
channels stand in Frames.lean and Store.lean.
-/

namespace Sys2Proof.Machine

/-! ## Stamps, ports and requests -/

/-- One stamp used. -/
def State.bump (s : State) : State := { s with stamp := s.stamp + 1 }

/-- The transit table changed. -/
def State.setTransit (s : State) (l : List TransitEntry) : State := { s with bus := { s.bus with transit := l } }

/-- The injection queue changed. -/
def State.setInj (s : State) (l : List InjEntry) : State := { s with bus := { s.bus with inj := l } }

/-- A response driven on the upstream port (R14, R15). -/
def State.respond (s : State) (r : UpResponse) : State := { s with bus := { s.bus with up := r :: s.bus.up } }

/-- The part's own answer to a transaction without forwarding it: a read's bytes are zero (R9, R14). -/
def State.answer (s : State) (t : Transaction) (ok : Bool) : State :=
  s.respond ⟨t.initiator, t.start, ok,
    match t.access with
    | .read n => List.replicate (8 * n) 0
    | .write _ => []⟩

/-- A block asks for an injection queue entry (R16); State.settle places the requests of a step. -/
def State.ask (s : State) (r : InjReq) : State := { s with bus := { s.bus with injAsked := s.bus.injAsked ++ [r] } }

/-- An injected transaction of the slot that a record serves, at this slot offset. -/
def State.askSlot (s : State) (op : InjOp) (unit : Fin 5) (r : SlotRec) (off : Nat) (a : Access) : State :=
  s.ask ⟨op, unit, s.slotBase r + off, a, some r.window, some r.slot⟩

/-- An injected transaction of the control page, at this page offset. -/
def State.askPage (s : State) (op : InjOp) (off : Nat) (a : Access) : State :=
  s.ask ⟨op, 4, s.pageBase + off, a, some 0, none⟩

/-- An injected transaction leaves the queue (R16, R19, R20). -/
def State.freeInj (s : State) (id : Nat) : State := s.setInj (s.bus.inj.filter fun e => e.id != id)

/-- A passed transaction leaves the transit table (R12). -/
def State.freeTransit (s : State) (id : Nat) : State := s.setTransit (s.bus.transit.filter fun e => e.id != id)

/-- A transit table entry changed in place. -/
def State.setEntry (s : State) (id : Nat) (f : TransitEntry → TransitEntry) : State :=
  s.setTransit (s.bus.transit.map fun e => if e.id == id then f e else e)

/-! ## The report queue and ring (R179, R180) -/

/-- The write of four bytes at a page offset that is 4 modulo 8, in one beat. -/
def wordAccess (v : Nat) : Access := .write (List.replicate 4 none ++ strobeAll (beBytes 4 v))

/-- Whether a record write or a producer word write is outstanding (R179). -/
def State.reportOutstanding (s : State) : Bool :=
  s.bus.outstanding fun op => decide (op = .reportRecord) || decide (op = .reportWord)

/-- One record did not reach the ring: the lost-report count rises, and its write is requested when none is
outstanding (R180). -/
def State.loseReport (s : State) : State :=
  let lost := min (s.ctl.lost + 1) Config.top32
  if lost = s.ctl.lost then s
  else if s.bus.outstanding fun op => decide (op = .lostWord) then { s with ctl := { s.ctl with lost := lost } }
  else ({ s with ctl := { s.ctl with lost := lost, lostWritten := lost } }).askPage .lostWord 16 (wordAccess lost)

/-- Whether the live ring is full (R179). -/
def ControlUnit.ringFull (c : ControlUnit) : Bool := decide ((c.ringProducer + 1) % c.ringSize = c.ringConsumer)

/-- The request for the write of a record into the ring (R179). -/
def State.askRecord (s : State) (r : Report) : State :=
  match s.reportWindow with
  | some (i, w) =>
    s.ask ⟨.reportRecord, 4, w.base.toNat + 32 * s.ctl.ringProducer, .write (strobeAll r.bytes), some i, none⟩
  | none => s

/-- The turns of the queued records: each is discarded and counted, or written, until a write is outstanding (R179). -/
def State.reportTurns : List Report → State → State
  | [], s => { s with ctl := { s.ctl with queue := [] } }
  | r :: rest, s =>
    if s.reportOutstanding then { s with ctl := { s.ctl with queue := r :: rest } }
    else if s.ringLive && !s.ctl.ringFull then State.reportTurns rest (s.askRecord r)
    else State.reportTurns rest s.loseReport

/-- The report queue is looked at again. -/
def State.reportTurn (s : State) : State := State.reportTurns s.ctl.queue s

/-- Whether the report queue has a place. -/
def State.reportPlace (s : State) : Bool := decide (s.ctl.queue.length < Config.reportQueueSize)

/-- A record joins the report queue and the queue's head takes its turn when it can; at a full queue the record is
discarded and counted (R179). A COMMAND_DONE or SNAPSHOT record is handed only when there is a place. -/
def State.handReport (s : State) (r : Report) : State :=
  if s.reportPlace then State.reportTurn { s with ctl := { s.ctl with queue := s.ctl.queue ++ [r] } }
  else s.loseReport

/-! ## The Fault Unit (R148 to R158) -/

/-- An occurrence of a class at the class's severity (R149), not quiet. -/
def occurrence (cls : FaultClass) (channel : Option (Fin 16)) (window : Option (Fin 16)) (slot : Option Nat)
    (initiator : Option (Fin 16)) : Occurrence := ⟨cls, cls.severity, channel, window, slot, initiator, false⟩

/-- The FAULT report record of an entry, when local reports are enabled for its severity (R155, R156). -/
def State.reportFault (s : State) (e : FaultEntry) : State :=
  if s.faults.localMask.has e.severity then
    s.handReport ⟨.fault e, chanByte e.channel, e.window, e.slot, s.time.ms⟩
  else s

/-- One fault table entry written. -/
def State.putFault (s : State) (i : Fin 32) (e : Option FaultEntry) : State :=
  { s with faults := { s.faults with table := s.faults.table.set i e } }

/-- The next number of the update order taken. -/
def State.bumpUpdates (s : State) : State := { s with faults := { s.faults with updates := s.faults.updates + 1 } }

/-- The greater of two severities (R151). -/
def Severity.max (a b : Severity) : Severity := if a.code < b.code then b else a

/-- An entry after an occurrence with its key is counted in it (R151 steps 1 to 4). -/
def FaultEntry.counted (e : FaultEntry) (o : Occurrence) (mask : SevMask) (now : Time) (order : Nat) : FaultEntry :=
  let sev := e.severity.max o.severity
  { e with
    count := min (e.count + 1) Config.countTop
    lastTime := now
    updated := order
    severity := sev
    notice := if !o.quiet && mask.has sev && (decide (e.notice = .none) || decide (e.notice = .sent)) then .pending
              else e.notice
    late := e.late || (decide (e.notice = .composing) && !o.quiet) }

/-- The entry that an occurrence fills (R152). -/
def Occurrence.entry (o : Occurrence) (mask : SevMask) (now : Time) (order : Nat) : FaultEntry where
  cls := o.cls
  severity := o.severity
  channel := o.channel
  window := o.window
  slot := o.slot
  initiator := o.initiator
  count := 1
  lastCount := 0
  firstTime := now
  lastTime := now
  notice := if !o.quiet && mask.has o.severity then .pending else .none
  late := false
  updated := order

/-- An occurrence counted in entry i (R151). -/
def State.countIn (s : State) (o : Occurrence) (i : Fin 32) (e : FaultEntry) : State :=
  let e' := e.counted o s.faults.noticeMask s.time.ms s.faults.updates
  let s1 := (s.putFault i (some e')).bumpUpdates
  if e.severity.code < o.severity.code then s1.reportFault e' else s1

/-- An occurrence fills entry i (R152). -/
def State.fillFault (s : State) (o : Occurrence) (i : Fin 32) : State :=
  let e := o.entry s.faults.noticeMask s.time.ms s.faults.updates
  ((s.putFault i (some e)).bumpUpdates).reportFault e

/-- The lost total raised, held at its top (R154). -/
def State.raiseLost (s : State) (n : Nat) : State :=
  { s with faults := { s.faults with lost := min (s.faults.lost + n) Config.top32 } }

/-- The entries that an occurrence may replace (R153). -/
def FaultUnit.candidates (f : FaultUnit) (sev : Severity) : List (Fin 32 × FaultEntry) :=
  f.used.filter fun p => decide (p.2.severity.code < sev.code) && decide (p.2.notice ≠ .composing)

/-- The least recently updated of some entries. -/
def stalest (l : List (Fin 32 × FaultEntry)) : Option (Fin 32 × FaultEntry) :=
  l.find? fun p => l.all fun q => decide (p.2.updated ≤ q.2.updated)

/-- The number of the entry in use with a key (R150). -/
def FaultUnit.find (f : FaultUnit) (cls : FaultClass) (channel : Option (Fin 16)) : Option (Fin 32 × FaultEntry) :=
  f.used.find? fun p => p.2.hasKey cls channel

/-- The free entry with the lowest number (R152). -/
def FaultUnit.firstFree (f : FaultUnit) : Option (Fin 32) := (List.finRange 32).find? fun i => (f.table[i]).isNone

/-- An occurrence with its scope settled applied to the table (R150 to R153). -/
def State.applyFault (s : State) (o : Occurrence) : State :=
  match s.faults.find o.cls o.channel with
  | some (i, e) => s.countIn o i e
  | none =>
    match s.faults.firstFree with
    | some i => s.fillFault o i
    | none =>
      match stalest (s.faults.candidates o.severity) with
      | some (i, e) => (s.raiseLost e.delta).fillFault o i
      | none => s.raiseLost 1

/-- An escalation of a channel (R102). -/
def Channel.escalated (c : Channel) : Channel := if c.state = .opened then { c with state := .guarded } else c

/-- A FATAL occurrence with a channel is applied to escalation (R158). -/
def State.escalate (s : State) (o : Occurrence) : State :=
  match o.channel with
  | some c =>
    if decide (o.severity = .fatal) && s.faults.guardOnFatal then s.setChan c Channel.escalated else s
  | none => s

/-- An occurrence with the scope of R149: a device-scoped class has no channel. -/
def Occurrence.scoped (o : Occurrence) : Occurrence := if o.cls.deviceScoped then { o with channel := none } else o

/-- A fault occurrence is taken (R148 to R153, R158). (DESIGN CHOICE, notes/assumptions/13.md.) -/
def State.recordFault (s : State) (o : Occurrence) : State := (s.applyFault o.scoped).escalate o.scoped

/-! ## The protocol notice list (R164) -/

/-- Whether two kinds of protocol notice are the same kind. -/
def ProtoKind.same : ProtoKind → ProtoKind → Bool
  | .keyConfirm _, .keyConfirm _ => true
  | .renewRequest _, .renewRequest _ => true
  | .keyConfirm _, .renewRequest _ => false
  | .renewRequest _, .keyConfirm _ => false

/-- Whether an entry is of this channel and kind. -/
def ProtoEntry.like (e f : ProtoEntry) : Bool := decide (e.channel = f.channel) && e.kind.same f.kind

/-- The list changed. -/
def State.setProto (s : State) (l : List ProtoEntry) : State := { s with notices := { s.notices with list := l } }

/-- NOTICE_BLOCKED on a channel, with the notice slot that a failed composition had (R148, R170, R171). (DEDUCED,
notes/assumptions/20.md.) -/
def State.noticeBlocked (s : State) (c : Fin 16) (window : Option (Fin 16)) (slot : Option Nat) : State :=
  s.recordFault { occurrence .noticeBlocked (some c) window slot none with quiet := true }

/-- An entry handed to the protocol notice list (R164): in the place of one like it, at the end, or dropped. -/
def State.handProto (s : State) (e : ProtoEntry) : State :=
  if s.notices.list.any (·.like e) then s.setProto (s.notices.list.map fun f => if f.like e then e else f)
  else if s.notices.list.length < Config.protocolSize then s.setProto (s.notices.list ++ [e])
  else s.noticeBlocked e.channel none none

/-! ## Debits (R110) -/

/-- A tagged frame's size debited from the meter of the link its channel is bound to, with METERED for a red debit. -/
def State.debit (s : State) (c : Fin 16) (size : Nat) (window : Option (Fin 16)) (slot : Option Nat) (quiet : Bool) :
    State :=
  let l := (s.chan c).link
  let s1 := s.setMeter l (·.debit size)
  if (s.meter l).debitIsRed size then
    s1.recordFault { occurrence .metered (some c) window slot none with quiet := quiet }
  else s1

/-! ## Settling: what ends every step -/

/-- A read's bytes as they are delivered: raw, zero, or exclusive-or its keystream (R15, R47, R62, R90). -/
def TransitEntry.delivered (e : TransitEntry) (data : List Byte) : List Byte :=
  data.zipIdx.map fun p =>
    match e.treat.getD p.2 .raw with
    | .raw => p.1
    | .zero => 0
    | .decipher =>
      match e.beatKeys.getD (p.2 / 8) .none with
      | .held ks => p.1 ^^^ (beatBytes ks).getD (p.2 % 8) 0
      | .none | .waiting | .withdrawn => 0

/-- Whether a read's response can be delivered: it is back, and no beat waits for keystream (R15). -/
def TransitEntry.deliverable (e : TransitEntry) : Bool := e.back.isSome && !e.beatKeys.contains .waiting

/-- Whether an enciphered write has lost every strobe to withdrawal before its grant (R10, R47). -/
def TransitEntry.emptied (e : TransitEntry) : Bool :=
  match e.access with
  | .read _ => false
  | .write bytes => e.fills && !e.issued && e.released && bytes.all Option.isNone

/-- The response of an entry that leaves the transit table at a settling. -/
def TransitEntry.response (e : TransitEntry) : UpResponse :=
  match e.back with
  | some (ok, data) => ⟨e.initiator, e.start, ok, e.delivered data⟩
  | none => ⟨e.initiator, e.start, true, []⟩

/-- The reads that can be delivered are, and the writes that are left without a strobe are answered OKAY; their
entries are freed (R10, R15). Where several go in one step they go in transit table order, the oldest first, an order
that no rule gives. (DESIGN CHOICE, notes/assumptions/28.md.) -/
def State.deliver (s : State) : State :=
  let out := s.bus.transit.filter fun e => e.deliverable || e.emptied
  { s with bus := { s.bus with
      transit := s.bus.transit.filter fun e => !(e.deliverable || e.emptied)
      up := (out.map TransitEntry.response).reverse ++ s.bus.up } }

/-- A request enters the injection queue (R16). -/
def State.enterInj (s : State) (r : InjReq) : State :=
  (s.setInj (s.bus.inj ++ [⟨s.stamp, r, false, 0, 0⟩])).bump

/-- A request takes an entry at once when one is free and no request waits, and waits otherwise (R16). -/
def State.placeInj (s : State) (r : InjReq) : State :=
  if s.bus.injWaiting.isEmpty && decide (s.bus.inj.length < Config.injectionSize) then s.enterInj r
  else { s with bus := { s.bus with injWaiting := s.bus.injWaiting ++ [r] } }

/-- The requests of a step in the order of R16: Inbound, Outbound, Renewal, Notice, Control. -/
def orderAsked (l : List InjReq) : List InjReq := (List.finRange 5).flatMap fun u => l.filter fun r => decide (r.unit = u)

/-- The requests of the step are placed (R16). (DESIGN CHOICE, notes/assumptions/9.md.) -/
def State.placeAsked (s : State) : State :=
  (orderAsked s.bus.injAsked).foldl State.placeInj { s with bus := { s.bus with injAsked := [] } }

/-- The holdoff timer judged: stopped without an eligible entry, started when one is gained while it is stopped (R167). -/
def State.judgeHoldoff (s : State) : State :=
  if s.faults.eligible.isEmpty then { s with notices := { s.notices with holdoff := .stopped } }
  else if s.notices.holdoff = .stopped then
    { s with notices := { s.notices with
        holdoff := if s.notices.holdoffSecs = 0 then .ranOut else .running s.notices.holdoffSecs } }
  else s

/-- The interrupt judged (R181). -/
def State.judgeIrq (s : State) : State := { s with ctl := { s.ctl with irq := s.irqWanted } }

/-- What ends every step: deliveries, the placing of requests, the holdoff timer and the interrupt. (DESIGN CHOICE,
notes/assumptions/9.md and 28.md.) -/
def State.settle (s : State) : State := s.deliver.placeAsked.judgeHoldoff.judgeIrq

/-- A step's outcome: the settled state. -/
def done (s : State) : Host.Outcome State Fault Refusal := .next s.settle

/-- A command that is not the event at hand in this state: nothing happens (DESIGN CHOICE, notes/assumptions/5.md). -/
def idle (s : State) : Host.Outcome State Fault Refusal := .next s

end Sys2Proof.Machine
end

