-- ==== Sys2Proof/Machine/Frames.lean ====
section
/-!
DEFINITION. The shared operations on frames: folding and merging (R36, R58 to R61), keystream beats with the cache, the
miss file and the overflow list (R43 to R47), and the requests of a finish (R38 to R41).
-/

namespace Sys2Proof.Machine

/-! ## Counter blocks of a slot record (R31, R35) -/

/-- The counter block of a slot record's frame with this number; with a length in its place, the length block. An
outbound frame's kind is 0x01 whatever software wrote (R31). -/
def State.recBlock (s : State) (r : SlotRec) (number : Nat) : Block :=
  counterBlock (if r.role = .outbound then kindData else r.kind.getD 0) (chanByte r.channel) (r.gen.getD 0)
    (if r.role = .inbound then dirIn else dirOut) (r.seq.getD 0) s.shop number

/-! ## The accumulator (R36) -/

/-- The valid flag cleared, and the slot's merge entries discarded with it (R36, R61). -/
def State.clearValid (s : State) (n : Nat) : State :=
  { s.setRec n (fun r => { r with valid := false }) with merges := s.merges.filter fun m => m.recNo != n }

/-- The slot's merge entries discarded (R61). -/
def State.dropMerges (s : State) (n : Nat) : State := { s with merges := s.merges.filter fun m => m.recNo != n }

/-- A request of the tag multiplier (R49). -/
def State.askMul (s : State) (r : MulReq) : State := { s with ks := { s.ks with mulQueue := s.ks.mulQueue ++ [r] } }

/-- A background request of the cipher engine (R48). -/
def State.askCipher (s : State) (r : BgReq) : State := { s with ks := { s.ks with background := s.ks.background ++ [r] } }

/-- A fold request for block b of a slot record (R36). -/
def State.fold (s : State) (n b : Nat) (blk : Block) (whole : Bool) : State :=
  match s.slotRec n with
  | none => s
  | some r =>
    if !r.valid then s
    else if r.folded.contains b then s.clearValid n
    else
      match r.opening, r.key with
      | some o, some key =>
        (s.setRec n fun r => { r with folded := b :: r.folded, whole := if whole then b :: r.whole else r.whole }).askMul
          ⟨.fold, n, o, key, blk, b⟩
      | _, _ => s

/-! ## The merge queue (R59, R60) -/

/-- Bytes joined to a merge entry's bytes. -/
def joinBytes (held new : List (Option Byte)) : List (Option Byte) := List.zipWith (fun h n => n.or h) held new

/-- Whether two byte sets have a byte in common. -/
def overlapBytes (a b : List (Option Byte)) : Bool := (List.zipWith (fun x y => x.isSome && y.isSome) a b).any id

/-- The oldest merge entry evicted (R60). -/
def State.evictMerge (s : State) : State :=
  match s.merges with
  | [] => s
  | m :: _ =>
    let r := s.slotRec m.recNo
    (s.clearValid m.recNo).recordFault
      (occurrence .mergeEviction (r.bind (·.channel)) (r.map (·.window)) (r.map (·.slot)) none)

/-- A new merge entry, with an eviction when all places are held; none when the eviction was of the same slot (R59
step 5, R60). -/
def State.newMerge (s : State) (n b : Nat) (bytes : List (Option Byte)) : State :=
  if s.merges.length < Config.mergeSize then { s with merges := s.merges ++ [⟨n, b, bytes⟩] }
  else
    let evicted := s.merges.head?.map (·.recNo)
    let s1 := s.evictMerge
    if evicted = some n then s1 else { s1 with merges := s1.merges ++ [⟨n, b, bytes⟩] }

/-- The merge entry of a block of a slot record. -/
def State.mergeOf (s : State) (n b : Nat) : Option MergeEntry := s.merges.find? fun m => m.recNo == n && m.block == b

/-- Enciphered bytes of part of a block are handled by R59. -/
def State.mergeStep (s : State) (n b : Nat) (bytes : List (Option Byte)) : State :=
  match s.slotRec n with
  | none => s
  | some r =>
    if !r.valid then s
    else if r.folded.contains b then s.clearValid n
    else
      match s.mergeOf n b with
      | some m =>
        if overlapBytes m.bytes bytes then s.clearValid n
        else
          let joined := joinBytes m.bytes bytes
          if joined.all Option.isSome then
            ({ s with merges := s.merges.filter fun x => !(x.recNo == n && x.block == b) }).fold n b
              (blockOfStrobed joined) true
          else
            { s with merges := s.merges.map fun x =>
                if x.recNo == n && x.block == b then { x with bytes := joined } else x }
      | none => s.newMerge n b bytes

/-- The unit acts for a block of which every beat of a write has been enciphered (R58): a whole fold, or a merge step;
a whole write of a block that has a merge entry falls under step 3 of R59. Nothing is done for an opening that has
ended. -/
def State.blockStep (s : State) (e : TransitEntry) (b : Nat) : State :=
  match e.access, e.recNo with
  | .write bytes, some n =>
    match s.slotRec n with
    | none => s
    | some r =>
      if e.opening.isSome && decide (r.opening = e.opening) && (decide (r.state = .filling) || decide (r.state = .tagging)) then
        let run := blockBytesIn bytes (e.start % Config.slotBytes) b
        if run.all Option.isSome then
          if (s.mergeOf n b).isSome then s.clearValid n else s.fold n b (blockOfStrobed run) true
        else s.mergeStep n b run
      else s
  | _, _ => s

/-! ## Keystream beats (R43 to R46) -/

/-- A write's bytes with beat i exclusive-or a half block of keystream, where strobed (R32). -/
def encipherBeat (bytes : List (Option Byte)) (i : Nat) (ks : BitVec 64) : List (Option Byte) :=
  bytes.zipIdx.map fun p => if p.2 / 8 = i then p.1.map (· ^^^ (beatBytes ks).getD (p.2 % 8) 0) else p.1

/-- A write's bytes with the strobes of beat i dropped (R47). -/
def dropBeat (bytes : List (Option Byte)) (i : Nat) : List (Option Byte) :=
  bytes.zipIdx.map fun p => if p.2 / 8 = i then none else p.1

/-- The payload block that a beat of an entry lies in (R29). -/
def TransitEntry.beatBlock (e : TransitEntry) (i : Nat) : Nat := blockAt (e.start % Config.slotBytes + 8 * i)

/-- Whether a beat of this block still waits for keystream. -/
def TransitEntry.blockWaits (e : TransitEntry) (b : Nat) : Bool :=
  e.beatKeys.zipIdx.any fun p => decide (p.1 = .waiting) && e.beatBlock p.2 == b

/-- A waiting beat takes its half of a keystream block: a write's beat is enciphered, and its block acted for when no
beat of it waits; a read's beat keeps it for its data (R46, R58). -/
def State.serveBeat (s : State) (w : Waiter) (ks : Block) : State :=
  match s.bus.entry w.entry with
  | none => s
  | some e =>
    let half := halfOf ks ((e.start / 8 + w.beat) % 2 == 1)
    match e.access with
    | .read _ => s.setEntry w.entry fun e => { e with beatKeys := e.beatKeys.set w.beat (.held half) }
    | .write bytes =>
      let e' := { e with access := .write (encipherBeat bytes w.beat half), beatKeys := e.beatKeys.set w.beat .none }
      let s' := s.setEntry w.entry fun _ => e'
      if e'.blockWaits (e'.beatBlock w.beat) then s' else s'.blockStep e' (e'.beatBlock w.beat)

/-- A waiting beat receives no keystream (R47). -/
def State.withdrawBeat (s : State) (w : Waiter) : State :=
  s.setEntry w.entry fun e =>
    match e.access with
    | .read _ => { e with beatKeys := e.beatKeys.set w.beat .withdrawn }
    | .write bytes => { e with access := .write (dropBeat bytes w.beat), beatKeys := e.beatKeys.set w.beat .none }

/-- The keystream the cache holds for a key slot and counter block (R43). -/
def Keystream.cached (k : Keystream) (key : Fin 32) (ctr : Block) : Option Block :=
  k.cache.toList.findSome? fun
    | some e => if e.key = key ∧ e.ctr = ctr then some e.ks else none
    | none => none

/-- The miss file changed. -/
def State.setMisses (s : State) (l : List MissEntry) : State := { s with ks := { s.ks with misses := l } }

/-- The overflow list changed. -/
def State.setOverflow (s : State) (l : List OverflowBeat) : State := { s with ks := { s.ks with overflow := l } }

/-- A beat asks for keystream: a hit is served at once, a miss joins an entry, takes a free one, or waits in the
overflow list (R43, R45). -/
def State.lookupBeat (s : State) (o : OverflowBeat) : State :=
  match s.ks.cached o.key o.ctr with
  | some ks => s.serveBeat o.who ks
  | none =>
    if s.ks.misses.any fun m => decide (m.key = o.key) && m.ctr == o.ctr then
      s.setMisses (s.ks.misses.map fun m =>
        if decide (m.key = o.key) && m.ctr == o.ctr then { m with waiters := m.waiters ++ [o.who] } else m)
    else if s.ks.misses.length < Config.missSize then
      (s.setMisses (s.ks.misses ++ [⟨s.stamp, o.key, o.ctr, [o.who], false⟩])).bump
    else s.setOverflow (s.ks.overflow ++ [o])

/-- The overflow list is served from its oldest beat while a miss file entry is free (R45). -/
def State.serveOverflowList : List OverflowBeat → State → State
  | [], s => s.setOverflow []
  | o :: rest, s =>
    if s.ks.misses.length < Config.missSize then State.serveOverflowList rest (s.lookupBeat o)
    else s.setOverflow (o :: rest)

/-- The overflow list is served after an entry has been freed (R45). -/
def State.serveOverflow (s : State) : State := State.serveOverflowList s.ks.overflow s

/-- The beats of a transit table entry that wait ask for keystream in beat order, under this key slot and record. -/
def State.lookupBeats (s : State) (e : TransitEntry) (key : Fin 32) (r : SlotRec) : State :=
  e.beatKeys.zipIdx.foldl
    (fun st p =>
      if p.1 = .waiting then st.lookupBeat ⟨⟨e.id, p.2⟩, key, st.recBlock r (e.beatBlock p.2)⟩ else st) s

/-! ## Finishing (R38 to R42) -/

/-- The finish of a slot record changed. -/
def State.setFinish (s : State) (n : Nat) (f : Finish → Finish) : State :=
  s.setRec n fun r => { r with finish := r.finish.map f }

/-- A finish begins to wait under R37, with this frame length. -/
def Finish.begin (len : Nat) : Finish := ⟨.waiting, len, none, none, none⟩

/-- The two requests of a direct finish, made together (R39). -/
def State.beginDirect (s : State) (n : Nat) : State :=
  match s.slotRec n with
  | none => s
  | some r =>
    match r.finish, r.opening, r.key with
    | some f, some o, some key =>
      ((s.setFinish n fun f => { f with stage := .direct }).askMul
        ⟨.lenTerm, n, o, key, s.recBlock r f.len, blockCount f.len + 1⟩).askCipher
        ⟨.mask n o, key, s.recBlock r 0⟩
    | _, _, _ => s

/-- The frame unit of an injected read of a finish (R16): 0 Inbound, 1 Outbound. -/
def SlotRec.unit (r : SlotRec) : Fin 5 := if r.role = .inbound then 0 else 1

/-- The first payload block of each line that holds a block from 1 to n, with the number of blocks the sweep reads
there (R41). -/
def sweepReads (n : Nat) : List (Nat × Nat) :=
  (List.range 16).filterMap fun k =>
    let first := if k = 0 then 1 else 8 * k - 1
    let last := min (8 * k + 6) n
    if first ≤ n then some (first, last + 1 - first) else none

/-- A sweep begins: the accumulator starts again and its reads are requested in line order (R41); without a block to
read the finish goes on at once. -/
def State.beginSweep (s : State) (n : Nat) : State :=
  match s.slotRec n with
  | none => s
  | some r =>
    match r.finish, r.opening with
    | some f, some o =>
      let reads := sweepReads (blockCount f.len)
      let s1 := (s.setRec n fun r => { r with acc := 0, valid := true, folded := [], whole := [] }).setFinish n
        fun f => { f with stage := .sweep reads.length }
      let s2 := reads.foldl
        (fun st p => st.askSlot (.sweepRead n o p.1) r.unit r (blockOffset p.1) (.read (2 * p.2))) s1
      if reads.isEmpty then s2.beginDirect n else s2
    | _, _ => s

/-- A tail fetch begins: the read of block n is requested (R40). -/
def State.beginTail (s : State) (n : Nat) : State :=
  match s.slotRec n with
  | none => s
  | some r =>
    match r.finish, r.opening with
    | some f, some o =>
      (s.setFinish n fun f => { f with stage := .tail }).askSlot (.tailFetch n o) r.unit r
        (blockOffset (blockCount f.len)) (.read 2)
    | _, _ => s

/-- The three kinds of finish. -/
inductive FinishKind where
  | direct | tailFetch | sweep
  deriving DecidableEq, Repr

/-- The decision table of R38. -/
def finishKind (valid : Bool) (folded whole : List Nat) (len : Nat) : FinishKind :=
  let n := blockCount len
  let t := tailOf len
  let m := if t = 0 then n else n - 1
  if !valid then .sweep
  else if (List.range m).any fun i => !folded.contains (i + 1) then .sweep
  else if folded.any fun b => decide (n < b) then .sweep
  else if t = 0 then .direct
  else if folded.contains n && !whole.contains n then .direct
  else .tailFetch

/-- The finish that R38 decides begins. -/
def State.beginFinish (s : State) (n : Nat) : State :=
  match s.slotRec n with
  | none => s
  | some r =>
    match r.finish with
    | none => s
    | some f =>
      match finishKind r.valid r.folded r.whole f.len with
      | .direct => s.beginDirect n
      | .tailFetch => s.beginTail n
      | .sweep => s.beginSweep n

/-- A header result write of a slot record's present state and reason (R24). -/
def State.askResult (s : State) (n : Nat) : State :=
  match s.slotRec n with
  | none => s
  | some r =>
    s.askSlot (.headerResult n (decide (r.role = .inbound))) r.unit r 8
      (.write (List.replicate 6 none ++ strobeAll [r.state.mirror, r.reason.code]))

end Sys2Proof.Machine
end

