-- ==== Sys2Proof/Machine/Store.lean ====
section
/-!
DEFINITION. The shared operations of the Key Store: withdrawal of keystream (R47), zeroisation (R118), references
(R119, R120), allocation (R117), sequences and budgets (R122 to R128), and the failure and opening of slot records that
take and drop references (R53, R65).
-/

namespace Sys2Proof.Machine

/-! ## Zeroisation (R47, R118) -/

/-- The cache without the entries of a key slot (R47). -/
def Keystream.purged (k : Keystream) (key : Fin 32) : Vector (Option CacheEntry) 16 :=
  k.cache.map fun
    | some e => if e.key = key then none else some e
    | none => none

/-- Whether a background request is the plaintext of an offer's payload for a reading that the owning channel of this
key slot no longer has in flight: the loading of the hold that the key slot was allocated for, given up (R118, R140).
-/
def State.strayPlain (s : State) (k : Fin 32) (r : BgReq) : Bool :=
  match r.use, (s.key k).owner with
  | .offerPlain c work _, some o =>
    decide (c = o) && decide ((s.chan c).ruling.map OfferWork.id ≠ some work) &&
      decide ((s.chan c).loading.map OfferWork.id ≠ some work)
  | _, _ => false

/-- Whether the zeroisation of a key slot removes a background request: it names the slot (R47), or it is the offer
plaintext of the slot's loading (R118). -/
def State.withdraws (s : State) (k : Fin 32) (r : BgReq) : Bool := decide (r.key = .slot k) || s.strayPlain k r

/-- Whether the zeroisation of a key slot discards the cipher engine's grant in progress (R47, R118). -/
def State.withdrawsGrant (s : State) (k : Fin 32) (g : CipherGrant) : Bool :=
  match g.job with
  | .miss _ => decide (g.key = .slot k)
  | .background r => s.withdraws k r

/-- Every trace of a key slot's keystream removed (R47, R118): cache, miss file, overflow list, background queue,
multiplier queue and the grants in progress; the waiting beats are withdrawn, and the overflow list is served. -/
def State.withdrawKeystream (s : State) (k : Fin 32) : State :=
  let named (r : KeyRef) : Bool := decide (r = .slot k)
  let waiters := (s.ks.misses.filter fun m => decide (m.key = k)).flatMap (·.waiters) ++
    (s.ks.overflow.filter fun o => decide (o.key = k)).map (·.who)
  let s1 : State := { s with ks := { s.ks with
    cache := s.ks.purged k
    misses := s.ks.misses.filter fun m => !decide (m.key = k)
    overflow := s.ks.overflow.filter fun o => !decide (o.key = k)
    background := s.ks.background.filter fun r => !s.withdraws k r
    cipher := s.ks.cipher.map fun g => if s.withdrawsGrant k g then { g with withdrawn := true } else g
    mulQueue := s.ks.mulQueue.filter fun r => !named r.key
    mulBusy := s.ks.mulBusy.map fun p => if named p.1.key then (p.1, true) else p } }
  (waiters.foldl State.withdrawBeat s1).serveOverflow

/-- A key slot is zeroised and joins the tail of the free list (R118). -/
def State.zeroise (s : State) (k : Fin 32) : State :=
  let s1 := (s.withdrawKeystream k).setKey k fun _ => KeySlot.zeroised
  { s1 with keys := { s1.keys with freeList := s1.keys.freeList ++ [k] } }

/-- Whether a key slot is held in its channel's offer hold, or its install is in flight: seated and its hash subkey not
yet returned (R120). -/
def State.heldOrInstalling (s : State) (k : Fin 32) : Bool :=
  (match (s.key k).owner with
    | some c => decide (((s.chan c).hold.map (·.key)) = some k)
    | none => false) ||
  decide ((s.key k).load = .part)

/-- The Key Store judges a key slot by its role and its reference count (R120). -/
def State.judgeKey (s : State) (k : Fin 32) : State :=
  if (s.key k).state = .free then s
  else if (s.keyRole k).isSome then s
  else if (s.key k).refs = 0 then s.zeroise k
  else if s.heldOrInstalling k then s.setKey k fun x => { x with state := .staged }
  else s.setKey k fun x => { x with state := .retiring }

/-- A reference taken (R119). -/
def State.takeRef (s : State) (k : Fin 32) : State := s.setKey k fun x => { x with refs := x.refs + 1 }

/-- A reference dropped, without the judgement that follows (R119). -/
def State.untakeRef (s : State) (k : Fin 32) : State := s.setKey k fun x => { x with refs := x.refs - 1 }

/-- A reference dropped, and the slot judged (R119, R120). -/
def State.dropRef (s : State) (k : Fin 32) : State := (s.untakeRef k).judgeKey k

/-- The key slot a record holds a reference to. -/
def SlotRec.keySlot (r : SlotRec) : Option (Fin 32) :=
  match r.key with
  | some (.slot k) => some k
  | _ => none

/-- The reference of an optional key slot dropped, and the slot judged. -/
def State.dropRefOf (s : State) (k : Option (Fin 32)) : State :=
  match k with
  | some k => s.dropRef k
  | none => s

/-- An allocation into a channel's hold: the head of the free list becomes STAGED with reference count 1 (R117); none
when the list is empty. -/
def State.allocate (s : State) (c : Fin 16) : Option (Fin 32 × State) :=
  match s.keys.freeList with
  | [] => none
  | k :: rest =>
    some (k, ({ s with keys := { s.keys with freeList := rest } }).setKey k fun x =>
      { x with state := .staged, owner := some c, refs := 1, nextSeq := 1 })

/-! ## Budgets (R124 to R128) -/

/-- What follows at a CURRENT key's spent mark: the SPENT request and the KEY_SPENT fault on its channel, with no window,
slot or initiator (R127). (DEDUCED, notes/assumptions/20.md.) -/
def State.spentCurrent (s : State) (k : Fin 32) : State :=
  match (s.key k).owner with
  | some c => (s.handProto ⟨c, .renewRequest .spent⟩).recordFault (occurrence .keySpent (some c) none none none)
  | none => s

/-- The spent marks judged (R127). -/
def State.judgeSpent (s : State) (k : Fin 32) : State :=
  if (s.key k).spentReached && !(s.key k).spent then
    let s1 := s.setKey k fun x => { x with spent := true, asked := true }
    if s.keyRole k = some .current then s1.spentCurrent k else s1
  else s

/-- The soft marks judged (R128). -/
def State.judgeSoft (s : State) (k : Fin 32) : State :=
  if s.keyRole k = some .current ∧ (s.key k).asked = false then
    match (s.key k).softReached (s.softPercent k), (s.key k).owner with
    | some why, some c => (s.setKey k fun x => { x with asked := true }).handProto ⟨c, .renewRequest why⟩
    | _, _ => s
  else s

/-- The judgement after every change of frames used, bytes used or minutes remaining (R127, R128). -/
def State.judgeMarks (s : State) (k : Fin 32) : State := (s.judgeSpent k).judgeSoft k

/-- The next outbound sequence taken, counted in frames used (R122); the judgement of the marks is the caller's. -/
def State.takeSequence (s : State) (k : Fin 32) : State :=
  s.setKey k fun x => { x with nextSeq := x.nextSeq + 1, frames := x.frames + 1 }

/-- Bytes used raised, held at the top, and the marks judged (R125). -/
def State.addBytes (s : State) (k : Fin 32) (size : Nat) : State :=
  (s.setKey k fun x => { x with bytes := min (x.bytes + size) Config.bytesUsedTop }).judgeMarks k

/-! ## Slot records that come back to FREE, fail, or are named in faults -/

/-- A slot record takes the starting contents of R7 (R68, R94, R163, R170). -/
def State.freshen (s : State) (n : Nat) : State := s.setRec n fun r => SlotRec.fresh r.role r.window r.slot

/-- An occurrence of a class on a slot record's channel with its window and slot. (DEDUCED, notes/assumptions/20.md.)
-/
def slotFault (cls : FaultClass) (r : SlotRec) (initiator : Option (Fin 16)) : Occurrence :=
  occurrence cls r.channel (some r.window) (some r.slot) initiator

/-- An outbound slot goes to FAILED with this reason: its opening and finish end, its merge entries are discarded and a
header result write is requested (R65, R69, R71). Its reference is the caller's to drop. -/
def State.failRec (s : State) (n : Nat) (why : Reason) : State :=
  ((s.setRec n fun r => { r with
      state := .failed, reason := why, key := none, opening := none, finish := none,
      frameAsked := false, retouched := false }).dropMerges n).askResult n

/-- An outbound slot goes to FAILED with this reason and drops its reference (R65, R69). -/
def State.failOutbound (s : State) (n : Nat) (why : Reason) : State :=
  (s.failRec n why).dropRefOf ((s.slotRec n).bind (·.keySlot))

/-- The size of a frame: header, tag and payload (R64). -/
def frameSize (len : Nat) : Nat := 32 + len

end Sys2Proof.Machine
end

