-- ==== Sys2Proof/Machine/Outbound.lean ====
section
/-!
DEFINITION. The Outbound Frame Unit's operations (chapter 4): opening and admission, the clear-side write and read, the
close, the release, disturbance, the frame write and its answer, and the late downstream error.
-/

namespace Sys2Proof.Machine

/-! ## Entries of the transit table (R12) -/

/-- The entry of a transaction that is forwarded unchanged, with the place it concerns (R12). -/
def State.plainEntry (s : State) (t : Transaction) (p : Option Place) : TransitEntry where
  id := s.stamp
  initiator := t.initiator
  start := t.start
  access := t.access
  window := p.map (·.window)
  slot := p.bind (·.slot)
  recNo := p.bind (·.recNo)
  clear := decide (s.classOf t = .clear)
  opening := none
  fills := false
  treat := []
  beatKeys := []
  issued := false
  back := none

/-- An entry taken in the transit table; its age is the moment of acceptance (R12, R13). -/
def State.enter (s : State) (e : TransitEntry) : State := (s.setTransit (s.bus.transit ++ [e])).bump

/-- The beats of a run of this many beats that ask for keystream. -/
def waitingBeats (beats : Nat) (asks : Nat → Bool) : List BeatKey :=
  (List.range beats).map fun i => if asks i then .waiting else .none

/-! ## Opening (R52 to R54) -/

/-- Admission of an opening on a channel: the CURRENT key slot, or the reason of the first check that fails (R53). -/
def State.admission (s : State) (c : Fin 16) : Except Reason (Fin 32) :=
  match (s.chan c).state with
  | .disabled => .error .channelDown
  | .guarded => .error .channelGuarded
  | .opened =>
    match (s.chan c).cur with
    | none => .error .noKey
    | some k =>
      if (s.key k).spent then .error .keySpent
      else if (s.meter (s.chan c).link).admits (s.chan c).priority then .ok k
      else .error .metered

/-- The fault that a failed admission records (R54). -/
def admissionFault : Reason → Option FaultClass
  | .noKey => some .noKey
  | .keySpent => some .keySpent
  | .metered => some .metered
  | _ => none

/-- The record of an admitted opening (R53). -/
def SlotRec.opened (r : SlotRec) (c : Fin 16) (k : Fin 32) (key : KeySlot) (opening : Nat) : SlotRec :=
  { r with
    state := .filling
    channel := some c
    gen := some key.gen
    seq := some (BitVec.ofNat 32 key.nextSeq)
    key := some (.slot k)
    acc := 0
    valid := true
    folded := []
    whole := []
    reason := .none
    opening := some opening }

/-- An admitted opening (R53). -/
def State.admitFrame (s : State) (n : Nat) (c : Fin 16) (k : Fin 32) : State :=
  ((((s.setRec n fun r => r.opened c k (s.key k) s.stamp).bump).takeRef k).takeSequence k).judgeMarks k

/-- An opening that fails admission (R54). -/
def State.failAdmission (s : State) (n : Nat) (c : Fin 16) (why : Reason) (initiator : Fin 16) : State :=
  let s1 := (s.setRec n fun r => { r with state := .failed, channel := some c, reason := why }).askResult n
  match admissionFault why, s1.slotRec n with
  | some cls, some r => s1.recordFault (slotFault cls r (some initiator))
  | _, _ => s1

/-- The bound channel of the window of a slot record (R1). -/
def State.boundChannel (s : State) (r : SlotRec) : Option (Fin 16) := (s.windows[r.window]).bind (·.channel)

/-- An opening write's first step (R51 step 1). -/
def State.openOutbound (s : State) (n : Nat) (initiator : Fin 16) : State :=
  match (s.slotRec n).bind s.boundChannel with
  | none => s
  | some c =>
    match s.admission c with
    | .ok k => s.admitFrame n c k
    | .error why => s.failAdmission n c why initiator

/-- Whether a clear-side write opens a FREE slot: any payload or header byte, but for the preparing write (R52). -/
def opensOutbound (bytes : List (Option Byte)) (off : Nat) : Bool :=
  strobesIn bytes off 32 Config.slotBytes ||
  (strobesIn bytes off 0 16 && !decide (strobedAt bytes off 14 = some 0))

/-! ## The header (R23, R55, R56, R63, R68) -/

/-- A captured length with its strobed bytes replaced (R23). -/
def captureLength (old : Option Nat) (hi lo : Option Byte) : Option Nat :=
  if hi.isNone && lo.isNone then old
  else
    let was := old.getD 0
    some ((hi.map (·.toNat)).getD (was / 256) * 256 + (lo.map (·.toNat)).getD (was % 256))

/-- Header bytes 1, 12 and 13 captured (R23, R55). -/
def SlotRec.capture (r : SlotRec) (bytes : List (Option Byte)) (off : Nat) : SlotRec :=
  { r with
    kind := (strobedAt bytes off 1).or r.kind
    length := captureLength r.length (strobedAt bytes off 12) (strobedAt bytes off 13) }

/-- A CLOSE taken in FILLING: TAGGING with a finish that begins, or FAILED (R63). -/
def State.takeClose (s : State) (n : Nat) : State :=
  match s.slotRec n with
  | none => s
  | some r =>
    let len := r.length.getD 0
    if r.kind ≠ some kindData then s.failOutbound n .badKind
    else if Config.maxPayload < len then s.failOutbound n .badLength
    else s.setRec n fun r => { r with state := .tagging, finish := some (Finish.begin len) }

/-- A release taken: the starting contents of R7, and the reference dropped (R68, R94, R163). -/
def State.releaseRec (s : State) (n : Nat) : State :=
  (s.freshen n).dropRefOf ((s.slotRec n).bind (·.keySlot))

/-- A state request in byte 14 of a clear-side write to an OUTBOUND slot, by the state it meets (R56). `payload` says
that the write strobes payload bytes too: such a write leaves a FAILED slot FAILED with its reason, the write whose own
opening failed included, and a release is a header-only write's (R51, R67). That R67 goes before the table of R56 is
DEDUCED (notes/assumptions/12.md). -/
def State.outboundRequest (s : State) (n : Nat) (request : Option Byte) (payload : Bool) : State :=
  match request, s.recState n with
  | some v, some .filling => if v = 1 then s.takeClose n else s
  | some v, some .tagged => if v = 0 then s.releaseRec n else s
  | some v, some .failed => if v = 0 && !payload then s.releaseRec n else s
  | _, _ => s

/-! ## The clear-side write (R51, R57, R66, R67) -/

/-- A clear-side write's bytes as they leave the judging of R51: tag bytes dropped, payload bytes kept for enciphering or
dropped. -/
def judgedBytes (bytes : List (Option Byte)) (off : Nat) (keep : Bool) : List (Option Byte) :=
  mapOffsets bytes off fun k b => if k < 16 then b else if k < 32 then none else if keep then b else none

/-- A write's bytes with the state byte and the reason byte filled from a record, where strobed (R22, R23). -/
def mirrorBytes (bytes : List (Option Byte)) (off : Nat) (r : SlotRec) : List (Option Byte) :=
  mapOffsets bytes off fun k b =>
    if k = 14 then b.map fun _ => r.state.mirror else if k = 15 then b.map fun _ => r.reason.code else b

/-- The bytes of a write in the transit table filled from the record it acted on (R22, R23). -/
def State.mirrorEntry (s : State) (id n off : Nat) : State :=
  match s.slotRec n with
  | none => s
  | some r =>
    s.setEntry id fun e =>
      match e.access with
      | .write bytes => { e with access := .write (mirrorBytes bytes off r) }
      | .read _ => e

/-- The entry of a clear-side write to an OUTBOUND slot: each beat that forwards payload bytes asks for keystream (R57). -/
def State.outboundEntry (s : State) (t : Transaction) (p : Place) (bytes : List (Option Byte)) (r : SlotRec)
    (fills : Bool) : TransitEntry :=
  { s.plainEntry t (some p) with
    access := .write bytes
    opening := if fills then r.opening else none
    fills := fills
    beatKeys := waitingBeats (bytes.length / 8) fun i =>
      strobesIn bytes p.off (max 32 (p.off + 8 * i)) (p.off + 8 * i + 8) }

/-- A header write taken in TAGGING after the frame write was requested is remembered when it strobes byte 14 or 15
(R64). -/
def State.noteRetouch (s : State) (n : Nat) (bytes : List (Option Byte)) (off : Nat) : State :=
  if strobesIn bytes off 14 16 then
    s.setRec n fun r => if r.state = .tagging ∧ r.frameAsked = true then { r with retouched := true } else r
  else s

/-- Steps 2 to 4 of R51 on a record, and the forwarding of what is left of the write. -/
def State.writeOutbound (s : State) (t : Transaction) (p : Place) (n : Nat) (bytes : List (Option Byte)) : State :=
  let payload := strobesIn bytes p.off 32 Config.slotBytes
  let s1 := s.setRec n fun r => r.capture bytes p.off
  match s1.slotRec n with
  | none => s1
  | some r =>
    let fills := decide (r.state = .filling) && payload
    let kept := judgedBytes bytes p.off fills
    if kept.all Option.isNone then s1.answer t true
    else
      let e := s1.outboundEntry t p kept r fills
      let s2 := s1.enter e
      let s3 := match r.keySlot with
        | some k => if fills then s2.lookupBeats e k r else s2
        | none => s2
      ((s3.outboundRequest n (strobedAt bytes p.off 14) payload).noteRetouch n bytes p.off).mirrorEntry e.id n p.off

/-- A disturbance of a TAGGING slot noted (R66, R69). -/
def State.disturb (s : State) (n : Nat) : State := s.setRec n fun r => { r with reason := .disturbed }

/-- A DISTURBED occurrence on a slot (R66, R67, R69, R91, R93). -/
def State.disturbedFault (s : State) (r : SlotRec) (initiator : Fin 16) : State :=
  s.recordFault (slotFault .disturbed r (some initiator))

/-- A clear-side write that R66 or R67 drops whole: its header bytes are captured first (R51 step 2, R55), none of its
bytes are forwarded, and it is answered ERROR with DISTURBED. -/
def State.dropOutbound (s : State) (t : Transaction) (p : Place) (n : Nat) (bytes : List (Option Byte)) (r : SlotRec) :
    State :=
  ((s.setRec n fun r => r.capture bytes p.off).answer t false).disturbedFault r t.initiator

/-- A clear-side write to an OUTBOUND slot (R51). -/
def State.outboundWrite (s : State) (t : Transaction) (p : Place) (n : Nat) (bytes : List (Option Byte)) : State :=
  match s.slotRec n with
  | none => s
  | some r =>
    let payload := strobesIn bytes p.off 32 Config.slotBytes
    if !payload && !strobesIn bytes p.off 0 16 then s.answer t true
    else
      match r.state with
      | .free =>
        if opensOutbound bytes p.off then (s.openOutbound n t.initiator).writeOutbound t p n bytes
        else s.writeOutbound t p n bytes
      | .tagging =>
        if payload then (s.disturb n).dropOutbound t p n bytes r
        else s.writeOutbound t p n bytes
      | .tagged =>
        if payload then s.dropOutbound t p n bytes r
        else s.writeOutbound t p n bytes
      | _ => s.writeOutbound t p n bytes

/-! ## The clear-side read (R62) -/

/-- The entry of a read that deciphers, or zeroes, payload bytes: how each byte of the span is treated by its slot
offset. -/
def State.readEntry (s : State) (t : Transaction) (p : Place) (beats : Nat) (treat : Nat → Treat) : TransitEntry :=
  let how := (List.range (8 * beats)).map fun i => treat (p.off + i)
  { s.plainEntry t (some p) with
    treat := how
    beatKeys := waitingBeats beats fun i => ((how.drop (8 * i)).take 8).contains .decipher }

/-- A read is forwarded, and its beats that decipher ask for keystream under the record's key slot (R62, R90). -/
def State.forwardRead (s : State) (t : Transaction) (p : Place) (beats : Nat) (r : SlotRec) (treat : Nat → Treat) :
    State :=
  let e := s.readEntry t p beats treat
  match r.keySlot with
  | some k => (s.enter e).lookupBeats e k r
  | none => s.enter e

/-- The treatment of a byte of an OUTBOUND slot in a clear-side read, by the state of the record (R62). -/
def outboundTreat (r : SlotRec) (k : Nat) : Treat :=
  if k < 32 then .raw
  else
    match r.state with
    | .filling | .tagging | .tagged => if r.keySlot.isSome then .decipher else .zero
    | _ => .zero

/-! ## The line-side write (R69) -/

/-- A line-side write to an OUTBOUND slot: ERROR and CONFLICT, and a FILLING slot fails or a TAGGING one is disturbed. -/
def State.outboundLine (s : State) (t : Transaction) (p : Place) (n : Nat) : State :=
  let bound := (s.windows[p.window]).bind (·.channel)
  let s1 := (s.answer t false).recordFault (occurrence .conflict bound (some p.window) p.slot (some t.initiator))
  match s1.slotRec n with
  | none => s1
  | some r =>
    match r.state with
    | .filling => (s1.failOutbound n .disturbed).disturbedFault r t.initiator
    | .tagging => (s1.disturb n).disturbedFault r t.initiator
    | _ => s1

/-! ## The frame write (R64 to R66) -/

/-- The bytes of an outbound frame write (R24, R64). -/
def State.frameBytes (s : State) (r : SlotRec) (len : Nat) (tag : Block) : List Byte :=
  frameHeader kindData (chanByte r.channel) (r.gen.getD 0) (r.seq.getD 0) s.shop len ++ blockBytes tag

/-- The tag of an outbound frame is in hand: the frame write is requested, or a disturbed slot fails (R64, R66). -/
def State.outboundTag (s : State) (n : Nat) (tag : Block) : State :=
  match s.slotRec n with
  | none => s
  | some r =>
    if r.reason = .disturbed then s.failOutbound n .disturbed
    else
      match r.finish, r.opening with
      | some f, some o =>
        ((s.setRec n fun r => { r with frameAsked := true }).setFinish n fun f => { f with tag := some tag }).askSlot
          (.frameWrite n o) 1 r 0 (.write (strobeAll (s.frameBytes r f.len tag)))
      | _, _ => s

/-- A tagged frame's bytes counted and debited (R64, R110, R125). -/
def State.payFrame (s : State) (r : SlotRec) (len : Nat) (quiet : Bool) : State :=
  let s1 := match r.keySlot with
    | some k => s.addBytes k (frameSize len)
    | none => s
  match r.channel with
  | some c => s1.debit c (frameSize len) (some r.window) (some r.slot) quiet
  | none => s1

/-- The frame write of a TAGGING slot is answered OKAY: TAGGED, or FAILED when a disturbance or a late error stands
(R64, R66, R70). -/
def State.frameLanded (s : State) (n : Nat) : State :=
  match s.slotRec n with
  | none => s
  | some r =>
    let len := (r.finish.map (·.len)).getD 0
    if r.reason = .none then
      let s1 := (s.setRec n fun r => { r with
          state := .tagged, finish := none, frameAsked := false, retouched := false }).payFrame r len false
      if r.retouched then s1.askResult n else s1
    else (s.payFrame r len false).failOutbound n r.reason

/-- The reason of a slot whose finish or frame write fails: a disturbance or a late error noted before stands (R65, R66). -/
def SlotRec.failReason (r : SlotRec) (why : Reason) : Reason := if r.reason = .none then why else r.reason

/-! ## A late downstream error (R70) -/

/-- A passed clear-side payload write of the slot's present opening was answered ERROR (R70). -/
def State.outboundLate (s : State) (e : TransitEntry) (n : Nat) : State :=
  match s.slotRec n with
  | none => s
  | some r =>
    if e.fills && e.opening.isSome && decide (r.opening = e.opening) then
      match r.state with
      | .filling => s.clearValid n
      | .tagging =>
        match r.stage with
        | some .waiting | some .settled => s.clearValid n
        | _ =>
          if r.reason = .disturbed then s
          else if r.frameAsked then s.setRec n fun r => { r with reason := .memory }
          else s.failOutbound n .memory
      | _ => s
    else s

end Sys2Proof.Machine
end

