-- ==== Sys2Proof/Machine/Renewal.lean ====
section
/-!
DEFINITION. The Renewal Engine's shared operations: promotion (R129, R130), the offer hold and its loading (R139, R140),
seating and the end of an install (R141, R142), the confirmation (R143), and the reading of an offer's payload (R26).
-/

namespace Sys2Proof.Machine

/-! ## Key events and the protocol notice list -/

/-- A KEY_EVENT report record is handed on (R129, R142). -/
def State.keyEvent (s : State) (c : Fin 16) (promoted : Bool) (k : Fin 32) : State :=
  s.handReport ⟨.keyEvent promoted (s.key k).gen k (s.key k).serial, chanByte (some c), none, none, s.time.ms⟩

/-- A waiting RENEW_REQUEST of a channel removed (R130). -/
def State.dropRenewRequest (s : State) (c : Fin 16) : State :=
  s.setProto (s.notices.list.filter fun e => !e.like ⟨c, .renewRequest .requested⟩)

/-- A waiting KEY_CONFIRM that names a key slot removed (R141). -/
def State.dropConfirmOf (s : State) (k : Fin 32) : State :=
  s.setProto (s.notices.list.filter fun e => decide (e.kind ≠ .keyConfirm k))

/-! ## Promotion (R129, R130) -/

/-- The channel's roles, timers and renewal state after a promotion (R129 steps 1 to 4). -/
def Channel.promoted (c : Channel) : Channel :=
  { c with
    prev := c.cur
    cur := c.next
    next := none
    grace := if c.cur.isSome then .running c.graceSecs else .stopped
    cutover := .stopped
    cutoverKey := none
    renewal := .idle }

/-- The new CURRENT judged for the budget (R130): a key that was spent while NEXT makes its SPENT request now. -/
def State.judgePromoted (s : State) (k : Fin 32) : State :=
  if (s.key k).spent then (s.spentCurrent k).judgeMarks k else s.judgeMarks k

/-- A key slot judged when there is one. -/
def State.judgeKeyOf (s : State) (k : Option (Fin 32)) : State :=
  match k with
  | some k => s.judgeKey k
  | none => s

/-- A promotion on a channel; nothing without a NEXT key (R129, R130). -/
def State.promote (s : State) (c : Fin 16) : State :=
  match (s.chan c).next with
  | none => s
  | some k =>
    let s1 := (s.setChan c Channel.promoted).setKey k fun x => { x with state := .active }
    (((s1.judgeKeyOf (s.chan c).prev).keyEvent c true k).dropRenewRequest c).judgePromoted k

/-! ## The offer hold and its loading (R139, R140) -/

/-- The claim on a slot given up (R94). -/
def State.unclaim (s : State) (n : Nat) : State := s.setRec n fun r => { r with claimed := false }

/-- The hold cleared with its loading, its buffer, its claim and its reference (R140, R146). -/
def State.clearHold (s : State) (c : Fin 16) : State :=
  match (s.chan c).hold with
  | none => s
  | some h =>
    ((s.setChan c fun x => { x with hold := none, loading := none, installBuf := none }).unclaim h.recNo).dropRef h.key

/-- The read of an offer's payload requested: slot offsets 32 to 95, eight beats (R136). -/
def State.askOffer (s : State) (c : Fin 16) (work n : Nat) : State :=
  match s.slotRec n with
  | none => s
  | some r => s.askSlot (.offerRead c work) 2 r 32 (.read 8)

/-- A reading of an offer begins to be kept. -/
def OfferWork.begin (id n : Nat) : OfferWork := ⟨id, n, none, [none, none, none, none]⟩

/-- The loading of the held offer starts (R140). -/
def State.startLoading (s : State) (c : Fin 16) : State :=
  match (s.chan c).hold with
  | none => s
  | some h =>
    ((s.setChan c fun x => { x with loading := some (OfferWork.begin s.stamp h.recNo) }).bump).askOffer c s.stamp h.recNo

/-- The fault on a channel with the window and slot of an offer's record. (DEDUCED, notes/assumptions/20.md.) -/
def State.offerFault (s : State) (c : Fin 16) (cls : FaultClass) (n : Nat) : State :=
  let r := s.slotRec n
  s.recordFault (occurrence cls (some c) (r.map (·.window)) (r.map (·.slot)) none)

/-- The held offer displaced (R139 step 1). -/
def State.displaceHold (s : State) (c : Fin 16) : State :=
  match (s.chan c).hold with
  | none => s
  | some h => (s.clearHold c).offerFault c .offerDisplaced h.recNo

/-- A PASSED new offer is handed on: claimed and held with a key slot, or dropped with KEY_STORE_FULL (R139). -/
def State.handOn (s : State) (c : Fin 16) (n : Nat) (serial : BitVec 32) (gen : Byte) : State :=
  let s1 := s.displaceHold c
  match s1.allocate c with
  | none => s1.offerFault c .keyStoreFull n
  | some (k, s2) =>
    let s3 := (s2.setRec n fun r => { r with claimed := true }).setChan c fun x =>
      { x with hold := some ⟨n, serial, gen, k⟩ }
    if (s3.chan c).renewal = .installing then s3 else s3.startLoading c

/-! ## The payload of an offer (2.4, R26) -/

/-- The bytes of an offer's plaintext. -/
def offerBytes (plain : List Block) : List Byte := plain.flatMap blockBytes

/-- The number in bytes i to j − 1 of an offer. -/
def offerField (plain : List Block) (i j : Nat) : Nat := beNat (((offerBytes plain).drop i).take (j - i))

/-- The zero fields of an offer are zero (R26, R137 check 1). -/
def offerZeros (plain : List Block) : Bool := offerField plain 4 8 == 0 && offerField plain 56 64 == 0

/-- The offered generation (R26). -/
def offerGen (plain : List Block) : Byte := BitVec.ofNat 8 (offerField plain 0 1)

/-- The offer nonce. -/
def offerNonce (plain : List Block) : BitVec 64 := BitVec.ofNat 64 (offerField plain 8 16)

/-- The offered generation is acceptable against the channel's roles (R137 check 2). -/
def State.genAcceptable (s : State) (c : Fin 16) (g : Byte) : Bool :=
  match (s.chan c).cur with
  | none => true
  | some k => g == (s.key k).gen + 1

/-- Both checks of R137. -/
def State.offerAcceptable (s : State) (c : Fin 16) (plain : List Block) : Bool :=
  offerZeros plain && s.genAcceptable c (offerGen plain)

/-- A key slot loaded from an offer's plaintext, clamped as R26 reads it (R124, R141 step 2). -/
def KeySlot.loadOffer (k : KeySlot) (plain : List Block) (serial : BitVec 32) : KeySlot :=
  let limit := offerField plain 16 20
  let units := offerField plain 20 24
  let life := offerField plain 2 4
  { k with
    load := .part
    gen := offerGen plain
    material := BitVec.ofNat 256 (offerField plain 24 56)
    serial := serial
    nonce := offerNonce plain
    frameLimit := if limit = 0 then Config.top32 else limit
    byteLimit := if units = 0 then none else some units
    softPercent := min 95 (max 50 (offerField plain 1 2))
    lifetime := if life = 0 then none else some life
    minutes := life }

/-! ## Seating and the end of an install (R141, R142) -/

/-- The held offer is seated (R141). -/
def State.seat (s : State) (c : Fin 16) (plain : List Block) : State :=
  match (s.chan c).hold with
  | none => s
  | some h =>
    let first := (s.chan c).cur.isNone
    let role : KeyRole := if first then .current else .next
    let old := if first then none else (s.chan c).next
    let s1 :=
      if first then
        (s.setChan c fun x => { x with cur := some h.key }).setKey h.key fun x => { x with state := .active }
      else s.setChan c fun x => { x with next := some h.key }
    let s2 := match old with
      | some o => (s1.judgeKey o).dropConfirmOf o
      | none => s1
    let s3 := s2.setKey h.key fun x => { x.loadOffer plain h.serial with seatedAs := some role }
    let s4 := (s3.setChan c fun x =>
      { x with hold := none, loading := none, installBuf := none, cutover := .stopped, cutoverKey := none,
               renewal := .installing, installing := some (h.key, role) }).unclaim h.recNo
    (s4.untakeRef h.key).askCipher ⟨.hashSubkey, .slot h.key, 0⟩

/-- The plaintext of a loading is in hand: placed in the install buffer, checked again, and seated or discarded with
KEY_SEQUENCE (R140). -/
def State.endLoading (s : State) (c : Fin 16) (plain : List Block) : State :=
  match (s.chan c).hold with
  | none => s
  | some h =>
    let s1 := s.setChan c fun x => { x with installBuf := some plain, loading := none }
    if s1.offerAcceptable c plain then s1.seat c plain
    else (s1.clearHold c).offerFault c .keySequence h.recNo

/-- Whether the install of a key slot is current (R142). -/
def State.installCurrent (s : State) (c : Fin 16) (k : Fin 32) : Bool :=
  match (s.chan c).installing with
  | some (i, role) => decide (i = k) && decide (s.keyRole k = some role)
  | none => false

/-- A current install ends (R142 steps 1 to 5). -/
def State.endInstall (s : State) (c : Fin 16) (k : Fin 32) : State :=
  let s1 := (s.handProto ⟨c, .keyConfirm k⟩).setChan c fun x => { x with renewal := .confirming, installing := none }
  (s1.keyEvent c false k).startLoading c

/-- The hash subkey of a key slot returns: it is stored, and the install ends, current or discarded (R33, R142).
(DEDUCED, notes/assumptions/15.md.) -/
def State.subkeyReturn (s : State) (k : Fin 32) (h : Block) : State :=
  let s1 := s.setKey k fun x => { x with subkey := h, load := .loaded }
  match (s.key k).owner with
  | none => s1
  | some c => if s.installCurrent c k then s1.endInstall c k else s1.judgeKey k

/-! ## Confirmation (R143, R144) -/

/-- A KEY_CONFIRM for a key slot has been tagged on a channel: nothing unless the channel is CONFIRMING and the key slot
holds the role that the confirmation was for, the one that seating gave it (R143). (DEDUCED, notes/assumptions/24.md.) -/
def State.confirmTagged (s : State) (c : Fin 16) (k : Fin 32) : State :=
  if (s.chan c).renewal ≠ .confirming then s
  else if (s.chan c).next = some k ∧ (s.key k).seatedAs = some .next then
    s.setChan c fun x =>
      { x with renewal := .cutoverWait, cutover := .running x.cutoverSecs, cutoverKey := some k }
  else if (s.chan c).cur = some k ∧ (s.key k).seatedAs = some .current then
    s.setChan c fun x => { x with renewal := .idle }
  else s

end Sys2Proof.Machine
end

