-- ==== Sys2Proof/Machine/Inbound.lean ====
section
/-!
DEFINITION. The Inbound Frame Unit's operations (chapter 5) and the rulings of the Renewal Engine on KEY_OFFER frames
(R135 to R138): arrival, the parse, key choice, the pre-check, the verdict and what it acts on, the clear-side header
write, the gated read, and the late downstream error.
-/

namespace Sys2Proof.Machine

/-! ## The verdict (R84, R87 to R89, R157) -/

/-- An inbound slot leaves for REJECTED with this reason and asks for its header result write (R88). Its reference is
the caller's to drop. -/
def State.rejectRec (s : State) (n : Nat) (why : Reason) : State :=
  (s.setRec n fun r => { r with
      state := .rejected, reason := why, key := none, opening := none, finish := none, tagRead := none,
      noted := none }).askResult n

/-- The fault of a REJECTED verdict that the Inbound Frame Unit records (R88). A ruling's faults and TAG_MISMATCH are
recorded where they arise. -/
def verdictFault : Reason → Option FaultClass
  | .malformed => some .malformed
  | .replayed => some .replayed
  | .noKey => some .noKey
  | _ => none

/-- An optional fault of a class on a slot recorded. -/
def State.slotFaultOf (s : State) (cls : Option FaultClass) (r : SlotRec) : State :=
  match cls with
  | some cls => s.recordFault (slotFault cls r none)
  | none => s

/-- A verdict of REJECTED with its reference dropped and this fault (R88). -/
def State.reject (s : State) (n : Nat) (why : Reason) (cls : Option FaultClass) : State :=
  match s.slotRec n with
  | none => s
  | some r => ((s.rejectRec n why).dropRefOf r.keySlot).slotFaultOf cls r

/-- A rise of a channel's consecutive reject count, and the storm at the threshold (R89, R157). -/
def State.raiseRejects (s : State) (c : Fin 16) (r : SlotRec) : State :=
  let count := min ((s.chan c).rejects + 1) 255
  if 1 ≤ (s.chan c).threshold ∧ (s.chan c).threshold ≤ count then
    (s.setChan c fun x => { x with rejects := 0 }).recordFault (slotFault .integrityStorm { r with channel := some c } none)
  else s.setChan c fun x => { x with rejects := count }

/-- A verdict of REJECTED(TAG) (R84, R89). -/
def State.rejectTag (s : State) (n : Nat) : State :=
  match s.slotRec n with
  | none => s
  | some r =>
    let s1 := s.reject n .tag (some .tagMismatch)
    match r.channel with
    | some c => s1.raiseRejects c r
    | none => s1

/-- What a PASSED KEY_OFFER goes on to (R137, R138). -/
inductive OfferPass where
  /-- A new offer, with its serial and offered generation. -/
  | fresh (serial : BitVec 32) (gen : Byte)
  /-- The retransmission of an offer whose key is in this slot. -/
  | repeated (key : Fin 32)
  deriving DecidableEq, Repr

/-- A verdict of PASSED: the slot, its header result write and the channel's reject count (R88, R89). -/
def State.passRec (s : State) (n : Nat) : State :=
  let s1 := (s.setRec n fun r => { r with
      state := .passed, reason := .none, opening := none, finish := none, tagRead := none, noted := none }).askResult n
  match (s.slotRec n).bind (·.channel) with
  | some c => s1.setChan c fun x => { x with rejects := 0 }
  | none => s1

/-- A DATA frame passes: a frame under NEXT promotes (R89, R145). -/
def State.passData (s : State) (n : Nat) : State :=
  let s1 := s.passRec n
  match s.slotRec n with
  | none => s1
  | some r =>
    match r.channel, r.keySlot with
    | some c, some k => if s1.keyRole k = some .next then s1.promote c else s1
    | _, _ => s1

/-- A KEY_OFFER passes: a new offer is handed on, a retransmission confirmed again (R89, R138, R139). -/
def State.passOffer (s : State) (n : Nat) (c : Fin 16) (what : OfferPass) : State :=
  match what with
  | .fresh serial gen => (s.passRec n).handOn c n serial gen
  | .repeated k => (s.passRec n).handProto ⟨c, .keyConfirm k⟩

/-! ## The compare (R82 to R86) -/

/-- A DATA frame whose tag matched: the replay decision and the channel's state (R85, R87). (DEDUCED,
notes/assumptions/21.md.) -/
def State.decideData (s : State) (n : Nat) (r : SlotRec) : State :=
  match r.channel, r.keySlot with
  | some c, some k =>
    match (s.key k).replayDecision (r.seq.getD 0).toNat with
    | none => s.reject n .replayed (some .replayed)
    | some window =>
      let s1 := s.setKey k fun _ => window
      match (s.chan c).state with
      | .opened => s1.passData n
      | .guarded => s1.reject n .channelGuarded none
      | .disabled => s1.reject n .channelDown none
  | _, _ => s

/-- The finished tag and the tag read are compared when both are in hand (R82, R84 to R86). (DEDUCED,
notes/assumptions/21.md.) -/
def State.tryCompare (s : State) (n : Nat) : State :=
  match s.slotRec n with
  | none => s
  | some r =>
    match r.state, r.finish.bind (·.tag), r.tagRead with
    | .checking, some tag, some held =>
      match r.noted with
      | some why => s.reject n why none
      | none =>
        if tag ≠ held then s.rejectTag n
        else if r.kind = some kindOffer then
          match r.channel with
          | some c => s.setChan c fun x => { x with rulingQueue := x.rulingQueue ++ [n] }
          | none => s
        else s.decideData n r
    | _, _, _ => s

/-- A reason noted on a CHECKING slot; the first stands (R82). It is kept beside the record's reason, which byte 15 of a
declined header write forwards, until the verdict. (DEDUCED, notes/assumptions/26.md.) -/
def State.note (s : State) (n : Nat) (why : Reason) : State :=
  s.setRec n fun r => { r with noted := r.noted.or (some why) }

/-- The tag of an inbound frame is in hand (R39, R82). -/
def State.inboundTag (s : State) (n : Nat) (tag : Block) : State :=
  (s.setFinish n fun f => { f with tag := some tag }).tryCompare n

/-! ## Rulings (R135 to R138) -/

/-- A ruling ends: the slot leaves the head of its channel's ruling queue. -/
def State.endRuling (s : State) (c : Fin 16) : State :=
  s.setChan c fun x => { x with ruling := none, rulingQueue := x.rulingQueue.tail }

/-- The verdict of a ruling that refuses: its own fault, and a noted reason before its reason (R86, R135). (DEDUCED,
notes/assumptions/15.md.) -/
def State.rulingReject (s : State) (c : Fin 16) (n : Nat) (why : Reason) (cls : FaultClass) : State :=
  let s1 := (s.endRuling c).offerFault c cls n
  s1.reject n (((s.slotRec n).bind (·.noted)).getD why) none

/-- The verdict of a ruling that returns PASSED: a noted reason before it, and the channel's state (R86, R87). (DEDUCED,
notes/assumptions/21.md.) -/
def State.rulingPass (s : State) (c : Fin 16) (n : Nat) (what : OfferPass) : State :=
  let s1 := s.endRuling c
  match (s.slotRec n).bind (·.noted) with
  | some why => s1.reject n why none
  | none =>
    match (s.chan c).state with
    | .disabled => s1.reject n .channelDown none
    | .guarded | .opened => s1.passOffer n c what

/-- The offer high mark raised. -/
def State.raiseHighMark (s : State) (c : Fin 16) (serial : Nat) : State :=
  s.setChan c fun x => { x with highMark := serial }

/-- A ruling begins on the slot at the head of a channel's ruling queue, also where a reason was noted on it while it
waited (R86, R135). (DEDUCED, notes/assumptions/15.md.) -/
def State.startRuling (s : State) (c : Fin 16) (n : Nat) : State :=
  match s.slotRec n with
  | none => s.endRuling c
  | some r =>
    let serial := (r.seq.getD 0).toNat
    let mark := (s.chan c).highMark
    if serial < mark then s.rulingReject c n .replayed .replayed
    else if r.length = some 64 then
      ((s.setChan c fun x => { x with ruling := some (OfferWork.begin s.stamp n) }).bump).askOffer c s.stamp n
    else if serial = mark then s.rulingReject c n .replayed .replayed
    else (s.raiseHighMark c serial).rulingReject c n .malformed .keySequence

/-- The key slot in role NEXT or CURRENT, LOADED, that an offer repeats (R138). -/
def State.repeatOf (s : State) (c : Fin 16) (serial : BitVec 32) (plain : List Block) : Option (Fin 32) :=
  [(s.chan c).next, (s.chan c).cur].findSome? fun
    | some k =>
      if (s.key k).load = .loaded ∧ (s.key k).serial = serial ∧ (s.key k).nonce = offerNonce plain then some k else none
    | none => none

/-- A ruling is settled with the payload in hand (R137, R138). -/
def State.settleRuling (s : State) (c : Fin 16) (n : Nat) (plain : List Block) : State :=
  match s.slotRec n with
  | none => s.endRuling c
  | some r =>
    let serial := r.seq.getD 0
    if (s.chan c).highMark < serial.toNat then
      let s1 := s.raiseHighMark c serial.toNat
      if s1.offerAcceptable c plain then s1.rulingPass c n (.fresh serial (offerGen plain))
      else s1.rulingReject c n .malformed .keySequence
    else
      match s.repeatOf c serial plain with
      | some k => s.rulingPass c n (.repeated k)
      | none => s.rulingReject c n .replayed .replayed

/-- The read of a ruling fails: the reason is noted and is the verdict (R83, R136). -/
def State.failRuling (s : State) (c : Fin 16) (n : Nat) (why : Reason) : State :=
  (s.endRuling c).reject n (((s.slotRec n).bind (·.noted)).getD why) none

/-! ## Arrival (R74 to R78) -/

/-- The record of a slot that a line-side write opens (R36, R74). -/
def SlotRec.arrive (r : SlotRec) (opening : Nat) : SlotRec :=
  { r with state := .arriving, acc := 0, valid := true, folded := [], whole := [], opening := some opening }

/-- The number that header bytes lo to hi − 1 of a write spell. -/
def headerField (bytes : List (Option Byte)) (off lo hi : Nat) : Nat := beNat (strobedRun bytes off lo hi)

/-- Every check of the parse passes (R25). -/
def headerSound (bytes : List (Option Byte)) (off : Nat) (shop : BitVec 32) : Bool :=
  let field := headerField bytes off
  field 0 1 == 0x31 && (field 1 2 == 1 || field 1 2 == 2) && decide (field 2 3 ≤ 15) && decide (1 ≤ field 4 8) &&
    field 8 12 == shop.toNat && decide (field 12 14 ≤ Config.maxPayload)

/-- The channel that a byte names. -/
def channelOf (v : Nat) : Option (Fin 16) := if h : v < 16 then some ⟨v, h⟩ else none

/-- The record with the fields of a parsed header (R25). -/
def SlotRec.parsed (r : SlotRec) (bytes : List (Option Byte)) (off : Nat) (sound : Bool) : SlotRec :=
  let field := headerField bytes off
  { r with
    kind := some (BitVec.ofNat 8 (field 1 2))
    channel := channelOf (field 2 3)
    gen := some (BitVec.ofNat 8 (field 3 4))
    seq := some (BitVec.ofNat 32 (field 4 8))
    length := some (field 12 14)
    headerSeen := true
    reason := if sound then r.reason else .malformed }

/-- The key slot of a channel whose generation is g: CURRENT, then NEXT, then PREVIOUS (R76). -/
def State.keyOfGen (s : State) (c : Fin 16) (g : Byte) : Option (Fin 32) :=
  [(s.chan c).cur, (s.chan c).next, (s.chan c).prev].findSome? fun
    | some k => if (s.key k).gen = g then some k else none
    | none => none

/-- The key choice and the pre-check of a header that is not malformed (R76, R77). -/
def State.chooseKey (s : State) (n : Nat) (r : SlotRec) : State :=
  let noKey := s.setRec n fun r => { r with reason := .noKey }
  match r.channel with
  | none => noKey
  | some c =>
    if r.kind = some kindOffer then
      if s.fuses.programmed then
        s.setRec n fun r => { r with
          key := some .root, doomed := decide ((r.seq.getD 0).toNat < (s.chan c).highMark) }
      else noKey
    else
      match s.keyOfGen c (r.gen.getD 0) with
      | none => noKey
      | some k =>
        let seq := (r.seq.getD 0).toNat
        (s.setRec n fun r => { r with
          key := some (.slot k),
          doomed := (s.key k).passedPosition seq || (s.key k).tooOld seq }).takeRef k

/-- A header is parsed, its key chosen and its pre-check made (R25, R75). -/
def State.parseHeader (s : State) (n : Nat) (bytes : List (Option Byte)) (off : Nat) : State :=
  let sound := headerSound bytes off s.shop
  let s1 := s.setRec n fun r => r.parsed bytes off sound
  match s1.slotRec n with
  | some r => if sound then s1.chooseKey n r else s1
  | none => s1

/-- The header bytes of a line-side write to an ARRIVING slot (R75). (DEDUCED, notes/assumptions/21.md.) -/
def State.arriveHeader (s : State) (n : Nat) (bytes : List (Option Byte)) (off : Nat) : State :=
  match s.slotRec n with
  | none => s
  | some r =>
    if r.headerSeen then
      if strobesIn bytes off 0 14 then
        s.setRec n fun r => { r with reason := if r.reason = .memory then .memory else .malformed }
      else s
    else if strobesAll bytes off 0 16 then s.parseHeader n bytes off
    else s

/-- Whether a record's reason or its doomed flag keeps its payload from the accumulator (R78). -/
def SlotRec.condemned (r : SlotRec) : Bool :=
  decide (r.reason = .malformed) || decide (r.reason = .noKey) || decide (r.reason = .memory) || r.doomed

/-- One payload block of a line-side write to an ARRIVING slot (R78). -/
def State.arriveBlock (s : State) (n : Nat) (bytes : List (Option Byte)) (off b : Nat) : State :=
  match s.slotRec n with
  | none => s
  | some r =>
    let run := blockBytesIn bytes off b
    let len := r.length.getD 0
    if !r.headerSeen then s.clearValid n
    else if r.condemned then s
    else if blockCount len < b then s
    else if run.all Option.isSome then s.fold n b (blockOfStrobed run) true
    else if b = blockCount len ∧ 0 < tailOf len ∧ r.folded.contains b = false then s
    else s.clearValid n

/-- The payload bytes of a line-side write to an ARRIVING slot, block by block (R78). -/
def State.arrivePayload (s : State) (n : Nat) (bytes : List (Option Byte)) (off : Nat) : State :=
  (blocksStrobed bytes off).foldl (fun st b => st.arriveBlock n bytes off b) s

/-- A line-side write to an ARRIVING slot takes effect and is forwarded as it came (R74). -/
def State.arriveWrite (s : State) (t : Transaction) (p : Place) (n : Nat) (bytes : List (Option Byte)) : State :=
  let s1 := (s.arriveHeader n bytes p.off).arrivePayload n bytes p.off
  s1.enter { s1.plainEntry t (some p) with opening := (s1.slotRec n).bind (·.opening) }

/-- A line-side write to an INBOUND slot (R74, R91, R92). -/
def State.inboundLine (s : State) (t : Transaction) (p : Place) (n : Nat) (bytes : List (Option Byte)) : State :=
  match s.slotRec n with
  | none => s
  | some r =>
    match r.state with
    | .free => ((s.setRec n fun r => r.arrive s.stamp).bump).arriveWrite t p n bytes
    | .arriving => s.arriveWrite t p n bytes
    | .checking => ((s.answer t false).note n .disturbed).disturbedFault r t.initiator
    | _ => (s.answer t false).recordFault (slotFault .overrun r (some t.initiator))

/-! ## The clear-side header write (R80, R81, R94) -/

/-- Whether the channel that a record names is DISABLED. -/
def State.channelDisabled (s : State) (r : SlotRec) : Bool :=
  match r.channel with
  | some c => decide ((s.chan c).state = .disabled)
  | none => false

/-- The early verdict of a CHECK, in its order: the reason, when one applies (R81). -/
def State.earlyVerdict (s : State) (r : SlotRec) : Option Reason :=
  if !r.headerSeen then some .malformed
  else if r.reason = .malformed ∨ r.reason = .memory then some r.reason
  else if s.channelDisabled r then some .channelDown
  else if r.reason = .noKey then some .noKey
  else if r.doomed then some .replayed
  else none

/-- A CHECK taken in ARRIVING (R81, R82). -/
def State.takeCheck (s : State) (n : Nat) : State :=
  match s.slotRec n with
  | none => s
  | some r =>
    match s.earlyVerdict r with
    | some why => s.reject n why (verdictFault why)
    | none =>
      (s.setRec n fun r => { r with
          state := .checking, finish := some (Finish.begin (r.length.getD 0)), tagRead := none,
          noted := none }).askSlot (.tagRead n (r.opening.getD 0)) 0 r 16 (.read 2)

/-- A state request in byte 14 of a clear-side header write to an INBOUND slot (R80, R94). -/
def State.inboundRequest (s : State) (n : Nat) (request : Option Byte) : State :=
  match request, s.slotRec n with
  | some v, some r =>
    match r.state with
    | .arriving => if v = 5 then s.takeCheck n else s
    | .passed => if v = 0 ∧ r.claimed = false then s.releaseRec n else s
    | .rejected => if v = 0 then s.releaseRec n else s
    | _ => s
  | _, _ => s

/-- A clear-side header write's bytes without its strobes on bytes 0 to 13 (R22, R23, R163). -/
def headerBytes (bytes : List (Option Byte)) (off : Nat) : List (Option Byte) :=
  mapOffsets bytes off fun k b => if k < 14 then none else b

/-- A clear-side header write to an INBOUND slot (R80). -/
def State.inboundHeader (s : State) (t : Transaction) (p : Place) (n : Nat) (bytes : List (Option Byte)) : State :=
  let kept := headerBytes bytes p.off
  if kept.all Option.isNone then s.answer t true
  else
    let e : TransitEntry := { s.plainEntry t (some p) with access := .write kept }
    ((s.enter e).inboundRequest n (strobedAt bytes p.off 14)).mirrorEntry e.id n p.off

/-! ## Wrong-side and late events (R79, R93) and the clear-side read (R90) -/

/-- A clear-side write with a strobe beyond the header of an INBOUND slot: ERROR and CONFLICT, and an ARRIVING slot is
REJECTED(DISTURBED) (R10, R11, R93). -/
def State.inboundPayload (s : State) (t : Transaction) (p : Place) (n : Nat) : State :=
  let ch := (s.slotRec n).bind (·.channel)
  let s1 := (s.answer t false).recordFault (occurrence .conflict ch (some p.window) p.slot (some t.initiator))
  match s1.slotRec n with
  | none => s1
  | some r =>
    if r.state = .arriving then (s1.reject n .disturbed none).disturbedFault r t.initiator else s1

/-- Whether a clear-side read of an INBOUND slot's payload is let through (R90). -/
def SlotRec.readable (r : SlotRec) : Bool := decide (r.state = .passed) && decide (r.kind = some kindData)

/-- The treatment of a byte of an INBOUND slot in a clear-side read (R90). -/
def inboundTreat (r : SlotRec) (k : Nat) : Treat :=
  if k < 32 then .raw
  else if r.readable && decide (k < 32 + r.length.getD 0) then .decipher
  else .zero

/-- A clear-side read of an INBOUND slot (R90). -/
def State.inboundRead (s : State) (t : Transaction) (p : Place) (n : Nat) (beats : Nat) : State :=
  match s.slotRec n with
  | none => s
  | some r =>
    if !r.readable && decide (32 < p.off + 8 * beats) then
      let s1 := s.recordFault (slotFault .gatedRead r (some t.initiator))
      if 32 ≤ p.off then s1.answer t true else s1.forwardRead t p beats r (inboundTreat r)
    else s.forwardRead t p beats r (inboundTreat r)

/-- A passed line-side write of the slot's present arrival was answered ERROR (R79). -/
def State.inboundLate (s : State) (e : TransitEntry) (n : Nat) : State :=
  match s.slotRec n, e.access with
  | some r, .write bytes =>
    let off := e.start % Config.slotBytes
    let header := strobesIn bytes off 0 14
    let payload := strobesIn bytes off 32 Config.slotBytes
    if !e.clear && e.opening.isSome && decide (r.opening = e.opening) then
      match r.state with
      | .arriving =>
        let s1 := if header then s.setRec n fun r => { r with reason := .memory } else s
        if payload then s1.clearValid n else s1
      | .checking =>
        let s1 := if header then s.note n .memory else s
        if payload then
          (match r.stage with
            | some .waiting => s1.clearValid n
            | _ => s1.note n .memory)
        else s1
      | _ => s
    else s
  | _, _ => s

end Sys2Proof.Machine
end

