-- ==== Sys2Proof/Machine/Accept.lean ====
section
/-!
DEFINITION. The acceptance of a transaction at the upstream port (R9 to R11), whole: classification, dispatch, and the
handler's effect; and the rows of the command table that are an acceptance: TRANSACTION_ACCEPT for every transaction,
and one row for each handler, which is the same acceptance of a transaction that the classification sends there
(notes/assumptions/6.md).
-/

namespace Sys2Proof.Machine

/-- The byte entries of a write; none for a read. -/
def bytesOf : Access → List (Option Byte)
  | .read _ => []
  | .write bytes => bytes

/-- A transaction is refused: ERROR, nothing forwarded, and the fault with its window, slot and initiator (R9 to R11). -/
def State.refuse (s : State) (t : Transaction) (cls : FaultClass) (channel : Option (Fin 16)) (p : Place) : State :=
  (s.answer t false).recordFault (occurrence cls channel (some p.window) p.slot (some t.initiator))

/-- The channel of a CONFLICT in a window that is not OUTBOUND: the record's, when it names one (R11). -/
def State.placeChannel (s : State) (p : Place) : Option (Fin 16) :=
  (p.recNo.bind s.slotRec).bind (·.channel)

/-- A clear-side write to a NOTICE slot with strobes in bytes 0 to 15 alone: a release, or CONFLICT (R163). Of a release
bytes 14 and 15 are forwarded as 0, each where the write strobes it. (DEDUCED, notes/assumptions/27.md.) -/
def State.noticeHeader (s : State) (t : Transaction) (p : Place) (n : Nat) (bytes : List (Option Byte)) : State :=
  match s.slotRec n with
  | none => s
  | some r =>
    if decide (strobedAt bytes p.off 14 = some 0) && (decide (r.state = .tagged) || decide (r.state = .free)) then
      let kept := mapOffsets bytes p.off fun k b => if k < 14 then none else if k < 16 then b.map fun _ => 0 else none
      let s1 := s.enter { s.plainEntry t (some p) with access := .write kept }
      if r.state = .tagged then s1.releaseRec n else s1
    else s.refuse t .conflict r.channel p

/-- The effect of an accepted transaction by its route (R9, R10). -/
def State.acceptAt (s : State) (t : Transaction) (p : Place) : Route → State
  | .untouched | .raw | .pageWrite => s.enter (s.plainEntry t (some p))
  | .busProtocol => s.refuse t .busProtocol none p
  | .blocked => s.refuse t .blockedInitiator none p
  | .conflict => s.refuse t .conflict (s.placeChannel p) p
  | .outboundClearWrite => s.outboundWrite t p (p.recNo.getD Config.poolSize) (bytesOf t.access)
  | .outboundClearRead =>
    match s.slotRec (p.recNo.getD Config.poolSize) with
    | some r => s.forwardRead t p t.access.beats r (outboundTreat r)
    | none => s
  | .outboundLineWrite => s.outboundLine t p (p.recNo.getD Config.poolSize)
  | .inboundLineWrite => s.inboundLine t p (p.recNo.getD Config.poolSize) (bytesOf t.access)
  | .inboundClearHeader => s.inboundHeader t p (p.recNo.getD Config.poolSize) (bytesOf t.access)
  | .inboundClearPayload => s.inboundPayload t p (p.recNo.getD Config.poolSize)
  | .inboundClearRead => s.inboundRead t p (p.recNo.getD Config.poolSize) t.access.beats
  | .noticeClearHeader => s.noticeHeader t p (p.recNo.getD Config.poolSize) (bytesOf t.access)

/-- A transaction is accepted (R9): outside every window it is passed unchanged, otherwise it goes its route. -/
def State.accept (s : State) (t : Transaction) : State :=
  match s.placeOf t with
  | none => s.enter (s.plainEntry t none)
  | some p => s.acceptAt t p (s.routeOf t)

/-- An acceptance under a row's name: a transaction that is no burst is a fault; nothing happens while the port does not
accept (R12, R21, R3) or when the transaction is not the row's. -/
def acceptWhen (mine : Bool) (t : Transaction) (s : State) : Host.Outcome State Fault Refusal :=
  if t.wellFormed then
    if s.accepting && mine then done (s.accept t) else idle s
  else .fault .notABurst

/-! ## The rows -/

/-- TRANSACTION_ACCEPT (R9). -/
def execTransactionAccept (t : Transaction) (s : State) : Host.Outcome State Fault Refusal := acceptWhen true t s

/-- OUTBOUND_CLEAR_WRITE (R51). -/
def execOutboundClearWrite (t : Transaction) (s : State) : Host.Outcome State Fault Refusal :=
  acceptWhen (decide (s.routeOf t = .outboundClearWrite)) t s

/-- OUTBOUND_CLEAR_READ (R62). -/
def execOutboundClearRead (t : Transaction) (s : State) : Host.Outcome State Fault Refusal :=
  acceptWhen (decide (s.routeOf t = .outboundClearRead)) t s

/-- OUTBOUND_LINE_WRITE (R69). -/
def execOutboundLineWrite (t : Transaction) (s : State) : Host.Outcome State Fault Refusal :=
  acceptWhen (decide (s.routeOf t = .outboundLineWrite)) t s

/-- INBOUND_LINE_WRITE (R74). -/
def execInboundLineWrite (t : Transaction) (s : State) : Host.Outcome State Fault Refusal :=
  acceptWhen (decide (s.routeOf t = .inboundLineWrite)) t s

/-- INBOUND_CLEAR_HEADER_WRITE (R80). -/
def execInboundClearHeaderWrite (t : Transaction) (s : State) : Host.Outcome State Fault Refusal :=
  acceptWhen (decide (s.routeOf t = .inboundClearHeader)) t s

/-- INBOUND_CLEAR_PAYLOAD_WRITE (R93). -/
def execInboundClearPayloadWrite (t : Transaction) (s : State) : Host.Outcome State Fault Refusal :=
  acceptWhen (decide (s.routeOf t = .inboundClearPayload)) t s

/-- INBOUND_CLEAR_READ (R90). -/
def execInboundClearRead (t : Transaction) (s : State) : Host.Outcome State Fault Refusal :=
  acceptWhen (decide (s.routeOf t = .inboundClearRead)) t s

/-- NOTICE_CLEAR_HEADER_WRITE (R163). -/
def execNoticeClearHeaderWrite (t : Transaction) (s : State) : Host.Outcome State Fault Refusal :=
  acceptWhen (decide (s.routeOf t = .noticeClearHeader)) t s

/-- Whether a transaction is a write that touches the control page and nothing else refuses first: a CLEAR one is
forwarded and watched, a LINE one refused with CONFLICT (R10). -/
def State.pageAccess (s : State) (t : Transaction) : Bool :=
  match s.placeOf t with
  | some p =>
    decide (p.role = .controlPage) &&
      (decide (s.routeOf t = .pageWrite) || decide (s.routeOf t = .conflict))
  | none => false

end Sys2Proof.Machine
end

