-- ==== Sys2Proof/Machine/Notices.lean ====
section
/-!
DEFINITION. The Notice Engine (chapter 10): payloads (R27), the beginning of a composition (R165 to R168), its writes
(R166), its completion (R169) and its failure (R170); and its rows of the command table.
-/

namespace Sys2Proof.Machine

/-! ## Payloads (2.4, R27) -/

/-- The 32 bytes of a KEY_CONFIRM (R27). -/
def State.confirmPayload (s : State) (k : Fin 32) : List Byte :=
  [(s.key k).gen, 0, 0, 0] ++ beBytes 4 (s.key k).serial.toNat ++ beBytes 8 (s.key k).nonce.toNat ++
    List.replicate 16 0

/-- The 32 bytes of a RENEW_REQUEST under a CURRENT key (R27). -/
def State.renewPayload (s : State) (k : Fin 32) (why : RenewReason) : List Byte :=
  let key := s.key k
  [key.gen, why.code, BitVec.ofNat 8 (s.softPercent k), 0] ++ beBytes 4 key.frames ++
    beBytes 4 (min (key.bytes / 65536) Config.top32) ++
    beBytes 2 (if key.lifetime.isSome then key.minutes else 0) ++ List.replicate 18 0

/-- The flags of a fault notice entry: SATURATED and FIRST (R27, R168). -/
def FaultEntry.flags (e : FaultEntry) : Byte :=
  BitVec.ofNat 8 ((if e.count = Config.countTop then 1 else 0) + (if e.lastCount = 0 then 2 else 0))

/-- The 16 bytes of a fault notice entry (2.4, R27). -/
def FaultEntry.noticeBytes (e : FaultEntry) : List Byte :=
  [e.cls.code, BitVec.ofNat 8 e.severity.code, chanByte e.channel, e.flags] ++ beBytes 4 e.delta ++
    beBytes 4 e.firstTime.toNat ++ beBytes 4 e.lastTime.toNat

/-- The payload of a FAULT_NOTICE of these entries (2.4, R27). -/
def State.faultPayload (s : State) (l : List FaultEntry) : List Byte :=
  beBytes 4 s.time.ms.toNat ++ [BitVec.ofNat 8 l.length, 0, 0, 0] ++ beBytes 4 s.faults.lost ++ List.replicate 4 0 ++
    l.flatMap FaultEntry.noticeBytes

/-! ## The beginning of a composition (R166) -/

/-- What a composition is made for. -/
structure NoticePlan where
  channel : Fin 16
  kind : Byte
  /-- The key it is protected under. -/
  key : Fin 32
  /-- The payload's length. -/
  len : Nat
  confirms : Option (Fin 32)
  carried : List Carried
  lost : Nat

/-- The record of a notice slot that a composition takes (R166). -/
def SlotRec.compose (r : SlotRec) (plan : NoticePlan) (key : KeySlot) (opening : Nat) : SlotRec :=
  { r with
    state := .composing
    channel := some plan.channel
    kind := some plan.kind
    gen := some key.gen
    seq := some (BitVec.ofNat 32 key.nextSeq)
    length := some plan.len
    key := some (.slot plan.key)
    acc := 0
    valid := true
    folded := []
    whole := []
    reason := .none
    opening := some opening
    finish := some (Finish.begin plan.len) }

/-- The keystream requests of a composition, one for each payload block (R166 step 1). -/
def State.askNotice (s : State) (n opening : Nat) (k : Fin 32) (blocks : Nat) : State :=
  match s.slotRec n with
  | none => s
  | some r =>
    (List.range blocks).foldl
      (fun st b => st.askCipher ⟨.noticeBlock opening (b + 1), .slot k, s.recBlock r (b + 1)⟩) s

/-- A composition begins in notice slot record n; its payload is read once the sequence has been taken (R166). (DESIGN
CHOICE, notes/assumptions/16.md.) -/
def State.compose (s : State) (n : Nat) (plan : NoticePlan) (payload : State → List Byte) : State :=
  let o := s.stamp
  let s1 := (((s.setRec n fun r => r.compose plan (s.key plan.key) o).bump).takeRef plan.key).takeSequence plan.key
  let plain := blocksOf (payload s1)
  let comp : Composition := ⟨n, o, plan.key, plain, plain.map fun _ => none, plan.confirms, plan.carried, plan.lost⟩
  let s2 := { s1 with notices := { s1.notices with comp := some comp } }
  (s2.askNotice n o plan.key plain.length).judgeMarks plan.key

/-! ## Protocol notices (R165) -/

/-- The key of a protocol notice list entry (R165). -/
def State.protoKey (s : State) (e : ProtoEntry) : Option (Fin 32) :=
  match e.kind with
  | .keyConfirm k => some k
  | .renewRequest _ => (s.chan e.channel).cur

/-- Whether a key slot holds a role on this channel. -/
def State.holdsRole (s : State) (c : Fin 16) (k : Fin 32) : Bool :=
  decide ((s.chan c).cur = some k) || decide ((s.chan c).next = some k) || decide ((s.chan c).prev = some k)

/-- The key that makes an entry composable (R165). -/
def State.composable (s : State) (e : ProtoEntry) : Option (Fin 32) :=
  match s.protoKey e with
  | none => none
  | some k =>
    if (s.chan e.channel).state ≠ .disabled ∧ s.holdsRole e.channel k = true ∧ (s.key k).load = .loaded ∧
        (s.key k).exhausted = false then some k
    else none

/-- The plan of a protocol notice entry under a key. -/
def ProtoEntry.plan (e : ProtoEntry) (k : Fin 32) : NoticePlan :=
  match e.kind with
  | .keyConfirm c => ⟨e.channel, kindConfirm, k, 32, some c, [], 0⟩
  | .renewRequest _ => ⟨e.channel, kindRenew, k, 32, none, [], 0⟩

/-- The payload of a protocol notice entry under a key. -/
def ProtoEntry.payload (e : ProtoEntry) (k : Fin 32) (s : State) : List Byte :=
  match e.kind with
  | .keyConfirm c => s.confirmPayload c
  | .renewRequest why => s.renewPayload k why

/-- The list's entries are judged from the head until one is composed; each that is not composable is removed with
NOTICE_BLOCKED (R165). -/
def State.startProtocol (n : Nat) : List ProtoEntry → State → State
  | [], s => s.setProto []
  | e :: rest, s =>
    match s.composable e with
    | some k => (s.setProto rest).compose n (e.plan k) (e.payload k)
    | none => State.startProtocol n rest ((s.setProto rest).noticeBlocked e.channel none none)

/-- PROTOCOL_NOTICE_START (R165): the Engine idle, a notice slot FREE and the list not empty. -/
def execProtocolNoticeStart (s : State) : Host.Outcome State Fault Refusal :=
  match s.notices.comp, s.freeNoticeSlot, s.notices.list with
  | none, some n, e :: rest => done (State.startProtocol n (e :: rest) s)
  | _, _, _ => idle s

/-! ## Fault notices (R167, R168) -/

/-- Whether a fault notice takes entry p before entry q: FATAL first, then by first time, then by number (R168). -/
def takesBefore (p q : Fin 32 × FaultEntry) : Bool :=
  let rank (e : FaultEntry) : Nat := if e.severity = .fatal then 0 else 1
  if rank p.2 ≠ rank q.2 then decide (rank p.2 < rank q.2)
  else if p.2.firstTime ≠ q.2.firstTime then decide (p.2.firstTime.toNat < q.2.firstTime.toNat)
  else decide (p.1.val ≤ q.1.val)

/-- An entry put in its place. -/
def insertEntry (p : Fin 32 × FaultEntry) : List (Fin 32 × FaultEntry) → List (Fin 32 × FaultEntry)
  | [] => [p]
  | q :: rest => if takesBefore p q then p :: q :: rest else q :: insertEntry p rest

/-- Entries in the order a fault notice takes them. -/
def orderEntries (l : List (Fin 32 × FaultEntry)) : List (Fin 32 × FaultEntry) := l.foldr insertEntry []

/-- The entries a due fault notice selects under a colour: up to eight (R168). -/
def State.selectFaults (s : State) (colour : Colour) : List (Fin 32 × FaultEntry) :=
  (orderEntries (s.faults.eligible.filter fun p => colour.admitsSeverity p.2.severity)).take 8

/-- The CURRENT key of the reporting channel when it can protect a notice (R168). -/
def State.reportingKey (s : State) : Option (Fin 32) :=
  match (s.chan s.notices.reporting).cur with
  | none => none
  | some k =>
    if (s.chan s.notices.reporting).state ≠ .disabled ∧ (s.key k).load = .loaded ∧ (s.key k).spent = false then some k
    else none

/-- The carried form of a selected entry (R168). -/
def carriedOf (p : Fin 32 × FaultEntry) : Carried := ⟨p.1, p.2.cls, p.2.channel, p.2.count⟩

/-- The selected entries go to COMPOSING (R168). -/
def State.markComposing (s : State) (l : List (Fin 32 × FaultEntry)) : State :=
  l.foldl (fun st p => st.putFault p.1 (some { p.2 with notice := .composing })) s

/-- The holdoff timer as a fault notice that begins leaves it (R167). -/
def State.restartHoldoff (s : State) : State :=
  let timer : Holdoff :=
    if s.faults.eligible.isEmpty then .stopped
    else if s.notices.holdoffSecs = 0 then .ranOut
    else .running s.notices.holdoffSecs
  { s with notices := { s.notices with holdoff := timer } }

/-- A fault notice begins with these entries under a key (R167, R168). -/
def State.startFaultNotice (s : State) (n : Nat) (k : Fin 32) (l : List (Fin 32 × FaultEntry)) : State :=
  let s1 := (s.markComposing l).restartHoldoff
  let s2 := { s1 with notices := { s1.notices with blocked := false } }
  s2.compose n ⟨s.notices.reporting, kindFaultNotice, k, 16 + 16 * l.length, none, l.map carriedOf, s.faults.lost⟩
    fun st => st.faultPayload (l.map (·.2))

/-- A due fault notice that cannot be protected: NOTICE_BLOCKED once a spell (R168, R171). -/
def State.blockNotices (s : State) : State :=
  if s.notices.blocked then s
  else ({ s with notices := { s.notices with blocked := true } }).noticeBlocked s.notices.reporting none none

/-- FAULT_NOTICE_START (R168): the Engine idle, the protocol list empty, a notice slot FREE and a fault notice due. -/
def execFaultNoticeStart (s : State) : Host.Outcome State Fault Refusal :=
  match s.notices.comp, s.freeNoticeSlot, s.notices.list with
  | none, some n, [] =>
    if s.noticeDue then
      match s.reportingKey with
      | none => done s.blockNotices
      | some k =>
        let l := s.selectFaults (s.meter (s.chan s.notices.reporting).link).colour
        if l.isEmpty then idle s else done (s.startFaultNotice n k l)
    else idle s
  | _, _, _ => idle s

/-! ## Enciphering, folding and the writes of a composition (R166) -/

/-- The composition in flight with this stamp. -/
def State.compOf (s : State) (opening : Nat) : Option Composition :=
  match s.notices.comp with
  | some c => if c.opening = opening then some c else none
  | none => none

/-- The keystream of a payload block returns: the block is enciphered and folded (R166 steps 1 and 2). -/
def State.noticeKeystream (s : State) (opening block : Nat) (out : Block) : State :=
  match s.compOf opening with
  | none => s
  | some c =>
    let blk := c.plain.getD (block - 1) 0 ^^^ out
    let s1 := { s with notices := { s.notices with
      comp := some { c with cipher := c.cipher.set (block - 1) (some blk) } } }
    s1.fold c.recNo block blk true

/-- The finish of a notice begins once every block is enciphered and every fold has returned (R166 step 3). -/
def State.judgeNotice (s : State) : State :=
  match s.notices.comp with
  | none => s
  | some c =>
    match (s.slotRec c.recNo).bind (·.stage) with
    | some .waiting =>
      if c.cipher.all Option.isSome && s.ks.productsOwed c.recNo c.opening == 0 then s.beginDirect c.recNo else s
    | _ => s

/-- The enciphered payload bytes of a composition. -/
def Composition.bytes (c : Composition) : List Byte := c.cipher.flatMap fun b => blockBytes (b.getD 0)

/-- The frame write of a notice's line 0 requested: header, tag and the payload blocks of line 0 (R24, R166). -/
def State.askNoticeLine0 (s : State) (c : Composition) : State :=
  match s.slotRec c.recNo with
  | none => s
  | some r =>
    s.askSlot (.noticeLine0 c.opening) 3 r 0 (.write (strobeAll
      (frameHeader (r.kind.getD 0) (chanByte r.channel) (r.gen.getD 0) (r.seq.getD 0) s.shop (r.length.getD 0) ++
        blockBytes ((r.finish.bind (·.tag)).getD 0) ++ c.bytes.take 96)))

/-- The tag of a notice is in hand: its line-1 write is requested, or its line-0 write when line 0 holds it whole
(R166 step 4). -/
def State.noticeTag (s : State) (n : Nat) (tag : Block) : State :=
  let s1 := s.setFinish n fun f => { f with tag := some tag }
  match s1.notices.comp, s1.slotRec n with
  | some c, some r =>
    if c.cipher.length ≤ 6 then s1.askNoticeLine0 c
    else s1.askSlot (.noticeLine1 c.opening) 3 r 128 (.write (strobeAll (c.bytes.drop 96)))
  | _, _ => s1

/-! ## Completion and failure (R169, R170) -/

/-- The entry that a carried entry still stands for: in use at its number, with its key, and COMPOSING (R169, R170). -/
def State.carriedEntry (s : State) (c : Carried) : Option FaultEntry :=
  match s.faults.table[c.number] with
  | some e => if e.hasKey c.cls c.channel = true ∧ e.notice = .composing then some e else none
  | none => none

/-- A carried entry updated at completion (R169). -/
def State.settleCarried (s : State) (c : Carried) : State :=
  match s.carriedEntry c with
  | none => s
  | some e =>
    s.putFault c.number (some { e with
      lastCount := c.count
      notice := if e.late && s.faults.noticeMask.has e.severity then .pending else .sent
      late := false })

/-- A carried entry returned to PENDING at failure (R170). -/
def State.returnCarried (s : State) (c : Carried) : State :=
  match s.carriedEntry c with
  | none => s
  | some e => s.putFault c.number (some { e with notice := .pending, late := false })

/-- The lost total that a notice carried is subtracted (R154, R169). Where the total now holds less, the result is a free
value, no higher than the total: no completion raises it (R154). -/
def State.subtractLost (s : State) (n : Nat) : State :=
  if n ≤ s.faults.lost then { s with faults := { s.faults with lost := s.faults.lost - n } }
  else
    let left := min (Config.lostBelowZero s.free).toNat s.faults.lost
    { s with faults := { s.faults with lost := left }, free := s.free + 1 }

/-- What completion does for the kind of notice (R143, R169). -/
def State.noticeDone (s : State) (c : Composition) (channel : Fin 16) (kind : Byte) : State :=
  match c.confirms with
  | some k => s.confirmTagged channel k
  | none => if kind = kindFaultNotice then (c.carried.foldl State.settleCarried s).subtractLost c.lost else s

/-- A composition completes (R169). -/
def State.completeComposition (s : State) (c : Composition) : State :=
  match s.slotRec c.recNo with
  | none => s
  | some r =>
    let len := r.length.getD 0
    let s1 := ({ s with notices := { s.notices with comp := none } }).setRec c.recNo fun r =>
      { r with state := .tagged, finish := none }
    let s2 := (s1.payFrame r len true).handReport
      ⟨.noticeReady (r.kind.getD 0) (r.gen.getD 0) (r.seq.getD 0) len, chanByte r.channel, some r.window, some r.slot,
        s.time.ms⟩
    match r.channel with
    | some ch => s2.noticeDone c ch (r.kind.getD 0)
    | none => s2

/-- A composition fails; its NOTICE_BLOCKED names the notice slot (R148, R170). (DEDUCED, notes/assumptions/20.md.) -/
def State.failComposition (s : State) (c : Composition) : State :=
  match s.slotRec c.recNo with
  | none => s
  | some r =>
    let s1 := ({ s with notices := { s.notices with comp := none } }).releaseRec c.recNo
    let s2 := c.carried.foldl State.returnCarried s1
    match r.channel with
    | some ch => s2.noticeBlocked ch (some r.window) (some r.slot)
    | none => s2

end Sys2Proof.Machine
end

