-- ==== Sys2Proof/Machine/Control.lean ====
section
/-!
DEFINITION. The Control Unit's operations (chapter 11): the index words (R174), fetching (R175), completion (R176),
snapshots (R178), and the arguments of a command record (R28).
-/

namespace Sys2Proof.Machine

/-! ## The index words (R174) and fetching (R175) -/

/-- The Control Unit changed. -/
def State.setCtl (s : State) (f : ControlUnit → ControlUnit) : State := { s with ctl := f s.ctl }

/-- In IDLE with a record pending the fetch of the record at the consumer index is requested (R175). -/
def State.judgeFetch (s : State) : State :=
  if s.ctl.state = .idle ∧ s.ctl.recordsPending = true then
    (s.setCtl fun c => { c with state := .fetching }).askPage .fetch (0x100 + 32 * s.ctl.consumer) (.read 4)
  else s

/-- The number that the four bytes at a control page offset of a completed write spell, when all are strobed (R174). -/
def State.wordWritten (s : State) (e : TransitEntry) (off : Nat) : Option Nat :=
  match e.access with
  | .read _ => none
  | .write bytes =>
    let lo := e.start - s.pageBase
    if strobesAll bytes lo off (off + 4) then some (beNat (strobedRun bytes lo off (off + 4))) else none

/-- The command producer index that a completed write carries, when it is taken (R174). -/
def State.producerWritten (s : State) (e : TransitEntry) : Option Nat :=
  match s.wordWritten e 0 with
  | some v => if v ≤ 31 then some v else none
  | none => none

/-- The report consumer index that a completed write carries, when it is taken: the ring is live and the value is a
ring position in the span of records written and not yet read (R173, R174). (DEDUCED, notes/assumptions/19.md.) -/
def State.consumerWritten (s : State) (e : TransitEntry) : Option Nat :=
  match s.wordWritten e 16 with
  | some v =>
    let size := s.ctl.ringSize
    let copy := s.ctl.ringConsumer
    if s.ringLive = true ∧ v < size ∧
        (v + size - copy) % size ≤ (s.ctl.ringProducer + size - copy) % size then some v else none
  | none => none

/-- A taken producer index: the copy, a HALTED unit that is IDLE again, and the judgement of R175. -/
def State.takeProducer (s : State) (v : Nat) : State :=
  (s.setCtl fun c => { c with producer := v, state := if c.state = .halted then .idle else c.state }).judgeFetch

/-- A taken consumer index (R174). -/
def State.takeConsumer (s : State) (v : Nat) : State := s.setCtl fun c => { c with ringConsumer := v }

/-- Whether an entry is a clear-side write to the control page (R15). -/
def TransitEntry.pageWrite (e : TransitEntry) : Bool :=
  e.clear && decide (e.window = some 0) && (match e.access with
    | .write _ => true
    | .read _ => false)

/-- A completed clear-side write to the control page is handed to the Control Unit (R15, R174). -/
def State.handPage (s : State) (e : TransitEntry) : State :=
  if e.pageWrite then
    let s1 := match s.producerWritten e with
      | some v => s.takeProducer v
      | none => s
    match s.consumerWritten e with
    | some v => s1.takeConsumer v
    | none => s1
  else s

/-- A write completes with OKAY: the response, the freed entry and the hand-on of a control page write (R15).
(DEDUCED, notes/assumptions/14.md.) -/
def State.completeWrite (s : State) (e : TransitEntry) : State :=
  ((s.freeTransit e.id).respond ⟨e.initiator, e.start, true, []⟩).handPage e

/-- The ISSUED write of a transit table entry. -/
def State.issuedWrite (s : State) (id : Nat) : Option TransitEntry :=
  match s.bus.entry id with
  | some e =>
    match e.access with
    | .write _ => if e.issued then some e else none
    | .read _ => none
  | none => none

/-! ## The rows of the control page (R15, R174) -/

/-- CONTROL_PAGE_OTHER_WRITE (R10, R15): the acceptance of a write to the control page, or the OKAY completion of one
that takes neither index word. -/
def execControlPageOtherWrite (w : PageWrite) (s : State) : Host.Outcome State Fault Refusal :=
  match w with
  | .accepted t => if t.wellFormed then
      if s.accepting && s.pageAccess t then done (s.accept t) else idle s
    else .fault .notABurst
  | .completed id =>
    match s.issuedWrite id with
    | some e =>
      if e.pageWrite && (s.producerWritten e).isNone && (s.consumerWritten e).isNone then done (s.completeWrite e)
      else idle s
    | none => idle s

/-- COMMAND_PRODUCER_INDEX_WRITE (R174): the OKAY completion of a control page write that takes the producer index. -/
def execCommandProducerIndexWrite (id : Nat) (s : State) : Host.Outcome State Fault Refusal :=
  match s.issuedWrite id with
  | some e => if e.pageWrite && (s.producerWritten e).isSome then done (s.completeWrite e) else idle s
  | none => idle s

/-- REPORT_CONSUMER_INDEX_WRITE (R174): the OKAY completion of a control page write that takes the consumer index. -/
def execReportConsumerIndexWrite (id : Nat) (s : State) : Host.Outcome State Fault Refusal :=
  match s.issuedWrite id with
  | some e => if e.pageWrite && (s.consumerWritten e).isSome then done (s.completeWrite e) else idle s
  | none => idle s

/-! ## Command records (R28) and completion (R176) -/

/-- A byte of the record that is being executed. -/
def State.arg (s : State) (i : Nat) : Byte := s.ctl.record.getD i 0

/-- The number in bytes i to j − 1 of the record. -/
def State.argNat (s : State) (i j : Nat) : Nat := beNat ((s.ctl.record.drop i).take (j - i))

/-- Whether the unit executes a record with this command code and no snapshot is under way. -/
def State.executes (s : State) (code : Nat) : Bool :=
  decide (s.ctl.state = .executing) && s.ctl.snapshot.isNone && (s.arg 0).toNat == code

/-- The command state judged when the consumer and status write has been answered and the record handed on (R176). -/
def State.judgeCompletion (s : State) : State :=
  if s.ctl.state = .completing ∧ s.ctl.doneWaiting = none ∧ s.bus.outstanding (fun op => decide (op = .statusWrite)) = false then
    (s.setCtl fun c => { c with state := .idle }).judgeFetch
  else s

/-- The access of the consumer index and status write: offsets 4 to 11 (R176). -/
def statusAccess (consumer : Nat) (code tag status : Byte) : Access :=
  .write (List.replicate 4 none ++ strobeAll (beBytes 4 consumer ++ [code, tag, status, 0]) ++ List.replicate 4 none)

/-- A command completes with this status; its COMMAND_DONE carries this channel byte (R28, R176). -/
def State.complete (s : State) (status channel : Byte) : State :=
  let code := s.arg 0
  let tag := s.arg 1
  let next := (s.ctl.consumer + 1) % 32
  let s1 := (s.setCtl fun c => { c with
      consumer := next, lastCode := code, lastTag := tag, lastStatus := status, state := .completing,
      snapshot := none }).askPage .statusWrite 0 (statusAccess next code tag status)
  let r : Report := ⟨.commandDone tag code status, channel, none, none, s.time.ms⟩
  if s1.reportPlace then s1.handReport r else s1.setCtl fun c => { c with doneWaiting := some r }

/-! ## Snapshots (R161, R178) -/

/-- The SNAPSHOT record of an image entry. -/
def snapshotRecord (e : FaultEntry) (now : Time) : Report := ⟨.snapshot e, chanByte e.channel, e.window, e.slot, now⟩

/-- The image's records are handed on while the queue has a place; with the last the command completes (R178). -/
def State.handSnapshot : List FaultEntry → State → State
  | [], s => s.complete statusOk 0xFF
  | e :: rest, s =>
    if s.reportPlace then State.handSnapshot rest (s.handReport (snapshotRecord e s.time.ms))
    else s.setCtl fun c => { c with snapshot := some (e :: rest) }

/-! ## The rows of completion -/

/-- SNAPSHOT_RECORD_HANDED (R178): waiting SNAPSHOT records are handed on when there is a place. -/
def execSnapshotRecordHanded (s : State) : Host.Outcome State Fault Refusal :=
  match s.ctl.snapshot with
  | some l => if s.reportPlace then done (State.handSnapshot l s) else idle s
  | none => idle s

/-- COMMAND_DONE_HANDED (R176): a waiting COMMAND_DONE record is handed on when there is a place. -/
def execCommandDoneHanded (s : State) : Host.Outcome State Fault Refusal :=
  match s.ctl.doneWaiting with
  | some r =>
    if s.reportPlace then
      done (((s.setCtl fun c => { c with doneWaiting := none }).handReport r).judgeCompletion)
    else idle s
  | none => idle s

end Sys2Proof.Machine
end

