-- ==== Sys2Proof/Machine/Bus.lean ====
section
/-!
DEFINITION. The downstream arbiter (R17), the responses to passed and injected transactions (R15, R16, R18 to R20), the
failure of an operation whose injected transaction failed (R42, R65, R83, R136, R140, R170, R175, R176, R179), and the
rows of the table for them.
-/

namespace Sys2Proof.Machine

/-! ## The arbiter (R17) -/

/-- A transit table entry goes downstream (R12, R17). -/
def State.grantTransit (s : State) (e : TransitEntry) (passover : Nat) : State :=
  let s1 := s.setEntry e.id fun f => { f with issued := true }
  { s1 with bus := { s1.bus with
      passover := passover, down := ⟨e.id, false, e.start, e.access⟩ :: s1.bus.down } }

/-- An injection queue entry goes downstream with the timeout setting in force (R16, R17, R20); the passover count is 0. -/
def State.grantInj (s : State) (e : InjEntry) : State :=
  let s1 := s.setInj (s.bus.inj.map fun f =>
    if f.id == e.id then { f with issued := true, timeout := s.bus.timeout, ticks := 0 } else f)
  { s1 with bus := { s1.bus with
      passover := 0, down := ⟨e.id, true, e.req.start, e.req.access⟩ :: s1.bus.down } }

/-- DOWNSTREAM_GRANT (R17). -/
def execDownstreamGrant (s : State) : Host.Outcome State Fault Refusal :=
  match s.bus.oldestTransit, s.bus.oldestInj with
  | some e, some j =>
    if s.bus.passover = Config.passoverTop then done (s.grantInj j) else done (s.grantTransit e (s.bus.passover + 1))
  | some e, none => done (s.grantTransit e 0)
  | none, some j => done (s.grantInj j)
  | none, none => idle s

/-! ## Responses to passed transactions (R15, R18) -/

/-- The ISSUED transit table entry that a response answers: one whose response has not come yet. -/
def State.issuedEntry (s : State) (id : Nat) : Option TransitEntry :=
  match s.bus.entry id with
  | some e => if e.issued && e.back.isNone then some e else none
  | none => none

/-- The bytes a response carries fit its entry: a read's whole span, nothing for a write. (DESIGN CHOICE,
notes/assumptions/7.md.) -/
def fitsAccess (a : Access) (data : List Byte) : Bool :=
  match a with
  | .read n => data.length == 8 * n
  | .write _ => data.isEmpty

/-- A read's response is back and waits for its keystream (R15). -/
def State.readBack (s : State) (id : Nat) (ok : Bool) (data : List Byte) : State :=
  s.setEntry id fun e => { e with back := some (ok, data) }

/-- PASSED_RESPONSE (R15). -/
def execPassedResponse (id : Nat) (data : List Byte) (s : State) : Host.Outcome State Fault Refusal :=
  match s.issuedEntry id with
  | none => idle s
  | some e =>
    if fitsAccess e.access data then
      match e.access with
      | .read _ => done (s.readBack id true data)
      | .write _ => done (s.completeWrite e)
    else .fault .wrongBeatCount

/-- MEMORY_ERROR of a passed transaction: DEGRADED, with its window, slot and initiator (R11, R18). -/
def State.passedMemoryError (s : State) (e : TransitEntry) : State :=
  s.recordFault (occurrence .memoryError none e.window e.slot (some e.initiator))

/-- The effect on the slot record of a passed write answered ERROR (R70, R79). -/
def State.lateError (s : State) (e : TransitEntry) : State :=
  match e.recNo with
  | none => s
  | some n =>
    match (s.slotRec n).map SlotRec.role with
    | some .outbound => s.outboundLate e n
    | some .inbound => s.inboundLate e n
    | _ => s

/-- PASSED_ERROR_RESPONSE (R18). -/
def execPassedErrorResponse (id : Nat) (data : List Byte) (s : State) : Host.Outcome State Fault Refusal :=
  match s.issuedEntry id with
  | none => idle s
  | some e =>
    if fitsAccess e.access data then
      match e.access with
      | .read _ => done ((s.readBack id false data).passedMemoryError e)
      | .write _ =>
        done ((((s.freeTransit id).respond ⟨e.initiator, e.start, false, []⟩).passedMemoryError e).lateError e)
    else .fault .wrongBeatCount

/-! ## The injection queue (R16) -/

/-- INJECTION_REQUEST_SERVED (R16): the oldest waiting request takes a free entry. -/
def execInjectionRequestServed (s : State) : Host.Outcome State Fault Refusal :=
  match s.bus.injWaiting with
  | [] => idle s
  | r :: rest =>
    if s.bus.inj.length < Config.injectionSize then
      done (({ s with bus := { s.bus with injWaiting := rest } }).enterInj r)
    else idle s

/-- The ISSUED injection queue entry that a response or a timeout names. -/
def State.issuedInj (s : State) (id : Nat) : Option InjEntry :=
  match s.bus.injEntry id with
  | some e => if e.issued then some e else none
  | none => none

/-! ## Failed operations (R19, R20) -/

/-- The frame slot whose finish, in flight in this opening, an injected transaction served. -/
def State.finishing (s : State) (n opening : Nat) : Option SlotRec :=
  match s.slotRec n with
  | some r => if r.opening = some opening ∧ r.finish.isSome = true then some r else none
  | none => none

/-- A finish fails with MEMORY or TIMEOUT (R42, R65, R83). -/
def State.failFinish (s : State) (n opening : Nat) (why : Reason) : State :=
  match s.finishing n opening with
  | none => s
  | some r =>
    match r.role with
    | .outbound => s.failOutbound n (r.failReason why)
    | .inbound => s.reject n (r.noted.getD why) none
    | _ => s

/-- A reading of an offer fails: the ruling is given up or the loading ends (R136, R140). -/
def State.failOffer (s : State) (c : Fin 16) (work : Nat) (why : Reason) : State :=
  match (s.chan c).ruling, (s.chan c).loading with
  | some w, l =>
    if w.id = work then s.failRuling c w.recNo why
    else if l.map OfferWork.id = some work then s.clearHold c
    else s
  | none, some l => if l.id = work then s.clearHold c else s
  | none, none => s

/-- A write of the lost-report count has been answered: another follows when the count has changed since it was
requested (R180). -/
def State.followLost (s : State) : State :=
  if s.ctl.lost = s.ctl.lostWritten then s
  else (s.setCtl fun c => { c with lostWritten := c.lost }).askPage .lostWord 16 (wordAccess s.ctl.lost)

/-- The block that built a failed injected transaction ends its operation (R19, R20). A failed write of the lost-report
count is followed at once when the count has changed since it was requested, and else by the next change's write (R180).
(DEDUCED, notes/assumptions/17.md.) -/
def State.failOp (s : State) (op : InjOp) (why : Reason) : State :=
  match op with
  | .tagRead n o | .tailFetch n o | .sweepRead n o _ | .frameWrite n o => s.failFinish n o why
  | .headerResult _ _ | .resetZero => s
  | .lostWord => s.followLost
  | .offerRead c work => s.failOffer c work why
  | .noticeLine1 o | .noticeLine0 o =>
    match s.compOf o with
    | some c => s.failComposition c
    | none => s
  | .fetch => s.setCtl fun c => if c.state = .fetching then { c with state := .halted } else c
  | .statusWrite => s.judgeCompletion
  | .reportRecord => s.loseReport.reportTurn
  | .reportWord => s.reportTurn

/-- Whether a fault of an injected transaction is quiet: that of a write of a notice frame (R148). -/
def InjOp.quiet : InjOp → Bool
  | .noticeLine1 _ | .noticeLine0 _ => true
  | _ => false

/-- An injected transaction fails: its entry is freed, the fault is recorded at FATAL and the operation ends (R19, R20). -/
def State.failInjected (s : State) (e : InjEntry) (cls : FaultClass) (why : Reason) : State :=
  ((s.freeInj e.id).recordFault ⟨cls, .fatal, none, e.req.window, e.req.slot, none, e.req.op.quiet⟩).failOp e.req.op why

/-- INJECTED_ERROR (R19). -/
def execInjectedError (id : Nat) (s : State) : Host.Outcome State Fault Refusal :=
  match s.issuedInj id with
  | some e => done (s.failInjected e .memoryError .memory)
  | none => idle s

/-- Whether an ISSUED injected transaction has reached its timeout (R20). (DEDUCED, notes/assumptions/10.md.) -/
def InjEntry.timedOut (e : InjEntry) : Bool := decide (1 ≤ e.timeout) && decide (e.timeout ≤ e.ticks)

/-- DOWNSTREAM_TIMEOUT (R20). -/
def execDownstreamTimeout (id : Nat) (s : State) : Host.Outcome State Fault Refusal :=
  match s.issuedInj id with
  | some e => if e.timedOut then done (s.failInjected e .downstreamTimeout .timeout) else idle s
  | none => idle s

/-- STALE_RESPONSE (R20, R21): a response that answers no entry is discarded; nothing changes. A response to an entry that
is still there is another event, and nothing happens under this name. -/
def execStaleResponse (_id : Nat) (s : State) : Host.Outcome State Fault Refusal := idle s

/-! ## Answers to injected writes of the Control Unit and of header results (R24, R173, R176, R179, R180) -/

/-- An OKAY answer to an injected write of this kind: the entry is freed and the step follows. -/
def answered (id : Nat) (mine : InjOp → Bool) (s : State) (next : State → State) : Host.Outcome State Fault Refusal :=
  match s.issuedInj id with
  | some e => if mine e.req.op then done (next (s.freeInj id)) else idle s
  | none => idle s

/-- HEADER_RESULT_WRITE_ANSWERED (R24). -/
def execHeaderResultWriteAnswered (id : Nat) (s : State) : Host.Outcome State Fault Refusal :=
  answered id (fun op => match op with
    | .headerResult _ _ => true
    | _ => false) s fun s1 => s1

/-- RESET_ZEROING_WRITE_ANSWERED (R173). -/
def execResetZeroingWriteAnswered (id : Nat) (s : State) : Host.Outcome State Fault Refusal :=
  answered id (fun op => decide (op = .resetZero)) s fun s1 => s1

/-- STATUS_WRITE_ANSWERED (R176). -/
def execStatusWriteAnswered (id : Nat) (s : State) : Host.Outcome State Fault Refusal :=
  answered id (fun op => decide (op = .statusWrite)) s State.judgeCompletion

/-- The report producer index after a record's write: one on, modulo the size; a free value with no ring (R179). -/
def State.advanceRing (s : State) : State :=
  if s.ctl.ringSize = 0 then
    { s.setCtl (fun c => { c with ringProducer := (Config.ringlessIndex s.free).toNat }) with free := s.free + 1 }
  else s.setCtl fun c => { c with ringProducer := (c.ringProducer + 1) % c.ringSize }

/-- The write of the report producer index word requested (R179). -/
def State.askReportWord (s : State) : State := s.askPage .reportWord 8 (wordAccess s.ctl.ringProducer)

/-- REPORT_RECORD_WRITE_ANSWERED (R179). -/
def execReportRecordWriteAnswered (id : Nat) (s : State) : Host.Outcome State Fault Refusal :=
  answered id (fun op => decide (op = .reportRecord)) s fun s1 => s1.advanceRing.askReportWord

/-- REPORT_PRODUCER_WORD_ANSWERED (R179). -/
def execReportProducerWordAnswered (id : Nat) (s : State) : Host.Outcome State Fault Refusal :=
  answered id (fun op => decide (op = .reportWord)) s State.reportTurn

/-- LOST_REPORT_COUNT_WRITE_ANSWERED (R180). -/
def execLostReportCountWriteAnswered (id : Nat) (s : State) : Host.Outcome State Fault Refusal :=
  answered id (fun op => decide (op = .lostWord)) s State.followLost

/-- COMMAND_FETCH_RETURN (R175): the record is read and executed next. -/
def execCommandFetchReturn (id : Nat) (data : List Byte) (s : State) : Host.Outcome State Fault Refusal :=
  match s.issuedInj id with
  | some e =>
    if e.req.op = .fetch then
      if data.length = 32 then
        done ((s.freeInj id).setCtl fun c =>
          if c.state = .fetching then { c with state := .executing, record := data } else c)
      else .fault .wrongBeatCount
    else idle s
  | none => idle s

end Sys2Proof.Machine
end

