-- ==== Sys2Proof/Machine/Cipher.lean ====
section
/-!
DEFINITION. The cipher engine and the tag multiplier (R44, R46, R48, R49), what their results go to (R36, R37, R39 to
R41, R136 to R142, R166), and the rows of the table for them and for the finish of a tag.
-/

namespace Sys2Proof.Machine

/-! ## The cipher engine (R48) -/

/-- The cipher engine's grant changed. -/
def State.setCipher (s : State) (g : Option CipherGrant) : State := { s with ks := { s.ks with cipher := g } }

/-- The oldest foreground request that can be granted: a miss file entry not granted, its key slot LOADED (R48, R117).
(DEDUCED, notes/assumptions/23.md.) -/
def State.nextMiss (s : State) : Option MissEntry :=
  s.ks.misses.find? fun m => !m.granted && decide ((s.key m.key).load = .loaded)

/-- The oldest background request that can be granted (R48, R117). -/
def State.nextBackground (s : State) : Option BgReq := s.ks.background.find? s.bgReady

/-- A miss file entry is granted. -/
def State.grantMiss (s : State) (m : MissEntry) : State :=
  (s.setMisses (s.ks.misses.map fun x => if x.id == m.id then { x with granted := true } else x)).setCipher
    (some ⟨.miss m.id, .slot m.key, m.ctr, false⟩)

/-- A background request is granted and leaves its queue. -/
def State.grantBackground (s : State) (r : BgReq) : State :=
  ({ s with ks := { s.ks with background := s.ks.background.erase r } }).setCipher
    (some ⟨.background r, r.key, r.input, false⟩)

/-- CIPHER_GRANT (R48): the engine idle. -/
def execCipherGrant (s : State) : Host.Outcome State Fault Refusal :=
  if s.ks.cipher.isSome then idle s
  else
    match s.nextMiss with
    | some m => done (s.grantMiss m)
    | none =>
      match s.nextBackground with
      | some r => done (s.grantBackground r)
      | none => idle s

/-- The block that the engine's grant gives. -/
def State.cipherOut (s : State) (g : CipherGrant) : Block := cipherBlock (s.materialOf g.key) g.input

/-- Keystream written into the cache at the replacement pointer, which advances (R44). -/
def State.cacheInsert (s : State) (e : CacheEntry) : State :=
  { s with ks := { s.ks with cache := s.ks.cache.set s.ks.pointer (some e), pointer := s.ks.pointer + 1 } }

/-- A miss file entry completes: the cache, the freed entry, its waiting beats, and the overflow list (R44 to R46). -/
def State.completeMiss (s : State) (m : MissEntry) (out : Block) : State :=
  let s1 := (s.setMisses (s.ks.misses.filter fun x => x.id != m.id)).cacheInsert ⟨m.key, m.ctr, out⟩
  (m.waiters.foldl (fun st w => st.serveBeat w out) s1).serveOverflow

/-- KEYSTREAM_MISS_COMPLETE (R46). -/
def execKeystreamMissComplete (s : State) : Host.Outcome State Fault Refusal :=
  match s.ks.cipher with
  | some g =>
    match g.job with
    | .background _ => idle s
    | .miss id =>
      if g.withdrawn then done (s.setCipher none)
      else
        match s.ks.misses.find? (·.id == id) with
        | some m => done ((s.setCipher none).completeMiss m (s.cipherOut g))
        | none => done (s.setCipher none)
  | none => idle s

/-! ## Offer plaintext (R136 to R140) -/

/-- One plaintext block of a reading of an offer put in hand. -/
def OfferWork.deciphered (w : OfferWork) (block : Nat) (out : Block) : OfferWork :=
  { w with plain := w.plain.set (block - 1) (some (((w.data.getD []).getD (block - 1) 0) ^^^ out)) }

/-- The whole plaintext, once every block is in hand. -/
def OfferWork.whole (w : OfferWork) : Option (List Block) :=
  if w.plain.all Option.isSome then some (w.plain.map fun b => b.getD 0) else none

/-- A plaintext block of the ruling in flight: the ruling is settled with the last (R137, R138). -/
def State.rulingBlock (s : State) (c : Fin 16) (w : OfferWork) (block : Nat) (out : Block) : State :=
  let w' := w.deciphered block out
  let s1 := s.setChan c fun x => { x with ruling := some w' }
  match w'.whole with
  | some plain => s1.settleRuling c w.recNo plain
  | none => s1

/-- A plaintext block of the loading in flight: the loading ends with the last (R140). -/
def State.loadingBlock (s : State) (c : Fin 16) (w : OfferWork) (block : Nat) (out : Block) : State :=
  let w' := w.deciphered block out
  let s1 := s.setChan c fun x => { x with loading := some w' }
  match w'.whole with
  | some plain => s1.endLoading c plain
  | none => s1

/-- A plaintext block goes to the reading that asked for it; one of an abandoned reading is discarded (R136, R140). -/
def State.offerBlock (s : State) (c : Fin 16) (work block : Nat) (out : Block) : State :=
  match (s.chan c).ruling, (s.chan c).loading with
  | some w, some l =>
    if w.id = work then s.rulingBlock c w block out
    else if l.id = work then s.loadingBlock c l block out
    else s
  | some w, none => if w.id = work then s.rulingBlock c w block out else s
  | none, some l => if l.id = work then s.loadingBlock c l block out else s
  | none, none => s

/-- The mask of a finish in flight (R39); discarded when the finish has ended (R42). -/
def State.maskReturn (s : State) (n opening : Nat) (out : Block) : State :=
  match s.finishing n opening with
  | some _ => s.setFinish n fun f => { f with mask := some out }
  | none => s

/-- A background block goes to its requester (R48). -/
def State.backgroundResult (s : State) (use : BgUse) (out : Block) : State :=
  match use with
  | .offerPlain c work block => s.offerBlock c work block out
  | .mask n o => s.maskReturn n o out
  | .noticeBlock o block => s.noticeKeystream o block out
  | .rootSubkey | .hashSubkey => s

/-- Whether a background request is a subkey's, whose completion has a row of its own. -/
def BgUse.subkey : BgUse → Bool
  | .rootSubkey | .hashSubkey => true
  | .offerPlain .. | .mask .. | .noticeBlock .. => false

/-- The background grant in progress. -/
def Keystream.backgroundGrant (k : Keystream) : Option (CipherGrant × BgReq) :=
  match k.cipher with
  | some g =>
    match g.job with
    | .background r => some (g, r)
    | .miss _ => none
  | none => none

/-- BACKGROUND_CIPHER_COMPLETE (R48): a mask, an offer's plaintext or a notice's keystream; a withdrawn one is discarded
(R47). -/
def execBackgroundCipherComplete (s : State) : Host.Outcome State Fault Refusal :=
  match s.ks.backgroundGrant with
  | some (g, r) =>
    if r.use.subkey then idle s
    else if g.withdrawn then done (s.setCipher none)
    else done (((s.setCipher none).backgroundResult r.use (s.cipherOut g)).judgeNotice)
  | none => idle s

/-- ROOT_SUBKEY_COMPLETE (R33). -/
def execRootSubkeyComplete (s : State) : Host.Outcome State Fault Refusal :=
  match s.ks.backgroundGrant with
  | some (g, r) =>
    if r.use = .rootSubkey then
      let s1 := s.setCipher none
      done { s1 with ks := { s1.ks with rootSubkey := some (s.cipherOut g) } }
    else idle s
  | none => idle s

/-- HASH_SUBKEY_RETURN (R142): a withdrawn one is discarded (R47, R118). -/
def execHashSubkeyReturn (s : State) : Host.Outcome State Fault Refusal :=
  match s.ks.backgroundGrant with
  | some (g, r) =>
    if r.use = .hashSubkey then
      match g.withdrawn, r.key with
      | false, .slot k => done ((s.setCipher none).subkeyReturn k (s.cipherOut g))
      | _, _ => done (s.setCipher none)
    else idle s
  | none => idle s

/-! ## The tag multiplier (R36, R37, R49) -/

/-- MULTIPLIER_GRANT (R49): the multiplier idle; the oldest request whose subkey is ready. -/
def execMultiplierGrant (s : State) : Host.Outcome State Fault Refusal :=
  if s.ks.mulBusy.isSome then idle s
  else
    match s.ks.mulQueue.find? fun r => s.keyReady r.key with
    | some r => done { s with ks := { s.ks with mulQueue := s.ks.mulQueue.erase r, mulBusy := some (r, false) } }
    | none => idle s

/-- A product added to a record's accumulator (R36). -/
def State.addProduct (s : State) (n : Nat) (product : Block) : State :=
  s.setRec n fun r => { r with acc := r.acc ^^^ product }

/-- The finish of a sweep goes on as a direct finish once every read has returned and every product been added (R41). -/
def State.judgeSweep (s : State) (n opening : Nat) : State :=
  match s.finishing n opening with
  | some r => if r.stage = some (.sweep 0) ∧ s.ks.productsOwed n opening = 0 then s.beginDirect n else s
  | none => s

/-- The product of a correction: block n is folded and not whole-folded, and the finish goes on (R40). -/
def State.correctionReturn (s : State) (n opening : Nat) (product : Block) : State :=
  match s.finishing n opening with
  | none => s
  | some r =>
    let b := blockCount ((r.finish.map (·.len)).getD 0)
    ((s.addProduct n product).setRec n fun r => { r with
      folded := if r.folded.contains b then r.folded else b :: r.folded
      whole := r.whole.filter (· != b) }).beginDirect n

/-- A product goes to the opening that asked for it; one of an ended opening is discarded (R36, R37, R39, R40). -/
def State.productReturn (s : State) (r : MulReq) (product : Block) : State :=
  match s.slotRec r.recNo with
  | none => s
  | some x =>
    if x.opening = some r.opening then
      match r.use with
      | .fold => ((if x.valid then s.addProduct r.recNo product else s).judgeSweep r.recNo r.opening).judgeNotice
      | .correction => s.correctionReturn r.recNo r.opening product
      | .lenTerm => s.setFinish r.recNo fun f => { f with lenTerm := some product }
    else s

/-- The product of a request (R34, R49). -/
def State.productOf (s : State) (r : MulReq) : Block := fieldMul r.block (fieldPow (s.subkeyOf r.key) r.exp)

/-- MULTIPLIER_PRODUCT_RETURN (R37); a withdrawn one is discarded (R47). -/
def execMultiplierProductReturn (s : State) : Host.Outcome State Fault Refusal :=
  match s.ks.mulBusy with
  | none => idle s
  | some (r, withdrawn) =>
    let s1 := { s with ks := { s.ks with mulBusy := none } }
    if withdrawn then done s1 else done (s1.productReturn r (s.productOf r))

/-! ## The finish of a tag (R38 to R41) -/

/-- Whether a write of this opening still waits for keystream (R63). -/
def Bus.writesWait (b : Bus) (opening : Nat) : Bool :=
  b.transit.any fun e => decide (e.opening = some opening) && e.fills && !e.released

/-- The merge entry of a slot that covers its padded last block (R38). -/
def State.paddedEntry (s : State) (n len : Nat) : Option MergeEntry :=
  if tailOf len = 0 then none
  else
    match s.mergeOf n (blockCount len) with
    | some m => if (m.bytes.take (tailOf len)).all Option.isSome then some m else none
    | none => none

/-- The slot's merge entries are settled: the padded last block is folded, and the others discarded (R38). -/
def State.settleMerges (s : State) (n len : Nat) : State :=
  match s.paddedEntry n len with
  | some m => (s.dropMerges n).fold n (blockCount len) (padBlock (tailOf len) (blockOfStrobed m.bytes)) false
  | none => s.dropMerges n

/-- The decision of R38 once its waits are over: a padded fold made at the settling is waited for first. (DEDUCED,
notes/assumptions/22.md.) -/
def State.decideFinish (s : State) (n opening len : Nat) (stage : FinishStage) : State :=
  if stage = .settled then s.beginFinish n
  else
    let s1 := s.settleMerges n len
    if s1.ks.productsOwed n opening = 0 then s1.beginFinish n
    else s1.setFinish n fun f => { f with stage := .settled }

/-- FINISH_DECISION (R38) for a slot record in TAGGING or CHECKING, when the waits of R37 and R63 are over. -/
def execFinishDecision (n : Nat) (s : State) : Host.Outcome State Fault Refusal :=
  match s.slotRec n with
  | none => idle s
  | some r =>
    match r.finish, r.opening with
    | some f, some o =>
      if (decide (f.stage = .waiting) || decide (f.stage = .settled)) &&
          (decide (r.state = .tagging) || decide (r.state = .checking)) &&
          s.ks.productsOwed n o == 0 && !s.bus.writesWait o then
        done (s.decideFinish n o f.len f.stage)
      else idle s
    | _, _ => idle s

/-- An injected read of this kind returns: the entry is freed and the step follows with its bytes. -/
def readReturned (id : Nat) (data : List Byte) (mine : InjOp → Bool) (s : State) (next : InjOp → State → State) :
    Host.Outcome State Fault Refusal :=
  match s.issuedInj id with
  | some e =>
    if mine e.req.op then
      if fitsAccess e.req.access data then done (next e.req.op (s.freeInj id)) else .fault .wrongBeatCount
    else idle s
  | none => idle s

/-- The correction block of a tail fetch (R40). -/
def correctionBlock (r : SlotRec) (len : Nat) (fetched : Block) : Block :=
  if r.whole.contains (blockCount len) then tailBlock (tailOf len) fetched else padBlock (tailOf len) fetched

/-- A tail fetch's data is in hand: its correction product is requested (R40). -/
def State.tailReturn (s : State) (n opening : Nat) (fetched : Block) : State :=
  match s.finishing n opening with
  | none => s
  | some r =>
    match r.finish, r.key with
    | some f, some key =>
      if f.stage = .tail then
        s.askMul ⟨.correction, n, opening, key, correctionBlock r f.len fetched, blockCount f.len⟩
      else s
    | _, _ => s

/-- TAIL_FETCH_RETURN (R40). -/
def execTailFetchReturn (id : Nat) (data : List Byte) (s : State) : Host.Outcome State Fault Refusal :=
  readReturned id data (fun op => match op with
    | .tailFetch _ _ => true
    | _ => false) s fun op s1 =>
    match op with
    | .tailFetch n o => s1.tailReturn n o (blockOf data)
    | _ => s1

/-- One block of a sweep folded: block n padded when the tail is not 0 (R41). -/
def State.sweepFold (s : State) (n len b : Nat) (blk : Block) : State :=
  if b = blockCount len ∧ 0 < tailOf len then s.fold n b (padBlock (tailOf len) blk) false else s.fold n b blk true

/-- A sweep read's blocks are folded (R41). -/
def State.sweepReturn (s : State) (n opening first : Nat) (blocks : List Block) : State :=
  match s.finishing n opening with
  | none => s
  | some r =>
    match r.finish with
    | some f =>
      match f.stage with
      | .sweep k =>
        let s1 := s.setFinish n fun f => { f with stage := .sweep (k - 1) }
        blocks.zipIdx.foldl (fun st p => st.sweepFold n f.len (first + p.2) p.1) s1
      | _ => s
    | none => s

/-- SWEEP_READ_RETURN (R41). -/
def execSweepReadReturn (id : Nat) (data : List Byte) (s : State) : Host.Outcome State Fault Refusal :=
  readReturned id data (fun op => match op with
    | .sweepRead _ _ _ => true
    | _ => false) s fun op s1 =>
    match op with
    | .sweepRead n o first => s1.sweepReturn n o first (blocksOf data)
    | _ => s1

/-- The tag of a direct finish whose two requests have returned (R39). -/
def SlotRec.formedTag (r : SlotRec) : Option Block :=
  match r.finish with
  | some f =>
    match f.stage, f.lenTerm, f.mask, f.tag with
    | .direct, some l, some m, none => some (r.acc ^^^ l ^^^ m)
    | _, _, _, _ => none
  | none => none

/-- A formed tag is handed to its frame unit or to the Notice Engine (R39). -/
def State.handTag (s : State) (n : Nat) (role : WinRole) (tag : Block) : State :=
  match role with
  | .outbound => s.outboundTag n tag
  | .inbound => s.inboundTag n tag
  | .notice => s.noticeTag n tag
  | .report | .controlPage => s

/-- DIRECT_FINISH_COMPLETE (R39) for a slot record. -/
def execDirectFinishComplete (n : Nat) (s : State) : Host.Outcome State Fault Refusal :=
  match s.slotRec n with
  | none => idle s
  | some r =>
    match r.formedTag with
    | some tag => done (s.handTag n r.role tag)
    | none => idle s

/-! ## Answers to frame writes and reads of a finish -/

/-- An outbound frame write of the slot's present opening is answered OKAY. -/
def State.frameAnswered (s : State) (n opening : Nat) : State :=
  match s.finishing n opening with
  | some _ => s.frameLanded n
  | none => s

/-- FRAME_WRITE_ANSWERED (R64). -/
def execFrameWriteAnswered (id : Nat) (s : State) : Host.Outcome State Fault Refusal :=
  match s.issuedInj id with
  | some e =>
    match e.req.op with
    | .frameWrite n o => done ((s.freeInj id).frameAnswered n o)
    | _ => idle s
  | none => idle s

/-- A tag read returns: the tag is held for the compare (R82). -/
def State.tagHeld (s : State) (n opening : Nat) (tag : Block) : State :=
  match s.finishing n opening with
  | some _ => (s.setRec n fun r => { r with tagRead := some tag }).tryCompare n
  | none => s

/-- TAG_READ_RETURN (R82). -/
def execTagReadReturn (id : Nat) (data : List Byte) (s : State) : Host.Outcome State Fault Refusal :=
  readReturned id data (fun op => match op with
    | .tagRead _ _ => true
    | _ => false) s fun op s1 =>
    match op with
    | .tagRead n o => s1.tagHeld n o (blockOf data)
    | _ => s1

/-- NOTICE_LINE1_WRITE_ANSWERED (R166). -/
def execNoticeLine1WriteAnswered (id : Nat) (s : State) : Host.Outcome State Fault Refusal :=
  match s.issuedInj id with
  | some e =>
    match e.req.op with
    | .noticeLine1 o =>
      let s1 := s.freeInj id
      match s1.compOf o with
      | some c => done (s1.askNoticeLine0 c)
      | none => done s1
    | _ => idle s
  | none => idle s

/-- NOTICE_COMPOSITION_COMPLETE (R169). -/
def execNoticeCompositionComplete (id : Nat) (s : State) : Host.Outcome State Fault Refusal :=
  match s.issuedInj id with
  | some e =>
    match e.req.op with
    | .noticeLine0 o =>
      let s1 := s.freeInj id
      match s1.compOf o with
      | some c => done (s1.completeComposition c)
      | none => done s1
    | _ => idle s
  | none => idle s

/-! ## Offers (R135, R136) -/

/-- OFFER_RULING_START (R135) on a channel with no ruling in flight. -/
def execOfferRulingStart (c : Fin 16) (s : State) : Host.Outcome State Fault Refusal :=
  match (s.chan c).ruling, (s.chan c).rulingQueue with
  | none, n :: _ => done (s.startRuling c n)
  | _, _ => idle s

/-- The four plaintext requests of a reading (R136), each for a payload block under the root key. -/
def State.askPlain (s : State) (c : Fin 16) (work n : Nat) : State :=
  match s.slotRec n with
  | none => s
  | some r =>
    (List.range 4).foldl (fun st b => st.askCipher ⟨.offerPlain c work (b + 1), .root, s.recBlock r (b + 1)⟩) s

/-- The ciphertext of a reading is in hand (R136); that of an abandoned reading is discarded. -/
def State.offerData (s : State) (c : Fin 16) (work : Nat) (blocks : List Block) : State :=
  match (s.chan c).ruling, (s.chan c).loading with
  | some w, l =>
    if w.id = work then
      (s.setChan c fun x => { x with ruling := some { w with data := some blocks } }).askPlain c work w.recNo
    else
      match l with
      | some l =>
        if l.id = work then
          (s.setChan c fun x => { x with loading := some { l with data := some blocks } }).askPlain c work l.recNo
        else s
      | none => s
  | none, some l =>
    if l.id = work then
      (s.setChan c fun x => { x with loading := some { l with data := some blocks } }).askPlain c work l.recNo
    else s
  | none, none => s

/-- OFFER_PAYLOAD_READ_RETURN (R136). -/
def execOfferPayloadReadReturn (id : Nat) (data : List Byte) (s : State) : Host.Outcome State Fault Refusal :=
  readReturned id data (fun op => match op with
    | .offerRead _ _ => true
    | _ => false) s fun op s1 =>
    match op with
    | .offerRead c work => s1.offerData c work (blocksOf data)
    | _ => s1

end Sys2Proof.Machine
end

