-- ==== Sys2Proof/Machine/Clock.lean ====
section
/-!
DEFINITION. The Time Base (R182) and the expiries that other blocks read: refills (R107), the cutover (R144), grace
(R131, R132) and holdoff (R167) timers, and key lifetimes (R126).
-/

namespace Sys2Proof.Machine

/-! ## The Time Base -/

/-- A timer at a second expiry. -/
def Timer.tick : Timer → Timer
  | .stopped => .stopped
  | .running left => .running (left - 1)

/-- The holdoff timer at a second expiry. -/
def Holdoff.tick : Holdoff → Holdoff
  | .running left => .running (left - 1)
  | h => h

/-- A second expiry at the timers (R131, R144, R167). -/
def State.tickTimers (s : State) : State :=
  { s with
    channels := s.channels.map fun c => { c with cutover := c.cutover.tick, grace := c.grace.tick }
    notices := { s.notices with holdoff := s.notices.holdoff.tick } }

/-- Whether the present millisecond expiry is also a second expiry (R182). -/
def TimeBase.secondEnds (t : TimeBase) : Bool := decide (999 ≤ t.subMs)

/-- Whether a second expiry is also a minute expiry (R182). -/
def TimeBase.minuteEnds (t : TimeBase) : Bool := decide (59 ≤ t.subSec)

/-- The Time Base at the end of one 250-microsecond interval (R182). -/
def TimeBase.tick (t : TimeBase) : TimeBase :=
  if t.quarter < 3 then { t with quarter := t.quarter + 1 }
  else
    let t1 := { t with quarter := 0, ms := t.ms + 1, refillsDue := t.refillsDue + 1 }
    if !t.secondEnds then { t1 with subMs := t.subMs + 1 }
    else if !t.minuteEnds then { t1 with subMs := 0, subSec := t.subSec + 1 }
    else { t1 with subMs := 0, subSec := 0, minutesDue := t.minutesDue + 1 }

/-- The expiry of a 250-microsecond interval counted for the ISSUED injected transactions (R20). -/
def State.tickInjected (s : State) : State :=
  s.setInj (s.bus.inj.map fun e => if e.issued then { e with ticks := e.ticks + 1 } else e)

/-- TIME_BASE_TICK (R182); the Time Base stands at 0 while PORSTN is asserted. (DESIGN CHOICE,
notes/assumptions/10.md.) -/
def execTimeBaseTick (s : State) : Host.Outcome State Fault Refusal :=
  if s.line = .powerOn then idle s
  else
    let s1 := { s.tickInjected with time := s.time.tick }
    done (if s.time.quarter < 3 ∨ s.time.secondEnds = false then s1 else s1.tickTimers)

/-! ## What the expiries do -/

/-- METER_REFILL (R107): a millisecond expiry at both meters. (DESIGN CHOICE, notes/assumptions/10.md.) -/
def execMeterRefill (s : State) : Host.Outcome State Fault Refusal :=
  if s.time.refillsDue = 0 then idle s
  else
    done { s with
      meterA := s.meterA.refill, meterB := s.meterB.refill, time := { s.time with refillsDue := s.time.refillsDue - 1 } }

/-- CUTOVER_TIMER_EXPIRY (R144): the timer has run out, and the key slot it names is promoted when it is still NEXT. -/
def execCutoverTimerExpiry (c : Fin 16) (s : State) : Host.Outcome State Fault Refusal :=
  if (s.chan c).cutover = .running 0 then
    let s1 := s.setChan c fun x => { x with cutover := .stopped, cutoverKey := none }
    done (if (s.chan c).cutoverKey.isSome ∧ (s.chan c).next = (s.chan c).cutoverKey then s1.promote c else s1)
  else idle s

/-- GRACE_TIMER_EXPIRY (R132): the timer has run out, and the PREVIOUS key leaves its channel. -/
def execGraceTimerExpiry (c : Fin 16) (s : State) : Host.Outcome State Fault Refusal :=
  if (s.chan c).grace = .running 0 then
    done ((s.setChan c fun x => { x with grace := .stopped, prev := none }).judgeKeyOf (s.chan c).prev)
  else idle s

/-- HOLDOFF_TIMER_EXPIRY (R167): the timer has run out, and a fault notice is due. -/
def execHoldoffTimerExpiry (s : State) : Host.Outcome State Fault Refusal :=
  if s.notices.holdoff = .running 0 then done { s with notices := { s.notices with holdoff := .ranOut } }
  else idle s

/-- Whether a key slot's minutes are counted (R126). -/
def KeySlot.counted (k : KeySlot) : Bool :=
  decide (k.state ≠ .free) && k.lifetime.isSome && decide (0 < k.minutes)

/-- A minute expiry at one key slot, with its judgement (R126 to R128). -/
def State.lifetimeTick (s : State) (k : Fin 32) : State :=
  if (s.key k).counted then (s.setKey k fun x => { x with minutes := x.minutes - 1 }).judgeMarks k else s

/-- KEY_LIFETIME_TICK (R126): a minute expiry at the key slots, in number order. (DESIGN CHOICE,
notes/assumptions/10.md.) -/
def execKeyLifetimeTick (s : State) : Host.Outcome State Fault Refusal :=
  if s.time.minutesDue = 0 then idle s
  else
    let s1 := { s with time := { s.time with minutesDue := s.time.minutesDue - 1 } }
    done ((List.finRange 32).foldl State.lifetimeTick s1)

end Sys2Proof.Machine
end

