-- ==== Sys2Proof/Machine/Channels.lean ====
section
/-!
DEFINITION. Teardown (R71, R95, R100, R146) and the commands on channels and meters: SET_CHANNEL (R103),
SET_CHANNEL_STATE (R99), DROP_KEYS (R101), REQUEST_RENEWAL (R177) and SET_METER (R106).
-/

namespace Sys2Proof.Machine

/-! ## Teardown (R100) -/

/-- A reference of a slot record given up, with the key slot that the Key Store judges at the teardown's end. -/
def State.untakeOf (s : State) (k : Option (Fin 32)) : State × List (Fin 32) :=
  match k with
  | some k => (s.untakeRef k, [k])
  | none => (s, [])

/-- The effect of a teardown of channel c on one slot record (R71, R95), with the key slots to judge. -/
def State.tearSlot (s : State) (c : Fin 16) (n : Nat) (r : SlotRec) : State × List (Fin 32) :=
  match r.role, r.state with
  | .outbound, .filling =>
    if s.boundChannel r = some c then (s.failRec n .channelDown).untakeOf r.keySlot else (s, [])
  | .inbound, .arriving =>
    if r.channel = some c then (s.rejectRec n .channelDown).untakeOf r.keySlot else (s, [])
  | .inbound, .checking => if r.channel = some c then (s.note n .channelDown, []) else (s, [])
  | _, _ => (s, [])

/-- The slot records of a teardown, in record order (R100 step 5). -/
def State.tearSlots (c : Fin 16) : List (Nat × SlotRec) → State × List (Fin 32) → State × List (Fin 32)
  | [], a => a
  | p :: rest, a =>
    let b := a.1.tearSlot c p.1 p.2
    State.tearSlots c rest (b.1, a.2 ++ b.2)

/-- The hold cleared with its reference given up, and its key slot to judge (R100 step 3, R146). -/
def State.tearHold (s : State) (c : Fin 16) : State × List (Fin 32) :=
  match (s.chan c).hold with
  | none => (s, [])
  | some h => (s.unclaim h.recNo).untakeOf (some h.key)

/-- The key slots in the channel's roles. -/
def Channel.roleKeys (c : Channel) : List (Fin 32) := [c.prev, c.cur, c.next].filterMap id

/-- The channel's record after steps 1 to 3 and 6 of R100. -/
def Channel.torn (c : Channel) (state : ChanState) : Channel :=
  { c with
    state := state
    prev := none
    cur := none
    next := none
    hold := none
    loading := none
    installBuf := none
    installing := none
    renewal := .idle
    cutover := .stopped
    cutoverKey := none
    grace := .stopped
    rejects := 0 }

/-- A teardown, one event at the channel (R100): the state that the command gives, the emptied roles and hold, the
protocol notice entries, the slots, and at the end the judgement of every key slot that left or was dropped. (DESIGN
CHOICE, notes/assumptions/13.md.) A key slot zeroised by it takes the keystream from the writes that still wait under
it, whose payload bytes are dropped. (DEDUCED, notes/assumptions/25.md.) -/
def State.teardown (s : State) (c : Fin 16) (state : ChanState) : State :=
  let left := (s.chan c).roleKeys
  let h := s.tearHold c
  let s1 := (h.1.setChan c fun x => x.torn state).setProto (s.notices.list.filter fun e => decide (e.channel ≠ c))
  let t := State.tearSlots c s1.pool (s1, [])
  (left ++ h.2 ++ t.2).foldl State.judgeKey t.1

/-! ## The commands -/

/-- A command of the control page (R28, R175, R176): while the unit executes a record with this code, its effect is
taken; otherwise nothing happens. -/
def command (code : Nat) (s : State) (effect : State → State) : Host.Outcome State Fault Refusal :=
  if s.executes code then done (effect s) else idle s

/-- A command that names a channel in byte 2: BAD_ARGUMENT for one above 15 (R28). -/
def State.onChannel (s : State) (f : Fin 16 → State → State) : State :=
  match channelOf (s.arg 2).toNat with
  | some c => f c s
  | none => s.complete statusBadArgument (s.arg 2)

/-- The soft percent override as stored (R103). -/
def clampOverride (v : Nat) : Option Nat := if v = 0 then none else some (min 95 (max 50 v))

/-- The effect of SET_CHANNEL (R103). -/
def State.setChannel (c : Fin 16) (s : State) : State :=
  if 1 < (s.arg 3).toNat then s.complete statusBadArgument (s.arg 2)
  else
    (s.setChan c fun x => { x with
      link := if s.arg 3 = 0 then .a else .b
      priority := min 7 (s.arg 4).toNat
      threshold := (s.arg 5).toNat
      softOverride := clampOverride (s.arg 6).toNat
      cutoverSecs := max 1 (s.arg 7).toNat
      graceSecs := max 1 (s.arg 8).toNat }).complete statusOk (s.arg 2)

/-- SET_CHANNEL (R103). -/
def execSetChannel (s : State) : Host.Outcome State Fault Refusal :=
  command 0x04 s fun s => s.onChannel State.setChannel

/-- The effect of SET_CHANNEL_STATE (R99). -/
def State.setChannelState (c : Fin 16) (s : State) : State :=
  match (s.arg 3).toNat with
  | 0 => (s.teardown c .disabled).complete statusOk (s.arg 2)
  | 1 => (s.setChan c fun x => { x with state := .guarded }).complete statusOk (s.arg 2)
  | 2 =>
    if (s.chan c).state ≠ .disabled ∧ (s.chan c).cur.isSome = true then
      (s.setChan c fun x => { x with state := .opened }).complete statusOk (s.arg 2)
    else s.complete statusNoKey (s.arg 2)
  | _ => s.complete statusBadArgument (s.arg 2)

/-- SET_CHANNEL_STATE (R99). -/
def execSetChannelState (s : State) : Host.Outcome State Fault Refusal :=
  command 0x05 s fun s => s.onChannel State.setChannelState

/-- The effect of DROP_KEYS (R101). -/
def State.dropKeys (c : Fin 16) (s : State) : State :=
  (s.teardown c (if (s.chan c).state = .disabled then .disabled else .guarded)).complete statusOk (s.arg 2)

/-- DROP_KEYS (R101). -/
def execDropKeys (s : State) : Host.Outcome State Fault Refusal :=
  command 0x06 s fun s => s.onChannel State.dropKeys

/-- The effect of REQUEST_RENEWAL (R177). -/
def State.requestRenewal (c : Fin 16) (s : State) : State :=
  if (s.chan c).cur.isSome then (s.handProto ⟨c, .renewRequest .requested⟩).complete statusOk (s.arg 2)
  else s.complete statusNoKey (s.arg 2)

/-- REQUEST_RENEWAL (R177). -/
def execRequestRenewal (s : State) : Host.Outcome State Fault Refusal :=
  command 0x07 s fun s => s.onChannel State.requestRenewal

/-- A burst size as stored (R106). -/
def clampBurst (v : Nat) : Nat := min 1048575 (max 2048 v)

/-- The meter that a SET_METER record writes (R106). -/
def State.meterOf (s : State) : Meter :=
  let yellow := min 8 (s.arg 4).toNat
  let cbs := clampBurst (s.argNat 8 12)
  let ebs := clampBurst (s.argNat 12 16)
  { metered := s.arg 3 = 1
    cir := s.argNat 6 8
    cbs := cbs
    ebs := ebs
    yellow := yellow
    red := max yellow (min 8 (s.arg 5).toNat)
    c := cbs
    e := ebs
    overdraw := 0 }

/-- The effect of SET_METER (R106). -/
def State.setMeterCommand (s : State) : State :=
  if 1 < (s.arg 2).toNat ∨ 1 < (s.arg 3).toNat then s.complete statusBadArgument 0xFF
  else (s.setMeter (if s.arg 2 = 0 then .a else .b) fun _ => s.meterOf).complete statusOk 0xFF

/-- SET_METER (R106). -/
def execSetMeter (s : State) : Host.Outcome State Fault Refusal := command 0x08 s State.setMeterCommand

end Sys2Proof.Machine
end

