-- ==== Sys2Proof/Machine/Commands.lean ====
section
/-!
DEFINITION. The commands on the window table (R3 to R5), the initiator class table (R8), the policy (R177) and the fault
table (R160, R161, R178), and the record whose code is no command's (R28).
-/

namespace Sys2Proof.Machine

/-! ## SET_WINDOW (R3, R4) -/

/-- The role that a role code names (2.6). -/
def roleOf (code : Nat) : Option WinRole :=
  match code with
  | 1 => some .outbound
  | 2 => some .inbound
  | 3 => some .notice
  | 4 => some .report
  | _ => none

/-- The length of the run that a role and a count give (R1). -/
def runOf (role : WinRole) (count : Nat) : Nat :=
  match role with
  | .outbound | .inbound | .notice => count * Config.slotBytes
  | .report => count * 32
  | .controlPage => 4096

/-- Whether a count is in the range of its role (1.1). -/
def countAllowed (role : WinRole) (count : Nat) : Bool :=
  match role with
  | .outbound | .inbound => decide (1 ≤ count) && decide (count ≤ 256)
  | .notice => decide (1 ≤ count) && decide (count ≤ 16)
  | .report => [16, 32, 64, 128, 256, 512, 1024].contains count
  | .controlPage => false

/-- The alignment that a role's base needs (R3). -/
def alignOf (role : WinRole) : Nat := if role = .report then 4096 else 2048

/-- What a SET_WINDOW record asks for (2.6). -/
structure WindowAsk where
  index : Nat
  role : Option WinRole
  channel : Nat
  count : Nat
  base : Nat
  deriving DecidableEq, Repr

/-- The SET_WINDOW record's arguments (2.6, R28). -/
def State.windowAsk (s : State) : WindowAsk where
  index := (s.arg 2).toNat
  role := roleOf (s.arg 3).toNat
  channel := (s.arg 4).toNat
  count := s.argNat 6 8
  base := s.argNat 8 16

/-- The length of the run that the record names; 0 when its role code is none of the four. -/
def WindowAsk.run (a : WindowAsk) : Nat :=
  match a.role with
  | some role => runOf role a.count
  | none => 0

/-- Whether a transit table entry touches a line of the run that the record names (R3). -/
def State.runBusy (s : State) (a : WindowAsk) : Bool :=
  decide (0 < a.run) && s.bus.transit.any fun e => shareLine a.base a.run e.start e.access.size

/-- Check 1 of R3: the index, the role, the count, the channel, the base and the end of the run. -/
def WindowAsk.sound (a : WindowAsk) (role : WinRole) : Bool :=
  decide (1 ≤ a.index) && decide (a.index ≤ 15) && countAllowed role a.count &&
    (decide (role ≠ .outbound) || decide (a.channel ≤ 15)) && a.base % alignOf role == 0 &&
    decide (a.base + runOf role a.count ≤ 2 ^ 40)

/-- The windows in use at other indexes. -/
def State.otherWindows (s : State) (i : Fin 16) : List Window :=
  (List.finRange 16).filterMap fun j => if j = i then none else s.windows[j]

/-- Whether two runs have an address in common. -/
def runsOverlap (base1 run1 base2 run2 : Nat) : Bool := decide (base1 < base2 + run2) && decide (base2 < base1 + run1)

/-- The slot records that the window at an index holds. -/
def State.recordsOf (s : State) (i : Fin 16) : List (Nat × SlotRec) :=
  s.pool.filter fun p => decide (p.2.window = i)

/-- The pool once the records of a window are unassigned (R4, R5). -/
def State.poolWithout (s : State) (i : Fin 16) : List (Nat × SlotRec) :=
  s.pool.filter fun p => decide (p.2.window ≠ i)

/-- The lowest record that begins a run of count unassigned records (R4). -/
def lowestRun (pool : List (Nat × SlotRec)) (count : Nat) : Option Nat :=
  (List.range (Config.poolSize + 1 - count)).find? fun f =>
    pool.all fun p => decide (p.1 < f) || decide (f + count ≤ p.1)

/-- Fresh records of a window's slots put into the pool, whose numbers stay rising (R4, R7). -/
def assignRun (pool : List (Nat × SlotRec)) (first count : Nat) (role : WinRole) (i : Fin 16) : List (Nat × SlotRec) :=
  (pool.filter fun p => decide (p.1 < first)) ++
    ((List.range count).map fun k => (first + k, SlotRec.fresh role i k)) ++
    (pool.filter fun p => decide (first ≤ p.1))

/-- Whether two roles may not stand in the table together: NOTICE twice or REPORT twice (R3 check 2). -/
def doubled (role other : WinRole) : Bool := decide (role = other) && (decide (role = .notice) || decide (role = .report))

/-- The window that an accepted record describes, without its slot records (R4). -/
def WindowAsk.window (a : WindowAsk) (role : WinRole) (first : Option Nat) : Window where
  role := role
  base := BitVec.ofNat 40 a.base
  count := a.count
  channel := if role = .outbound then channelOf a.channel else none
  first := first

/-- The window table entry written, with the pool (R4). -/
def State.putWindow (s : State) (i : Fin 16) (w : Option Window) (pool : List (Nat × SlotRec)) : State :=
  { s with windows := s.windows.set i w, pool := pool }

/-- Checks 2 to 5 of R3 and the effect of R4: the state and the status. -/
def State.placeWindow (s : State) (a : WindowAsk) (role : WinRole) (i : Fin 16) : State × Byte :=
  if (s.otherWindows i).any fun w => doubled role w.role then (s, statusBadArgument)
  else if (s.otherWindows i).any fun w => runsOverlap a.base (runOf role a.count) w.base.toNat w.run then
    (s, statusOverlap)
  else if (s.recordsOf i).any fun p => decide (p.2.state ≠ .free) then (s, statusBusy)
  else if role.hasSlots then
    match lowestRun (s.poolWithout i) a.count with
    | none => (s, statusNoRecords)
    | some first =>
      (s.putWindow i (some (a.window role (some first))) (assignRun (s.poolWithout i) first a.count role i), statusOk)
  else (s.putWindow i (some (a.window role none)) (s.poolWithout i), statusOk)

/-- The checks and the effect of SET_WINDOW (R3, R4): the state and the status. -/
def State.tryWindow (s : State) (a : WindowAsk) : State × Byte :=
  match a.role, channelOf a.index with
  | some role, some i => if a.sound role then s.placeWindow a role i else (s, statusBadArgument)
  | _, _ => (s, statusBadArgument)

/-- The channel byte of a SET_WINDOW's COMMAND_DONE: the bound channel it names, for an OUTBOUND window (R28).
(DEDUCED, notes/assumptions/14.md.) -/
def State.windowChannel (s : State) : Byte := if s.arg 3 = 1 then s.arg 4 else 0xFF

/-- The effect of SET_WINDOW: it waits while a transit table entry touches the run, holding the upstream port (R3).
(DEDUCED, notes/assumptions/18.md.) -/
def State.setWindow (s : State) : State :=
  if s.runBusy s.windowAsk then s.setCtl fun c => { c with windowWait := true }
  else
    let r := (s.setCtl fun c => { c with windowWait := false }).tryWindow s.windowAsk
    r.1.complete r.2 s.windowChannel

/-- SET_WINDOW (R3, R4). -/
def execSetWindow (s : State) : Host.Outcome State Fault Refusal := command 0x01 s State.setWindow

/-! ## CLEAR_WINDOW (R5) and SET_INITIATOR (R8) -/

/-- The effect of CLEAR_WINDOW (R5). -/
def State.clearWindow (s : State) : State :=
  match channelOf (s.arg 2).toNat with
  | none => s.complete statusBadArgument 0xFF
  | some i =>
    if i = 0 then s.complete statusBadArgument 0xFF
    else if (s.windows[i]).isNone then s.complete statusOk 0xFF
    else if (s.recordsOf i).any fun p => decide (p.2.state ≠ .free) then s.complete statusBusy 0xFF
    else (s.putWindow i none (s.poolWithout i)).complete statusOk 0xFF

/-- CLEAR_WINDOW (R5). -/
def execClearWindow (s : State) : Host.Outcome State Fault Refusal := command 0x02 s State.clearWindow

/-- The class that a class code names (2.6). -/
def initClassOf (code : Nat) : Option InitClass :=
  match code with
  | 1 => some .clear
  | 2 => some .line
  | 3 => some .blocked
  | _ => none

/-- The effect of SET_INITIATOR (R8). -/
def State.setInitiator (s : State) : State :=
  match channelOf (s.arg 2).toNat, initClassOf (s.arg 3).toNat with
  | some i, some cls =>
    if i = 0 then s.complete statusBadArgument 0xFF
    else ({ s with classes := s.classes.set i cls }).complete statusOk 0xFF
  | _, _ => s.complete statusBadArgument 0xFF

/-- SET_INITIATOR (R8). -/
def execSetInitiator (s : State) : Host.Outcome State Fault Refusal := command 0x03 s State.setInitiator

/-! ## SET_POLICY (R177) -/

/-- Whether a report ring size is refused: neither 0 nor the count of a REPORT window in use (R177). -/
def State.ringRefused (s : State) (size : Nat) : Bool :=
  decide (size ≠ 0) &&
  (match s.reportWindow with
    | some (_, w) => decide (w.count ≠ size)
    | none => true)

/-- The policy fields of an accepted SET_POLICY (R155, R167, R20, R171). -/
def State.writePolicy (s : State) (c : Fin 16) : State :=
  { s with
    faults := { s.faults with
      localMask := SevMask.ofByte (s.arg 3), noticeMask := SevMask.ofByte (s.arg 4), guardOnFatal := s.arg 5 = 1 }
    notices := { s.notices with reporting := c, holdoffSecs := (s.arg 6).toNat, blocked := false }
    bus := { s.bus with timeout := (s.arg 7).toNat } }

/-- The report ring size written: both indices start again when the ring becomes live or changes its size (R177).
(DEDUCED, notes/assumptions/17.md.) -/
def State.writeRing (s : State) (size : Nat) : State :=
  let s1 := s.setCtl fun c => { c with ringSize := size }
  if (s1.ringLive && !s.ringLive) || decide (size ≠ s.ctl.ringSize) then
    (s1.setCtl fun c => { c with ringProducer := 0, ringConsumer := 0 }).askPage .reportWord 8 (wordAccess 0)
  else s1

/-- The effect of SET_POLICY (R177). -/
def State.setPolicy (s : State) : State :=
  match channelOf (s.arg 2).toNat with
  | none => s.complete statusBadArgument (s.arg 2)
  | some c =>
    if 1 < (s.arg 5).toNat ∨ s.ringRefused (s.argNat 8 10) = true then s.complete statusBadArgument (s.arg 2)
    else ((s.writePolicy c).writeRing (s.argNat 8 10)).complete statusOk (s.arg 2)

/-- SET_POLICY (R177). -/
def execSetPolicy (s : State) : Host.Outcome State Fault Refusal := command 0x09 s State.setPolicy

/-! ## CLEAR_FAULTS (R160), SNAPSHOT_FAULTS (R161, R178) and unknown codes (R28) -/

/-- The classes in the order of their codes (2.4). -/
def allClasses : List FaultClass :=
  [.tagMismatch, .replayed, .malformed, .overrun, .gatedRead, .mergeEviction, .metered, .offerDisplaced, .restart,
   .noKey, .conflict, .disturbed, .keySpent, .keySequence, .keyStoreFull, .noticeBlocked, .blockedInitiator,
   .busProtocol, .memoryError, .integrityStorm, .downstreamTimeout, .rootBlank]

/-- The class that a code names (2.4). -/
def classOfCode (code : Byte) : Option FaultClass := allClasses.find? fun c => c.code == code

/-- The key's channel that a byte names: a channel, or the device; none for 16 to 254 (R160). -/
def keyChannel (v : Byte) : Option (Option (Fin 16)) :=
  if v = 0xFF then some none
  else
    match channelOf v.toNat with
    | some c => some (some c)
    | none => none

/-- The entry with a key discarded, when there is one (R160). -/
def State.clearOne (s : State) (cls : FaultClass) (channel : Option (Fin 16)) : State :=
  match s.faults.find cls channel with
  | some (i, _) => s.putFault i none
  | none => s

/-- What CLEAR_FAULTS discards (R160). -/
def State.discardFaults (s : State) : State :=
  match (s.arg 2).toNat with
  | 0 =>
    match classOfCode (s.arg 3), keyChannel (s.arg 4) with
    | some cls, some channel => s.clearOne cls channel
    | _, _ => s
  | 1 => { s with faults := { s.faults with table := Vector.replicate 32 none, lost := 0 } }
  | _ => s

/-- The channel byte of a CLEAR_FAULTS' COMMAND_DONE: the one it names, with scope 0 (R28). (DEDUCED,
notes/assumptions/14.md.) -/
def State.clearChannel (s : State) : Byte := if s.arg 2 = 0 then s.arg 4 else 0xFF

/-- CLEAR_FAULTS (R160). -/
def execClearFaults (s : State) : Host.Outcome State Fault Refusal :=
  command 0x0A s fun s => s.discardFaults.complete statusOk s.clearChannel

/-- SNAPSHOT_FAULTS (R161, R178): the image is taken and its records begin to be handed on. -/
def execSnapshotFaults (s : State) : Host.Outcome State Fault Refusal :=
  command 0x0B s fun s => State.handSnapshot (s.faults.used.map (·.2)) s

/-- UNKNOWN_COMMAND (R28, R176): a code outside 0x01 to 0x0B. -/
def execUnknownCommand (s : State) : Host.Outcome State Fault Refusal :=
  if decide (s.ctl.state = .executing) && s.ctl.snapshot.isNone && ((s.arg 0).toNat == 0 || decide (0x0B < (s.arg 0).toNat)) then
    done (s.complete statusUnknown 0xFF)
  else idle s

end Sys2Proof.Machine
end

