-- ==== Sys2Proof/Machine/Resets.lean ====
section
/-!
DEFINITION. The two resets and the leaving of each (R2, R7, R8, R21, R33, R97, R105, R114, R116, R134, R150, R155, R159,
R167, R173, R182).
-/

namespace Sys2Proof.Machine

/-! ## Assertion -/

/-- Whether WRSTN is asserted, alone or beside PORSTN (R21). -/
def State.wrstnHeld (s : State) : Bool :=
  match s.line with
  | .released => false
  | .warm => true
  | .powerOn => s.wrstnToo

/-- POWER_ON_RESET (R21): every piece of state takes its power-on value, and the straps are sampled (R2). The fuses are
read when the reset is left; the commands that wait, WRSTN, the logs of the ports and the model's counters stay. -/
def execPowerOnReset (cpbase : BitVec 28) (s : State) : Host.Outcome State Fault Refusal :=
  done { State.reset with
    pending := s.pending
    line := .powerOn
    wrstnToo := s.wrstnHeld
    straps := cpbase
    fuses := s.fuses
    windows := resetWindows cpbase
    bus := Bus.cleared s.bus.up s.bus.down
    stamp := s.stamp
    free := s.free }

/-- The Fault Unit while WRSTN is asserted: the table and the lost total are kept, the policy starts again (R155, R159). -/
def FaultUnit.warm (f : FaultUnit) : FaultUnit :=
  { f with localMask := .all, noticeMask := .empty, guardOnFatal := true }

/-- WARM_RESET (R21): the strap base, the offer high marks, the fault table, the lost total and the Time Base are kept
(R2, R97, R159, R182). While PORSTN is asserted nothing follows but that WRSTN is asserted too. (DEDUCED,
notes/assumptions/11.md.) -/
def execWarmReset (s : State) : Host.Outcome State Fault Refusal :=
  if s.line = .powerOn then done { s with wrstnToo := true }
  else
    done { s with
      line := .warm
      windows := resetWindows s.straps
      classes := resetClasses
      pool := []
      bus := Bus.cleared s.bus.up s.bus.down
      ks := Keystream.cleared
      merges := []
      channels := s.channels.map fun c => Channel.cleared c.highMark
      meterA := Meter.cleared
      meterB := Meter.cleared
      keys := KeyStore.cleared
      faults := s.faults.warm
      notices := NoticeEngine.cleared
      ctl := ControlUnit.cleared }

/-! ## Leaving -/

/-- The zeroing write of control page offsets 4 to 15 and 20 to 23 requested (R173). -/
def State.askZeroing (s : State) : State :=
  s.askPage .resetZero 0 (.write (List.replicate 4 none ++ strobeAll (List.replicate 12 0) ++ List.replicate 4 none ++
    strobeAll (List.replicate 4 0)))

/-- A device-scoped occurrence of a class (R116, R159). -/
def State.deviceFault (s : State) (cls : FaultClass) : State := s.recordFault (occurrence cls none none none none)

/-- With fuses PROGRAMMED the root subkey is requested, and with fuses BLANK the fault is recorded (R33, R116). -/
def State.readFuses (s : State) : State :=
  if s.fuses.programmed then s.askCipher ⟨.rootSubkey, .root, 0⟩ else s.deviceFault .rootBlank

/-- LEAVE_POWER_ON_RESET (R116): PORSTN is released and the fuses are sampled. While WRSTN is still asserted, warm reset
holds the part on, and the rest waits for its leaving (R21). (DEDUCED, notes/assumptions/11.md.) -/
def execLeavePowerOnReset (fuses : Fuses) (s : State) : Host.Outcome State Fault Refusal :=
  if s.line = .powerOn then
    if s.wrstnToo then done { s with line := .warm, wrstnToo := false, fuses := fuses }
    else done ({ s with line := .released, fuses := fuses }).askZeroing.readFuses
  else idle s

/-- A COMPOSING entry back to PENDING with its mark clear (R159). -/
def FaultEntry.returned (e : FaultEntry) : FaultEntry :=
  if e.notice = .composing then { e with notice := .pending, late := false } else e

/-- The fault table on leaving warm reset (R159). -/
def State.returnComposing (s : State) : State :=
  { s with faults := { s.faults with table := s.faults.table.map fun e => e.map FaultEntry.returned } }

/-- RESTART and what the fuses give: with fuses BLANK, RESTART and ROOT_BLANK come in either order (R159). -/
def State.restartFaults (s : State) : State :=
  if s.fuses.programmed then (s.deviceFault .restart).readFuses
  else if Config.rootBlankFirst s.free then ({ s with free := s.free + 1 }).readFuses.deviceFault .restart
  else (({ s with free := s.free + 1 }).deviceFault .restart).readFuses

/-- LEAVE_WARM_RESET (R159): WRSTN is released. While PORSTN is asserted nothing else follows. (DEDUCED,
notes/assumptions/11.md.) -/
def execLeaveWarmReset (s : State) : Host.Outcome State Fault Refusal :=
  match s.line with
  | .released => idle s
  | .warm => done ({ s with line := .released }).askZeroing.returnComposing.restartFaults
  | .powerOn => done { s with wrstnToo := false }

end Sys2Proof.Machine
end

