-- ==== Sys2Proof/Machine/Dispatch.lean ====
section
/-!
DEFINITION. The dispatch of a command to its meaning: one arm for each row of spec/opcode_table.json.
-/

namespace Sys2Proof.Machine

def exec (i : Instr) (s : State) : Host.Outcome State Fault Refusal :=
  match i with
  | .powerOnReset cpbase => Sys2Proof.Machine.execPowerOnReset cpbase s
  | .leavePowerOnReset fuses => Sys2Proof.Machine.execLeavePowerOnReset fuses s
  | .warmReset => Sys2Proof.Machine.execWarmReset s
  | .leaveWarmReset => Sys2Proof.Machine.execLeaveWarmReset s
  | .transactionAccept t => Sys2Proof.Machine.execTransactionAccept t s
  | .outboundClearWrite t => Sys2Proof.Machine.execOutboundClearWrite t s
  | .outboundClearRead t => Sys2Proof.Machine.execOutboundClearRead t s
  | .outboundLineWrite t => Sys2Proof.Machine.execOutboundLineWrite t s
  | .inboundLineWrite t => Sys2Proof.Machine.execInboundLineWrite t s
  | .inboundClearHeaderWrite t => Sys2Proof.Machine.execInboundClearHeaderWrite t s
  | .inboundClearPayloadWrite t => Sys2Proof.Machine.execInboundClearPayloadWrite t s
  | .inboundClearRead t => Sys2Proof.Machine.execInboundClearRead t s
  | .noticeClearHeaderWrite t => Sys2Proof.Machine.execNoticeClearHeaderWrite t s
  | .controlPageOtherWrite w => Sys2Proof.Machine.execControlPageOtherWrite w s
  | .commandProducerIndexWrite entry => Sys2Proof.Machine.execCommandProducerIndexWrite entry s
  | .reportConsumerIndexWrite entry => Sys2Proof.Machine.execReportConsumerIndexWrite entry s
  | .downstreamGrant => Sys2Proof.Machine.execDownstreamGrant s
  | .passedResponse entry data => Sys2Proof.Machine.execPassedResponse entry data s
  | .passedErrorResponse entry data => Sys2Proof.Machine.execPassedErrorResponse entry data s
  | .injectionRequestServed => Sys2Proof.Machine.execInjectionRequestServed s
  | .injectedError entry => Sys2Proof.Machine.execInjectedError entry s
  | .downstreamTimeout entry => Sys2Proof.Machine.execDownstreamTimeout entry s
  | .staleResponse entry => Sys2Proof.Machine.execStaleResponse entry s
  | .cipherGrant => Sys2Proof.Machine.execCipherGrant s
  | .keystreamMissComplete => Sys2Proof.Machine.execKeystreamMissComplete s
  | .backgroundCipherComplete => Sys2Proof.Machine.execBackgroundCipherComplete s
  | .rootSubkeyComplete => Sys2Proof.Machine.execRootSubkeyComplete s
  | .multiplierGrant => Sys2Proof.Machine.execMultiplierGrant s
  | .multiplierProductReturn => Sys2Proof.Machine.execMultiplierProductReturn s
  | .finishDecision slot => Sys2Proof.Machine.execFinishDecision slot s
  | .tailFetchReturn entry data => Sys2Proof.Machine.execTailFetchReturn entry data s
  | .sweepReadReturn entry data => Sys2Proof.Machine.execSweepReadReturn entry data s
  | .directFinishComplete slot => Sys2Proof.Machine.execDirectFinishComplete slot s
  | .frameWriteAnswered entry => Sys2Proof.Machine.execFrameWriteAnswered entry s
  | .tagReadReturn entry data => Sys2Proof.Machine.execTagReadReturn entry data s
  | .offerRulingStart channel => Sys2Proof.Machine.execOfferRulingStart channel s
  | .offerPayloadReadReturn entry data => Sys2Proof.Machine.execOfferPayloadReadReturn entry data s
  | .hashSubkeyReturn => Sys2Proof.Machine.execHashSubkeyReturn s
  | .protocolNoticeStart => Sys2Proof.Machine.execProtocolNoticeStart s
  | .faultNoticeStart => Sys2Proof.Machine.execFaultNoticeStart s
  | .noticeLine1WriteAnswered entry => Sys2Proof.Machine.execNoticeLine1WriteAnswered entry s
  | .noticeCompositionComplete entry => Sys2Proof.Machine.execNoticeCompositionComplete entry s
  | .commandFetchReturn entry data => Sys2Proof.Machine.execCommandFetchReturn entry data s
  | .setWindow => Sys2Proof.Machine.execSetWindow s
  | .clearWindow => Sys2Proof.Machine.execClearWindow s
  | .setInitiator => Sys2Proof.Machine.execSetInitiator s
  | .setChannel => Sys2Proof.Machine.execSetChannel s
  | .setChannelState => Sys2Proof.Machine.execSetChannelState s
  | .dropKeys => Sys2Proof.Machine.execDropKeys s
  | .requestRenewal => Sys2Proof.Machine.execRequestRenewal s
  | .setMeter => Sys2Proof.Machine.execSetMeter s
  | .setPolicy => Sys2Proof.Machine.execSetPolicy s
  | .clearFaults => Sys2Proof.Machine.execClearFaults s
  | .snapshotFaults => Sys2Proof.Machine.execSnapshotFaults s
  | .snapshotRecordHanded => Sys2Proof.Machine.execSnapshotRecordHanded s
  | .unknownCommand => Sys2Proof.Machine.execUnknownCommand s
  | .commandDoneHanded => Sys2Proof.Machine.execCommandDoneHanded s
  | .statusWriteAnswered entry => Sys2Proof.Machine.execStatusWriteAnswered entry s
  | .reportRecordWriteAnswered entry => Sys2Proof.Machine.execReportRecordWriteAnswered entry s
  | .reportProducerWordAnswered entry => Sys2Proof.Machine.execReportProducerWordAnswered entry s
  | .lostReportCountWriteAnswered entry => Sys2Proof.Machine.execLostReportCountWriteAnswered entry s
  | .timeBaseTick => Sys2Proof.Machine.execTimeBaseTick s
  | .meterRefill => Sys2Proof.Machine.execMeterRefill s
  | .cutoverTimerExpiry channel => Sys2Proof.Machine.execCutoverTimerExpiry channel s
  | .graceTimerExpiry channel => Sys2Proof.Machine.execGraceTimerExpiry channel s
  | .holdoffTimerExpiry => Sys2Proof.Machine.execHoldoffTimerExpiry s
  | .keyLifetimeTick => Sys2Proof.Machine.execKeyLifetimeTick s
  | .headerResultWriteAnswered entry => Sys2Proof.Machine.execHeaderResultWriteAnswered entry s
  | .resetZeroingWriteAnswered entry => Sys2Proof.Machine.execResetZeroingWriteAnswered entry s

end Sys2Proof.Machine
end

