-- ==== Sys2Proof/Safety.lean ====
section
/-!
DEFINITION. What counts as a sound state, in the terms the statements use: the invariants that the spec states of the
tables, the meters, the channels, the fault table and the interrupt, and the settings that only named commands write.
-/

namespace Sys2Proof.Machine

/-! ## What only named commands change -/

/-- The fields of the state that hold still but for the few commands that write them: the queue of commands, the reset
lines and pins (R2, R21, R116), the window and initiator class tables (R6, R8), the Time Base (R182), the arbiter's
count and what has gone downstream (R17), and the policy that SET_POLICY writes (R177). -/
structure Steady where
  pending : List Instr
  line : ResetLine
  wrstnToo : Bool
  straps : BitVec 28
  fuses : Fuses
  windows : Vector (Option Window) 16
  classes : Vector InitClass 16
  time : TimeBase
  passover : Nat
  down : List DownIssue
  timeout : Nat
  localMask : SevMask
  noticeMask : SevMask
  guardOnFatal : Bool
  reporting : Fin 16
  holdoffSecs : Nat
  deriving DecidableEq, Repr

/-- Those fields of a state. -/
def State.steady (s : State) : Steady where
  pending := s.pending
  line := s.line
  wrstnToo := s.wrstnToo
  straps := s.straps
  fuses := s.fuses
  windows := s.windows
  classes := s.classes
  time := s.time
  passover := s.bus.passover
  down := s.bus.down
  timeout := s.bus.timeout
  localMask := s.faults.localMask
  noticeMask := s.faults.noticeMask
  guardOnFatal := s.faults.guardOnFatal
  reporting := s.notices.reporting
  holdoffSecs := s.notices.holdoffSecs

/-! ## Invariants -/

/-- Entry 0 of the window table holds the control page at the strap base (R2), and initiator 0 is CLEAR (R8). -/
def State.tablesSound (s : State) : Prop :=
  s.windows[0] = some (Window.controlPage s.straps) ∧ s.classes[0] = .clear

/-- A meter inside the ranges of R105: both levels within their sizes, the sizes and thresholds within theirs,
an UNMETERED meter full and without overdraw (R106, R107, R111). -/
def Meter.sound (m : Meter) : Prop :=
  m.c ≤ m.cbs ∧ m.e ≤ m.ebs ∧ 2048 ≤ m.cbs ∧ m.cbs ≤ 1048575 ∧ 2048 ≤ m.ebs ∧ m.ebs ≤ 1048575 ∧
    m.cir ≤ 65535 ∧ m.yellow ≤ m.red ∧ m.red ≤ 8 ∧ m.overdraw ≤ Config.top32 ∧
    (m.metered = false → m.c = m.cbs ∧ m.e = m.ebs ∧ m.overdraw = 0)

/-- Both meters inside their ranges. -/
def State.metersSound (s : State) : Prop := s.meterA.sound ∧ s.meterB.sound

/-- A channel record as R98 and R131 say: OPEN has a CURRENT key, DISABLED names no key slot in a role or in its hold,
and no PREVIOUS key means a stopped grace timer. -/
def Channel.sound (c : Channel) : Prop :=
  (c.state = .opened → c.cur.isSome = true) ∧
  (c.state = .disabled → c.prev = none ∧ c.cur = none ∧ c.next = none ∧ c.hold = none) ∧
  (c.prev = none → c.grace = .stopped)

/-- Every channel record sound. -/
def State.channelsSound (s : State) : Prop := ∀ c, (s.chan c).sound

/-- At most one entry for each pair of class and channel-or-device (R150), and a device-scoped class in an entry with
no channel (R149). -/
def State.faultsSound (s : State) : Prop :=
  (∀ (i j : Fin 32) (e f : FaultEntry), s.faults.table[i] = some e → s.faults.table[j] = some f →
    e.cls = f.cls → e.channel = f.channel → i = j) ∧
  (∀ (i : Fin 32) (e : FaultEntry), s.faults.table[i] = some e → e.cls.deviceScoped = true → e.channel = none)

/-- The interrupt line stands as R181 judges it. -/
def State.irqSound (s : State) : Prop := s.ctl.irq = s.irqWanted

/-- The passover count within 0 to 8 (R17). -/
def State.passoverSound (s : State) : Prop := s.bus.passover ≤ Config.passoverTop

/-- Nothing is left to settle: no read that could be delivered, no write without a strobe, no request to place
(R10, R15, R16). -/
def State.rested (s : State) : Prop :=
  (∀ e ∈ s.bus.transit, e.deliverable = false ∧ e.emptied = false) ∧ s.bus.injAsked = []

/-- The ages of each collection rise strictly and lie below the next stamp: no two entries share one (R13). -/
def State.agesSound (s : State) : Prop :=
  s.bus.transit.Pairwise (fun e f => e.id < f.id) ∧ (∀ e ∈ s.bus.transit, e.id < s.stamp) ∧
  s.bus.inj.Pairwise (fun e f => e.id < f.id) ∧ (∀ e ∈ s.bus.inj, e.id < s.stamp)

/-- The numbers of the assigned slot records rise strictly: each record serves one slot (1.2, R4). -/
def State.poolSound (s : State) : Prop := s.pool.Pairwise fun p q => p.1 < q.1

/-- No collection holds more than its places: the transit table (R12), the injection queue (R16), the miss file (R45), the
merge queue (R59), the protocol notice list (R164) and the report queue (R173). -/
def State.sizesSound (s : State) : Prop :=
  s.bus.transit.length ≤ 16 ∧ s.bus.inj.length ≤ 8 ∧ s.ks.misses.length ≤ 8 ∧ s.merges.length ≤ 32 ∧
    s.notices.list.length ≤ 16 ∧ s.ctl.queue.length ≤ 8

/-- The slot records that name a key slot (R119). -/
def State.recordHolders (s : State) (k : Fin 32) : Nat := s.pool.countP fun p => decide (p.2.keySlot = some k)

/-- The channels whose offer hold names a key slot (R119). -/
def State.holdHolders (s : State) (k : Fin 32) : Nat :=
  (List.finRange 16).countP fun c => decide ((s.chan c).hold.map (·.key) = some k)

/-- A key slot as R114, R115, R117, R119 and R120 say: it is on the free list exactly while it is FREE, and is then
zeroised; its reference count is the number of its holders; one that is not FREE has an owning channel, and a role or a
reference; its state goes with its role; and a STAGED one without a role is held or its install is in flight. -/
def State.keySlotSound (s : State) (k : Fin 32) : Prop :=
  (k ∈ s.keys.freeList ↔ (s.key k).state = .free) ∧
  ((s.key k).state = .free → s.key k = KeySlot.zeroised) ∧
  (s.key k).refs = s.recordHolders k + s.holdHolders k ∧
  ((s.key k).state ≠ .free → (s.key k).owner ≠ none ∧ (s.keyRole k ≠ none ∨ 0 < (s.key k).refs)) ∧
  (s.keyRole k = some .current ∨ s.keyRole k = some .previous ↔ (s.key k).state = .active) ∧
  (s.keyRole k = some .next → (s.key k).state = .staged) ∧
  ((s.key k).state = .staged → s.keyRole k = none → s.heldOrInstalling k = true)

/-- The key slots of one channel: its roles name key slots that it owns, a different one each, of generations in the
relation of R121, PREVIOUS and NEXT only beside a CURRENT; and its hold names a STAGED one of its own without a role
(R97, R115, R117, R121). -/
def State.roleKeysSound (s : State) (c : Fin 16) : Prop :=
  (∀ k, (s.chan c).cur = some k → (s.key k).owner = some c ∧ (s.chan c).next ≠ some k ∧ (s.chan c).prev ≠ some k) ∧
  (∀ k, (s.chan c).next = some k → (s.key k).owner = some c ∧ (s.chan c).prev ≠ some k ∧
    ∃ g, (s.chan c).cur = some g ∧ (s.key k).gen = (s.key g).gen + 1) ∧
  (∀ k, (s.chan c).prev = some k → (s.key k).owner = some c ∧
    ∃ g, (s.chan c).cur = some g ∧ (s.key g).gen = (s.key k).gen + 1) ∧
  (∀ h, (s.chan c).hold = some h →
    (s.key h.key).owner = some c ∧ (s.key h.key).state = .staged ∧ s.keyRole h.key = none)

/-- Whether a background request waits for the cipher engine, or is granted and not withdrawn (R47, R48). -/
def State.owed (s : State) (r : BgReq) : Prop :=
  r ∈ s.ks.background ∨ ∃ g, s.ks.cipher = some g ∧ g.job = .background r ∧ g.withdrawn = false

/-- The Key Store and those who hold its slots: every key slot and every channel's key slots sound, the free list without
repeats (R117), no slot record that is FREE, FAILED, REJECTED or without a header naming a key slot (R7, R54, R65, R88),
and no hash subkey asked for of a FREE key slot (R118). -/
def State.keysSound (s : State) : Prop :=
  (∀ k, s.keySlotSound k) ∧ (∀ c, s.roleKeysSound c) ∧ s.keys.freeList.Nodup ∧
  (∀ p ∈ s.pool, p.2.state = .free ∨ p.2.state = .failed ∨ p.2.state = .rejected ∨
    (p.2.state = .arriving ∧ p.2.headerSeen = false) → p.2.keySlot = none) ∧
  (∀ (r : BgReq) (k : Fin 32), s.owed r → r.use = .hashSubkey → r.key = .slot k → (s.key k).state ≠ .free)

/-- A sound state: every invariant above. -/
def State.sound (s : State) : Prop :=
  s.tablesSound ∧ s.metersSound ∧ s.channelsSound ∧ s.faultsSound ∧ s.irqSound ∧ s.passoverSound ∧ s.rested ∧
    s.agesSound ∧ s.poolSound ∧ s.sizesSound ∧ s.keysSound

/-! ## What a statement says of two states -/

/-- The requests for injected transactions that are in the queue or wait for a place in it (R16). -/
def State.requests (s : State) : List InjReq := s.bus.inj.map (·.req) ++ s.bus.injWaiting

/-- The frames' working state is the same: slot records, keystream, multiplier and cipher engine, merge queue. -/
def SameFrames (s t : State) : Prop := t.pool = s.pool ∧ t.ks = s.ks ∧ t.merges = s.merges

/-- The Key Store and the Channel Table are the same. -/
def SameKeys (s t : State) : Prop := t.keys = s.keys ∧ t.channels = s.channels

/-- Both meters are the same. -/
def SameMeters (s t : State) : Prop := t.meterA = s.meterA ∧ t.meterB = s.meterB

/-- The Fault Unit is the same. -/
def SameFaults (s t : State) : Prop := t.faults = s.faults

/-- The Notice Engine is the same but for its holdoff timer, which every step judges (R167). -/
def SameNotices (s t : State) : Prop := t.notices = { s.notices with holdoff := t.notices.holdoff }

/-- The Control Unit is the same but for the interrupt, which every step judges (R181). -/
def SameControl (s t : State) : Prop := t.ctl = { s.ctl with irq := t.ctl.irq }

/-- Nothing but the bus, the holdoff timer and the interrupt has changed. -/
def SameUnits (s t : State) : Prop :=
  SameFrames s t ∧ SameKeys s t ∧ SameMeters s t ∧ SameFaults s t ∧ SameNotices s t ∧ SameControl s t

/-- No transaction has been forwarded: every transit table entry was one before. -/
def NothingForwarded (s t : State) : Prop := ∀ e ∈ t.bus.transit, ∃ f ∈ s.bus.transit, f.id = e.id

/-- Every slot record but n is as it was. -/
def OtherRecords (s t : State) (n : Nat) : Prop := ∀ m, m ≠ n → t.slotRec m = s.slotRec m

/-- Every channel record but c is as it was. -/
def OtherChannels (s t : State) (c : Fin 16) : Prop := ∀ d, d ≠ c → t.chan d = s.chan d

/-- Every key slot but k is as it was. -/
def OtherKeys (s t : State) (k : Fin 32) : Prop := ∀ j, j ≠ k → t.key j = s.key j

/-- The part's own answer to a transaction: OKAY or ERROR, with zeros for a read's bytes (R9, R14). -/
def ownAnswer (x : Transaction) (ok : Bool) : UpResponse :=
  ⟨x.initiator, x.start, ok,
    match x.access with
    | .read n => List.replicate (8 * n) 0
    | .write _ => []⟩

/-- A burst that the port accepts, that R9 and R10 send along a route, and that concerns slot record n, which is r. -/
def Reaches (s : State) (x : Transaction) (route : Route) (p : Place) (n : Nat) (r : SlotRec) : Prop :=
  x.wellFormed = true ∧ s.accepting = true ∧ s.placeOf x = some p ∧ s.routeOf x = route ∧ p.recNo = some n ∧
    s.slotRec n = some r

/-- A beat waits for the keystream of a key slot and counter block: in the miss file entry for them, or in the overflow
list, every miss file entry being taken (R45). -/
def State.awaits (s : State) (w : Waiter) (k : Fin 32) (ctr : Block) : Prop :=
  (∃ m ∈ s.ks.misses, m.key = k ∧ m.ctr = ctr ∧ w ∈ m.waiters) ∨
    (⟨w, k, ctr⟩ ∈ s.ks.overflow ∧ 8 ≤ s.ks.misses.length)

/-- The keystream of a read's beats, accepted in s and forwarded as e in t, for slot record r: a beat with a byte to
decipher holds its half of the block that the cache has for the record's key slot and the counter block of the beat's
payload block, and else waits for it; a beat with none asks for none (R32, R43, R45). -/
def Keyed (s t : State) (e : TransitEntry) (r : SlotRec) (beats : Nat) : Prop :=
  ∀ i < beats,
    ((∀ j < 8, e.treat[8 * i + j]? ≠ some .decipher) → e.beatKeys[i]? = some .none) ∧
    ∀ k : Fin 32, (∃ j < 8, e.treat[8 * i + j]? = some .decipher) → r.key = some (.slot k) →
      ∀ ctr, ctr = s.recBlock r (blockAt (e.start % 2048 + 8 * i)) →
      (∀ ks, s.ks.cached k ctr = some ks →
        e.beatKeys[i]? = some (.held (halfOf ks ((e.start / 8 + i) % 2 == 1)))) ∧
      (s.ks.cached k ctr = none → e.beatKeys[i]? = some .waiting ∧ t.awaits ⟨e.id, i⟩ k ctr)

/-- A due fault notice may carry this entry of the table under a meter's colour: PENDING, of a severity in the notice
mask, and admitted: every severity at GREEN, DEGRADED and FATAL at YELLOW, FATAL alone at RED (R167, R168). -/
def State.admits (s : State) (colour : Colour) (i : Fin 32) (e : FaultEntry) : Prop :=
  s.faults.table[i] = some e ∧ e.notice = .pending ∧ s.faults.noticeMask.has e.severity = true ∧
    (colour = .yellow → e.severity ≠ .correctable) ∧ (colour = .red → e.severity = .fatal)

/-- The order in which a fault notice takes its entries: FATAL first, then by first time, then by entry number (R168). -/
def GoesBefore (a b : Fin 32 × FaultEntry) : Prop :=
  (a.2.severity = .fatal ∧ b.2.severity ≠ .fatal) ∨
    ((a.2.severity = .fatal ↔ b.2.severity = .fatal) ∧
      (a.2.firstTime.toNat < b.2.firstTime.toNat ∨ (a.2.firstTime = b.2.firstTime ∧ a.1 < b.1)))

/-- A fault notice is due: an eligible entry is FATAL, the holdoff timer has run out, or eight entries are eligible; at
GREEN every eligible entry is admitted (R167). -/
def State.due (s : State) : Prop :=
  (∃ (i : Fin 32) (e : FaultEntry), s.admits .green i e ∧ e.severity = .fatal) ∨ s.notices.holdoff = .ranOut ∨
    ∃ l : List (Fin 32), l.Nodup ∧ l.length = 8 ∧ ∀ i ∈ l, ∃ e, s.admits .green i e

/-- How the holdoff timer stands after a step that left it so: stopped when no entry is eligible, started with the
setting when one is and it was stopped, and otherwise as it was left (R167). -/
def HoldoffJudged (t : State) (was : Holdoff) : Prop :=
  ((∀ (i : Fin 32) (e : FaultEntry), ¬ t.admits .green i e) → t.notices.holdoff = .stopped) ∧
    ((∃ (i : Fin 32) (e : FaultEntry), t.admits .green i e) → t.notices.holdoff =
      if was = .stopped then (if t.notices.holdoffSecs = 0 then .ranOut else .running t.notices.holdoffSecs) else was)

/-- An entry of the protocol notice list can be composed under key slot k: the one a KEY_CONFIRM names, or the channel's
CURRENT one for a RENEW_REQUEST; the channel GUARDED or OPEN, and the key slot with a role on it, LOADED, and with
sequences left; the meter is not asked (R122, R165). -/
def State.composes (s : State) (e : ProtoEntry) (k : Fin 32) : Prop :=
  (e.kind = .keyConfirm k ∨ (∃ why, e.kind = .renewRequest why) ∧ (s.chan e.channel).cur = some k) ∧
    (s.chan e.channel).state ≠ .disabled ∧
    ((s.chan e.channel).cur = some k ∨ (s.chan e.channel).next = some k ∨ (s.chan e.channel).prev = some k) ∧
    (s.key k).load = .loaded ∧ (s.key k).nextSeq < 4294967296

/-! ## The judgement of a key's budget (R124, R127, R128, R130) -/

/-- A spent mark is reached: of frames, of bytes, of minutes or of sequences (R124). -/
def KeySlot.spentMark (x : KeySlot) : Prop :=
  x.frameLimit ≤ x.frames ∨ (∃ v, x.byteLimit = some v ∧ v * 65536 ≤ x.bytes) ∨
    (x.lifetime ≠ none ∧ x.minutes = 0) ∨ 4294967296 ≤ x.nextSeq

/-- The soft mark that a SOFT request names at an effective soft percent: of frames, else of bytes, else of minutes
(R124, R128). -/
def KeySlot.softMark (x : KeySlot) (percent : Nat) (why : RenewReason) : Prop :=
  let frames := x.frameLimit * percent / 100 ≤ x.frames
  let bytes := ∃ v, x.byteLimit = some v ∧ v * 65536 * percent / 100 ≤ x.bytes
  let minutes := ∃ l, x.lifetime = some l ∧ l * percent / 100 ≤ l - x.minutes
  (frames ∧ why = .softFrames) ∨ (¬ frames ∧ bytes ∧ why = .softBytes) ∨
    (¬ frames ∧ ¬ bytes ∧ minutes ∧ why = .softLifetime)

/-- The judgement of a key slot hands the SPENT request if it is CURRENT: a spent mark is newly reached, or the key
slot, spent before, is promoted (R127, R130). -/
def KeySlot.spends (x : KeySlot) (promoted : Bool) : Prop :=
  (x.spent = false ∧ x.spentMark) ∨ (x.spent = true ∧ promoted = true)

/-- The judgement of a CURRENT key slot hands this SOFT request: the renewal-asked flag is still clear once the spent
marks have been judged, and the soft mark is reached (R128). -/
def KeySlot.softens (x : KeySlot) (percent : Nat) (why : RenewReason) : Prop :=
  x.asked = false ∧ (x.spent = false → ¬ x.spentMark) ∧ x.softMark percent why

/-- The reason of the RENEW_REQUEST that the judgement of a CURRENT key slot leaves in the list (R127, R128, R130). -/
def KeySlot.asks (x : KeySlot) (percent : Nat) (promoted : Bool) (why : RenewReason) : Prop :=
  x.softens percent why ∨ (x.spends promoted ∧ why = .spent ∧ ∀ w, ¬ x.softens percent w)

/-- The effective soft percent of a key slot of channel c: the channel's override, else the offered one (R124). -/
def State.percentOf (s : State) (c : Fin 16) (x : KeySlot) : Nat := (s.chan c).softOverride.getD x.softPercent

/-- A channel's RENEW_REQUEST handed to the protocol notice list l leaves it as m: it takes the reason in the place of
one there, else joins the end, else, the list full, is dropped (R164). -/
def RenewHanded (l m : List ProtoEntry) (c : Fin 16) (why : RenewReason) : Prop :=
  ((∀ w, ⟨c, .renewRequest w⟩ ∉ l) → m = if l.length < 16 then l ++ [⟨c, .renewRequest why⟩] else l) ∧
    ((∃ w, ⟨c, .renewRequest w⟩ ∈ l) → m = l.map fun e =>
      match e.kind with
      | .renewRequest _ => if e.channel = c then ⟨c, .renewRequest why⟩ else e
      | .keyConfirm _ => e)

/-- The flags of key slot k in t, which an event in s has changed to x and then judged, for its owning channel c: spent
from then on when a spent mark is reached, whatever its role, and renewal-asked with that, or when it is CURRENT and a
soft mark is (R127, R128). -/
def FlagsJudged (s t : State) (k : Fin 32) (x : KeySlot) (c : Fin 16) (current : Bool) : Prop :=
  ((t.key k).spent = true ↔ x.spent = true ∨ x.spentMark) ∧
    ((t.key k).asked = true ↔ x.asked = true ∨ (x.spent = false ∧ x.spentMark) ∨
      (current = true ∧ ∃ why, x.softens (s.percentOf c x) why))

/-- The protocol notice list in t, which stood as l when key slot x of channel c was judged: a CURRENT key slot hands its
RENEW_REQUEST, any other none (R127, R128, R130). -/
def ListJudged (s t : State) (x : KeySlot) (c : Fin 16) (current promoted : Bool) (l : List ProtoEntry) : Prop :=
  (∀ why, current = true → x.asks (s.percentOf c x) promoted why → RenewHanded l t.notices.list c why) ∧
    (current = false ∨ (∀ why, ¬ x.asks (s.percentOf c x) promoted why) → t.notices.list = l)

/-- A minute expiry counts for key slot k of owning channel c: not FREE, with a lifetime and minutes left (R126). -/
def State.minuteCounts (s : State) (k : Fin 32) (c : Fin 16) : Prop :=
  (s.key k).owner = some c ∧ (s.key k).state ≠ .free ∧ (s.key k).lifetime ≠ none ∧ (s.key k).minutes ≠ 0

/-- A key slot with its minutes remaining lowered by one (R126). -/
def KeySlot.minuteLater (x : KeySlot) : KeySlot := { x with minutes := x.minutes - 1 }

/-- The occurrence of KEY_SPENT on a channel (R127). -/
def keySpentOn (c : Fin 16) : Occurrence := ⟨.keySpent, .degraded, some c, none, none, none, false⟩

/-- State u is s, with KEY_SPENT taken on channel c when the key slot judged is CURRENT and its SPENT request is handed
(R127, R130). -/
def SpentTaken (s u : State) (x : KeySlot) (c : Fin 16) (current promoted : Bool) : Prop :=
  (current = true → x.spends promoted → u = s.recordFault (keySpentOn c)) ∧
    (current = false ∨ ¬ x.spends promoted → u = s)

/-! ## Report records (R179, R180) -/

/-- The report records that a step, or an event of it, hands to the Control Unit are these, in this order: with a ring
write outstanding they join the queue of eight; with none, an empty queue and a live ring that is not full, the first
is written at the ring's producer index and the others join; with no such ring, none does; and each record for which
there is no place is counted as lost (R179, R180). -/
def Handed (s t : State) (l : List Report) : Prop :=
  (s.reportOutstanding = true → s.ctl.queue.length ≤ 8 →
    t.ctl.queue = (s.ctl.queue ++ l).take 8 ∧
    t.ctl.lost = if s.ctl.queue.length + l.length ≤ 8 then s.ctl.lost
      else min (s.ctl.lost + (s.ctl.queue.length + l.length - 8)) 4294967295) ∧
  (∀ (q : Report) (rest : List Report) (i : Fin 16) (w : Window), s.reportOutstanding = false → s.ctl.queue = [] →
    l = q :: rest → s.ringLive = true → (s.ctl.ringProducer + 1) % s.ctl.ringSize ≠ s.ctl.ringConsumer →
    s.reportWindow = some (i, w) →
    (∃ a ∈ t.requests ++ t.bus.injAsked, a.op = .reportRecord ∧
      a.start = w.base.toNat + 32 * s.ctl.ringProducer ∧ a.access = .write (q.bytes.map some)) ∧
    t.ctl.queue = rest.take 8 ∧
    t.ctl.lost = if rest.length ≤ 8 then s.ctl.lost else min (s.ctl.lost + (rest.length - 8)) 4294967295) ∧
  (s.reportOutstanding = false → s.ctl.queue = [] →
    s.ringLive = false ∨ (s.ctl.ringProducer + 1) % s.ctl.ringSize = s.ctl.ringConsumer →
    t.ctl.queue = [] ∧ t.ctl.lost = if l = [] then s.ctl.lost else min (s.ctl.lost + l.length) 4294967295)

/-- The FAULT report record of an entry as it then stands (R156). -/
def faultReport (s : State) (e : FaultEntry) : Report := ⟨.fault e, chanByte e.channel, e.window, e.slot, s.time.ms⟩

/-- A step hands this report record to the Control Unit, once, among the FAULT records of the occurrences it takes. -/
def Announced (s t : State) (q : Report) : Prop :=
  ∃ before after : List Report, (∀ a ∈ before ++ after, ∃ e, a.body = .fault e) ∧ Handed s t (before ++ q :: after)

/-- The KEY_EVENT record of a key slot on a channel: PROMOTED, or else INSTALLED, with its generation, its number and its
offer serial (R129, R142). -/
def keyEventOf (s : State) (c : Fin 16) (promoted : Bool) (k : Fin 32) : Report :=
  ⟨.keyEvent promoted (s.key k).gen k (s.key k).serial, chanByte (some c), none, none, s.time.ms⟩

/-- What a promotion of NEXT key slot k on channel c does besides the roles (R129 step 4, R130): its KEY_EVENT record is
handed on; a RENEW_REQUEST of the channel leaves the list; and the key slot is judged as CURRENT, a spent one handing
its SPENT request and taking KEY_SPENT now. -/
def PromotionJudged (s t : State) (c : Fin 16) (k : Fin 32) : Prop :=
  Announced s t (keyEventOf s c true k) ∧ FlagsJudged s t k (s.key k) c true ∧
    (∀ l, l = s.notices.list.filter (fun e => decide (e.channel ≠ c) || match e.kind with
        | .renewRequest _ => false
        | .keyConfirm _ => true) →
      ListJudged s t (s.key k) c true true l ∧
      (l.length < 16 → s.ks.overflow = [] ∨ (s.chan c).prev = none → ∀ u, SpentTaken s u (s.key k) c true true →
        t.faults = u.faults))

/-- The bytes of the header result write of a state and a reason (R24). -/
def resultAccess (state : SlotState) (why : Reason) : Access :=
  .write (List.replicate 6 none ++ [some state.mirror, some why.code])

/-- A header result write for record n, which serves the slot of r, with this state and reason has been requested. -/
def ResultAsked (t : State) (n : Nat) (r : SlotRec) (state : SlotState) (why : Reason) : Prop :=
  ∃ q ∈ t.requests, q.op = .headerResult n (decide (r.role = .inbound)) ∧ q.start = t.slotBase r + 8 ∧
    q.access = resultAccess state why

/-- The command in execution has completed with this status (R176): the consumer index, the last status word and the
command state. -/
def Completed (s t : State) (status : Byte) : Prop :=
  t.ctl.state = .completing ∧ t.ctl.consumer = (s.ctl.consumer + 1) % 32 ∧ t.ctl.lastCode = s.arg 0 ∧
    t.ctl.lastTag = s.arg 1 ∧ t.ctl.lastStatus = status ∧
    ∃ q ∈ t.requests, q.op = .statusWrite ∧ q.start = s.pageBase ∧
      q.access = statusAccess ((s.ctl.consumer + 1) % 32) (s.arg 0) (s.arg 1) status

/-- The Control Unit's indices, ring and masks that a completing command leaves alone. -/
def SameRing (s t : State) : Prop :=
  t.ctl.producer = s.ctl.producer ∧ t.ctl.ringSize = s.ctl.ringSize ∧ t.ctl.ringProducer = s.ctl.ringProducer ∧
    t.ctl.ringConsumer = s.ctl.ringConsumer

/-- Nothing but the Control Unit, the bus and the holdoff timer has changed. -/
def SameBlocks (s t : State) : Prop :=
  SameFrames s t ∧ SameKeys s t ∧ SameMeters s t ∧ SameFaults s t ∧ SameNotices s t

/-! ## Runs -/

/-- A safe run of commands from a state: each command in turn answers a next state. -/
def Safe : List Instr → State → Prop
  | [], _ => True
  | c :: rest, s => ∃ t, exec c s = .next t ∧ Safe rest t

end Sys2Proof.Machine
end

