-- ==== Sys2Proof/Certificates/Slice0/Obligations.lean ====
section
/-!
DEFINITION. The statements for the provers, each a proposition about the model; OBLIGATIONS.json says on which rule or
section of spec/ each rests.
-/

open Sys2Proof Sys2Proof.Machine

/-! ## The machine as a whole -/

/-- A step runs the command at the front of the queue on the state with the rest of the queue; on an empty queue the
block idles (the model's choice, notes/assumptions/5.md). -/
def Obligations.StepRunsFrontCommand : Prop :=
  (∀ (c : Instr) (rest : List Instr) (s : State), s.pending = c :: rest → step s = exec c { s with pending := rest }) ∧
  (∀ s : State, s.pending = [] → step s = .next s)

/-- The state after power-on reset meets every invariant. -/
def Obligations.ResetStateIsSound : Prop := State.reset.sound

/-- Entry 0 of the window table stays the control page at the strap base, and initiator 0 stays CLEAR, over every step
(R2: no command changes it; R8). -/
def Obligations.EntryZeroStaysFixed : Prop :=
  ∀ s t : State, s.tablesSound → step s = .next t → t.tablesSound

/-- Both meters stay inside the ranges of R105 over every step. -/
def Obligations.MetersStayInRange : Prop :=
  ∀ s t : State, s.metersSound → step s = .next t → t.metersSound

/-- Over every step, an OPEN channel has a CURRENT key, a DISABLED one names no key slot, and one without a PREVIOUS key
has its grace timer stopped (R98, R131). -/
def Obligations.ChannelsStaySound : Prop :=
  ∀ s t : State, s.channelsSound → step s = .next t → t.channelsSound

/-- Over every step, the fault table holds at most one entry for each pair of class and channel-or-device, and a
device-scoped class in no entry with a channel (R149, R150). -/
def Obligations.FaultKeysStayUnique : Prop :=
  ∀ s t : State, s.faultsSound → step s = .next t → t.faultsSound

/-- Over every step, the interrupt stands as R181 judges it, the passover count stays within 0 to 8 (R17), and nothing
that could be delivered or placed is left over (R10, R15, R16). -/
def Obligations.EveryStepSettles : Prop :=
  ∀ s t : State, s.irqSound → s.passoverSound → s.rested → step s = .next t →
    t.irqSound ∧ t.passoverSound ∧ t.rested

/-- Over every step, the entries of the transit table and of the injection queue stand in the order of their ages, and
no two of one collection share an age (R13); the numbers of the assigned slot records rise strictly (1.2, R4); and no
collection outgrows its places (R12, R16, R45, R59, R164, R173). -/
def Obligations.CollectionsStaySound : Prop :=
  (∀ s t : State, s.agesSound → step s = .next t → t.agesSound) ∧
  (∀ s t : State, s.poolSound → step s = .next t → t.poolSound) ∧
  (∀ s t : State, s.sizesSound → step s = .next t → t.sizesSound)

/-- Over every step, the free list holds every FREE key slot once and no other, and a FREE key slot is zeroised (R114,
R117, R120); each key slot's reference count is the number of slot records that name it and of offer holds that hold it
(R119); its state goes with its role, its owning channel and its references as R115 tabulates; a key slot holds at most
one role, on its owning channel (R97, R115); and the generations of a channel's PREVIOUS, CURRENT and NEXT keys stand in
the relation of R121. -/
def Obligations.KeySlotsStaySound : Prop :=
  ∀ s t : State, s.poolSound → s.keysSound → step s = .next t → t.keysSound

/-- What each command leaves alone: the queue of commands always; the reset lines, the straps and the fuses but at the
resets; the window table but at the resets, SET_WINDOW and CLEAR_WINDOW; the initiator classes but at the resets and
SET_INITIATOR; the Time Base but at power-on reset and its expiries; the passover count and the downstream port but at
the resets and the grant; the timeout and the policy but at the resets and SET_POLICY; the meters but at the resets, a
refill, SET_METER and the answer to a frame write (R2, R6, R8, R17, R20, R110, R155, R182). -/
def Obligations.SettingsHaveTheirCommands : Prop :=
  ∀ (c : Instr) (s t : State), exec c s = .next t →
    t.pending = s.pending ∧
    ((∀ b, c ≠ .powerOnReset b) → t.straps = s.straps) ∧
    ((∀ f, c ≠ .leavePowerOnReset f) → t.fuses = s.fuses) ∧
    ((∀ b, c ≠ .powerOnReset b) → c ≠ .warmReset → (∀ f, c ≠ .leavePowerOnReset f) → c ≠ .leaveWarmReset →
      t.line = s.line ∧ t.wrstnToo = s.wrstnToo) ∧
    ((∀ b, c ≠ .powerOnReset b) → c ≠ .timeBaseTick → c ≠ .meterRefill → c ≠ .keyLifetimeTick → t.time = s.time) ∧
    (c ≠ .downstreamGrant → t.bus.down = s.bus.down) ∧
    ((∀ b, c ≠ .powerOnReset b) → c ≠ .warmReset →
      (c ≠ .setWindow → c ≠ .clearWindow → t.windows = s.windows) ∧
      (c ≠ .setInitiator → t.classes = s.classes) ∧
      (c ≠ .downstreamGrant → t.bus.passover = s.bus.passover) ∧
      (c ≠ .setPolicy → t.bus.timeout = s.bus.timeout ∧ t.faults.localMask = s.faults.localMask ∧
        t.faults.noticeMask = s.faults.noticeMask ∧ t.faults.guardOnFatal = s.faults.guardOnFatal ∧
        t.notices.reporting = s.notices.reporting ∧ t.notices.holdoffSecs = s.notices.holdoffSecs) ∧
      (c ≠ .meterRefill → c ≠ .setMeter → (∀ i, c ≠ .frameWriteAnswered i) →
        (∀ i, c ≠ .noticeCompositionComplete i) → SameMeters s t))

/-- The offer high mark of a channel never falls but at power-on reset (R97, R134, R135, R137). -/
def Obligations.OfferMarkNeverFalls : Prop :=
  ∀ (c : Instr) (s t : State), (∀ b, c ≠ .powerOnReset b) → exec c s = .next t →
    ∀ d : Fin 16, (s.chan d).highMark ≤ (t.chan d).highMark

/-- A sequence number that a replay window has passed is refused by that window ever after, whatever other sequences it
judges meanwhile (R85: under one key slot's material, a DATA sequence number is passed at most once). -/
def Obligations.SequencePassesOnce : Prop :=
  ∀ (k w : KeySlot) (n : Nat), k.replayDecision n = some w →
    ∀ l : List Nat, (l.foldl (fun v m => (v.replayDecision m).getD v) w).replayDecision n = none

/-- How the Fault Unit takes an occurrence, by its scope as R149 settles it: counted in the entry with its key (R151),
else filled into the free entry with the lowest number (R152), else in the place of the least recently updated entry of
a lower severity that no notice carries, whose delta is lost (R153, R154), else lost itself; and a FATAL one with a
channel guards an OPEN channel while guard-on-fatal is on (R102, R158). An entry that is filled, or raised to a higher
severity, hands its FAULT report record to the Control Unit when the local report mask holds its severity, and nothing
else does (R151, R152, R155, R156). -/
def Obligations.FaultUnitTakesOccurrence : Prop :=
  ∀ (s : State) (o p : Occurrence), s.faultsSound → p = o.scoped →
    (∀ (i : Fin 32) (e : FaultEntry), s.faults.table[i] = some e → e.cls = p.cls → e.channel = p.channel →
      ∃ f, (s.recordFault o).faults.table[i] = some f ∧ f.count = min (e.count + 1) 65535 ∧
        f.lastTime = s.time.ms ∧ f.firstTime = e.firstTime ∧ f.lastCount = e.lastCount ∧ f.window = e.window ∧
        f.slot = e.slot ∧ f.initiator = e.initiator ∧
        f.severity = (if e.severity.code < p.severity.code then p.severity else e.severity) ∧
        (p.quiet = true → f.notice = e.notice ∧ f.late = e.late) ∧
        (p.quiet = false → s.faults.noticeMask.has f.severity = true → e.notice = .none ∨ e.notice = .sent →
          f.notice = .pending) ∧
        (e.notice = .pending ∨ e.notice = .composing → f.notice = e.notice) ∧
        (p.quiet = false → e.notice = .composing → f.late = true) ∧
        (∀ j, j ≠ i → (s.recordFault o).faults.table[j] = s.faults.table[j]) ∧
        (s.recordFault o).faults.lost = s.faults.lost ∧
        Handed s (s.recordFault o)
          (if e.severity.code < p.severity.code ∧ s.faults.localMask.has f.severity = true then [faultReport s f]
          else [])) ∧
    ((∀ (j : Fin 32) (e : FaultEntry), s.faults.table[j] = some e → ¬ (e.cls = p.cls ∧ e.channel = p.channel)) →
      (∀ i : Fin 32, s.faults.table[i] = none → (∀ j, j < i → s.faults.table[j] ≠ none) →
        (∃ f, (s.recordFault o).faults.table[i] = some f ∧ f.cls = p.cls ∧ f.severity = p.severity ∧
          f.channel = p.channel ∧ f.window = p.window ∧ f.slot = p.slot ∧ f.initiator = p.initiator ∧ f.count = 1 ∧
          f.lastCount = 0 ∧ f.firstTime = s.time.ms ∧ f.lastTime = s.time.ms ∧ f.late = false ∧
          f.notice = (if p.quiet = false ∧ s.faults.noticeMask.has p.severity = true then .pending else .none) ∧
          Handed s (s.recordFault o) (if s.faults.localMask.has p.severity = true then [faultReport s f] else [])) ∧
        (∀ j, j ≠ i → (s.recordFault o).faults.table[j] = s.faults.table[j]) ∧
        (s.recordFault o).faults.lost = s.faults.lost) ∧
      ((∀ j : Fin 32, s.faults.table[j] ≠ none) →
        (∀ (i : Fin 32) (e : FaultEntry), s.faults.table[i] = some e → e.severity.code < p.severity.code →
          e.notice ≠ .composing →
          (∀ (j : Fin 32) (f : FaultEntry), j ≠ i → s.faults.table[j] = some f → f.severity.code < p.severity.code →
            f.notice ≠ .composing → e.updated < f.updated) →
          (∃ f, (s.recordFault o).faults.table[i] = some f ∧ f.cls = p.cls ∧ f.severity = p.severity ∧
            f.channel = p.channel ∧ f.window = p.window ∧ f.slot = p.slot ∧ f.initiator = p.initiator ∧ f.count = 1 ∧
            f.lastCount = 0 ∧ f.firstTime = s.time.ms ∧ f.lastTime = s.time.ms ∧ f.late = false ∧
            f.notice = (if p.quiet = false ∧ s.faults.noticeMask.has p.severity = true then .pending else .none) ∧
            Handed s (s.recordFault o) (if s.faults.localMask.has p.severity = true then [faultReport s f] else [])) ∧
          (∀ j, j ≠ i → (s.recordFault o).faults.table[j] = s.faults.table[j]) ∧
          (s.recordFault o).faults.lost = min (s.faults.lost + (e.count - e.lastCount)) 4294967295) ∧
        ((∀ (j : Fin 32) (e : FaultEntry), s.faults.table[j] = some e →
            p.severity.code ≤ e.severity.code ∨ e.notice = .composing) →
          (s.recordFault o).faults.table = s.faults.table ∧
          (s.recordFault o).faults.lost = min (s.faults.lost + 1) 4294967295 ∧ Handed s (s.recordFault o) []))) ∧
    (∀ c : Fin 16, (s.recordFault o).chan c =
      if p.severity = .fatal ∧ p.channel = some c ∧ s.faults.guardOnFatal = true ∧ (s.chan c).state = .opened then
        { s.chan c with state := .guarded }
      else s.chan c)

/-! ## Resets -/

/-- POWER_ON_RESET leaves every table, queue and unit at its power-on value, the control page at the strapped base, the
fuses for LEAVE_POWER_ON_RESET to read, and drives no response (R2, R7, R8, R21, R97, R105, R114, R117, R150, R155,
R173, R182). That the Control Unit and the control page window have their values from the assertion on, where R173 and
R2 speak of leaving the reset, is the model's choice (notes/assumptions/11.md), and so is that the fuses wait for the
row of leaving (notes/assumptions/1.md). -/
def Obligations.PowerOnResetValues : Prop :=
  ∀ (b : BitVec 28) (s : State), ∃ t, exec (.powerOnReset b) s = .next t ∧
    t.line = .powerOn ∧ 
    t.wrstnToo = (decide (s.line = .warm) || (decide (s.line = .powerOn) && s.wrstnToo)) ∧
    t.straps = b ∧ t.fuses = s.fuses ∧ t.pending = s.pending ∧
    t.windows[0] = some ⟨.controlPage, b ++ (0 : BitVec 12), 0, none, none⟩ ∧
    (∀ i : Fin 16, i ≠ 0 → t.windows[i] = none) ∧
    (∀ i : Fin 16, t.classes[i] = if i = 0 then .clear else .line) ∧
    t.pool = [] ∧ t.merges = [] ∧ t.ks = Keystream.cleared ∧
    t.bus.transit = [] ∧ t.requests = [] ∧ t.bus.passover = 0 ∧ t.bus.timeout = 16 ∧ t.bus.up = s.bus.up ∧
    (∀ c : Fin 16, t.chan c = Channel.cleared 0) ∧
    (∀ l : Link, t.meter l = ⟨false, 0, 2048, 2048, 4, 7, 2048, 2048, 0⟩) ∧
    (∀ k : Fin 32, t.key k = KeySlot.zeroised) ∧ t.keys.freeList = List.finRange 32 ∧
    (∀ i : Fin 32, t.faults.table[i] = none) ∧ t.faults.lost = 0 ∧ t.faults.localMask = ⟨true, true, true⟩ ∧
    t.faults.noticeMask = ⟨false, false, false⟩ ∧ t.faults.guardOnFatal = true ∧
    t.notices = NoticeEngine.cleared ∧ t.ctl = ControlUnit.cleared ∧
    t.time.ms = 0 ∧ t.time.subMs = 0 ∧ t.time.subSec = 0

/-- WARM_RESET does the same but keeps the strap base, the offer high marks, the fault table with its lost total and the
Time Base (R2, R97, R159, R182). That the values stand from the assertion on, and that the row has no effect while
PORSTN is asserted, is the model's choice (notes/assumptions/11.md), and so is that the Time Base is kept with its
counters of refills and minutes that wait for their rows (notes/assumptions/10.md). -/
def Obligations.WarmResetKeeps : Prop :=
  ∀ s : State, s.line ≠ .powerOn → ∃ t, exec .warmReset s = .next t ∧
    t.line = .warm ∧ t.straps = s.straps ∧ t.fuses = s.fuses ∧ t.pending = s.pending ∧
    t.windows[0] = some ⟨.controlPage, s.straps ++ (0 : BitVec 12), 0, none, none⟩ ∧
    (∀ i : Fin 16, i ≠ 0 → t.windows[i] = none) ∧
    (∀ i : Fin 16, t.classes[i] = if i = 0 then .clear else .line) ∧
    t.pool = [] ∧ t.merges = [] ∧ t.ks = Keystream.cleared ∧
    t.bus.transit = [] ∧ t.requests = [] ∧ t.bus.passover = 0 ∧ t.bus.timeout = 16 ∧ t.bus.up = s.bus.up ∧
    (∀ c : Fin 16, t.chan c = Channel.cleared (s.chan c).highMark) ∧
    (∀ l : Link, t.meter l = ⟨false, 0, 2048, 2048, 4, 7, 2048, 2048, 0⟩) ∧
    (∀ k : Fin 32, t.key k = KeySlot.zeroised) ∧ t.keys.freeList = List.finRange 32 ∧
    t.faults.table = s.faults.table ∧ t.faults.lost = s.faults.lost ∧ t.faults.localMask = ⟨true, true, true⟩ ∧
    t.faults.noticeMask = ⟨false, false, false⟩ ∧ t.faults.guardOnFatal = true ∧
    t.notices.list = [] ∧ t.notices.comp = none ∧ t.notices.blocked = false ∧ t.notices.reporting = 0 ∧
    t.notices.holdoffSecs = 0 ∧ t.ctl = ControlUnit.cleared ∧ t.time = s.time

/-- Leaving either reset releases the line and asks for the zeroing write of the control page (R173). With fuses
PROGRAMMED the root subkey is the first background request (R33, R116); with fuses BLANK, leaving power-on reset takes
ROOT_BLANK at FATAL (R116); leaving warm reset returns a COMPOSING fault entry to PENDING (R159) and, with fuses
PROGRAMMED, takes RESTART alone. With both lines asserted the part is in reset until both are released: WRSTN asserted
or released under PORSTN does nothing else, and PORSTN released under WRSTN samples the fuses and leaves the part in
warm reset, with no transaction accepted and nothing else done (R21; that what leaving asks for then waits for
LEAVE_WARM_RESET is the model's choice, notes/assumptions/11.md). -/
def Obligations.LeavingResets : Prop :=
  (∀ (f : Fuses) (s : State), s.line = .powerOn → s.wrstnToo = false → ∃ t, exec (.leavePowerOnReset f) s = .next t ∧
    t.line = .released ∧ t.fuses = f ∧
    (∃ q ∈ t.requests, q.op = .resetZero ∧ q.start = s.pageBase ∧ q.access = .write (List.replicate 4 none ++
      List.replicate 12 (some 0) ++ List.replicate 4 none ++ List.replicate 4 (some 0))) ∧
    (f.programmed = true → t.ks = { s.ks with background := s.ks.background ++ [⟨.rootSubkey, .root, 0⟩] } ∧
      SameFaults s t) ∧
    (f.programmed = false → t.ks = s.ks ∧
      t.faults = (s.recordFault ⟨.rootBlank, .fatal, none, none, none, none, false⟩).faults) ∧
    t.pool = s.pool ∧ SameKeys s t ∧ SameMeters s t ∧ t.windows = s.windows) ∧
  (∀ s : State, s.line = .warm → ∃ t, exec .leaveWarmReset s = .next t ∧
    t.line = .released ∧ t.fuses = s.fuses ∧
    (∃ q ∈ t.requests, q.op = .resetZero ∧ q.start = s.pageBase ∧ q.access = .write (List.replicate 4 none ++
      List.replicate 12 (some 0) ++ List.replicate 4 none ++ List.replicate 4 (some 0))) ∧
    (s.fuses.programmed = true →
      t.ks = { s.ks with background := s.ks.background ++ [⟨.rootSubkey, .root, 0⟩] } ∧
      t.faults = (s.returnComposing.recordFault ⟨.restart, .correctable, none, none, none, none, false⟩).faults) ∧
    (∀ (i : Fin 32) (e : FaultEntry), s.faults.table[i] = some e →
      s.returnComposing.faults.table[i] =
        some (if e.notice = .composing then { e with notice := .pending, late := false } else e)) ∧
    t.pool = s.pool ∧ SameKeys s t ∧ SameMeters s t ∧ t.windows = s.windows) ∧
  (∀ (c : Instr) (s : State) (f : Fuses), s.line = .powerOn →
    (c = .warmReset ∨ c = .leaveWarmReset ∨ (c = .leavePowerOnReset f ∧ s.wrstnToo = true)) →
    ∃ t, exec c s = .next t ∧ t.accepting = false ∧
      t.line = (if c = .leavePowerOnReset f then .warm else .powerOn) ∧ t.wrstnToo = decide (c = .warmReset) ∧
      t.fuses = (if c = .leavePowerOnReset f then f else s.fuses) ∧ (s.rested → t.requests = s.requests) ∧
      SameUnits s t ∧ t.windows = s.windows ∧ t.classes = s.classes ∧ t.time = s.time)

/-! ## Transactions at the upstream port -/

/-- TRANSACTION_ACCEPT: outside every window a transaction is passed unchanged and nothing else happens (R1, R9 step 1);
one that touches a window and two lines, and then one from a BLOCKED initiator, is answered ERROR with zero data,
nothing of it is forwarded, and its fault is taken (R9 steps 2 and 3, R11, R14). Inside one line of a window and sent to
no frame unit, it is passed unchanged, or refused CONFLICT: raw are a LINE read of an OUTBOUND or INBOUND window and
every read of a NOTICE or REPORT window or the control page; CONFLICT, on the channel that the slot's record names, are
every write to a REPORT window, a LINE write to a NOTICE window or the control page, and a CLEAR write that strobes a
byte from 16 on of a NOTICE slot (R10, R11, R163). That the fault names the window and slot of the first byte of the
span that lies in a window is the model's choice (notes/assumptions/20.md). -/
def Obligations.PortPassesAndRefuses : Prop :=
  ∀ (x : Transaction) (s : State), x.wellFormed = true → s.accepting = true →
    (s.placeOf x = none → ∃ t, exec (.transactionAccept x) s = .next t ∧
      (∃ e ∈ t.bus.transit, e.id = s.stamp ∧ e.initiator = x.initiator ∧ e.start = x.start ∧ e.access = x.access ∧
        e.window = none ∧ e.issued = false) ∧ SameUnits s t) ∧
    (∀ p : Place, s.placeOf x = some p → (lineOf x.start ≠ lineOf x.last ∨ s.classOf x = .blocked) →
      ∃ t, exec (.transactionAccept x) s = .next t ∧ NothingForwarded s t ∧ ownAnswer x false ∈ t.bus.up ∧
      SameFrames s t ∧ SameKeys s t ∧ SameMeters s t ∧ SameNotices s t ∧
      t.faults = (s.recordFault ⟨if lineOf x.start ≠ lineOf x.last then .busProtocol else .blockedInitiator, .degraded,
        none, some p.window, p.slot, some x.initiator, false⟩).faults) ∧
    (∀ p : Place, s.placeOf x = some p → lineOf x.start = lineOf x.last →
      (∀ beats : Nat, x.access = .read beats →
        (s.classOf x = .line ∧ (p.role = .outbound ∨ p.role = .inbound)) ∨
          (s.classOf x ≠ .blocked ∧ (p.role = .notice ∨ p.role = .report ∨ p.role = .controlPage)) →
        ∃ t, exec (.transactionAccept x) s = .next t ∧ SameUnits s t ∧
          ∃ e ∈ t.bus.transit, e.id = s.stamp ∧ e.initiator = x.initiator ∧ e.start = x.start ∧ e.access = x.access ∧
            e.window = some p.window ∧ e.slot = p.slot ∧ e.treat = [] ∧ e.beatKeys = [] ∧ e.issued = false) ∧
      (∀ bytes : List (Option Byte), x.access = .write bytes →
        (p.role = .report ∧ s.classOf x ≠ .blocked) ∨
          ((p.role = .notice ∨ p.role = .controlPage) ∧ s.classOf x = .line) ∨
          (p.role = .notice ∧ s.classOf x = .clear ∧ strobesIn bytes p.off 16 2048 = true) →
        ∃ t, exec (.transactionAccept x) s = .next t ∧ NothingForwarded s t ∧ ownAnswer x false ∈ t.bus.up ∧
          SameFrames s t ∧ SameKeys s t ∧ SameMeters s t ∧ SameNotices s t ∧
          t.faults = (s.recordFault ⟨.conflict, .degraded, (p.recNo.bind s.slotRec).bind (·.channel), some p.window,
            p.slot, some x.initiator, false⟩).faults))

/-- An opening write to a FREE outbound slot that passes admission: the slot goes to FILLING with the bound channel, the
CURRENT key slot, its generation and its next outbound sequence, reason NONE; the key slot's reference count, next
sequence and frames used rise by one; the meters are not touched (R52, R53, R122). The key slot is then judged: it is
spent, and asks, from the opening that brings frames used to the frame limit, and a soft mark reached hands its
RENEW_REQUEST; at its spent mark the SPENT request goes to the list and KEY_SPENT is taken on the channel (R124, R125,
R127, R128), without window, slot and initiator (the model's choice, notes/assumptions/20.md). A CLOSE in the same write
is left to CloseIsJudged. -/
def Obligations.AdmittedOpening : Prop :=
  ∀ (x : Transaction) (s : State) (p : Place) (n : Nat) (r : SlotRec) (bytes : List (Option Byte)) (c : Fin 16)
    (k : Fin 32), Reaches s x .outboundClearWrite p n r → x.access = .write bytes → r.state = .free →
    opensOutbound bytes p.off = true → strobedAt bytes p.off 14 ≠ some 1 → s.boundChannel r = some c →
    s.admission c = .ok k →
    ∃ t, exec (.outboundClearWrite x) s = .next t ∧
      (∃ q, t.slotRec n = some q ∧ q.state = .filling ∧ q.channel = some c ∧ q.key = some (.slot k) ∧
        q.gen = some (s.key k).gen ∧ q.seq = some (BitVec.ofNat 32 (s.key k).nextSeq) ∧ q.reason = .none ∧
        q.window = r.window ∧ q.slot = r.slot) ∧
      (t.key k).refs = (s.key k).refs + 1 ∧ (t.key k).nextSeq = (s.key k).nextSeq + 1 ∧
      (t.key k).frames = (s.key k).frames + 1 ∧ (t.key k).material = (s.key k).material ∧ OtherKeys s t k ∧
      t.keys.freeList = s.keys.freeList ∧ SameMeters s t ∧
      (∀ y, y = { s.key k with
          refs := (s.key k).refs + 1, nextSeq := (s.key k).nextSeq + 1, frames := (s.key k).frames + 1 } →
        (s.key k).owner = some c →
        FlagsJudged s t k y c true ∧ ListJudged s t y c true false s.notices.list ∧
        (s.notices.list.length < 16 →
          strobesIn bytes p.off 32 2048 = false ∨ (∀ ctr, s.ks.cached k ctr = none) →
          ∀ u, SpentTaken s u y c true false → t.faults = u.faults))

/-- An opening write that fails admission: FAILED with the reason of the first check that fails, no key slot reference,
no sequence and no frame counted, a header result write asked for, and no fault for CHANNEL_DOWN and CHANNEL_GUARDED
(R53, R54). A state request in the same write is declined, a release too, which only a header-only write carries (R51,
R56, R67; notes/assumptions/12.md). The window, slot and initiator of
its faults are the model's choice where no rule gives them (notes/assumptions/20.md). -/
def Obligations.RefusedOpening : Prop :=
  ∀ (x : Transaction) (s : State) (p : Place) (n : Nat) (r : SlotRec) (bytes : List (Option Byte)) (c : Fin 16)
    (why : Reason), Reaches s x .outboundClearWrite p n r → x.access = .write bytes → r.state = .free →
    opensOutbound bytes p.off = true → s.boundChannel r = some c →
    (((s.chan c).state = .disabled ∧ why = .channelDown) ∨ ((s.chan c).state = .guarded ∧ why = .channelGuarded) ∨
      ((s.chan c).state = .opened ∧ (s.chan c).cur = none ∧ why = .noKey) ∨
      (∃ k, (s.chan c).state = .opened ∧ (s.chan c).cur = some k ∧ (s.key k).spent = true ∧ why = .keySpent) ∨
      (∃ k, (s.chan c).state = .opened ∧ (s.chan c).cur = some k ∧ (s.key k).spent = false ∧
        (s.meter (s.chan c).link).admits (s.chan c).priority = false ∧ why = .metered)) →
    ∃ t, exec (.outboundClearWrite x) s = .next t ∧
      (∃ q, t.slotRec n = some q ∧ q.state = .failed ∧ q.reason = why ∧ q.channel = some c ∧ q.key = r.key) ∧
      ResultAsked t n r .failed why ∧ OtherRecords s t n ∧ SameKeys s t ∧ SameMeters s t ∧ SameNotices s t ∧
      t.ks = s.ks ∧ t.merges = s.merges ∧
      (why = .channelDown ∨ why = .channelGuarded → SameFaults s t) ∧
      (why = .noKey → t.faults = (s.recordFault
        ⟨.noKey, .degraded, some c, some r.window, some r.slot, some x.initiator, false⟩).faults) ∧
      (why = .keySpent → t.faults = (s.recordFault
        ⟨.keySpent, .degraded, some c, some r.window, some r.slot, some x.initiator, false⟩).faults) ∧
      (why = .metered → t.faults = (s.recordFault
        ⟨.metered, .correctable, some c, some r.window, some r.slot, some x.initiator, false⟩).faults)

/-- A CLOSE in a clear-side write, with or without payload, to a FILLING slot, or in the write that opens a FREE slot
and is admitted, which is FILLING when the CLOSE is judged (R51); with the kind and length as that write leaves them
captured: FAILED with BAD_KIND for a kind other than DATA, then FAILED with BAD_LENGTH above 2016, else TAGGING with a
finish of that length that waits, under the key, generation and sequence of the opening, and byte 14 forwarded as the
mirror of TAGGING (R22, R23, R55, R56, R63). The opening has taken its sequence all the same, and its key slot has been
judged; a CLOSE that fails gives the reference back (R53, R63, R65, R122, R127, R128). -/
def Obligations.CloseIsJudged : Prop :=
  ∀ (x : Transaction) (s : State) (p : Place) (n : Nat) (r q : SlotRec) (bytes : List (Option Byte)) (c : Fin 16)
    (k : Fin 32) (id : Nat), s.agesSound → Reaches s x .outboundClearWrite p n r → x.access = .write bytes →
    strobedAt bytes p.off 14 = some 1 →
    ((r.state = .filling ∧ q = r ∧ id = s.stamp) ∨
      (r.state = .free ∧ s.boundChannel r = some c ∧ s.admission c = .ok k ∧ id = s.stamp + 1 ∧
        q = { r with channel := some c, gen := some (s.key k).gen, seq := some (BitVec.ofNat 32 (s.key k).nextSeq),
                     key := some (.slot k) })) →
    ∃ t, exec (.outboundClearWrite x) s = .next t ∧ SameMeters s t ∧
      ((r.capture bytes p.off).kind ≠ some kindData →
        (∃ w, t.slotRec n = some w ∧ w.state = .failed ∧ w.reason = .badKind ∧ w.key = none ∧ w.channel = q.channel) ∧
        ResultAsked t n r .failed .badKind) ∧
      ((r.capture bytes p.off).kind = some kindData → 2016 < (r.capture bytes p.off).length.getD 0 →
        (∃ w, t.slotRec n = some w ∧ w.state = .failed ∧ w.reason = .badLength ∧ w.key = none ∧
          w.channel = q.channel) ∧
        ResultAsked t n r .failed .badLength) ∧
      ((r.capture bytes p.off).kind = some kindData → (r.capture bytes p.off).length.getD 0 ≤ 2016 →
        (∃ w, t.slotRec n = some w ∧ w.state = .tagging ∧ w.channel = q.channel ∧ w.key = q.key ∧ w.seq = q.seq ∧
          w.gen = q.gen ∧ w.finish = some ⟨.waiting, (r.capture bytes p.off).length.getD 0, none, none, none⟩) ∧
        (∃ e ∈ t.bus.transit, e.id = id ∧ ∃ b, e.access = .write b ∧ strobedAt b p.off 14 = some 2) ∧
        (r.state = .free → (t.key k).refs = (s.key k).refs + 1 ∧ OtherKeys s t k) ∧
        (r.state = .filling → SameKeys s t ∧ SameNotices s t) ∧
        (strobesIn bytes p.off 32 2048 = false → OtherRecords s t n ∧ t.ks = s.ks ∧ t.merges = s.merges ∧
          (r.state = .filling → SameFaults s t))) ∧
      (∀ y, y = { s.key k with
          refs := (s.key k).refs + 1, nextSeq := (s.key k).nextSeq + 1, frames := (s.key k).frames + 1 } →
        r.state = .free → (s.key k).owner = some c → (s.key k).state ≠ .free →
        (t.key k).nextSeq = (s.key k).nextSeq + 1 ∧ (t.key k).frames = (s.key k).frames + 1 ∧
        ((r.capture bytes p.off).kind ≠ some kindData ∨ 2016 < (r.capture bytes p.off).length.getD 0 →
          (t.key k).refs = (s.key k).refs) ∧
        FlagsJudged s t k y c true ∧ ListJudged s t y c true false s.notices.list)

/-- The payload of an outbound slot. A payload write to a FILLING slot is forwarded with its tag bytes dropped, and a
beat of it with payload bytes is either enciphered under the slot's key and counter block at once, when the cache
holds the keystream, or waits for it in the miss file entry for them or in the overflow list, with the write not READY
meanwhile (R12, R32, R43, R45, R51, R57), and the same of a write that opens the slot, under the CURRENT key and the
generation and sequence it takes (R51, R53); of a write that also carries a CLOSE this is said while the key slot has
a role, since a CLOSE that fails may zeroise another (R63, R118). A write whose opening fails, or to a FAILED slot, is
forwarded without its payload and tag bytes, or answered OKAY when nothing is left (R54, R67); a payload write to a
FAILED slot leaves it FAILED with its reason, whatever byte 14 carries, and a strobed byte 14 is forwarded as the
mirror of FAILED and byte 15 as that reason (R22, R23, R67, which goes before R56's table: notes/assumptions/12.md);
one to a TAGGING or TAGGED slot has its kind and length bytes captured, and is dropped whole with ERROR and DISTURBED,
which a TAGGING slot has noted, over a MEMORY noted before too (notes/assumptions/21.md) (R23, R51, R55, R66, R67). So
no payload byte goes downstream but exclusive-or keystream. KEYSTREAM_MISS_COMPLETE gives every beat that waits on the
miss its half of the block: a write's beat is enciphered, a read's keeps it (R46); a write of a whole block of the
slot's present opening then folds its ciphertext, and one of part of a block is merged (R58, R59). -/
def Obligations.OutboundPayloadPath : Prop :=
  (∀ (x : Transaction) (s : State) (p : Place) (n : Nat) (r : SlotRec) (bytes : List (Option Byte)), s.agesSound →
    Reaches s x .outboundClearWrite p n r → x.access = .write bytes → r.role = .outbound →
    ∃ t, exec (.outboundClearWrite x) s = .next t ∧ SameMeters s t ∧
      (∀ e ∈ t.bus.transit, s.stamp ≤ e.id → ∀ out, e.access = .write out → out.length = bytes.length ∧
        ∀ k, 16 ≤ k → k < 32 → strobedAt out p.off k = none) ∧
      (∀ (k : Fin 32) (c : Fin 16) (q : SlotRec) (id : Nat), strobesIn bytes p.off 32 2048 = true →
        ((r.state = .filling ∧ r.key = some (.slot k) ∧ q = r ∧ id = s.stamp) ∨
          (r.state = .free ∧ s.boundChannel r = some c ∧ s.admission c = .ok k ∧ id = s.stamp + 1 ∧
            q = { r with channel := some c, gen := some (s.key k).gen, seq := some (BitVec.ofNat 32 (s.key k).nextSeq),
                         opening := some s.stamp })) →
        (strobedAt bytes p.off 14 = some 1 → s.keyRole k ≠ none) →
        ∃ e ∈ t.bus.transit, e.id = id ∧ e.start = x.start ∧ e.fills = true ∧ e.opening = q.opening ∧
          ∃ out, e.access = .write out ∧ ∀ i, i < bytes.length / 8 →
            (strobesIn bytes p.off (max 32 (p.off + 8 * i)) (p.off + 8 * i + 8) = false → e.beatKeys[i]? = some .none) ∧
            (strobesIn bytes p.off (max 32 (p.off + 8 * i)) (p.off + 8 * i + 8) = true →
              (∀ ks, s.ks.cached k (s.recBlock q (blockAt (x.start % 2048 + 8 * i))) = some ks →
                e.beatKeys[i]? = some .none ∧ ∀ j, j < 8 → 32 ≤ p.off + 8 * i + j →
                  strobedAt out p.off (p.off + 8 * i + j) = (strobedAt bytes p.off (p.off + 8 * i + j)).map
                    (· ^^^ (beatBytes (halfOf ks ((x.start / 8 + i) % 2 == 1))).getD j 0)) ∧
              (s.ks.cached k (s.recBlock q (blockAt (x.start % 2048 + 8 * i))) = none →
                e.beatKeys[i]? = some .waiting ∧
                t.awaits ⟨id, i⟩ k (s.recBlock q (blockAt (x.start % 2048 + 8 * i)))))) ∧
      (r.state = .failed ∨ (r.state = .free ∧ opensOutbound bytes p.off = true ∧
          ∃ c, s.boundChannel r = some c ∧ ∀ k, s.admission c ≠ .ok k) →
        ∀ e ∈ t.bus.transit, e.id = s.stamp → ∀ out, e.access = .write out →
          ∀ k, 16 ≤ k → strobedAt out p.off k = none) ∧
      (r.state = .failed → strobesIn bytes p.off 0 16 = false → NothingForwarded s t ∧
        (strobesIn bytes p.off 32 2048 = true → ownAnswer x true ∈ t.bus.up) ∧ SameFaults s t ∧ SameKeys s t ∧
        ∃ q, t.slotRec n = some q ∧ q.state = .failed ∧ q.reason = r.reason) ∧
      (r.state = .failed → strobesIn bytes p.off 32 2048 = true ∨ strobedAt bytes p.off 14 ≠ some 0 →
        strobesIn bytes p.off 0 16 = true → SameFaults s t ∧ SameKeys s t ∧
        (∃ e ∈ t.bus.transit, e.id = s.stamp ∧ e.fills = false ∧ ∃ out, e.access = .write out ∧
          strobedAt out p.off 14 = (strobedAt bytes p.off 14).map (fun _ => 4) ∧
          strobedAt out p.off 15 = (strobedAt bytes p.off 15).map (fun _ => r.reason.code)) ∧
        ∃ q, t.slotRec n = some q ∧ q.state = .failed ∧ q.reason = r.reason) ∧
      (r.state = .tagging ∨ r.state = .tagged → strobesIn bytes p.off 32 2048 = true → NothingForwarded s t ∧
        ownAnswer x false ∈ t.bus.up ∧ OtherRecords s t n ∧ SameKeys s t ∧ t.ks = s.ks ∧ t.merges = s.merges ∧
        SameNotices s t ∧
        t.slotRec n = some { r with
          kind := (strobedAt bytes p.off 1).or r.kind
          length := if strobesIn bytes p.off 12 14 = true then
              some (((strobedAt bytes p.off 12).map (·.toNat)).getD (r.length.getD 0 / 256) * 256 +
                ((strobedAt bytes p.off 13).map (·.toNat)).getD (r.length.getD 0 % 256))
            else r.length
          reason := if r.state = .tagging then .disturbed else r.reason } ∧
        t.faults = (s.recordFault ⟨.disturbed, .degraded, r.channel, some r.window, some r.slot, some x.initiator,
          false⟩).faults)) ∧
  (∀ (s : State) (e : TransitEntry) (out : List (Option Byte)), e.access = .write out → .waiting ∈ e.beatKeys →
    s.bus.transitReady e = false) ∧
  (∀ (s : State) (m : MissEntry) (g : CipherGrant) (ks : Block), s.agesSound → s.ks.cipher = some g →
    g.job = .miss m.id → g.withdrawn = false → s.ks.misses.find? (·.id == m.id) = some m → s.ks.overflow = [] →
    ks = cipherBlock (s.materialOf g.key) g.input → m.waiters.Nodup →
    ∃ t, exec .keystreamMissComplete s = .next t ∧ SameKeys s t ∧ SameMeters s t ∧
      (∀ (e : TransitEntry) (out : List (Option Byte)), e ∈ s.bus.transit → e.access = .write out →
        out.any Option.isSome = true → e.back = none → ∃ f ∈ t.bus.transit, f.id = e.id ∧ ∃ done, f.access = .write done ∧
          f.beatKeys.length = e.beatKeys.length ∧ done.length = out.length ∧
          (∀ (i : Nat) (v : Option Byte), out[i]? = some v → done[i]? = some (if ⟨e.id, i / 8⟩ ∈ m.waiters then
            v.map (· ^^^ (beatBytes (halfOf ks ((e.start / 8 + i / 8) % 2 == 1))).getD (i % 8) 0) else v)) ∧
          ∀ i, i < e.beatKeys.length →
            f.beatKeys[i]? = if ⟨e.id, i⟩ ∈ m.waiters then some .none else e.beatKeys[i]?) ∧
      (∀ (e : TransitEntry) (beats : Nat), e ∈ s.bus.transit → e.access = .read beats → e.back = none →
        ∃ f ∈ t.bus.transit, f.id = e.id ∧ f.beatKeys.length = e.beatKeys.length ∧ ∀ i, i < e.beatKeys.length →
          f.beatKeys[i]? = if ⟨e.id, i⟩ ∈ m.waiters then some (.held (halfOf ks ((e.start / 8 + i) % 2 == 1)))
            else e.beatKeys[i]?) ∧
      (∀ (e : TransitEntry) (out : List (Option Byte)) (n o b : Nat) (r : SlotRec) (key : KeyRef),
        s.bus.entry e.id = some e → e.access = .write out → e.recNo = some n → s.slotRec n = some r →
        e.opening = some o → r.opening = some o → (r.state = .filling ∨ r.state = .tagging) → r.key = some key →
        1 ≤ b → e.start % 2048 = 32 + 16 * (b - 1) →
        (out.length = 16 → out.all Option.isSome = true → e.beatKeys = [.waiting, .waiting] →
          m.waiters = [⟨e.id, 0⟩, ⟨e.id, 1⟩] → r.valid = true → b ∉ r.folded → s.mergeOf n b = none →
          t.slotRec n = some { r with folded := b :: r.folded, whole := b :: r.whole } ∧ OtherRecords s t n ∧
          t.merges = s.merges ∧ SameFaults s t ∧ t.ks.mulQueue = s.ks.mulQueue ++ [⟨.fold, n, o, key, blockOfStrobed
            (encipherBeat (encipherBeat out 0 (halfOf ks false)) 1 (halfOf ks true)), b⟩]) ∧
        (∀ u, out.length = 8 → e.beatKeys = [.waiting] → m.waiters = [⟨e.id, 0⟩] →
          u = s.mergeStep n b (encipherBeat out 0 (halfOf ks false) ++ List.replicate 8 none) →
          t.pool = u.pool ∧ t.merges = u.merges ∧ t.faults = u.faults ∧ t.ks.mulQueue = u.ks.mulQueue)))

/-- A release: a write of state byte 0 without payload bytes to an outbound slot TAGGED or FAILED, a header write of
it to an inbound slot REJECTED or PASSED and not claimed, and to a notice slot TAGGED, returns the record to the
contents of R7; the reference on its key slot is dropped, and a key slot left with no role and no reference is
zeroised (R68, R94, R118, R120, R163). -/
def Obligations.ReleaseReturnsSlot : Prop :=
  ∀ (x : Transaction) (s : State) (p : Place) (n : Nat) (r : SlotRec) (bytes : List (Option Byte)) (route : Route)
    (c : Instr), Reaches s x route p n r → x.access = .write bytes → strobesIn bytes p.off 32 2048 = false →
    route = .outboundClearWrite ∨ strobesIn bytes p.off 16 32 = false → strobedAt bytes p.off 14 = some 0 →
    ((route = .outboundClearWrite ∧ c = .outboundClearWrite x ∧ (r.state = .tagged ∨ r.state = .failed)) ∨
      (route = .inboundClearHeader ∧ c = .inboundClearHeaderWrite x ∧
        (r.state = .rejected ∨ (r.state = .passed ∧ r.claimed = false))) ∨
      (route = .noticeClearHeader ∧ c = .noticeClearHeaderWrite x ∧ r.state = .tagged)) →
    ∃ t, exec c s = .next t ∧ t.slotRec n = some (SlotRec.fresh r.role r.window r.slot) ∧ SameMeters s t ∧
      (r.keySlot = none → OtherRecords s t n ∧ SameKeys s t ∧ SameFaults s t ∧ SameNotices s t ∧ t.ks = s.ks) ∧
      (∀ k, r.keySlot = some k → (s.keyRole k).isSome = true →
        t.key k = { s.key k with refs := (s.key k).refs - 1 } ∧ OtherKeys s t k) ∧
      (∀ k, r.keySlot = some k → s.keyRole k = none → (s.key k).state ≠ .free → (s.key k).refs = 1 →
        t.key k = KeySlot.zeroised ∧ t.keys.freeList = s.keys.freeList ++ [k])

/-- What a clear-side read returns of a slot, byte by byte of its span. Outbound: header and tag raw, payload deciphered
in FILLING, TAGGING and TAGGED under the slot's key, and zero otherwise (R62). Inbound: header and tag raw, payload
within the frame's length deciphered when the slot is PASSED with kind DATA, and zero otherwise; a read wholly in a
gated payload is answered by the part with zeros and OKAY, and a gated read takes GATED_READ (R90). A beat with a
deciphered byte holds its half of the keystream of the slot's key slot and of the counter block of its payload block at
once, when the cache has it, and else waits for it in the miss file entry for them or in the overflow list; any other
beat asks for none (R32, R43, R45). -/
def Obligations.ClearReadTreatment : Prop :=
  ∀ (x : Transaction) (s : State) (p : Place) (n beats : Nat) (r : SlotRec), s.agesSound → x.access = .read beats →
    (Reaches s x .outboundClearRead p n r → ∃ t, exec (.outboundClearRead x) s = .next t ∧
      SameKeys s t ∧ SameMeters s t ∧
      ∃ e ∈ t.bus.transit, e.id = s.stamp ∧ e.start = x.start ∧ e.access = .read beats ∧ (∀ i < 8 * beats,
        e.treat[i]? = some (if p.off + i < 32 then .raw
          else if (r.state = .filling ∨ r.state = .tagging ∨ r.state = .tagged) ∧ r.keySlot.isSome = true then
            .decipher
          else .zero)) ∧ Keyed s t e r beats) ∧
    (Reaches s x .inboundClearRead p n r → ∃ t, exec (.inboundClearRead x) s = .next t ∧
      SameKeys s t ∧ SameMeters s t ∧
      (¬ (r.state = .passed ∧ r.kind = some kindData) → 32 ≤ p.off →
        NothingForwarded s t ∧ ownAnswer x true ∈ t.bus.up) ∧
      (¬ (r.state = .passed ∧ r.kind = some kindData) → 32 < p.off + 8 * beats →
        t.faults = (s.recordFault ⟨.gatedRead, .correctable, r.channel, some r.window, some r.slot, some x.initiator,
          false⟩).faults) ∧
      ((r.state = .passed ∧ r.kind = some kindData) ∨ p.off < 32 →
        ∃ e ∈ t.bus.transit, e.id = s.stamp ∧ e.start = x.start ∧ e.access = .read beats ∧ (∀ i < 8 * beats,
          e.treat[i]? = some (if p.off + i < 32 then .raw
            else if r.state = .passed ∧ r.kind = some kindData ∧ p.off + i < 32 + r.length.getD 0 then .decipher
            else .zero)) ∧ Keyed s t e r beats))

/-- Writes from the wrong side are answered ERROR and nothing of them is forwarded. A line-side write to an outbound
slot fails a FILLING slot with DISTURBED, notes DISTURBED on a TAGGING one and leaves the others (R69); a clear-side
write beyond the header of an inbound slot rejects an ARRIVING slot with DISTURBED and leaves the others (R93). -/
def Obligations.WrongSideWrites : Prop :=
  ∀ (x : Transaction) (s : State) (p : Place) (n : Nat) (r : SlotRec),
    (Reaches s x .outboundLineWrite p n r → ∃ t, exec (.outboundLineWrite x) s = .next t ∧
      NothingForwarded s t ∧ ownAnswer x false ∈ t.bus.up ∧ SameMeters s t ∧
      (r.state = .filling → (∃ q, t.slotRec n = some q ∧ q.state = .failed ∧ q.reason = .disturbed ∧ q.key = none) ∧
        ResultAsked t n r .failed .disturbed) ∧
      (r.state = .tagging → t.slotRec n = some { r with reason := .disturbed } ∧ OtherRecords s t n ∧
        SameKeys s t ∧ t.ks = s.ks ∧ SameNotices s t) ∧
      (r.state ≠ .filling → r.state ≠ .tagging → SameFrames s t ∧ SameKeys s t ∧ SameNotices s t ∧
        t.faults = (s.recordFault ⟨.conflict, .degraded, (s.windows[p.window]).bind (·.channel), some p.window, p.slot,
          some x.initiator, false⟩).faults)) ∧
    (Reaches s x .inboundClearPayload p n r → ∃ t, exec (.inboundClearPayloadWrite x) s = .next t ∧
      NothingForwarded s t ∧ ownAnswer x false ∈ t.bus.up ∧ SameMeters s t ∧
      (r.state = .arriving → (∃ q, t.slotRec n = some q ∧ q.state = .rejected ∧ q.reason = .disturbed ∧
        q.key = none) ∧ ResultAsked t n r .rejected .disturbed) ∧
      (r.state ≠ .arriving → SameFrames s t ∧ SameKeys s t ∧ SameNotices s t ∧
        t.faults = (s.recordFault ⟨.conflict, .degraded, r.channel, some p.window, p.slot, some x.initiator,
          false⟩).faults))

/-- A line-side write to an inbound slot. FREE or ARRIVING, it is forwarded as it came and the slot is ARRIVING (R74). A
whole first header gives the record its fields; a sound one then chooses the key, the root key for a KEY_OFFER and, with
a reference, the channel's CURRENT, NEXT or PREVIOUS key of its generation for DATA, else NO_KEY, and sets the doomed
flag by the pre-check (R25, R75, R76, R77); that a sound header is parsed so, with the reasons said, also where a late
error left MEMORY before it was seen is the model's choice (notes/assumptions/21.md); a byte of a header already seen
makes the reason MALFORMED, or leaves MEMORY (R75). Payload bytes are taken on the record as the header bytes of the
same write left it (R74, R75): before the header they clear the valid flag; on a condemned record they do nothing; whole
blocks of the frame, not folded yet, are folded in order, and blocks beyond the frame and a part of the unfolded padded
last block do nothing; a part of another block, or a block folded before, clears the valid flag (R36, R78). CHECKING,
the write is answered ERROR, DISTURBED is noted unless a reason stands, and DISTURBED is taken (R91); PASSED or
REJECTED, it is answered ERROR and OVERRUN is taken (R92). -/
def Obligations.LineSideArrival : Prop :=
  ∀ (x : Transaction) (s : State) (p : Place) (n : Nat) (r : SlotRec) (bytes : List (Option Byte)),
    Reaches s x .inboundLineWrite p n r → x.access = .write bytes →
    ∃ t, exec (.inboundLineWrite x) s = .next t ∧ OtherRecords s t n ∧ SameMeters s t ∧ SameNotices s t ∧
      (r.state = .free ∨ r.state = .arriving →
        (∃ q, t.slotRec n = some q ∧ q.state = .arriving ∧
          (r.headerSeen = false → strobesAll bytes p.off 0 16 = true → q.headerSeen = true ∧
            q.kind = some (BitVec.ofNat 8 (headerField bytes p.off 1 2)) ∧
            q.gen = some (BitVec.ofNat 8 (headerField bytes p.off 3 4)) ∧
            q.seq = some (BitVec.ofNat 32 (headerField bytes p.off 4 8)) ∧
            q.length = some (headerField bytes p.off 12 14) ∧
            q.channel = channelOf (headerField bytes p.off 2 3) ∧
            (headerSound bytes p.off s.shop = false → q.reason = .malformed ∧ q.key = r.key) ∧
            (∀ (c : Fin 16) (seq : Nat) (g : Byte), headerSound bytes p.off s.shop = true →
              headerField bytes p.off 2 3 = c.val → seq = (BitVec.ofNat 32 (headerField bytes p.off 4 8)).toNat →
              g = BitVec.ofNat 8 (headerField bytes p.off 3 4) →
              (headerField bytes p.off 1 2 = 2 → SameKeys s t ∧
                (s.fuses.programmed = true → q.key = some .root ∧ q.reason = r.reason ∧
                  q.doomed = decide (seq < (s.chan c).highMark)) ∧
                (s.fuses.programmed = false → q.key = r.key ∧ q.reason = .noKey)) ∧
              (headerField bytes p.off 1 2 = 1 →
                (∀ k : Fin 32, (s.key k).gen = g → ((s.chan c).cur = some k ∨
                    ((s.chan c).next = some k ∧ ∀ j, (s.chan c).cur = some j → (s.key j).gen ≠ g) ∨
                    ((s.chan c).prev = some k ∧ ∀ j, (s.chan c).cur = some j ∨ (s.chan c).next = some j →
                      (s.key j).gen ≠ g)) →
                  q.key = some (.slot k) ∧ q.reason = r.reason ∧ t.channels = s.channels ∧ OtherKeys s t k ∧
                  t.key k = { s.key k with refs := (s.key k).refs + 1 } ∧
                  (q.doomed = true ↔ (seq = (s.key k).high ∧ 1 ≤ (s.key k).high) ∨ seq ∈ (s.key k).marks ∨
                    seq + 64 ≤ (s.key k).high)) ∧
                ((∀ k : Fin 32, (s.chan c).cur = some k ∨ (s.chan c).next = some k ∨ (s.chan c).prev = some k →
                  (s.key k).gen ≠ g) → q.key = r.key ∧ q.reason = .noKey ∧ SameKeys s t)))) ∧
          (r.state = .arriving → r.headerSeen = true → strobesIn bytes p.off 0 14 = true → q.key = r.key ∧
            q.reason = if r.reason = .memory then .memory else .malformed)) ∧
        (∃ e ∈ t.bus.transit, e.start = x.start ∧ e.access = x.access ∧ e.issued = false) ∧ SameFaults s t ∧
        (∀ was, was = (if r.state = .free then r.arrive s.stamp else r) →
          ∀ a, a = (if strobesIn bytes p.off 0 16 = true then
              { (t.slotRec n).getD was with folded := was.folded, whole := was.whole, valid := was.valid }
            else was) →
          ∀ last, last = (a.length.getD 0 + 15) / 16 → blocksStrobed bytes p.off ≠ [] →
          (strobesIn bytes p.off 0 16 = false → SameKeys s t) ∧
          (a.headerSeen = false → t.slotRec n = some { a with valid := false } ∧ t.ks = s.ks) ∧
          (a.headerSeen = true → a.reason = .malformed ∨ a.reason = .noKey ∨ a.reason = .memory ∨ a.doomed = true →
            t.slotRec n = some a ∧ t.ks = s.ks) ∧
          (a.headerSeen = true → a.reason ≠ .malformed → a.reason ≠ .noKey → a.reason ≠ .memory → a.doomed = false →
            (∀ o, a.valid = true → a.opening = some o → ∀ key, a.key = some key →
              (∀ b ∈ blocksStrobed bytes p.off, last < b ∨ (b ∉ a.folded ∧
                ((blockBytesIn bytes p.off b).all Option.isSome = true ∨ (b = last ∧ 0 < a.length.getD 0 % 16)))) →
              ∀ l, l = (blocksStrobed bytes p.off).filter
                (fun b => decide (b ≤ last) && (blockBytesIn bytes p.off b).all Option.isSome) →
              t.slotRec n = some { a with folded := l.reverse ++ a.folded, whole := l.reverse ++ a.whole } ∧
              t.ks = { s.ks with mulQueue := s.ks.mulQueue ++ l.map fun b =>
                ⟨.fold, n, o, key, blockOfStrobed (blockBytesIn bytes p.off b), b⟩ }) ∧
            (∀ b ∈ blocksStrobed bytes p.off, b ≤ last → (b ∈ a.folded ∨
                ((blockBytesIn bytes p.off b).all Option.isSome = false ∧ (b < last ∨ a.length.getD 0 % 16 = 0))) →
              ∃ q, t.slotRec n = some q ∧ q.valid = false) ∧
            (∀ b, blocksStrobed bytes p.off = [b] →
              (last < b ∨ (b = last ∧ 0 < a.length.getD 0 % 16 ∧ b ∉ a.folded ∧
                  (blockBytesIn bytes p.off b).all Option.isSome = false) →
                t.slotRec n = some a ∧ t.ks = s.ks) ∧
              (b ≤ last → (b ∈ a.folded ∨ ((blockBytesIn bytes p.off b).all Option.isSome = false ∧
                  (b < last ∨ a.length.getD 0 % 16 = 0))) →
                t.slotRec n = some { a with valid := false } ∧ t.ks = s.ks))))) ∧
      (r.state = .checking → t.slotRec n = some { r with noted := r.noted.or (some .disturbed) } ∧
        NothingForwarded s t ∧ ownAnswer x false ∈ t.bus.up ∧ SameKeys s t ∧
        t.faults = (s.recordFault ⟨.disturbed, .degraded, r.channel, some r.window, some r.slot, some x.initiator,
          false⟩).faults) ∧
      (r.state = .passed ∨ r.state = .rejected → SameFrames s t ∧ NothingForwarded s t ∧
        ownAnswer x false ∈ t.bus.up ∧ SameKeys s t ∧
        t.faults = (s.recordFault ⟨.overrun, .correctable, r.channel, some r.window, some r.slot, some x.initiator,
          false⟩).faults)

/-- A CHECK on an ARRIVING slot: rejected at once with the first reason of R81 that applies, else CHECKING, with a
finish of the captured length that waits and the tag read asked for (R80, R81, R82, R88). -/
def Obligations.CheckSettlesOrBegins : Prop :=
  ∀ (x : Transaction) (s : State) (p : Place) (n : Nat) (r : SlotRec) (bytes : List (Option Byte)),
    Reaches s x .inboundClearHeader p n r → x.access = .write bytes → r.state = .arriving →
    strobedAt bytes p.off 14 = some 5 →
    ∃ t, exec (.inboundClearHeaderWrite x) s = .next t ∧ SameMeters s t ∧
      (∀ why : Reason,
        why = (if r.headerSeen = false then .malformed
          else if r.reason = .malformed ∨ r.reason = .memory then r.reason
          else if ∃ c, r.channel = some c ∧ (s.chan c).state = .disabled then .channelDown
          else if r.reason = .noKey then .noKey
          else if r.doomed = true then .replayed
          else .none) →
        (why ≠ .none → (∃ q, t.slotRec n = some q ∧ q.state = .rejected ∧ q.reason = why ∧ q.key = none) ∧
          ResultAsked t n r .rejected why) ∧
        (why = .none → (∃ q, t.slotRec n = some q ∧ q.state = .checking ∧ q.key = r.key ∧ q.noted = none ∧
            q.finish = some ⟨.waiting, r.length.getD 0, none, none, none⟩) ∧
          (∃ q ∈ t.requests, q.op = .tagRead n (r.opening.getD 0) ∧ q.start = s.slotBase r + 16 ∧
            q.access = .read 2) ∧
          OtherRecords s t n ∧ SameKeys s t ∧ SameFaults s t ∧ SameNotices s t ∧ t.ks = s.ks))

/-- A clear-side header write to a notice slot that is no release is refused: ERROR, nothing forwarded, CONFLICT on the
record's channel, the slot unchanged; a release in FREE changes no record and is forwarded as bytes 14 and 15 of 0 where
strobed (R163). -/
def Obligations.NoticeHeaderWrite : Prop :=
  ∀ (x : Transaction) (s : State) (p : Place) (n : Nat) (r : SlotRec) (bytes : List (Option Byte)),
    Reaches s x .noticeClearHeader p n r → x.access = .write bytes →
    (strobedAt bytes p.off 14 = some 0 → r.state = .free → ∃ t, exec (.noticeClearHeaderWrite x) s = .next t ∧
      SameUnits s t ∧ ∃ e ∈ t.bus.transit, e.id = s.stamp ∧ ∃ b, e.access = .write b ∧
        strobedAt b p.off 14 = some 0 ∧ (∀ v, strobedAt bytes p.off 15 = some v → strobedAt b p.off 15 = some 0) ∧
        ∀ k, k < 14 → strobedAt b p.off k = none) ∧
    (strobedAt bytes p.off 14 ≠ some 0 ∨ (r.state ≠ .tagged ∧ r.state ≠ .free) →
      ∃ t, exec (.noticeClearHeaderWrite x) s = .next t ∧ NothingForwarded s t ∧ ownAnswer x false ∈ t.bus.up ∧
      SameFrames s t ∧ SameKeys s t ∧ SameMeters s t ∧ SameNotices s t ∧
      t.faults = (s.recordFault ⟨.conflict, .degraded, r.channel, some p.window, p.slot, some x.initiator,
        false⟩).faults)

/-- Writes to the control page. CONTROL_PAGE_OTHER_WRITE, accepted from the CLEAR side, is forwarded unchanged; from the
LINE side it is answered ERROR and CONFLICT is taken on the device (R10, R11); completed with OKAY without taking an
index word, it is answered OKAY and changes nothing else (R15, R174). The index words, when a control page write
completes with OKAY, and the fetch they lead to: a command producer index of 0 to 31 becomes the producer copy; in IDLE
or HALTED a pending record is fetched, four beats at page offset 0x100 + 32·i, and with none pending the unit is IDLE
(R174, R175). A report consumer index in the span of records written and not yet read becomes the consumer copy, and the
interrupt is judged (R174, R181). That a report consumer index at or above the ring size is not taken is the model's
choice (notes/assumptions/19.md). -/
def Obligations.IndexWordsAreTaken : Prop :=
  (∀ (x : Transaction) (s : State) (p : Place) (bytes : List (Option Byte)), x.wellFormed = true →
    s.accepting = true → s.placeOf x = some p → p.role = .controlPage → x.access = .write bytes →
    lineOf x.start = lineOf x.last →
    (s.classOf x = .clear → ∃ t, exec (.controlPageOtherWrite (.accepted x)) s = .next t ∧ SameUnits s t ∧
      ∃ e ∈ t.bus.transit, e.id = s.stamp ∧ e.start = x.start ∧ e.access = x.access ∧ e.issued = false ∧
        e.clear = true) ∧
    (s.classOf x = .line → ∃ t, exec (.controlPageOtherWrite (.accepted x)) s = .next t ∧
      NothingForwarded s t ∧ ownAnswer x false ∈ t.bus.up ∧ SameKeys s t ∧ SameMeters s t ∧ SameFrames s t ∧
      SameNotices s t ∧ t.faults = (s.recordFault
        ⟨.conflict, .degraded, none, some p.window, p.slot, some x.initiator, false⟩).faults)) ∧
  (∀ (id : Nat) (s : State) (e : TransitEntry), s.issuedWrite id = some e → e.pageWrite = true →
    s.producerWritten e = none → s.consumerWritten e = none →
    ∃ t, exec (.controlPageOtherWrite (.completed id)) s = .next t ∧ SameUnits s t ∧
      ⟨e.initiator, e.start, true, []⟩ ∈ t.bus.up ∧ ∀ f ∈ t.bus.transit, f.id ≠ id) ∧
  (∀ (id v : Nat) (s : State) (e : TransitEntry), s.issuedWrite id = some e → e.pageWrite = true →
    s.wordWritten e 0 = some v → v ≤ 31 →
    ∃ t, exec (.commandProducerIndexWrite id) s = .next t ∧ t.ctl.producer = v ∧ t.ctl.consumer = s.ctl.consumer ∧
      t.ctl.state = (if s.ctl.state = .idle ∨ s.ctl.state = .halted then
        (if v = s.ctl.consumer then .idle else .fetching) else s.ctl.state) ∧
      ((s.ctl.state = .idle ∨ s.ctl.state = .halted) → v ≠ s.ctl.consumer →
        ∃ q ∈ t.requests, q.op = .fetch ∧ q.start = s.pageBase + 0x100 + 32 * s.ctl.consumer ∧ q.access = .read 4) ∧
      ⟨e.initiator, e.start, true, []⟩ ∈ t.bus.up ∧ SameBlocks s t) ∧
  (∀ (id v : Nat) (s : State) (e : TransitEntry), s.issuedWrite id = some e → e.pageWrite = true →
    s.wordWritten e 16 = some v → s.ringLive = true → v < s.ctl.ringSize →
    (v + s.ctl.ringSize - s.ctl.ringConsumer) % s.ctl.ringSize ≤
      (s.ctl.ringProducer + s.ctl.ringSize - s.ctl.ringConsumer) % s.ctl.ringSize →
    ∃ t, exec (.reportConsumerIndexWrite id) s = .next t ∧ t.ctl.ringConsumer = v ∧
      t.ctl.ringProducer = s.ctl.ringProducer ∧ t.ctl.irq = decide (s.ctl.ringProducer ≠ v) ∧
      ⟨e.initiator, e.start, true, []⟩ ∈ t.bus.up ∧ SameBlocks s t) ∧
  (∀ (id : Nat) (data : List Byte) (s : State) (e : InjEntry), s.issuedInj id = some e → e.req.op = .fetch →
    data.length = 32 → s.ctl.state = .fetching →
    ∃ t, exec (.commandFetchReturn id data) s = .next t ∧ t.ctl.state = .executing ∧ t.ctl.record = data ∧
      t.ctl.consumer = s.ctl.consumer ∧ SameBlocks s t)

/-! ## The downstream side -/

/-- DOWNSTREAM_GRANT chooses as R17 says among the READY entries, an entry being READY by R12, R13 and R16: the oldest
READY injection queue entry when the passover count is 8 or no transit table entry is READY, and the passover count is
then 0; otherwise the oldest READY transit table entry, and the count rises by one when an injection queue entry is
READY and is 0 when none is; nothing when none is READY. After either reset the count is 0. -/
def Obligations.ArbiterChooses : Prop :=
  (∀ (s : State) (j : InjEntry), j ∈ s.bus.inj → s.bus.injReady j = true → s.agesSound →
    (∀ i ∈ s.bus.inj, s.bus.injReady i = true → j.id ≤ i.id) →
    (s.bus.passover = 8 ∨ ∀ e ∈ s.bus.transit, s.bus.transitReady e = false) →
    ∃ t, exec .downstreamGrant s = .next t ∧ t.bus.passover = 0 ∧
      t.bus.down = ⟨j.id, true, j.req.start, j.req.access⟩ :: s.bus.down ∧ SameUnits s t ∧
      (∃ i ∈ t.bus.inj, i.id = j.id ∧ i.issued = true ∧ i.timeout = s.bus.timeout ∧ i.ticks = 0)) ∧
  (∀ (s : State) (e : TransitEntry), e ∈ s.bus.transit → s.bus.transitReady e = true → s.agesSound → s.rested →
    (∀ f ∈ s.bus.transit, s.bus.transitReady f = true → e.id ≤ f.id) →
    ¬ (s.bus.passover = 8 ∧ ∃ j ∈ s.bus.inj, s.bus.injReady j = true) →
    ∃ t, exec .downstreamGrant s = .next t ∧
      ((∃ j ∈ s.bus.inj, s.bus.injReady j = true) → t.bus.passover = s.bus.passover + 1) ∧
      ((∀ j ∈ s.bus.inj, s.bus.injReady j = false) → t.bus.passover = 0) ∧
      t.bus.down = ⟨e.id, false, e.start, e.access⟩ :: s.bus.down ∧ SameUnits s t ∧
      { e with issued := true } ∈ t.bus.transit) ∧
  (∀ s : State, (∀ e ∈ s.bus.transit, s.bus.transitReady e = false) →
    (∀ j ∈ s.bus.inj, s.bus.injReady j = false) → exec .downstreamGrant s = .next s) ∧
  (∀ (b : BitVec 28) (s t : State), exec (.powerOnReset b) s = .next t → t.bus.passover = 0) ∧
  (∀ s t : State, s.line ≠ .powerOn → exec .warmReset s = .next t → t.bus.passover = 0)

/-- Responses to passed transactions. OKAY to a write outside the control page: OKAY upstream and the entry freed (R15).
A read whose beats all have their keystream: its data delivered through the handling unit, raw where the byte is raw,
zero where it is gated, and exclusive-or its keystream where it is deciphered, with the response that downstream gave
(R15, R62, R90). ERROR also takes MEMORY_ERROR at DEGRADED with the window, slot and initiator (R11, R18). A payload
write of an outbound slot's present opening answered ERROR clears the valid flag before the decision of the finish;
after it FAILED(MEMORY) follows, or the reason MEMORY once the frame write has been asked for, unless a disturbance is
noted; any other write, and one of a TAGGED slot, leaves the record (R70); that the stage between the two decisions of a
finish counts as before is the model's choice (notes/assumptions/22.md). A line-side write of an inbound slot's present
arrival answered ERROR: of header bytes 0 to 13, the reason MEMORY in ARRIVING and MEMORY noted in CHECKING; of payload,
the valid flag cleared before the decision, MEMORY noted after it; any other write leaves the record (R79). -/
def Obligations.PassedResponses : Prop :=
  ∀ (id : Nat) (s : State) (e : TransitEntry), s.agesSound → s.rested → s.issuedEntry id = some e →
    (∀ bytes, e.access = .write bytes → e.pageWrite = false →
      ∃ t, exec (.passedResponse id []) s = .next t ∧ ⟨e.initiator, e.start, true, []⟩ ∈ t.bus.up ∧
        t.bus.transit = s.bus.transit.filter (fun f => f.id != id) ∧ SameUnits s t) ∧
    (∀ bytes, e.access = .write bytes →
      ∃ t, exec (.passedErrorResponse id []) s = .next t ∧ ⟨e.initiator, e.start, false, []⟩ ∈ t.bus.up ∧
        (∀ f ∈ t.bus.transit, f.id ≠ id) ∧ SameMeters s t ∧ SameNotices s t ∧
        (s.ks.overflow = [] ∨ (∀ n, e.recNo = some n → ∀ r, s.slotRec n = some r → r.state ≠ .tagging) →
          t.faults = (s.recordFault
          ⟨.memoryError, .degraded, none, e.window, e.slot, some e.initiator, false⟩).faults) ∧
        (e.recNo = none → SameFrames s t) ∧
        ∀ n, e.recNo = some n → ∀ r, s.slotRec n = some r →
          (r.role = .outbound → e.fills = true → e.opening.isSome = true → e.opening = r.opening →
            (r.state = .filling ∨ (r.state = .tagging ∧ (r.stage = some .waiting ∨ r.stage = some .settled)) →
              t.slotRec n = some { r with valid := false } ∧ OtherRecords s t n ∧ t.ks = s.ks ∧ SameKeys s t ∧
              t.merges = s.merges.filter (fun m => m.recNo != n)) ∧
            (r.state = .tagging → r.stage ≠ some .waiting → r.stage ≠ some .settled →
              (r.reason = .disturbed → t.slotRec n = some r ∧ SameFrames s t ∧ SameKeys s t) ∧
              (r.reason ≠ .disturbed → r.frameAsked = true → t.slotRec n = some { r with reason := .memory } ∧
                OtherRecords s t n ∧ t.ks = s.ks ∧ SameKeys s t) ∧
              (r.reason ≠ .disturbed → r.frameAsked = false → ResultAsked t n r .failed .memory ∧
                ∃ q, t.slotRec n = some q ∧ q.state = .failed ∧ q.reason = .memory ∧ q.key = none ∧
                  q.finish = none))) ∧
          (r.role = .outbound → e.fills = false ∨ e.opening ≠ r.opening ∨ r.state = .tagged → SameFrames s t ∧
            SameKeys s t) ∧
          (∀ off, off = e.start % 2048 → r.role = .inbound → e.clear = false → e.opening.isSome = true →
            e.opening = r.opening → r.state = .arriving ∨ r.state = .checking → OtherRecords s t n ∧ SameKeys s t ∧
            t.slotRec n = some { r with
              reason := if r.state = .arriving ∧ strobesIn bytes off 0 14 = true then .memory else r.reason
              valid := if (r.state = .arriving ∨ r.stage = some .waiting) ∧ strobesIn bytes off 32 2048 = true then false
                else r.valid
              noted := if r.state = .checking ∧ (strobesIn bytes off 0 14 = true ∨
                  (r.stage ≠ some .waiting ∧ strobesIn bytes off 32 2048 = true)) then r.noted.or (some .memory)
                else r.noted }) ∧
          (r.role = .inbound → e.clear = true ∨ e.opening ≠ r.opening ∨ r.state = .passed ∨ r.state = .rejected →
            SameFrames s t ∧ SameKeys s t)) ∧
    (∀ (beats : Nat) (data : List Byte), e.access = .read beats → data.length = 8 * beats →
      (∀ b ∈ e.beatKeys, b ≠ .waiting) →
      (∃ t, exec (.passedResponse id data) s = .next t ∧ SameUnits s t ∧
        t.bus.transit = s.bus.transit.filter (fun f => f.id != id) ∧
        ∃ u ∈ t.bus.up, u.initiator = e.initiator ∧ u.start = e.start ∧ u.ok = true ∧ u.data.length = data.length ∧
          ∀ (i : Nat) (v : Byte), data[i]? = some v →
            (e.treat.getD i .raw = .raw → u.data[i]? = some v) ∧
            (e.treat.getD i .raw = .zero → u.data[i]? = some 0) ∧
            (∀ ks, e.treat.getD i .raw = .decipher → e.beatKeys.getD (i / 8) .none = .held ks →
              u.data[i]? = some (v ^^^ (beatBytes ks).getD (i % 8) 0)) ∧
            (e.treat.getD i .raw = .decipher → e.beatKeys.getD (i / 8) .none = .withdrawn → u.data[i]? = some 0)) ∧
      (∃ t, exec (.passedErrorResponse id data) s = .next t ∧
        t.bus.transit = s.bus.transit.filter (fun f => f.id != id) ∧ SameFrames s t ∧ SameKeys s t ∧
        t.faults = (s.recordFault
          ⟨.memoryError, .degraded, none, e.window, e.slot, some e.initiator, false⟩).faults ∧
        ∃ u ∈ t.bus.up, u.initiator = e.initiator ∧ u.start = e.start ∧ u.ok = false))

/-- A request that waits for an injection queue entry takes one when one is free, the oldest first (R16); a response
that answers no entry is discarded (R20, R21). -/
def Obligations.QueueServesOldestRequest : Prop :=
  (∀ (s : State) (q : InjReq) (rest : List InjReq), s.bus.injWaiting = q :: rest → s.bus.inj.length < 8 →
    s.bus.injAsked = [] →
    ∃ t, exec .injectionRequestServed s = .next t ∧ t.bus.injWaiting = rest ∧
      t.bus.inj = s.bus.inj ++ [⟨s.stamp, q, false, 0, 0⟩] ∧ SameUnits s t) ∧
  (∀ (id : Nat) (s : State), (∀ e ∈ s.bus.transit, e.id ≠ id) → (∀ e ∈ s.bus.inj, e.id ≠ id) →
    exec (.staleResponse id) s = .next s)

/-- An injected transaction that fails, by ERROR or at its timeout, leaves the queue, and no meter is touched. Of a
fetch the Control Unit is HALTED (R175); of a header result, zeroing or fetch, the fault is taken at FATAL and the
frames are left (R19, R20, R24, R173); of a finish read or frame write of an outbound slot without an earlier reason,
the slot goes to FAILED with MEMORY or TIMEOUT (R42, R65); of a finish read of an inbound slot, the slot is REJECTED
with the noted reason, else MEMORY or TIMEOUT (R83). Of a notice write, the composition ends, its slot returns to FREE
with its reference dropped, and its carried entries that are still COMPOSING return to PENDING before NOTICE_BLOCKED is
taken, naming the slot (R170; its window and slot are the model's choice, notes/assumptions/20.md). Of the read of a
ruling, the slot is REJECTED and the high mark is as it was (R136); of the read of a loading, the hold is cleared and
its key slot zeroised (R140). Of the status write, COMPLETING ends as after OKAY (R176). Where FATAL faults are not
reported: of a report record's write the record is counted lost, and of it or the producer word's the queue's head has
its turn at the same ring position (R179); of a lost-report count write, another follows at once when the count has
changed since (R180; notes/assumptions/17.md). -/
def Obligations.InjectedFailures : Prop :=
  ∀ (id : Nat) (s : State) (e : InjEntry) (late : Bool) (why : Reason) (f : Occurrence), s.agesSound →
    s.issuedInj id = some e → (late = true → 1 ≤ e.timeout ∧ e.timeout ≤ e.ticks) →
    why = (if late then .timeout else .memory) →
    f = ⟨if late then .downstreamTimeout else .memoryError, .fatal, none, e.req.window, e.req.slot, none,
      e.req.op.quiet⟩ →
    ∃ t, exec (if late then .downstreamTimeout id else .injectedError id) s = .next t ∧
      (∀ g ∈ t.bus.inj, g.id ≠ id) ∧ SameMeters s t ∧
      (e.req.op = .fetch → s.ctl.state = .fetching → t.ctl.state = .halted ∧ t.ctl.consumer = s.ctl.consumer) ∧
      (e.req.op = .fetch ∨ e.req.op = .resetZero ∨ (∃ n b, e.req.op = .headerResult n b) →
        f.quiet = false ∧ t.faults = (s.recordFault f).faults ∧ SameFrames s t ∧ SameKeys s t) ∧
      (∀ (n o : Nat) (r : SlotRec), (e.req.op = .tailFetch n o ∨ (∃ b, e.req.op = .sweepRead n o b) ∨
          e.req.op = .frameWrite n o) → s.finishing n o = some r → r.role = .outbound → r.reason = .none →
        (∃ q, t.slotRec n = some q ∧ q.state = .failed ∧ q.reason = why ∧ q.key = none) ∧
        ResultAsked t n r .failed why) ∧
      (∀ (n o : Nat) (r : SlotRec), (e.req.op = .tagRead n o ∨ e.req.op = .tailFetch n o ∨
          (∃ b, e.req.op = .sweepRead n o b)) → s.finishing n o = some r → r.role = .inbound →
        (∃ q, t.slotRec n = some q ∧ q.state = .rejected ∧ q.reason = r.noted.getD why ∧ q.key = none ∧
          q.finish = none) ∧ ResultAsked t n r .rejected (r.noted.getD why)) ∧
      (∀ (o : Nat) (c : Composition) (r : SlotRec) (ch : Fin 16), (e.req.op = .noticeLine1 o ∨
          e.req.op = .noticeLine0 o) → s.notices.comp = some c → c.opening = o → s.slotRec c.recNo = some r →
        r.channel = some ch → (∀ k, r.keySlot = some k → (s.keyRole k).isSome = true) →
        f.quiet = true ∧ t.notices.comp = none ∧ t.notices.list = s.notices.list ∧
        t.slotRec c.recNo = some (SlotRec.fresh r.role r.window r.slot) ∧
        (∀ k, r.keySlot = some k → t.key k = { s.key k with refs := (s.key k).refs - 1 } ∧ OtherKeys s t k) ∧
        t.faults = ((c.carried.foldl State.returnCarried (s.recordFault f)).recordFault
          ⟨.noticeBlocked, .degraded, some ch, some r.window, some r.slot, none, true⟩).faults) ∧
      (∀ (c : Fin 16) (w : OfferWork) (r : SlotRec), e.req.op = .offerRead c w.id → (s.chan c).ruling = some w →
        s.slotRec w.recNo = some r → r.keySlot = none →
        (∃ q, t.slotRec w.recNo = some q ∧ q.state = .rejected ∧ q.reason = r.noted.getD why) ∧
        ResultAsked t w.recNo r .rejected (r.noted.getD why) ∧
        t.chan c = { s.chan c with ruling := none, rulingQueue := (s.chan c).rulingQueue.tail } ∧
        t.keys = s.keys ∧ OtherChannels s t c ∧ t.faults = (s.recordFault f).faults) ∧
      (∀ (c : Fin 16) (w : OfferWork) (h : Hold) (r : SlotRec), e.req.op = .offerRead c w.id →
        (∀ v, (s.chan c).ruling = some v → v.id ≠ w.id) → (s.chan c).loading = some w → (s.chan c).hold = some h →
        s.slotRec h.recNo = some r → s.keyRole h.key = none → (s.key h.key).state ≠ .free →
        (s.key h.key).refs = 1 → s.ks.overflow = [] →
        t.chan c = { s.chan c with hold := none, loading := none, installBuf := none } ∧ OtherChannels s t c ∧
        t.slotRec h.recNo = some { r with claimed := false } ∧ t.key h.key = KeySlot.zeroised ∧
        OtherKeys s t h.key ∧ t.keys.freeList = s.keys.freeList ++ [h.key] ∧
        t.faults = (s.recordFault f).faults) ∧
      (e.req.op = .statusWrite → s.ctl.state = .completing → s.ctl.doneWaiting = none →
        (s.freeInj id).bus.outstanding (fun op => decide (op = .statusWrite)) = false →
        t.ctl.consumer = s.ctl.consumer ∧
        t.ctl.state = if s.ctl.producer = s.ctl.consumer then .idle else .fetching) ∧
      (s.faults.localMask.fatal = false →
        (e.req.op = .reportRecord ∨ e.req.op = .reportWord →
          t.ctl.ringProducer = s.ctl.ringProducer ∧ t.faults = (s.recordFault f).faults ∧
          (s.ctl.queue = [] → t.ctl.queue = [] ∧
            t.ctl.lost = (if e.req.op = .reportRecord then min (s.ctl.lost + 1) 4294967295 else s.ctl.lost)) ∧
          (∀ (q : Report) (rest : List Report) (i : Fin 16) (w : Window), s.ctl.queue = q :: rest →
            s.ringLive = true → (s.ctl.ringProducer + 1) % s.ctl.ringSize ≠ s.ctl.ringConsumer →
            (s.freeInj id).reportOutstanding = false → s.reportWindow = some (i, w) → t.ctl.queue = rest ∧
            t.ctl.lost = (if e.req.op = .reportRecord then min (s.ctl.lost + 1) 4294967295 else s.ctl.lost) ∧
            ∃ a ∈ t.requests, a.op = .reportRecord ∧ a.start = w.base.toNat + 32 * s.ctl.ringProducer ∧
              a.access = .write (q.bytes.map some))) ∧
        (e.req.op = .lostWord → t.ctl.lost = s.ctl.lost ∧ t.faults = (s.recordFault f).faults ∧
          (s.ctl.lost = s.ctl.lostWritten → SameControl s t) ∧
          (s.ctl.lost ≠ s.ctl.lostWritten → t.ctl.lostWritten = s.ctl.lost ∧
            ∃ a ∈ t.requests, a.op = .lostWord ∧ a.start = s.pageBase + 16 ∧
              a.access = .write (List.replicate 4 none ++ (beBytes 4 s.ctl.lost).map some))))

/-! ## The engines -/

/-- CIPHER_GRANT takes the oldest miss file entry that can be granted, and the oldest background request that can be
when there is none (R48, R117); MULTIPLIER_GRANT takes the oldest request whose key has its subkey (R49). -/
def Obligations.EnginesGrantOldest : Prop :=
  (∀ (s : State) (older younger : List MissEntry) (m : MissEntry), s.ks.cipher = none →
    s.ks.misses = older ++ m :: younger → m.granted = false → (s.key m.key).load = .loaded →
    (∀ x ∈ older, x.granted = true ∨ (s.key x.key).load ≠ .loaded) →
    ∃ t, exec .cipherGrant s = .next t ∧ t.ks.cipher = some ⟨.miss m.id, .slot m.key, m.ctr, false⟩ ∧
      t.ks.background = s.ks.background ∧ t.ks.cache = s.ks.cache ∧ t.pool = s.pool ∧ SameKeys s t ∧ SameMeters s t ∧
      SameFaults s t ∧ SameNotices s t ∧ SameControl s t) ∧
  (∀ (s : State) (older younger : List BgReq) (q : BgReq), s.ks.cipher = none →
    (∀ x ∈ s.ks.misses, x.granted = true ∨ (s.key x.key).load ≠ .loaded) →
    s.ks.background = older ++ q :: younger → s.bgReady q = true → (∀ x ∈ older, s.bgReady x = false) →
    ∃ t, exec .cipherGrant s = .next t ∧
      t.ks = { s.ks with background := older ++ younger, cipher := some ⟨.background q, q.key, q.input, false⟩ } ∧
      t.pool = s.pool ∧ SameKeys s t ∧ SameMeters s t ∧ SameFaults s t ∧ SameNotices s t ∧ SameControl s t) ∧
  (∀ (s : State) (older younger : List MulReq) (q : MulReq), s.ks.mulBusy = none →
    s.ks.mulQueue = older ++ q :: younger → s.keyReady q.key = true → (∀ x ∈ older, s.keyReady x.key = false) →
    ∃ t, exec .multiplierGrant s = .next t ∧
      t.ks = { s.ks with mulQueue := older ++ younger, mulBusy := some (q, false) } ∧
      t.pool = s.pool ∧ SameKeys s t ∧ SameMeters s t ∧ SameFaults s t ∧ SameNotices s t ∧ SameControl s t)

/-- KEYSTREAM_MISS_COMPLETE writes the keystream into the cache at the replacement pointer, which advances by one, from
15 back to 0, and no other entry of the cache changes (R44); a withdrawn grant's output is discarded (R47). -/
def Obligations.MissFillsCache : Prop :=
  (∀ (s : State) (m : MissEntry) (g : CipherGrant), s.ks.cipher = some g → g.job = .miss m.id → g.withdrawn = false →
    s.ks.misses.find? (·.id == m.id) = some m →
    ∃ t, exec .keystreamMissComplete s = .next t ∧ t.ks.cipher = none ∧
      t.ks.cache[s.ks.pointer] = some ⟨m.key, m.ctr, cipherBlock (s.materialOf g.key) g.input⟩ ∧
      (∀ i : Fin 16, i ≠ s.ks.pointer → t.ks.cache[i] = s.ks.cache[i]) ∧
      t.ks.pointer.val = (s.ks.pointer.val + 1) % 16 ∧ t.ks.background = s.ks.background ∧ SameKeys s t ∧
      SameMeters s t) ∧
  (∀ (s : State) (id : Nat) (g : CipherGrant), s.ks.cipher = some g → g.job = .miss id → g.withdrawn = true →
    ∃ t, exec .keystreamMissComplete s = .next t ∧ t.ks = { s.ks with cipher := none } ∧ t.pool = s.pool ∧
      SameKeys s t ∧ SameMeters s t ∧ SameFaults s t ∧ SameNotices s t ∧ SameControl s t)

/-- The merge queue takes the enciphered bytes of part of a block: nothing without the valid flag; a block folded
already, or a byte held already, clears the flag and discards the slot's entries; bytes that fill their entry's block
fold it whole and free the entry; others join it; without an entry a new one is made, and with all 32 places held the
oldest entry goes first, its slot's flag cleared with MERGE_EVICTION (R59, R60). The window, slot and initiator of its
faults are the model's choice where no rule gives them (notes/assumptions/20.md). -/
def Obligations.PartialBlocksMerge : Prop :=
  ∀ (s t : State) (n b o : Nat) (bytes : List (Option Byte)) (r : SlotRec) (key : KeyRef), s.slotRec n = some r →
    r.opening = some o → r.key = some key → t = s.mergeStep n b bytes → SameKeys s t ∧ SameMeters s t ∧
      (r.valid = false → t = s) ∧
      (r.valid = true → (b ∈ r.folded ∨ ∃ m, s.mergeOf n b = some m ∧ overlapBytes m.bytes bytes = true) →
        t.slotRec n = some { r with valid := false } ∧ OtherRecords s t n ∧ t.ks = s.ks ∧ SameFaults s t ∧
        t.merges = s.merges.filter (fun m => m.recNo != n)) ∧
      (∀ m, r.valid = true → b ∉ r.folded → s.mergeOf n b = some m → overlapBytes m.bytes bytes = false →
        SameFaults s t ∧ OtherRecords s t n ∧
        ((joinBytes m.bytes bytes).all Option.isSome = true →
          t.slotRec n = some { r with folded := b :: r.folded, whole := b :: r.whole } ∧
          t.merges = s.merges.filter (fun x => !(x.recNo == n && x.block == b)) ∧
          t.ks.mulQueue = s.ks.mulQueue ++ [⟨.fold, n, o, key, blockOfStrobed (joinBytes m.bytes bytes), b⟩]) ∧
        ((joinBytes m.bytes bytes).all Option.isSome = false → t.slotRec n = some r ∧ t.ks = s.ks ∧
          t.mergeOf n b = some { m with bytes := joinBytes m.bytes bytes } ∧ t.merges.length = s.merges.length)) ∧
      (r.valid = true → b ∉ r.folded → s.mergeOf n b = none → s.merges.length < 32 →
        t = { s with merges := s.merges ++ [⟨n, b, bytes⟩] }) ∧
      (∀ (m : MergeEntry) (rest : List MergeEntry) (x : SlotRec), r.valid = true → b ∉ r.folded →
        s.mergeOf n b = none → 32 ≤ s.merges.length → s.merges = m :: rest → s.slotRec m.recNo = some x →
        t.slotRec m.recNo = some { x with valid := false } ∧ OtherRecords s t m.recNo ∧ t.ks = s.ks ∧
        t.faults = (s.recordFault
          ⟨.mergeEviction, .correctable, x.channel, some x.window, some x.slot, none, false⟩).faults ∧
        t.merges = rest.filter (fun y => y.recNo != m.recNo) ++ (if m.recNo = n then [] else [⟨n, b, bytes⟩]))

/-- BACKGROUND_CIPHER_COMPLETE gives a mask to the finish that asked for it (R39, R48), the keystream of a notice's
payload block to its composition, which enciphers the block with it (R166), and an offer's plaintext block to the
reading that asked for it, discarding one of a reading given up (R136, R140). The last block of a ruling's reading
settles it, its slot leaving the ruling queue (R137, R138): a serial above the mark raises the mark, and an
unacceptable payload is REJECTED(MALFORMED) with KEY_SEQUENCE; an acceptable one without a noted reason on a channel
not DISABLED is PASSED, and an empty hold takes it with the head of the free list, or drops it with KEY_STORE_FULL
when that is empty, while a held offer is displaced with OFFER_DISPLACED, its key slot zeroised first (R87, R117,
R139). A serial at the mark is PASSED when it repeats a LOADED NEXT or CURRENT key, which is confirmed again, and else
REJECTED(REPLAYED) with REPLAYED; a noted reason is the verdict instead, of an acceptable or repeated offer too, which
then raises the mark as its ruling does and changes no hold, no reject count and no notice list (R82, R86, R135,
R138), and on a DISABLED channel without one, which a teardown prevents, the model gives CHANNEL_DOWN (R87;
notes/assumptions/21.md). The last block of a loading's reading, whatever ruling is in flight beside it, seats the
held offer as CURRENT or NEXT with its hash subkey asked for, or clears the hold with KEY_SEQUENCE when it is not
acceptable any more (R140, R141). That these faults name the offer's slot is the model's choice
(notes/assumptions/20.md), and so is the fault of a noted slot's ruling (notes/assumptions/15.md). -/
def Obligations.BackgroundBlocksReturn : Prop :=
  ∀ (s : State) (g : CipherGrant) (q : BgReq) (out : Block), s.ks.cipher = some g → g.job = .background q →
    g.withdrawn = false → out = cipherBlock (s.materialOf g.key) g.input →
    (∀ (n o : Nat) (r : SlotRec), q.use = .mask n o → s.finishing n o = some r →
      ∃ t, exec .backgroundCipherComplete s = .next t ∧ t.ks.cipher = none ∧ SameKeys s t ∧ SameMeters s t ∧
        SameFaults s t ∧ ∃ w f, t.slotRec n = some w ∧ w.finish = some f ∧
          f.mask = some out ∧ w.state = r.state ∧ w.acc = r.acc) ∧
    (∀ (o b : Nat) (c : Composition), q.use = .noticeBlock o b → s.notices.comp = some c → c.opening = o →
      ∃ t, exec .backgroundCipherComplete s = .next t ∧ t.ks.cipher = none ∧ SameKeys s t ∧ SameMeters s t ∧
        SameFaults s t ∧ t.notices.comp = some { c with
          cipher := c.cipher.set (b - 1) (some (c.plain.getD (b - 1) 0 ^^^ out)) }) ∧
    (∀ (c : Fin 16) (work b : Nat), q.use = .offerPlain c work b →
      (∀ w, (s.chan c).ruling = some w → w.id ≠ work) → (∀ w, (s.chan c).loading = some w → w.id ≠ work) →
      ∃ t, exec .backgroundCipherComplete s = .next t ∧ t.ks.cipher = none ∧ SameKeys s t ∧ SameMeters s t ∧
        SameFaults s t ∧ SameNotices s t ∧ SameControl s t) ∧
    (∀ (c : Fin 16) (b : Nat) (w : OfferWork) (d : List Block) (got : List (Option Block)),
      q.use = .offerPlain c w.id b → w.data = some d → got = w.plain.set (b - 1) (some (d.getD (b - 1) 0 ^^^ out)) →
      ((∃ x ∈ got, x = none) → (s.chan c).ruling = some w ∨ ((s.chan c).loading = some w ∧
          ∀ v, (s.chan c).ruling = some v → v.id ≠ w.id) →
        ∃ t, exec .backgroundCipherComplete s = .next t ∧ t.ks.cipher = none ∧ t.keys = s.keys ∧ SameMeters s t ∧
          SameFaults s t ∧ OtherChannels s t c ∧ t.chan c = (if (s.chan c).ruling = some w then
            { s.chan c with ruling := some { w with plain := got } }
          else { s.chan c with loading := some { w with plain := got } })) ∧
      (∀ (plain : List Block) (ok : Prop), got = plain.map some →
        (ok ↔ offerField plain 4 8 = 0 ∧ offerField plain 56 64 = 0 ∧
          ∀ k, (s.chan c).cur = some k → offerGen plain = (s.key k).gen + 1) →
        (∀ (r : SlotRec) (seq : BitVec 32), (s.chan c).ruling = some w → s.slotRec w.recNo = some r →
          r.key = some .root → r.channel = some c → seq = r.seq.getD 0 →
          ∃ t, exec .backgroundCipherComplete s = .next t ∧ t.ks.cipher = none ∧ SameMeters s t ∧
            OtherChannels s t c ∧ (t.chan c).ruling = none ∧
            (t.chan c).rulingQueue = (s.chan c).rulingQueue.tail ∧
            (t.chan c).highMark = max (s.chan c).highMark seq.toNat ∧ (t.chan c).cur = (s.chan c).cur ∧
            (t.chan c).next = (s.chan c).next ∧ (t.chan c).renewal = (s.chan c).renewal ∧
            ((s.chan c).highMark < seq.toNat → ¬ ok →
              (∃ x, t.slotRec w.recNo = some x ∧ x.state = .rejected ∧ x.reason = r.noted.getD .malformed) ∧
              ResultAsked t w.recNo r .rejected (r.noted.getD .malformed) ∧ t.keys = s.keys ∧
              t.faults = (s.recordFault
                ⟨.keySequence, .degraded, some c, some r.window, some r.slot, none, false⟩).faults) ∧
            ((s.chan c).highMark < seq.toNat → ok → r.noted = none → (s.chan c).state ≠ .disabled →
              (∃ x, t.slotRec w.recNo = some x ∧ x.state = .passed ∧ x.reason = .none) ∧
              ResultAsked t w.recNo r .passed .none ∧ (t.chan c).rejects = 0 ∧
              (∀ (k : Fin 32) (rest : List (Fin 32)), (s.chan c).hold = none → s.keys.freeList = k :: rest →
                (t.chan c).hold = some ⟨w.recNo, seq, offerGen plain, k⟩ ∧ t.keys.freeList = rest ∧
                t.key k = { s.key k with state := .staged, owner := some c, refs := 1, nextSeq := 1 } ∧
                OtherKeys s t k ∧ SameFaults s t ∧ (∃ x, t.slotRec w.recNo = some x ∧ x.claimed = true) ∧
                ((s.chan c).renewal ≠ .installing → ∃ v, (t.chan c).loading = some v ∧ v.recNo = w.recNo ∧
                  ∃ a ∈ t.requests, a.op = .offerRead c v.id ∧ a.start = s.slotBase r + 32 ∧ a.access = .read 8) ∧
                ((s.chan c).renewal = .installing → (t.chan c).loading = (s.chan c).loading)) ∧
              ((s.chan c).hold = none → s.keys.freeList = [] → (t.chan c).hold = none ∧ t.keys = s.keys ∧
                (∃ x, t.slotRec w.recNo = some x ∧ x.claimed = r.claimed) ∧ t.faults = (s.recordFault
                  ⟨.keyStoreFull, .degraded, some c, some r.window, some r.slot, none, false⟩).faults) ∧
              (∀ (h : Hold) (x : SlotRec) (k : Fin 32), (s.chan c).hold = some h → s.slotRec h.recNo = some x →
                h.recNo ≠ w.recNo → s.keyRole h.key = none → (s.key h.key).state ≠ .free → (s.key h.key).refs = 1 →
                s.ks.overflow = [] → (s.keys.freeList ++ [h.key]).head? = some k →
                (t.chan c).hold = some ⟨w.recNo, seq, offerGen plain, k⟩ ∧ (t.key k).state = .staged ∧
                (t.key k).owner = some c ∧ (t.key k).refs = 1 ∧ (k ≠ h.key → t.key h.key = KeySlot.zeroised) ∧
                t.keys.freeList = (s.keys.freeList ++ [h.key]).tail ∧
                (∃ y, t.slotRec h.recNo = some y ∧ y.state = x.state ∧ y.claimed = false) ∧ t.faults = (s.recordFault
                  ⟨.offerDisplaced, .correctable, some c, some x.window, some x.slot, none, false⟩).faults)) ∧
            (∀ why, ((s.chan c).highMark < seq.toNat ∧ ok) ∨ (seq.toNat ≤ (s.chan c).highMark ∧
                ∃ k, ((s.chan c).next = some k ∨ (s.chan c).cur = some k) ∧ (s.key k).load = .loaded ∧
                  (s.key k).serial = seq ∧ (s.key k).nonce = offerNonce plain) →
              r.noted = some why ∨ (r.noted = none ∧ (s.chan c).state = .disabled ∧ why = .channelDown) →
              (∃ x, t.slotRec w.recNo = some x ∧ x.state = .rejected ∧ x.reason = why ∧ x.claimed = r.claimed) ∧
              ResultAsked t w.recNo r .rejected why ∧ t.keys = s.keys ∧ SameFaults s t ∧
              t.notices.list = s.notices.list ∧ t.chan c = { s.chan c with
                ruling := none, rulingQueue := (s.chan c).rulingQueue.tail
                highMark := max (s.chan c).highMark seq.toNat }) ∧
            (∀ k : Fin 32, seq.toNat ≤ (s.chan c).highMark → r.noted = none → (s.chan c).state ≠ .disabled →
              (s.key k).load = .loaded → (s.key k).serial = seq → (s.key k).nonce = offerNonce plain →
              ((s.chan c).next = some k ∨ ((s.chan c).cur = some k ∧ ∀ j, (s.chan c).next = some j →
                ¬ ((s.key j).load = .loaded ∧ (s.key j).serial = seq ∧ (s.key j).nonce = offerNonce plain))) →
              s.notices.list.length < 16 →
              (∃ x, t.slotRec w.recNo = some x ∧ x.state = .passed ∧ x.claimed = r.claimed) ∧
              ResultAsked t w.recNo r .passed .none ∧ (t.chan c).rejects = 0 ∧ (t.chan c).hold = (s.chan c).hold ∧
              t.keys = s.keys ∧ SameFaults s t ∧ ⟨c, .keyConfirm k⟩ ∈ t.notices.list) ∧
            (seq.toNat ≤ (s.chan c).highMark →
              (∀ k, (s.chan c).next = some k ∨ (s.chan c).cur = some k →
                ¬ ((s.key k).load = .loaded ∧ (s.key k).serial = seq ∧ (s.key k).nonce = offerNonce plain)) →
              (∃ x, t.slotRec w.recNo = some x ∧ x.state = .rejected ∧ x.reason = r.noted.getD .replayed) ∧
              ResultAsked t w.recNo r .rejected (r.noted.getD .replayed) ∧ t.keys = s.keys ∧
              t.faults = (s.recordFault
                ⟨.replayed, .correctable, some c, some r.window, some r.slot, none, false⟩).faults)) ∧
        (∀ (h : Hold) (r : SlotRec), (∀ v, (s.chan c).ruling = some v → v.id ≠ w.id) →
          (s.chan c).loading = some w → (s.chan c).hold = some h → s.slotRec h.recNo = some r → s.keyRole h.key = none →
          (s.key h.key).owner = some c → (s.key h.key).refs = 1 → (s.key h.key).state ≠ .free → s.ks.overflow = [] →
          (s.chan c).next ≠ some h.key → (s.chan c).prev ≠ some h.key →
          ∃ t, exec .backgroundCipherComplete s = .next t ∧ t.ks.cipher = none ∧ SameMeters s t ∧
            OtherChannels s t c ∧ (∃ x, t.slotRec h.recNo = some x ∧ x.state = r.state ∧ x.claimed = false) ∧
            (ok → SameFaults s t ∧
              t.chan c = { s.chan c with
                cur := if (s.chan c).cur = none then some h.key else (s.chan c).cur
                next := if (s.chan c).cur = none then (s.chan c).next else some h.key
                hold := none, loading := none, installBuf := none, cutover := .stopped, cutoverKey := none
                renewal := .installing
                installing := some (h.key, if (s.chan c).cur = none then .current else .next) } ∧
              t.key h.key = { (s.key h.key).loadOffer plain h.serial with
                refs := 0
                state := if (s.chan c).cur = none then .active else (s.key h.key).state
                seatedAs := some (if (s.chan c).cur = none then .current else .next) } ∧
              ⟨.hashSubkey, .slot h.key, 0⟩ ∈ t.ks.background ∧
              (∀ k, (s.chan c).cur ≠ none → (s.chan c).next = some k →
                (∀ e ∈ t.notices.list, e.kind ≠ .keyConfirm k) ∧
                ((s.key k).owner = some c → (s.chan c).cur ≠ some k → (s.chan c).prev ≠ some k →
                  (s.key k).state ≠ .free → (s.key k).refs = 0 → t.key k = KeySlot.zeroised))) ∧
            (¬ ok → t.chan c = { s.chan c with hold := none, loading := none, installBuf := none } ∧
              t.key h.key = KeySlot.zeroised ∧ OtherKeys s t h.key ∧
              t.keys.freeList = s.keys.freeList ++ [h.key] ∧ t.faults = (s.recordFault
                ⟨.keySequence, .degraded, some c, some r.window, some r.slot, none, false⟩).faults))))

/-- The subkeys. ROOT_SUBKEY_COMPLETE keeps H = E(root key, 0) (R33). HASH_SUBKEY_RETURN stores a key slot's H and makes
it LOADED; when the install is current, the channel goes to CONFIRMING without an installing key slot, and a KEY_CONFIRM
for the slot stands in the protocol notice list, if the list has a place; the KEY_EVENT record INSTALLED is handed to
the Control Unit (R33, R142, R147, R164). -/
def Obligations.SubkeysAreStored : Prop :=
  (∀ (s : State) (q : BgReq), s.ks.cipher = some ⟨.background q, .root, 0, false⟩ → q.use = .rootSubkey →
    ∃ t, exec .rootSubkeyComplete s = .next t ∧
      t.ks = { s.ks with cipher := none, rootSubkey := some (cipherBlock s.fuses.rootKey 0) } ∧ t.pool = s.pool ∧
      SameKeys s t ∧ SameMeters s t ∧ SameFaults s t ∧ SameNotices s t ∧ SameControl s t) ∧
  (∀ (s : State) (q : BgReq) (k : Fin 32) (c : Fin 16), s.ks.cipher = some ⟨.background q, .slot k, 0, false⟩ →
    q.use = .hashSubkey → q.key = .slot k → (s.key k).owner = some c → s.installCurrent c k = true →
    s.notices.list.length < 16 →
    ∃ t, exec .hashSubkeyReturn s = .next t ∧
      t.key k = { s.key k with subkey := cipherBlock (s.key k).material 0, load := .loaded } ∧ OtherKeys s t k ∧
      t.keys.freeList = s.keys.freeList ∧ (t.chan c).renewal = .confirming ∧ (t.chan c).installing = none ∧
      (t.chan c).cur = (s.chan c).cur ∧ (t.chan c).next = (s.chan c).next ∧ (t.chan c).state = (s.chan c).state ∧
      OtherChannels s t c ∧ ⟨c, .keyConfirm k⟩ ∈ t.notices.list ∧ Handed s t [keyEventOf s c false k] ∧
      SameMeters s t ∧ SameFaults s t)

/-- MULTIPLIER_PRODUCT_RETURN adds the product X·H^e of a fold to the accumulator of the opening that asked, while its
valid flag is set, and leaves it when the flag is clear (R34, R36). The last product owed to a sweep whose reads have
all returned takes its finish on to direct, and so does the last fold of a notice whose blocks are all enciphered; an
earlier product does not (R41, R166). The product of a correction is added, block n is then folded and not whole-folded,
and the finish goes on to direct (R40). Going on to direct asks for the length term LB·H^(n+1) and the mask (R39). The
product of a length term is kept for the tag (R39). A product of an opening that has ended, or a withdrawn one, is
discarded (R37, R47). -/
def Obligations.FoldProductsAdd : Prop :=
  ∀ (s : State) (q : MulReq) (withdrawn : Bool), s.ks.mulBusy = some (q, withdrawn) →
    ∃ t, exec .multiplierProductReturn s = .next t ∧ t.ks.mulBusy = none ∧ SameKeys s t ∧ SameMeters s t ∧
      SameFaults s t ∧
      (∀ r, withdrawn = false → q.use = .fold → s.slotRec q.recNo = some r → r.opening = some q.opening →
        ∃ w, t.slotRec q.recNo = some w ∧ w.state = r.state ∧ w.valid = r.valid ∧ w.folded = r.folded ∧
          w.acc = if r.valid then r.acc ^^^ fieldMul q.block (fieldPow (s.subkeyOf q.key) q.exp) else r.acc) ∧
      (∀ r, withdrawn = false → s.slotRec q.recNo = some r → r.opening = some q.opening → ∀ f, r.finish = some f →
        ∀ key, r.key = some key → ∀ product, product = fieldMul q.block (fieldPow (s.subkeyOf q.key) q.exp) →
        ∀ n, n = (f.len + 15) / 16 → ∀ direct, direct = { s.ks with
          mulBusy := none
          mulQueue := s.ks.mulQueue ++ [⟨.lenTerm, q.recNo, q.opening, key, s.recBlock r f.len, n + 1⟩]
          background := s.ks.background ++ [⟨.mask q.recNo q.opening, key, s.recBlock r 0⟩] } →
        (q.use = .fold →
          (∀ c, s.notices.comp = some c → if c.recNo = q.recNo then c.opening = q.opening
            else c.cipher.all Option.isSome = false ∨ s.ks.productsOwed c.recNo c.opening ≠ 0) →
          ∀ last, last = (s.ks.mulQueue.all fun m => m.recNo != q.recNo || m.opening != q.opening) →
          OtherRecords s t q.recNo ∧ t.merges = s.merges ∧ SameNotices s t ∧
          (last = true → (f.stage = .sweep 0 ∨ (f.stage = .waiting ∧ ∃ c, s.notices.comp = some c ∧ c.recNo = q.recNo ∧
              c.cipher.all Option.isSome = true)) →
            t.ks = direct ∧ ∃ w, t.slotRec q.recNo = some w ∧ w.finish = some { f with stage := .direct }) ∧
          (last = false ∨ (f.stage ≠ .sweep 0 ∧ (f.stage ≠ .waiting ∨ ∀ c, s.notices.comp = some c →
              c.recNo = q.recNo → c.cipher.all Option.isSome = false)) →
            t.ks = { s.ks with mulBusy := none } ∧
            ∃ w, t.slotRec q.recNo = some w ∧ w.finish = some f)) ∧
        (q.use = .correction ∨ q.use = .lenTerm → OtherRecords s t q.recNo ∧ t.merges = s.merges ∧ SameNotices s t) ∧
        (q.use = .correction → t.ks = direct ∧ t.slotRec q.recNo = some { r with
          acc := r.acc ^^^ product
          folded := if n ∈ r.folded then r.folded else n :: r.folded
          whole := r.whole.filter (· != n)
          finish := some { f with stage := .direct } }) ∧
        (q.use = .lenTerm → t.ks = { s.ks with mulBusy := none } ∧
          t.slotRec q.recNo = some { r with finish := some { f with lenTerm := some product } })) ∧
      (withdrawn = true → SameFrames s { t with ks := { t.ks with mulBusy := s.ks.mulBusy } } ∧ SameNotices s t) ∧
      (∀ r, withdrawn = false → s.slotRec q.recNo = some r → r.opening ≠ some q.opening → t.pool = s.pool)

/-- The finish of a tag: its decision, its reads, and their data. The table of R38: a sweep when the valid flag is
clear, a block from 1 to m is not folded, or a block above n is; else direct when the tail is 0, or block n is folded
and not whole-folded; else a tail fetch. FINISH_DECISION: the merge entry that covers the padded last block is folded
padded, and the slot's other entries are discarded (R38); without merge entries, direct asks for the length term and the
mask (R39), a tail fetch for the read of block n (R40), and a sweep starts the accumulator again and asks for one read
for each line that holds a block, from the line's first block to its end or to block n, in line order and nothing else;
an empty frame's goes on at once (R41). That a padded fold's product is waited for, and that a second FINISH_DECISION
then begins the finish so, is the model's choice (notes/assumptions/22.md). A tail fetch's data asks for the product of
the correction block: the fetched block without its first t bytes when block n is whole-folded, and without the rest
otherwise (R40). A sweep read's data asks, block by block, for the products of its blocks, block n padded to the tail,
into a valid accumulator that does not hold them yet, and one read fewer is owed (R41). -/
def Obligations.FinishReadsReturn : Prop :=
  (∀ (valid : Bool) (folded whole : List Nat) (len n m : Nat), n = (len + 15) / 16 →
    m = (if len % 16 = 0 then n else n - 1) →
    (finishKind valid folded whole len = .sweep ↔
      valid = false ∨ (∃ b, 1 ≤ b ∧ b ≤ m ∧ b ∉ folded) ∨ ∃ b ∈ folded, n < b) ∧
    (finishKind valid folded whole len = .direct ↔
      ¬ (valid = false ∨ (∃ b, 1 ≤ b ∧ b ≤ m ∧ b ∉ folded) ∨ ∃ b ∈ folded, n < b) ∧
        (len % 16 = 0 ∨ (n ∈ folded ∧ n ∉ whole)))) ∧
  (∀ n : Nat, 1 ≤ n → n ≤ 126 → (sweepReads n).length = 1 + (n + 1) / 8 ∧
    (sweepReads n).Pairwise (fun p q => p.1 < q.1) ∧ ∀ p ∈ sweepReads n, (p.1 = 1 ∨ p.1 % 8 = 7) ∧ p.1 ≤ n ∧
      p.1 + p.2 = 1 + min n (if p.1 = 1 then 6 else p.1 + 7)) ∧
  (∀ (s : State) (n o : Nat) (r : SlotRec) (f : Finish) (key : KeyRef) (kind : FinishKind), s.slotRec n = some r →
    r.finish = some f → r.opening = some o → r.key = some key → f.stage = .waiting ∨ f.stage = .settled →
    (r.state = .tagging ∨ r.state = .checking) → s.ks.productsOwed n o = 0 → s.bus.writesWait o = false →
    kind = finishKind r.valid r.folded r.whole f.len →
    ∃ t, exec (.finishDecision n) s = .next t ∧ SameKeys s t ∧ SameMeters s t ∧ SameFaults s t ∧ SameNotices s t ∧
      SameControl s t ∧ OtherRecords s t n ∧
      t.merges = (if f.stage = .settled then s.merges else s.merges.filter (fun m => m.recNo != n)) ∧
      (∃ w, t.slotRec n = some w ∧ w.state = r.state ∧ w.key = r.key ∧ w.reason = r.reason) ∧
      (∀ m, f.stage = .waiting → s.mergeOf n ((f.len + 15) / 16) = some m → 0 < f.len % 16 →
        (m.bytes.take (f.len % 16)).all Option.isSome = true → r.valid = true → (f.len + 15) / 16 ∉ r.folded →
        t.ks = { s.ks with mulQueue := s.ks.mulQueue ++ [⟨.fold, n, o, key,
          padBlock (f.len % 16) (blockOfStrobed m.bytes), (f.len + 15) / 16⟩] } ∧
        t.slotRec n = some { r with
          folded := (f.len + 15) / 16 :: r.folded, finish := some { f with stage := .settled } }) ∧
      (f.stage = .settled ∨ (∀ m ∈ s.merges, m.recNo ≠ n) →
        (kind = .direct ∨ (kind = .sweep ∧ f.len = 0) →
          t.ks = { s.ks with
            mulQueue := s.ks.mulQueue ++ [⟨.lenTerm, n, o, key, s.recBlock r f.len, (f.len + 15) / 16 + 1⟩]
            background := s.ks.background ++ [⟨.mask n o, key, s.recBlock r 0⟩] }) ∧
        (kind = .tailFetch → t.ks = s.ks ∧
          ∃ q ∈ t.requests, q.op = .tailFetch n o ∧ q.access = .read 2 ∧
            q.start = s.slotBase r + 32 + 16 * ((f.len + 15) / 16 - 1)) ∧
        (kind = .sweep → 0 < f.len → f.len ≤ 2016 → t.ks = s.ks ∧
          (∃ w, t.slotRec n = some w ∧ w.acc = 0 ∧ w.valid = true ∧ w.folded = [] ∧ w.whole = [] ∧
            w.finish = some { f with stage := .sweep (sweepReads ((f.len + 15) / 16)).length }) ∧
          (s.bus.injAsked = [] → t.requests = s.requests ++ (sweepReads ((f.len + 15) / 16)).map fun p =>
            ⟨.sweepRead n o p.1, r.unit, s.slotBase r + (32 + 16 * (p.1 - 1)), .read (2 * p.2), some r.window,
              some r.slot⟩)))) ∧
  (∀ (id n o : Nat) (data : List Byte) (s : State) (e : InjEntry) (r : SlotRec) (f : Finish) (key : KeyRef),
    s.issuedInj id = some e → e.req.op = .tailFetch n o → e.req.access = .read 2 → data.length = 16 →
    s.finishing n o = some r → r.finish = some f → f.stage = .tail → r.key = some key →
    ∃ t, exec (.tailFetchReturn id data) s = .next t ∧ t.pool = s.pool ∧ t.merges = s.merges ∧
      t.ks = { s.ks with mulQueue := s.ks.mulQueue ++ [⟨.correction, n, o, key,
        (if (f.len + 15) / 16 ∈ r.whole then
          blockOf (List.replicate (f.len % 16) 0 ++ (blockBytes (blockOf data)).drop (f.len % 16))
        else blockOf ((blockBytes (blockOf data)).take (f.len % 16) ++ List.replicate (16 - f.len % 16) 0)),
        (f.len + 15) / 16⟩] } ∧ SameKeys s t ∧ SameMeters s t ∧ SameFaults s t ∧ SameNotices s t ∧ SameControl s t) ∧
  (∀ (id n o first owed beats : Nat) (data : List Byte) (s : State) (e : InjEntry) (r : SlotRec) (f : Finish)
    (key : KeyRef) (blk : Nat → Block), s.issuedInj id = some e → e.req.op = .sweepRead n o first →
    e.req.access = .read (2 * beats) → data.length = 16 * beats → s.finishing n o = some r → r.finish = some f →
    f.stage = .sweep owed → r.key = some key → r.valid = true → (∀ i < beats, first + i ∉ r.folded) →
    (∀ i, blk i = blockOf ((data.drop (16 * i)).take 16)) →
    ∃ t, exec (.sweepReadReturn id data) s = .next t ∧
      (∃ w, t.slotRec n = some w ∧ w.state = r.state ∧ w.acc = r.acc ∧ w.valid = true ∧
        (∀ i < beats, first + i ∈ w.folded) ∧ ∃ g, w.finish = some g ∧ g.stage = .sweep (owed - 1) ∧ g.len = f.len) ∧
      t.ks = { s.ks with mulQueue := s.ks.mulQueue ++ (List.range beats).map fun i => ⟨.fold, n, o, key,
        (if first + i = (f.len + 15) / 16 ∧ 0 < f.len % 16 then
          blockOf ((blockBytes (blk i)).take (f.len % 16) ++ List.replicate (16 - f.len % 16) 0)
        else blk i), first + i⟩ } ∧ OtherRecords s t n ∧
      SameKeys s t ∧ SameMeters s t ∧ SameFaults s t ∧ SameNotices s t ∧ SameControl s t)

/-- DIRECT_FINISH_COMPLETE forms the tag as the accumulator plus the length term plus the mask (R39). For an outbound
slot without a disturbance it asks for the frame write of R24 and R64 with that tag; a disturbed one goes to
FAILED(DISTURBED) without it (R66); an inbound slot whose tag read is still owed keeps the tag (R82); a notice slot asks
for its line-1 write when its payload goes beyond line 0, and else for its line-0 write with header and tag (R24, R166).
-/
def Obligations.DirectFinishFormsTag : Prop :=
  ∀ (s : State) (n o : Nat) (r : SlotRec) (f : Finish) (l m : Block), s.slotRec n = some r → r.finish = some f →
    f.stage = .direct → f.lenTerm = some l → f.mask = some m → f.tag = none → r.opening = some o →
    (r.role = .outbound → r.reason ≠ .disturbed → ∃ t, exec (.directFinishComplete n) s = .next t ∧
      (∃ q ∈ t.requests, q.op = .frameWrite n o ∧ q.start = s.slotBase r ∧
        q.access = .write (strobeAll (frameHeader kindData (chanByte r.channel) (r.gen.getD 0) (r.seq.getD 0) s.shop f.len
          ++ blockBytes (r.acc ^^^ l ^^^ m)))) ∧
      (∃ w, t.slotRec n = some w ∧ w.state = r.state ∧ w.frameAsked = true) ∧ OtherRecords s t n ∧ t.ks = s.ks ∧
      SameKeys s t ∧ SameMeters s t ∧ SameFaults s t) ∧
    (r.role = .outbound → r.reason = .disturbed → ∃ t, exec (.directFinishComplete n) s = .next t ∧ SameMeters s t ∧
      (∃ w, t.slotRec n = some w ∧ w.state = .failed ∧ w.reason = .disturbed ∧ w.key = none) ∧
      ResultAsked t n r .failed .disturbed) ∧
    (r.role = .inbound → r.tagRead = none → ∃ t, exec (.directFinishComplete n) s = .next t ∧
      t.slotRec n = some { r with finish := some { f with tag := some (r.acc ^^^ l ^^^ m) } } ∧ OtherRecords s t n ∧
      t.ks = s.ks ∧ SameKeys s t ∧ SameMeters s t ∧ SameFaults s t) ∧
    (∀ c : Composition, r.role = .notice → s.notices.comp = some c → c.recNo = n →
      ∃ t, exec (.directFinishComplete n) s = .next t ∧
        t.slotRec n = some { r with finish := some { f with tag := some (r.acc ^^^ l ^^^ m) } } ∧ OtherRecords s t n ∧
        t.ks = s.ks ∧ SameKeys s t ∧ SameMeters s t ∧ SameFaults s t ∧ SameNotices s t ∧
        (6 < c.cipher.length → ∃ q ∈ t.requests, q.op = .noticeLine1 c.opening ∧ q.start = s.slotBase r + 128 ∧
          q.access = .write (strobeAll (c.bytes.drop 96))) ∧
        (c.cipher.length ≤ 6 → ∃ q ∈ t.requests, q.op = .noticeLine0 c.opening ∧ q.start = s.slotBase r ∧
          q.access = .write (strobeAll (frameHeader (r.kind.getD 0) (chanByte r.channel) (r.gen.getD 0) (r.seq.getD 0)
            s.shop (r.length.getD 0) ++ blockBytes (r.acc ^^^ l ^^^ m) ++ c.bytes.take 96))))

/-! ## Frames that land and verdicts -/

/-- FRAME_WRITE_ANSWERED: the slot goes to TAGGED, the frame's size joins the key's bytes used, and the meter of the
link its channel is bound to is debited with it, and no other meter (R64, R110, R125); a slot with a reason noted goes
to FAILED with it, and its bytes are paid all the same (R66, R70). The debit takes from the committed level first, then
from the excess level, the shortfall into the overdraw total, and nothing on an UNMETERED meter (R110, R111). The key
slot is judged with the bytes added: at its spent mark it is spent, and a CURRENT one hands the SPENT request and takes
KEY_SPENT, and at a soft mark its SOFT request; a red debit takes METERED (R110, R124, R127, R128). That KEY_SPENT names
no window and slot, and is taken before METERED, is the model's choice (notes/assumptions/20.md,
notes/assumptions/13.md). -/
def Obligations.FrameWriteLands : Prop :=
  (∀ (id n o : Nat) (s : State) (e : InjEntry) (r : SlotRec) (f : Finish) (k : Fin 32) (c : Fin 16),
      s.issuedInj id = some e → e.req.op = .frameWrite n o → s.finishing n o = some r → r.finish = some f →
      r.key = some (.slot k) → r.channel = some c →
      ∃ t, exec (.frameWriteAnswered id) s = .next t ∧
        (∀ l : Link, t.meter l = if l = (s.chan c).link then (s.meter l).debit (32 + f.len) else s.meter l) ∧
        (r.reason = .none →
          (∃ q, t.slotRec n = some q ∧ q.state = .tagged ∧ q.finish = none ∧ q.key = r.key ∧ q.reason = .none) ∧
          (t.key k).bytes = min ((s.key k).bytes + (32 + f.len)) 281474976710655 ∧
          (t.key k).refs = (s.key k).refs ∧ OtherKeys s t k ∧ OtherRecords s t n ∧
          (r.retouched = true → ResultAsked t n r .tagged .none)) ∧
        (∀ y, y = { s.key k with bytes := min ((s.key k).bytes + (32 + f.len)) 281474976710655 } →
          ∀ o, y.owner = some o → ∀ cur, cur = decide ((s.chan o).cur = some k) →
          (r.reason = .none ∨ s.keyRole k ≠ none → (t.key k).bytes = y.bytes ∧ FlagsJudged s t k y o cur) ∧
          ListJudged s t y o cur false s.notices.list ∧
          (s.notices.list.length < 16 → ∀ u, SpentTaken s u y o cur false →
            r.reason = .none ∨ s.keyRole k ≠ none ∨ s.ks.overflow = [] →
            t.faults = (if (s.meter (s.chan c).link).debitIsRed (32 + f.len) = true then
              u.recordFault ⟨.metered, .correctable, some c, some r.window, some r.slot, none, false⟩
            else u).faults)) ∧
        (r.reason ≠ .none → (∃ q, t.slotRec n = some q ∧ q.state = .failed ∧ q.reason = r.reason ∧ q.key = none) ∧
          ResultAsked t n r .failed r.reason)) ∧
  (∀ (m : Meter) (size : Nat),
      (m.metered = false → m.debit size = m) ∧
      (m.metered = true → size ≤ m.c → m.debit size = { m with c := m.c - size, overdraw := min m.overdraw 4294967295 }) ∧
      (m.metered = true → m.c < size → size ≤ m.c + m.e →
        m.debit size = { m with c := 0, e := m.c + m.e - size, overdraw := min m.overdraw 4294967295 }) ∧
      (m.metered = true → m.c + m.e < size →
        m.debit size = { m with
          c := 0, e := 0, overdraw := min (m.overdraw + (size - (m.c + m.e))) 4294967295 }))

/-- The compare, when the finished tag and the tag read are both in hand: at TAG_READ_RETURN with the tag formed before,
or at DIRECT_FINISH_COMPLETE with the tag read before; a tag read that comes first is kept (R82). A noted reason is the
verdict; else a difference is REJECTED(TAG), with every key slot's replay window as it was, but for a key slot that the
frame was the last to hold, which is zeroised: TAG_MISMATCH is taken and the channel's reject count rises, held at 255,
and at a threshold of 1 or more the count goes to 0, INTEGRITY_STORM is taken and with guard-on-fatal an OPEN channel is
GUARDED (R84, R89, R102, R157, R158). Else a DATA frame whose sequence its key slot's window refuses is
REJECTED(REPLAYED) with the windows as they were, one on an OPEN channel PASSED with the window advanced, one on a
GUARDED channel REJECTED(CHANNEL_GUARDED) with the window advanced; a PASSED frame sets the reject count to 0, and under
the channel's NEXT key it promotes that key, with its KEY_EVENT record and the judgement of its budget (R89, R129, R130,
R145; the fields of KEY_SPENT: notes/assumptions/20.md); and a KEY_OFFER joins its channel's ruling queue and stays
CHECKING (R82, R84 to R88, R135). -/
def Obligations.TagsAreCompared : Prop :=
  (∀ (id n o : Nat) (data : List Byte) (s : State) (e : InjEntry) (r : SlotRec) (f : Finish),
    s.issuedInj id = some e → e.req.op = .tagRead n o → e.req.access = .read 2 → data.length = 16 →
    s.finishing n o = some r → r.finish = some f → f.tag = none →
    ∃ t, exec (.tagReadReturn id data) s = .next t ∧ t.slotRec n = some { r with tagRead := some (blockOf data) } ∧
      OtherRecords s t n ∧ t.ks = s.ks ∧ t.merges = s.merges ∧ SameKeys s t ∧ SameMeters s t ∧ SameFaults s t ∧
      SameNotices s t) ∧
  (∀ (cmd : Instr) (id n o : Nat) (data : List Byte) (s : State) (e : InjEntry) (r : SlotRec) (f : Finish)
    (tag held l m : Block), s.finishing n o = some r → r.finish = some f → r.state = .checking →
    ((cmd = .tagReadReturn id data ∧ s.issuedInj id = some e ∧ e.req.op = .tagRead n o ∧ e.req.access = .read 2 ∧
        data.length = 16 ∧ f.tag = some tag ∧ held = blockOf data) ∨
      (cmd = .directFinishComplete n ∧ r.role = .inbound ∧ f.stage = .direct ∧ f.lenTerm = some l ∧ f.mask = some m ∧
        f.tag = none ∧ tag = r.acc ^^^ l ^^^ m ∧ r.tagRead = some held)) →
    ∃ t, exec cmd s = .next t ∧ SameMeters s t ∧
      (∀ why, r.noted = some why → (∃ q, t.slotRec n = some q ∧ q.state = .rejected ∧ q.reason = why ∧
        q.key = none) ∧ ResultAsked t n r .rejected why) ∧
      (r.noted = none → tag ≠ held → (∃ q, t.slotRec n = some q ∧ q.state = .rejected ∧ q.reason = .tag ∧
        q.key = none) ∧ ResultAsked t n r .rejected .tag ∧
        ∀ j : Fin 32, ((t.key j).high = (s.key j).high ∧ (t.key j).marks = (s.key j).marks) ∨
          (r.key = some (.slot j) ∧ t.key j = KeySlot.zeroised)) ∧
      (∀ c : Fin 16, r.noted = none → tag ≠ held → r.channel = some c →
        s.ks.overflow = [] ∨ (∀ k : Fin 32, r.key = some (.slot k) → s.keyRole k ≠ none) →
        ∀ count, count = min ((s.chan c).rejects + 1) 255 →
        ∀ u, u = s.recordFault ⟨.tagMismatch, .correctable, some c, some r.window, some r.slot, none, false⟩ →
        OtherChannels s t c ∧
        ((s.chan c).threshold = 0 ∨ count < (s.chan c).threshold → t.faults = u.faults ∧
          t.chan c = { s.chan c with rejects := count }) ∧
        (1 ≤ (s.chan c).threshold → (s.chan c).threshold ≤ count →
          t.faults = (u.recordFault
            ⟨.integrityStorm, .fatal, some c, some r.window, some r.slot, none, false⟩).faults ∧
          t.chan c = { s.chan c with
            rejects := 0
            state := if s.faults.guardOnFatal = true ∧ (s.chan c).state = .opened then .guarded
              else (s.chan c).state })) ∧
      (∀ (c : Fin 16) (k : Fin 32), r.noted = none → tag = held → r.kind = some kindData →
        r.channel = some c → r.key = some (.slot k) →
        ((s.key k).replayDecision (r.seq.getD 0).toNat = none →
          (∃ q, t.slotRec n = some q ∧ q.state = .rejected ∧ q.reason = .replayed ∧ q.key = none) ∧
          ResultAsked t n r .rejected .replayed ∧
          ∀ j : Fin 32, ((t.key j).high = (s.key j).high ∧ (t.key j).marks = (s.key j).marks) ∨
            (j = k ∧ t.key j = KeySlot.zeroised)) ∧
        (∀ w, (s.key k).replayDecision (r.seq.getD 0).toNat = some w → (s.chan c).state = .opened →
          (∃ q, t.slotRec n = some q ∧ q.state = .passed ∧ q.reason = .none ∧ q.key = r.key ∧ q.finish = none) ∧
          ResultAsked t n r .passed .none ∧ (t.key k).high = w.high ∧ (t.key k).marks = w.marks ∧
          (t.chan c).rejects = 0 ∧ OtherChannels s t c ∧
          (s.keyRole k ≠ some .next → t.key k = w ∧ OtherKeys s t k ∧ t.chan c = { s.chan c with rejects := 0 } ∧
            SameFaults s t) ∧
          ((s.chan c).next = some k → (s.key k).owner = some c → (s.chan c).cur ≠ some k → (s.chan c).prev ≠ some k →
            (t.key k).state = .active ∧ t.chan c = { s.chan c with
              prev := (s.chan c).cur, cur := some k, next := none, cutover := .stopped, cutoverKey := none
              renewal := .idle, rejects := 0
              grace := if (s.chan c).cur.isSome then .running (s.chan c).graceSecs else .stopped } ∧
            PromotionJudged s t c k)) ∧
        (∀ w, (s.key k).replayDecision (r.seq.getD 0).toNat = some w → (s.chan c).state = .guarded →
          (∃ q, t.slotRec n = some q ∧ q.state = .rejected ∧ q.reason = .channelGuarded ∧ q.key = none) ∧
          ResultAsked t n r .rejected .channelGuarded ∧
          (((t.key k).high = w.high ∧ (t.key k).marks = w.marks) ∨ t.key k = KeySlot.zeroised) ∧
          ∀ j : Fin 32, j ≠ k → (t.key j).high = (s.key j).high ∧ (t.key j).marks = (s.key j).marks)) ∧
      (∀ c : Fin 16, r.noted = none → tag = held → r.kind = some kindOffer → r.channel = some c →
        t.slotRec n = some { r with tagRead := some held, finish := some { f with tag := some tag } } ∧
        t.chan c = { s.chan c with rulingQueue := (s.chan c).rulingQueue ++ [n] } ∧ OtherChannels s t c ∧
        t.keys = s.keys ∧ SameFaults s t))

/-! ## Offers -/

/-- OFFER_RULING_START judges the head of a channel's ruling queue without its payload, by the serial s, the offer
high mark M and the captured length L: s < M, or s = M with L ≠ 64, is REJECTED(REPLAYED) with REPLAYED; s > M with L
≠ 64 sets M to s and is REJECTED(MALFORMED) with KEY_SEQUENCE; else the payload's eight beats are asked for (R135,
R136). A reason noted on the slot is the verdict instead (R86); that the slot is ruled on all the same, with the
ruling's own fault, is the model's choice (notes/assumptions/15.md). OFFER_PAYLOAD_READ_RETURN, of a ruling's reading
or a loading's, then asks for the four plaintext blocks under the root key, in block order, and what it returns of a
reading given up is discarded (R136, R140). The window, slot and initiator of its faults are the model's choice where
no rule gives them (notes/assumptions/20.md). -/
def Obligations.OfferRulingBegins : Prop :=
  (∀ (c : Fin 16) (n : Nat) (rest : List Nat) (s : State) (r : SlotRec) (serial : Nat), (s.chan c).ruling = none →
    (s.chan c).rulingQueue = n :: rest → s.slotRec n = some r → r.key = some .root →
    serial = (r.seq.getD 0).toNat →
    ∃ t, exec (.offerRulingStart c) s = .next t ∧ t.keys = s.keys ∧ OtherChannels s t c ∧ SameMeters s t ∧
      t.ks = s.ks ∧ OtherRecords s t n ∧ SameNotices s t ∧
      (serial < (s.chan c).highMark ∨ (serial = (s.chan c).highMark ∧ r.length ≠ some 64) →
        (∃ q, t.slotRec n = some q ∧ q.state = .rejected ∧ q.reason = r.noted.getD .replayed) ∧
        t.chan c = { s.chan c with rulingQueue := rest } ∧
        t.faults = (s.recordFault ⟨.replayed, .correctable, some c, some r.window, some r.slot, none, false⟩).faults) ∧
      ((s.chan c).highMark < serial → r.length ≠ some 64 →
        (∃ q, t.slotRec n = some q ∧ q.state = .rejected ∧ q.reason = r.noted.getD .malformed) ∧
        t.chan c = { s.chan c with rulingQueue := rest, highMark := serial } ∧
        t.faults = (s.recordFault ⟨.keySequence, .degraded, some c, some r.window, some r.slot, none, false⟩).faults) ∧
      ((s.chan c).highMark ≤ serial → r.length = some 64 → t.slotRec n = some r ∧ SameFaults s t ∧
        (t.chan c).highMark = (s.chan c).highMark ∧
        (∃ w, (t.chan c).ruling = some w ∧ w.recNo = n ∧ w.data = none ∧
          ∃ q ∈ t.requests, q.op = .offerRead c w.id ∧ q.start = s.slotBase r + 32 ∧ q.access = .read 8))) ∧
  (∀ (id work : Nat) (c : Fin 16) (data : List Byte) (s : State) (e : InjEntry) (w : OfferWork) (r : SlotRec),
    s.issuedInj id = some e → e.req.op = .offerRead c work → e.req.access = .read 8 → data.length = 64 →
    (s.chan c).ruling = some w ∨ ((s.chan c).loading = some w ∧ ∀ v, (s.chan c).ruling = some v → v.id ≠ work) →
    w.id = work → s.slotRec w.recNo = some r →
    ∃ t, exec (.offerPayloadReadReturn id data) s = .next t ∧
      t.chan c = (if (s.chan c).ruling = some w then
        { s.chan c with ruling := some { w with data := some (blocksOf data) } }
      else { s.chan c with loading := some { w with data := some (blocksOf data) } }) ∧ OtherChannels s t c ∧
      t.ks = { s.ks with background := s.ks.background ++ ([1, 2, 3, 4].map fun b =>
        ⟨.offerPlain c work b, .root, s.recBlock r b⟩) } ∧
      t.pool = s.pool ∧ t.keys = s.keys ∧ SameMeters s t ∧ SameFaults s t ∧ SameNotices s t ∧ SameControl s t) ∧
  (∀ (id work : Nat) (c : Fin 16) (data : List Byte) (s : State) (e : InjEntry), s.issuedInj id = some e →
    e.req.op = .offerRead c work → e.req.access = .read 8 → data.length = 64 →
    (∀ w, (s.chan c).ruling = some w → w.id ≠ work) → (∀ w, (s.chan c).loading = some w → w.id ≠ work) →
    ∃ t, exec (.offerPayloadReadReturn id data) s = .next t ∧ SameFrames s t ∧ SameKeys s t ∧ SameMeters s t ∧
      SameFaults s t ∧ SameNotices s t ∧ SameControl s t)

/-! ## Notices -/

/-- PROTOCOL_NOTICE_START. Entries that are not composable, from the head on, leave the list, each with NOTICE_BLOCKED
on its channel, and the next is judged in the same way at once (R165, R171); one is composable under the key slot that
its KEY_CONFIRM names, or under its channel's CURRENT one, when the channel is GUARDED or OPEN and the key slot holds a
role on it, is LOADED and has sequences left, spent or not (R165). The first composable entry leaves the list, and the
lowest FREE notice slot goes to COMPOSING under its key, with the notice's channel and kind and a length of 32, and
takes a reference and the next outbound sequence (R165, R166); the key slot is then judged for its budget (R125, R127,
R128). With none composable the list is left empty. That NOTICE_BLOCKED and KEY_SPENT name no window, slot and initiator
here is the model's choice (notes/assumptions/20.md). -/
def Obligations.ProtocolNoticeBegins : Prop :=
  ∀ (s : State) (n : Nat) (r : SlotRec) (gone : List ProtoEntry), s.notices.comp = none →
    s.freeNoticeSlot = some n → s.slotRec n = some r → (∀ d ∈ gone, ∀ k, ¬ s.composes d k) →
    ∀ blocked, blocked = gone.foldl (fun u d =>
      u.recordFault ⟨.noticeBlocked, .degraded, some d.channel, none, none, none, true⟩) s →
    (∀ (e : ProtoEntry) (rest : List ProtoEntry) (k : Fin 32), s.notices.list = gone ++ e :: rest → s.composes e k →
      ∃ t, exec .protocolNoticeStart s = .next t ∧
      (∃ q, t.slotRec n = some q ∧ q.state = .composing ∧ q.channel = some e.channel ∧ q.key = some (.slot k) ∧
        q.gen = some (s.key k).gen ∧ q.seq = some (BitVec.ofNat 32 (s.key k).nextSeq) ∧ q.length = some 32 ∧
        q.kind = some (match e.kind with
          | .keyConfirm _ => 0x03
          | .renewRequest _ => 0x04)) ∧
      (∃ c, t.notices.comp = some c ∧ c.recNo = n ∧ c.key = k) ∧
      (t.key k).refs = (s.key k).refs + 1 ∧ (t.key k).nextSeq = (s.key k).nextSeq + 1 ∧
      (t.key k).frames = (s.key k).frames + 1 ∧ OtherKeys s t k ∧ OtherRecords s t n ∧ SameMeters s t ∧
      (∀ y, y = { s.key k with
          refs := (s.key k).refs + 1, nextSeq := (s.key k).nextSeq + 1, frames := (s.key k).frames + 1 } →
        ∀ o, y.owner = some o → ∀ cur, cur = decide ((s.chan o).cur = some k) →
        FlagsJudged s t k y o cur ∧ ListJudged s t y o cur false rest ∧
        (rest.length < 16 → ∀ u, SpentTaken blocked u y o cur false → t.faults = u.faults))) ∧
    (s.notices.list = gone → gone ≠ [] → ∃ t, exec .protocolNoticeStart s = .next t ∧ t.notices.list = [] ∧
      t.notices.comp = none ∧ SameFrames s t ∧ t.keys = s.keys ∧ SameMeters s t ∧ t.faults = blocked.faults)

/-- FAULT_NOTICE_START. A fault notice is due when an eligible entry, PENDING with a severity that the notice mask
holds, is FATAL, when the holdoff timer has run out, or when eight entries are eligible; when none is due nothing
happens (R167). A due one without a CURRENT key that is LOADED and not spent on a reporting channel that is GUARDED or
OPEN, NOTICE_BLOCKED is taken once, and the blocked flag is set (R168, R171). Otherwise the meter's colour admits every
PENDING entry of the notice mask at GREEN, the DEGRADED and FATAL ones at YELLOW and the FATAL ones at RED, and of those
up to eight are selected: FATAL first, then by first time, then by entry number; with none admitted the notice waits and
nothing happens (R167, R168). The selected entries go to COMPOSING, the blocked flag is cleared, and the lowest FREE
notice slot composes a FAULT_NOTICE of 16 + 16·e bytes under the reporting channel's CURRENT key, whose budget is then
judged (R125, R127, R128, R166, R168); the holdoff timer starts again while eligible entries remain, and else is stopped
(R167; judged when the step ends, notes/assumptions/9.md). That the key is judged before the meter's colour is the
model's choice (notes/assumptions/16.md), and so is the order of equal FATAL entries (notes/assumptions/13.md). The
window, slot and initiator of its faults are the model's choice where no rule gives them (notes/assumptions/20.md). -/
def Obligations.FaultNoticeBegins : Prop :=
  ∀ (s : State) (n : Nat) (r : SlotRec), s.notices.comp = none → s.freeNoticeSlot = some n → s.slotRec n = some r →
    s.notices.list = [] → (¬ s.due → exec .faultNoticeStart s = .next s) ∧ (s.due →
    ((∀ k, (s.chan s.notices.reporting).cur = some k → (s.chan s.notices.reporting).state = .disabled ∨
        (s.key k).load ≠ .loaded ∨ (s.key k).spent = true) →
      ∃ t, exec .faultNoticeStart s = .next t ∧ t.notices.blocked = true ∧ SameFrames s t ∧
      t.keys = s.keys ∧ SameMeters s t ∧
      (s.notices.blocked = true → SameFaults s t) ∧
      (s.notices.blocked = false → t.faults = (s.recordFault
        ⟨.noticeBlocked, .degraded, some s.notices.reporting, none, none, none, true⟩).faults)) ∧
    (∀ k, (s.chan s.notices.reporting).cur = some k → (s.chan s.notices.reporting).state ≠ .disabled →
      (s.key k).load = .loaded → (s.key k).spent = false →
      ∀ colour, colour = (s.meter (s.chan s.notices.reporting).link).colour → ∀ l, l = s.selectFaults colour →
      (∀ a ∈ l, s.admits colour a.1 a.2) ∧ l.Pairwise GoesBefore ∧ l.length ≤ 8 ∧
      (∀ (i : Fin 32) (e : FaultEntry), s.faults.table[i] = some e → s.admits colour i e →
        (i, e) ∈ l ∨ (l.length = 8 ∧ ∀ a ∈ l, GoesBefore a (i, e))) ∧
      (l = [] → exec .faultNoticeStart s = .next s) ∧
      (l ≠ [] → ∃ t, exec .faultNoticeStart s = .next t ∧ t.notices.blocked = false ∧
        (∃ q, t.slotRec n = some q ∧ q.state = .composing ∧ q.channel = some s.notices.reporting ∧
          q.kind = some 0x05 ∧ q.key = some (.slot k) ∧ q.seq = some (BitVec.ofNat 32 (s.key k).nextSeq) ∧
          q.length = some (16 + 16 * l.length)) ∧
        (∀ a ∈ l, ∃ f, t.faults.table[a.1] = some f ∧ f.cls = a.2.cls ∧ f.notice = .composing) ∧
        (∃ c, t.notices.comp = some c ∧ c.recNo = n ∧ c.carried = l.map carriedOf ∧ c.lost = s.faults.lost) ∧
        (t.key k).refs = (s.key k).refs + 1 ∧ (t.key k).nextSeq = (s.key k).nextSeq + 1 ∧ OtherRecords s t n ∧
        SameMeters s t ∧ HoldoffJudged t .stopped ∧
        (∀ y, y = { s.key k with
            refs := (s.key k).refs + 1, nextSeq := (s.key k).nextSeq + 1, frames := (s.key k).frames + 1 } →
          (s.key k).owner = some s.notices.reporting →
          FlagsJudged s t k y s.notices.reporting true ∧ ListJudged s t y s.notices.reporting true false []))))

/-- The writes of a notice. NOTICE_LINE1_WRITE_ANSWERED asks for the line-0 write, header, tag and the blocks of line 0
(R24, R166). NOTICE_COMPOSITION_COMPLETE takes the slot to TAGGED with its reference kept, ends the composition, adds
the frame's size to the key's bytes used, with the judgement of its budget, debits the link's meter with it, and hands
the NOTICE_READY record to the Control Unit (R110, R125, R127, R128, R169). Of a FAULT_NOTICE, each carried entry that
is still COMPOSING is SENT with the count that was carried, or PENDING when it has had a late occurrence and its
severity is in the notice mask, and the lost total that was carried is subtracted and never raised (R154, R169). That
KEY_SPENT names no window and slot, and is taken before METERED, is the model's choice (notes/assumptions/20.md,
notes/assumptions/13.md). Of a KEY_CONFIRM on a CONFIRMING channel, a key slot that is still the NEXT it was seated as
takes the channel to CUTOVER_WAIT with the cutover timer running for it, one that is the CURRENT it was seated as takes
it to IDLE, and otherwise the channel is as it was (R143; that the role a confirmation is for is the one that seating
gave is the model's choice, notes/assumptions/24.md). -/
def Obligations.NoticeWritesLand : Prop :=
  ∀ (id o : Nat) (s : State) (e : InjEntry) (c : Composition) (r : SlotRec), s.issuedInj id = some e →
    s.notices.comp = some c → c.opening = o → s.slotRec c.recNo = some r →
    (e.req.op = .noticeLine1 o → ∃ t, exec (.noticeLine1WriteAnswered id) s = .next t ∧ SameUnits s t ∧
      ∃ q ∈ t.requests, q.op = .noticeLine0 o ∧ q.start = s.slotBase r ∧ q.access = .write (strobeAll
        (frameHeader (r.kind.getD 0) (chanByte r.channel) (r.gen.getD 0) (r.seq.getD 0) s.shop (r.length.getD 0) ++
          blockBytes ((r.finish.bind (·.tag)).getD 0) ++ c.bytes.take 96))) ∧
    (∀ (ch : Fin 16) (k : Fin 32), e.req.op = .noticeLine0 o → r.channel = some ch → r.key = some (.slot k) →
      ∃ t, exec (.noticeCompositionComplete id) s = .next t ∧ t.notices.comp = none ∧
        (∃ q, t.slotRec c.recNo = some q ∧ q.state = .tagged ∧ q.key = r.key ∧ q.finish = none) ∧
        OtherRecords s t c.recNo ∧ (t.key k).refs = (s.key k).refs ∧ OtherKeys s t k ∧
        (t.key k).bytes = min ((s.key k).bytes + (32 + r.length.getD 0)) 281474976710655 ∧
        (∀ l : Link, t.meter l =
          if l = (s.chan ch).link then (s.meter l).debit (32 + r.length.getD 0) else s.meter l) ∧
        (∀ (a : Carried) (f : FaultEntry), c.confirms = none → r.kind = some 0x05 → a ∈ c.carried →
          c.carried.Pairwise (fun u v => u.number ≠ v.number) → s.faultsSound → s.faults.table[a.number] = some f →
          f.cls = a.cls → f.channel = a.channel → f.notice = .composing → f.cls.severity.code ≤ f.severity.code →
          (f.cls = .keySpent → f.channel = (s.key k).owner → (s.key k).spent = true) →
          ∃ g, t.faults.table[a.number] = some g ∧ g.cls = f.cls ∧ g.channel = f.channel ∧ g.lastCount = a.count ∧
            g.late = false ∧
            g.notice = if f.late = true ∧ s.faults.noticeMask.has f.severity = true then .pending else .sent) ∧
        (c.confirms = none → r.kind = some 0x05 →
          ((s.key k).spent = true ∨ { s.key k with
            bytes := min ((s.key k).bytes + (32 + r.length.getD 0)) 281474976710655 }.spentReached = false) →
          (s.keyRole k ≠ some .current ∨ (s.key k).asked = true) →
          (s.meter (s.chan ch).link).debitIsRed (32 + r.length.getD 0) = false →
          t.faults.lost ≤ s.faults.lost ∧ (c.lost ≤ s.faults.lost → t.faults.lost = s.faults.lost - c.lost)) ∧
        Announced s t ⟨.noticeReady (r.kind.getD 0) (r.gen.getD 0) (r.seq.getD 0) (r.length.getD 0),
          chanByte (some ch), some r.window, some r.slot, s.time.ms⟩ ∧
        (∀ y, y = { s.key k with bytes := min ((s.key k).bytes + (32 + r.length.getD 0)) 281474976710655 } →
          ∀ o, y.owner = some o → ∀ cur, cur = decide ((s.chan o).cur = some k) →
          FlagsJudged s t k y o cur ∧ ListJudged s t y o cur false s.notices.list ∧
          (s.notices.list.length < 16 → c.confirms ≠ none ∨ r.kind ≠ some 0x05 → ∀ u, SpentTaken s u y o cur false →
            t.faults = (if (s.meter (s.chan ch).link).debitIsRed (32 + r.length.getD 0) = true then
              u.recordFault ⟨.metered, .correctable, some ch, some r.window, some r.slot, none, true⟩
            else u).faults)) ∧
        (∀ kc : Fin 32, c.confirms = some kc →
          t.chan ch = (if (s.chan ch).renewal = .confirming ∧ (s.chan ch).next = some kc ∧
              (s.key kc).seatedAs = some .next then
            { s.chan ch with
              renewal := .cutoverWait, cutover := .running (s.chan ch).cutoverSecs, cutoverKey := some kc }
          else if (s.chan ch).renewal = .confirming ∧ (s.chan ch).cur = some kc ∧
              (s.key kc).seatedAs = some .current then { s.chan ch with renewal := .idle }
          else s.chan ch) ∧ OtherChannels s t ch))

/-! ## Control page commands -/

/-- SET_WINDOW. It waits, holding the port, while a transit table entry touches the run. Then the checks of R3 in their
order give the status, a refusal leaves the table and the pool, and an accepted command writes the entry and, for a
window with slots, gives the lowest run of unassigned records to its slots, each FREE with the contents of R7 (R1, R3,
R4). -/
def Obligations.SetWindowChecksAndAssigns : Prop :=
  ∀ (s : State), s.poolSound → s.executes 0x01 = true →
    (s.runBusy s.windowAsk = true → ∃ t, exec .setWindow s = .next t ∧ t.ctl.windowWait = true ∧
      t.ctl.state = .executing ∧ t.windows = s.windows ∧ SameBlocks s t) ∧
    (s.runBusy s.windowAsk = false → ∃ t, exec .setWindow s = .next t ∧ t.ctl.windowWait = false ∧
      SameKeys s t ∧ SameMeters s t ∧ SameFaults s t ∧ SameNotices s t ∧ SameRing s t ∧ t.ks = s.ks ∧
      t.merges = s.merges ∧
      ((∀ role, s.windowAsk.role = some role → s.windowAsk.sound role = false) →
        Completed s t 1 ∧ t.windows = s.windows ∧ t.pool = s.pool) ∧
      (∀ (role : WinRole) (i : Fin 16), s.windowAsk.role = some role → s.windowAsk.index = i.val →
        s.windowAsk.sound role = true →
        (if (s.otherWindows i).any (fun w => decide (role = w.role) && (decide (role = .notice) || decide (role = .report)))
          then Completed s t 1 ∧ t.windows = s.windows ∧ t.pool = s.pool
        else if (s.otherWindows i).any (fun w => decide (s.windowAsk.base < w.base.toNat + w.run) &&
            decide (w.base.toNat < s.windowAsk.base + s.windowAsk.run))
          then Completed s t 2 ∧ t.windows = s.windows ∧ t.pool = s.pool
        else if s.pool.any (fun p => decide (p.2.window = i) && decide (p.2.state ≠ .free))
          then Completed s t 4 ∧ t.windows = s.windows ∧ t.pool = s.pool
        else if role = .report then Completed s t 0 ∧ (∀ j, j ≠ i → t.windows[j] = s.windows[j]) ∧
          t.windows[i] = some ⟨role, BitVec.ofNat 40 s.windowAsk.base, s.windowAsk.count, none, none⟩ ∧
          t.pool = s.pool.filter (fun p => decide (p.2.window ≠ i))
        else
          ((∀ f, f + s.windowAsk.count ≤ 512 →
              ∃ p ∈ s.pool, p.2.window ≠ i ∧ f ≤ p.1 ∧ p.1 < f + s.windowAsk.count) →
            Completed s t 3 ∧ t.windows = s.windows ∧ t.pool = s.pool) ∧
          (∀ f, f + s.windowAsk.count ≤ 512 →
            (∀ p ∈ s.pool, p.2.window ≠ i → p.1 < f ∨ f + s.windowAsk.count ≤ p.1) →
            (∀ g, g < f → ∃ p ∈ s.pool, p.2.window ≠ i ∧ g ≤ p.1 ∧ p.1 < g + s.windowAsk.count) →
            Completed s t 0 ∧ (∀ j, j ≠ i → t.windows[j] = s.windows[j]) ∧
            t.windows[i] = some ⟨role, BitVec.ofNat 40 s.windowAsk.base, s.windowAsk.count,
              (if role = .outbound then channelOf s.windowAsk.channel else none), some f⟩ ∧
            (∀ k, k < s.windowAsk.count → t.slotRec (f + k) = some (SlotRec.fresh role i k))))))

/-- CLEAR_WINDOW (R2, R5) and SET_INITIATOR (R8): what each refuses, and what an accepted one changes; no command
changes class entry 0, and both resets leave it CLEAR and the other entries LINE (R8). -/
def Obligations.ClearWindowAndSetInitiator : Prop :=
  (∀ s : State, s.executes 0x02 = true → ∃ t, exec .clearWindow s = .next t ∧ SameKeys s t ∧ SameMeters s t ∧
    SameFaults s t ∧ SameNotices s t ∧ SameRing s t ∧ t.ks = s.ks ∧ t.merges = s.merges ∧
    ((s.arg 2).toNat = 0 ∨ 15 < (s.arg 2).toNat → Completed s t 1 ∧ t.windows = s.windows ∧ t.pool = s.pool) ∧
    (∀ i : Fin 16, i ≠ 0 → (s.arg 2).toNat = i.val →
      (s.windows[i] = none → Completed s t 0 ∧ t.windows = s.windows ∧ t.pool = s.pool) ∧
      (s.windows[i] ≠ none → (∃ p ∈ s.pool, p.2.window = i ∧ p.2.state ≠ .free) →
        Completed s t 4 ∧ t.windows = s.windows ∧ t.pool = s.pool) ∧
      (s.windows[i] ≠ none → (∀ p ∈ s.pool, p.2.window = i → p.2.state = .free) →
        Completed s t 0 ∧ t.windows[i] = none ∧ (∀ j, j ≠ i → t.windows[j] = s.windows[j]) ∧
        t.pool = s.pool.filter (fun p => decide (p.2.window ≠ i))))) ∧
  (∀ s : State, s.executes 0x03 = true → ∃ t, exec .setInitiator s = .next t ∧ SameBlocks s t ∧ SameRing s t ∧
    ((s.arg 2).toNat = 0 ∨ 15 < (s.arg 2).toNat ∨ (s.arg 3).toNat = 0 ∨ 3 < (s.arg 3).toNat →
      Completed s t 1 ∧ t.classes = s.classes) ∧
    (∀ i : Fin 16, i ≠ 0 → (s.arg 2).toNat = i.val → 1 ≤ (s.arg 3).toNat → (s.arg 3).toNat ≤ 3 →
      Completed s t 0 ∧ (∀ j, j ≠ i → t.classes[j] = s.classes[j]) ∧
      t.classes[i] = if (s.arg 3).toNat = 1 then .clear else if (s.arg 3).toNat = 2 then .line else .blocked)) ∧
  (∀ (c : Instr) (s t : State), s.classes[0] = .clear → exec c s = .next t → t.classes[0] = .clear) ∧
  (∀ (b : BitVec 28) (s t : State), exec (.powerOnReset b) s = .next t →
    ∀ i : Fin 16, t.classes[i] = if i = 0 then .clear else .line) ∧
  (∀ s t : State, s.line ≠ .powerOn → exec .warmReset s = .next t →
    ∀ i : Fin 16, t.classes[i] = if i = 0 then .clear else .line)

/-- SET_CHANNEL writes the six settings of its channel, clamped as R103 tabulates, and nothing else; a channel above 15
or a link code above 1 is refused and changes nothing (R103). -/
def Obligations.SetChannelStoresSettings : Prop :=
  ∀ s : State, s.executes 0x04 = true → ∃ t, exec .setChannel s = .next t ∧ SameFrames s t ∧ t.keys = s.keys ∧
    SameMeters s t ∧ SameFaults s t ∧ SameNotices s t ∧ SameRing s t ∧
    (15 < (s.arg 2).toNat ∨ 1 < (s.arg 3).toNat → Completed s t 1 ∧ t.channels = s.channels) ∧
    (∀ c : Fin 16, (s.arg 2).toNat = c.val → (s.arg 3).toNat ≤ 1 → Completed s t 0 ∧ OtherChannels s t c ∧
      t.chan c = { s.chan c with
        link := if (s.arg 3).toNat = 0 then .a else .b
        priority := if (s.arg 4).toNat ≤ 7 then (s.arg 4).toNat else 7
        threshold := (s.arg 5).toNat
        softOverride := if (s.arg 6).toNat = 0 then none else if (s.arg 6).toNat < 50 then some 50
          else if (s.arg 6).toNat ≤ 95 then some (s.arg 6).toNat else some 95
        cutoverSecs := if (s.arg 7).toNat = 0 then 1 else (s.arg 7).toNat
        graceSecs := if (s.arg 8).toNat = 0 then 1 else (s.arg 8).toNat })

/-- SET_CHANNEL_STATE by the table of R99: to DISABLED with a teardown, to GUARDED with the keys kept, to OPEN with a
CURRENT key only; a channel above 15 or a state code above 2 is refused and nothing changes (R99, R100). -/
def Obligations.SetChannelStateTable : Prop :=
  ∀ s : State, s.executes 0x05 = true → ∃ t, exec .setChannelState s = .next t ∧ SameMeters s t ∧ SameRing s t ∧
    (15 < (s.arg 2).toNat ∨ 2 < (s.arg 3).toNat → Completed s t 1 ∧ SameBlocks s t) ∧
    (∀ c : Fin 16, (s.arg 2).toNat = c.val →
      ((s.arg 3).toNat = 0 → Completed s t 0 ∧ OtherChannels s t c ∧ t.chan c = { s.chan c with
        state := .disabled, prev := none, cur := none, next := none, hold := none, loading := none, installBuf := none,
        installing := none, renewal := .idle, cutover := .stopped, cutoverKey := none, grace := .stopped, rejects := 0 } ∧
        t.notices.list = s.notices.list.filter (fun e => decide (e.channel ≠ c))) ∧
      ((s.arg 3).toNat = 1 → Completed s t 0 ∧ OtherChannels s t c ∧
        t.chan c = { s.chan c with state := .guarded } ∧ SameFrames s t ∧ t.keys = s.keys ∧ SameFaults s t ∧
        SameNotices s t) ∧
      ((s.arg 3).toNat = 2 → (s.chan c).state = .disabled ∨ (s.chan c).cur = none →
        Completed s t 5 ∧ SameBlocks s t) ∧
      ((s.arg 3).toNat = 2 → (s.chan c).state ≠ .disabled → (s.chan c).cur ≠ none →
        Completed s t 0 ∧ OtherChannels s t c ∧ t.chan c = { s.chan c with state := .opened } ∧ SameFrames s t ∧
        t.keys = s.keys ∧ SameFaults s t ∧ SameNotices s t))

/-- DROP_KEYS tears its channel down and leaves it GUARDED, or DISABLED when it was (R101): the roles, the hold and the
renewal work are gone and the settings and the offer high mark kept; its protocol notices leave the list; FILLING slots
of its windows fail and ARRIVING slots that name it are rejected with CHANNEL_DOWN, and CHECKING ones have it noted
(R71, R95, R100, R146). A key slot that loses its role, or the hold its reference, keeps the references of the slot
records that go on: with none it is zeroised, FREE and at the tail of the free list, and with some it is RETIRING, or
STAGED while its install is in flight, with its material and its channel (R100, R118, R120). -/
def Obligations.DropKeysTearsDown : Prop :=
  ∀ s : State, s.poolSound → s.executes 0x06 = true → ∃ t, exec .dropKeys s = .next t ∧ SameMeters s t ∧
    SameRing s t ∧ (15 < (s.arg 2).toNat → Completed s t 1 ∧ SameBlocks s t) ∧
    (∀ c : Fin 16, (s.arg 2).toNat = c.val → Completed s t 0 ∧ OtherChannels s t c ∧
      t.chan c = { s.chan c with
        state := if (s.chan c).state = .disabled then .disabled else .guarded
        prev := none, cur := none, next := none, hold := none, loading := none, installBuf := none,
        installing := none, renewal := .idle, cutover := .stopped, cutoverKey := none, grace := .stopped, rejects := 0 } ∧
      t.notices.list = s.notices.list.filter (fun e => decide (e.channel ≠ c)) ∧
      (∀ (n : Nat) (r : SlotRec), s.slotRec n = some r →
        (r.role = .outbound → r.state = .filling → s.boundChannel r = some c →
          (∃ q, t.slotRec n = some q ∧ q.state = .failed ∧ q.reason = .channelDown ∧ q.key = none) ∧
          ResultAsked t n r .failed .channelDown) ∧
        (r.role = .inbound → r.state = .arriving → r.channel = some c →
          (∃ q, t.slotRec n = some q ∧ q.state = .rejected ∧ q.reason = .channelDown ∧ q.key = none) ∧
          ResultAsked t n r .rejected .channelDown) ∧
        (r.role = .inbound → r.state = .checking → r.channel = some c →
          ∃ q, t.slotRec n = some q ∧ q.state = .checking ∧ q.noted = r.noted.or (some .channelDown)) ∧
        (r.state = .tagging ∨ r.state = .tagged ∨ r.state = .passed →
          ∃ q, t.slotRec n = some q ∧ q.state = r.state ∧ q.key = r.key ∧ q.seq = r.seq)) ∧
      (s.keysSound →
        (∀ k : Fin 32, (s.chan c).prev = some k ∨ (s.chan c).cur = some k ∨ (s.chan c).next = some k ∨
            (s.chan c).hold.map (·.key) = some k →
          ∀ left, left = s.pool.countP (fun p => decide (p.2.keySlot = some k ∧
            ¬ (p.2.role = .outbound ∧ p.2.state = .filling ∧ s.boundChannel p.2 = some c) ∧
            ¬ (p.2.role = .inbound ∧ p.2.state = .arriving ∧ p.2.channel = some c))) →
          (left = 0 → t.key k = KeySlot.zeroised ∧ k ∈ t.keys.freeList) ∧
          (left ≠ 0 → k ∉ t.keys.freeList ∧ t.key k = { s.key k with
            state := if (s.key k).load = .part then .staged else .retiring, refs := left })) ∧
        s.keys.freeList = t.keys.freeList.take s.keys.freeList.length))

/-- REQUEST_RENEWAL hands a RENEW_REQUEST with reason REQUESTED to the protocol notice list: in the place of the
channel's waiting one, at the end, or dropped with NOTICE_BLOCKED when the list is full, and completes OK; without a
CURRENT key it is refused NO_KEY (R164, R177). The window, slot and initiator of its faults are the model's choice where
no rule gives them (notes/assumptions/20.md). -/
def Obligations.RenewalIsRequested : Prop :=
  ∀ s : State, s.executes 0x07 = true → ∃ t, exec .requestRenewal s = .next t ∧ SameFrames s t ∧ SameKeys s t ∧
    SameMeters s t ∧ SameRing s t ∧
    (15 < (s.arg 2).toNat → Completed s t 1 ∧ SameBlocks s t) ∧
    (∀ c : Fin 16, (s.arg 2).toNat = c.val →
      ((s.chan c).cur = none → Completed s t 5 ∧ SameBlocks s t) ∧
      ((s.chan c).cur ≠ none → Completed s t 0 ∧
        ((∀ e ∈ s.notices.list, ∀ why, e ≠ ⟨c, .renewRequest why⟩) → s.notices.list.length < 16 →
          t.notices.list = s.notices.list ++ [⟨c, .renewRequest .requested⟩] ∧ SameFaults s t) ∧
        (∀ (before after : List ProtoEntry) (why : RenewReason),
          s.notices.list = before ++ ⟨c, .renewRequest why⟩ :: after →
          (∀ e ∈ before ++ after, ∀ w, e ≠ ⟨c, .renewRequest w⟩) →
          t.notices.list = before ++ ⟨c, .renewRequest .requested⟩ :: after ∧ SameFaults s t) ∧
        ((∀ e ∈ s.notices.list, ∀ why, e ≠ ⟨c, .renewRequest why⟩) → 16 ≤ s.notices.list.length →
          t.notices.list = s.notices.list ∧ t.faults = (s.recordFault
            ⟨.noticeBlocked, .degraded, some c, none, none, none, true⟩).faults)))

/-- SET_METER writes the mode, thresholds, CIR, CBS and EBS of its meter, clamped as R106 says, fills both levels and
clears the overdraw total, and leaves the other meter; a meter or mode code above 1 is refused and nothing changes. -/
def Obligations.SetMeterFillsLevels : Prop :=
  ∀ s : State, s.executes 0x08 = true → ∃ t, exec .setMeter s = .next t ∧ SameFrames s t ∧ SameKeys s t ∧
    SameFaults s t ∧ SameNotices s t ∧ SameRing s t ∧
    (1 < (s.arg 2).toNat ∨ 1 < (s.arg 3).toNat → Completed s t 1 ∧ SameMeters s t) ∧
    (∀ l : Link, (s.arg 2).toNat = (if l = .a then 0 else 1) → (s.arg 3).toNat ≤ 1 → Completed s t 0 ∧
      (∀ m, m ≠ l → t.meter m = s.meter m) ∧
      (t.meter l).metered = decide ((s.arg 3).toNat = 1) ∧ (t.meter l).cir = s.argNat 6 8 ∧
      (t.meter l).yellow = (if (s.arg 4).toNat ≤ 8 then (s.arg 4).toNat else 8) ∧
      (t.meter l).red = (if min (s.arg 5).toNat 8 < (t.meter l).yellow then (t.meter l).yellow
        else min (s.arg 5).toNat 8) ∧
      (t.meter l).cbs = (if s.argNat 8 12 < 2048 then 2048 else if 1048575 < s.argNat 8 12 then 1048575
        else s.argNat 8 12) ∧
      (t.meter l).ebs = (if s.argNat 12 16 < 2048 then 2048 else if 1048575 < s.argNat 12 16 then 1048575
        else s.argNat 12 16) ∧
      (t.meter l).c = (t.meter l).cbs ∧ (t.meter l).e = (t.meter l).ebs ∧ (t.meter l).overdraw = 0)

/-- SET_POLICY writes its seven fields at once, clears the blocked flag, and starts the report indices again with a
write of 0 to offset 12 when the ring becomes live or changes its size; a reporting channel above 15, a guard-on-fatal
code above 1, or a ring size that is neither 0 nor the count of the REPORT window is refused and nothing changes (R155,
R167, R171, R177). That a change to ring size 0 starts the indices again too is the model's choice
(notes/assumptions/17.md). -/
def Obligations.SetPolicyWritesFields : Prop :=
  ∀ s : State, s.executes 0x09 = true → ∃ t, exec .setPolicy s = .next t ∧ SameFrames s t ∧ SameKeys s t ∧
    SameMeters s t ∧ t.faults.table = s.faults.table ∧ t.faults.lost = s.faults.lost ∧
    t.notices.list = s.notices.list ∧ t.notices.comp = s.notices.comp ∧
    (15 < (s.arg 2).toNat ∨ 1 < (s.arg 5).toNat ∨ (s.argNat 8 10 ≠ 0 ∧ ∀ (i : Fin 16) (w : Window),
        s.windows[i] = some w → w.role = .report → w.count ≠ s.argNat 8 10) →
      Completed s t 1 ∧ SameFaults s t ∧ SameNotices s t ∧ SameRing s t ∧ t.bus.timeout = s.bus.timeout) ∧
    (∀ c : Fin 16, (s.arg 2).toNat = c.val → (s.arg 5).toNat ≤ 1 →
      (s.argNat 8 10 = 0 ∨ ∃ (i : Fin 16) (w : Window), s.windows[i] = some w ∧ w.role = .report ∧
        w.count = s.argNat 8 10 ∧ ∀ (j : Fin 16) (v : Window), s.windows[j] = some v → v.role = .report → j = i) →
      Completed s t 0 ∧ t.notices.reporting = c ∧ t.notices.holdoffSecs = (s.arg 6).toNat ∧
      t.notices.blocked = false ∧ t.bus.timeout = (s.arg 7).toNat ∧
      t.faults.localMask = ⟨(s.arg 3).getLsbD 0, (s.arg 3).getLsbD 1, (s.arg 3).getLsbD 2⟩ ∧
      t.faults.noticeMask = ⟨(s.arg 4).getLsbD 0, (s.arg 4).getLsbD 1, (s.arg 4).getLsbD 2⟩ ∧
      t.faults.guardOnFatal = decide ((s.arg 5).toNat = 1) ∧ t.ctl.ringSize = s.argNat 8 10 ∧
      (s.argNat 8 10 ≠ s.ctl.ringSize ∨ (s.ringLive = false ∧ t.ringLive = true) →
        t.ctl.ringProducer = 0 ∧ t.ctl.ringConsumer = 0 ∧
        ∃ q ∈ t.requests, q.op = .reportWord ∧ q.start = s.pageBase + 8 ∧ q.access = .write [none, none, none, none,
          some 0, some 0, some 0, some 0]) ∧
      (s.argNat 8 10 = s.ctl.ringSize → (s.ringLive = true ∨ t.ringLive = false) →
        t.ctl.ringProducer = s.ctl.ringProducer ∧ t.ctl.ringConsumer = s.ctl.ringConsumer))

/-- CLEAR_FAULTS completes OK always: scope 0 discards the entry with the class code and the channel byte it names,
scope 1 discards every entry and sets the lost total to 0, a scope above 1 changes nothing (R160). SNAPSHOT_FAULTS takes
the image of the table in entry-number order, and it and SNAPSHOT_RECORD_HANDED hand its SNAPSHOT records on while the
report queue has a place, leaving the fault table alone: the command stays in EXECUTING with the rest of the image
exactly when the queue is then full, and completes OK with the last record (R161, R178). While one of the ring's writes
is outstanding, the records join the queue's end in order, each with the time it is handed on; with none outstanding, an
empty queue and a live ring that is not full, the first is written at the ring's producer index and the others join
(R178, R179); with a ring that is not live and an empty queue, each is discarded and counted, and so is the COMMAND_DONE
(R179, R180). The time of a SNAPSHOT record is the model's choice (notes/assumptions/14.md). -/
def Obligations.FaultCommands : Prop :=
  (∀ s : State, s.faultsSound → s.executes 0x0A = true → ∃ t, exec .clearFaults s = .next t ∧ Completed s t 0 ∧
    SameFrames s t ∧ SameKeys s t ∧ SameMeters s t ∧ SameNotices s t ∧ SameRing s t ∧
    ((s.arg 2).toNat = 0 → t.faults.lost = s.faults.lost ∧ ∀ i : Fin 32,
      (∀ e, s.faults.table[i] = some e → e.cls.code = s.arg 3 → chanByte e.channel = s.arg 4 →
        t.faults.table[i] = none) ∧
      ((∀ e, s.faults.table[i] = some e → ¬ (e.cls.code = s.arg 3 ∧ chanByte e.channel = s.arg 4)) →
        t.faults.table[i] = s.faults.table[i])) ∧
    ((s.arg 2).toNat = 1 → t.faults.lost = 0 ∧ ∀ i : Fin 32, t.faults.table[i] = none) ∧
    (1 < (s.arg 2).toNat → SameFaults s t)) ∧
  (∀ (s : State) (c : Instr) (l : List FaultEntry) (recs : List Report),
    (c = .snapshotFaults ∧ s.executes 0x0B = true ∧ l = s.faults.used.map (·.2)) ∨
      (c = .snapshotRecordHanded ∧ s.ctl.state = .executing ∧ s.ctl.snapshot = some l ∧ s.ctl.queue.length < 8) →
    recs = l.map (fun e => (⟨.snapshot e, chanByte e.channel, e.window, e.slot, s.time.ms⟩ : Report)) →
    ∃ t, exec c s = .next t ∧ SameBlocks s t ∧ SameRing s t ∧
      ((Completed s t 0 ∧ t.ctl.snapshot = none) ∨ (t.ctl.state = .executing ∧ 8 ≤ t.ctl.queue.length ∧
        t.ctl.consumer = s.ctl.consumer ∧ ∃ m, m ≠ [] ∧ t.ctl.snapshot = some m ∧ m <:+ l)) ∧
      (l = [] → Completed s t 0) ∧
      (8 ≤ s.ctl.queue.length → l ≠ [] → t.ctl.snapshot = some l ∧ t.ctl.queue = s.ctl.queue ∧
        t.ctl.state = .executing) ∧
      (s.reportOutstanding = true → s.ctl.queue.length ≤ 8 →
        (s.ctl.queue.length + l.length ≤ 8 → Completed s t 0 ∧ s.ctl.queue ++ recs <+: t.ctl.queue) ∧
        (8 < s.ctl.queue.length + l.length → t.ctl.state = .executing ∧
          t.ctl.queue = s.ctl.queue ++ recs.take (8 - s.ctl.queue.length) ∧
          t.ctl.snapshot = some (l.drop (8 - s.ctl.queue.length)))) ∧
      (∀ (q : Report) (rest : List Report) (i : Fin 16) (w : Window), s.ctl.queue = [] → recs = q :: rest →
        s.reportOutstanding = false → s.ringLive = true →
        (s.ctl.ringProducer + 1) % s.ctl.ringSize ≠ s.ctl.ringConsumer → s.reportWindow = some (i, w) →
        (∃ a ∈ t.requests, a.op = .reportRecord ∧ a.start = w.base.toNat + 32 * s.ctl.ringProducer ∧
          a.access = .write (q.bytes.map some)) ∧
        (rest.length ≤ 8 → Completed s t 0 ∧ rest <+: t.ctl.queue) ∧
        (8 < rest.length → t.ctl.state = .executing ∧ t.ctl.queue = rest.take 8 ∧
          t.ctl.snapshot = some (l.drop 9))) ∧
      (s.ctl.queue = [] → s.reportOutstanding = false → s.ringLive = false →
        Completed s t 0 ∧ t.ctl.queue = [] ∧ t.ctl.lost = min (s.ctl.lost + (l.length + 1)) 4294967295))

/-- UNKNOWN_COMMAND completes with REFUSED_UNKNOWN and no other effect (R28, R176). COMMAND_DONE_HANDED and
STATUS_WRITE_ANSWERED end COMPLETING once both have come: the unit goes to FETCHING when a record is pending and to IDLE
when none is, and stays in COMPLETING while the other is owed (R175, R176). -/
def Obligations.CommandsComplete : Prop :=
  (∀ s : State, s.ctl.state = .executing → s.ctl.snapshot = none →
    ((s.arg 0).toNat = 0 ∨ 11 < (s.arg 0).toNat) →
    ∃ t, exec .unknownCommand s = .next t ∧ Completed s t 6 ∧ SameBlocks s t ∧ SameRing s t) ∧
  (∀ (s : State) (q : Report), s.ctl.doneWaiting = some q → s.ctl.queue.length < 8 → s.ctl.state = .completing →
    ∃ t, exec .commandDoneHanded s = .next t ∧ t.ctl.doneWaiting = none ∧ t.ctl.consumer = s.ctl.consumer ∧
      SameBlocks s t ∧ SameRing s t ∧
      (s.bus.outstanding (fun op => decide (op = .statusWrite)) = true → t.ctl.state = .completing) ∧
      (s.bus.outstanding (fun op => decide (op = .statusWrite)) = false →
        t.ctl.state = if s.ctl.producer = s.ctl.consumer then .idle else .fetching)) ∧
  (∀ (id : Nat) (s : State) (e : InjEntry), s.issuedInj id = some e → e.req.op = .statusWrite →
    s.ctl.state = .completing → (s.freeInj id).bus.outstanding (fun op => decide (op = .statusWrite)) = false →
    ∃ t, exec (.statusWriteAnswered id) s = .next t ∧ SameBlocks s t ∧ SameRing s t ∧
      (s.ctl.doneWaiting ≠ none → SameControl s t) ∧
      (s.ctl.doneWaiting = none → t.ctl.consumer = s.ctl.consumer ∧
        t.ctl.state = if s.ctl.producer = s.ctl.consumer then .idle else .fetching))

/-- The answers to the part's own writes. A record write advances the report producer index by one modulo the ring size
and asks for its write to offset 12 (R179). A producer word write gives the queue's head its turn: with the ring live,
not full and no other such write outstanding, the record is written at the ring position (R179). A lost-report count
write is followed by another when the count has changed since (R180). Header result and zeroing writes end with nothing
more (R24, R173). -/
def Obligations.InjectedWritesAnswered : Prop :=
  ∀ (id : Nat) (s : State) (e : InjEntry), s.agesSound → s.issuedInj id = some e →
    (e.req.op = .reportRecord → 0 < s.ctl.ringSize → ∃ t, exec (.reportRecordWriteAnswered id) s = .next t ∧
      t.ctl.ringProducer = (s.ctl.ringProducer + 1) % s.ctl.ringSize ∧ t.ctl.ringConsumer = s.ctl.ringConsumer ∧
      (∃ q ∈ t.requests, q.op = .reportWord ∧ q.start = s.pageBase + 8 ∧ q.access = .write (List.replicate 4 none ++
        (beBytes 4 ((s.ctl.ringProducer + 1) % s.ctl.ringSize)).map some)) ∧ SameBlocks s t) ∧
    (∀ (q : Report) (rest : List Report) (i : Fin 16) (w : Window), e.req.op = .reportWord → s.ctl.queue = q :: rest →
      s.ringLive = true → (s.ctl.ringProducer + 1) % s.ctl.ringSize ≠ s.ctl.ringConsumer →
      (s.freeInj id).reportOutstanding = false → s.reportWindow = some (i, w) →
      ∃ t, exec (.reportProducerWordAnswered id) s = .next t ∧ t.ctl.queue = rest ∧
        (∃ a ∈ t.requests, a.op = .reportRecord ∧ a.start = w.base.toNat + 32 * s.ctl.ringProducer ∧
          a.access = .write (q.bytes.map some)) ∧ SameRing s t ∧ SameBlocks s t) ∧
    (e.req.op = .reportWord → s.ctl.queue = [] → ∃ t, exec (.reportProducerWordAnswered id) s = .next t ∧
      SameUnits s t) ∧
    (e.req.op = .lostWord → ∃ t, exec (.lostReportCountWriteAnswered id) s = .next t ∧ SameBlocks s t ∧
      t.ctl.lost = s.ctl.lost ∧ (s.ctl.lost = s.ctl.lostWritten → SameUnits s t) ∧
      (s.ctl.lost ≠ s.ctl.lostWritten → ∃ q ∈ t.requests, q.op = .lostWord ∧ q.start = s.pageBase + 16 ∧
        q.access = .write (List.replicate 4 none ++ (beBytes 4 s.ctl.lost).map some))) ∧
    ((∃ n b, e.req.op = .headerResult n b) → ∃ t, exec (.headerResultWriteAnswered id) s = .next t ∧ SameUnits s t ∧
      ∀ f ∈ t.bus.inj, f.id ≠ id) ∧
    (e.req.op = .resetZero → ∃ t, exec (.resetZeroingWriteAnswered id) s = .next t ∧ SameUnits s t ∧
      ∀ f ∈ t.bus.inj, f.id ≠ id)

/-! ## Time -/

/-- TIME_BASE_TICK: four intervals make a millisecond, a thousand of these a second and sixty seconds a minute; the
count rises by one, modulo 2^32, at each millisecond; a running cutover, grace or holdoff timer counts the second
expiries; an ISSUED injected transaction counts the interval (R20, R131, R144, R167, R182). The holdoff timer is judged
when the step ends (the model's choice, notes/assumptions/9.md). That one command is one interval, and that refills and
minutes wait for their own rows, is the model's choice (notes/assumptions/10.md). -/
def Obligations.TimeBaseCounts : Prop :=
  ∀ s : State, s.line ≠ .powerOn → s.time.quarter ≤ 3 → s.time.subMs ≤ 999 → s.time.subSec ≤ 59 →
    ∃ t, exec .timeBaseTick s = .next t ∧ t.time.quarter = (s.time.quarter + 1) % 4 ∧
      t.time.ms = (if s.time.quarter = 3 then s.time.ms + 1 else s.time.ms) ∧
      t.time.subMs = (if s.time.quarter = 3 then (s.time.subMs + 1) % 1000 else s.time.subMs) ∧
      t.time.subSec = (if s.time.quarter = 3 ∧ s.time.subMs = 999 then (s.time.subSec + 1) % 60 else s.time.subSec) ∧
      t.time.refillsDue = (if s.time.quarter = 3 then s.time.refillsDue + 1 else s.time.refillsDue) ∧
      t.time.minutesDue = (if s.time.quarter = 3 ∧ s.time.subMs = 999 ∧ s.time.subSec = 59 then s.time.minutesDue + 1
        else s.time.minutesDue) ∧
      (∀ c : Fin 16, t.chan c = if s.time.quarter = 3 ∧ s.time.subMs = 999 then
          { s.chan c with cutover := (s.chan c).cutover.tick, grace := (s.chan c).grace.tick }
        else s.chan c) ∧
      (∀ left, (Timer.running left).tick = .running (left - 1)) ∧ Timer.stopped.tick = .stopped ∧
      (∀ e ∈ s.bus.inj, ∃ f ∈ t.bus.inj, f.id = e.id ∧ f.req = e.req ∧
        f.ticks = if e.issued = true then e.ticks + 1 else e.ticks) ∧
      SameNotices s t ∧ (∀ was, was = (match s.notices.holdoff with
          | .running left => .running (if s.time.quarter = 3 ∧ s.time.subMs = 999 then left - 1 else left)
          | h => h) → HoldoffJudged t was) ∧
      SameFrames s t ∧ t.keys = s.keys ∧ SameMeters s t ∧ SameFaults s t ∧ SameControl s t

/-- METER_REFILL spends a credit of CIR bytes on each METERED meter: first on the overdraw total, then into the
committed level up to its size, then into the excess level up to its size, and the rest is lost; an UNMETERED meter is
left (R107). That refills wait in a counter for this row is the model's choice (notes/assumptions/10.md). -/
def Obligations.RefillSpendsCredit : Prop :=
  ∀ s : State, 0 < s.time.refillsDue → ∃ t, exec .meterRefill s = .next t ∧
    t.time = { s.time with refillsDue := s.time.refillsDue - 1 } ∧ SameFrames s t ∧ SameKeys s t ∧ SameFaults s t ∧
    SameNotices s t ∧ SameControl s t ∧
    ∀ l : Link, ((s.meter l).metered = false → t.meter l = s.meter l) ∧
      ((s.meter l).metered = true → ∀ paid intoC intoE : Nat, paid = min (s.meter l).overdraw (s.meter l).cir →
        intoC = min ((s.meter l).cbs - (s.meter l).c) ((s.meter l).cir - paid) →
        intoE = min ((s.meter l).ebs - (s.meter l).e) ((s.meter l).cir - paid - intoC) →
        t.meter l = { s.meter l with
          overdraw := (s.meter l).overdraw - paid, c := (s.meter l).c + intoC, e := (s.meter l).e + intoE })

/-- The timers that run out. CUTOVER_TIMER_EXPIRY promotes the key slot it names when that is still NEXT, with its
KEY_EVENT record and the judgement of its budget (R129, R130, R144). GRACE_TIMER_EXPIRY takes the PREVIOUS key off its
channel: zeroised and at the tail of the free list without a reference, RETIRING with one (R120, R132).
HOLDOFF_TIMER_EXPIRY leaves the timer run out while an entry is eligible (R167). KEY_LIFETIME_TICK lowers the minutes of
each key slot that has a lifetime, is not FREE and has minutes left (R126), and judges each of these: spent with no
minutes left, or asking at its soft mark, a CURRENT one hands its RENEW_REQUEST, and takes KEY_SPENT with SPENT; a key
slot that is not counted keeps its flags (R124, R127, R128; the fields of KEY_SPENT: notes/assumptions/20.md). When each
row is at hand is the model's choice (notes/assumptions/10.md). -/
def Obligations.TimersRunOut : Prop :=
  (∀ (c : Fin 16) (k : Fin 32) (s : State), (s.chan c).cutover = .running 0 → (s.chan c).cutoverKey = some k →
    ((s.chan c).next = some k → (s.key k).owner = some c → (s.chan c).prev ≠ some k →
      ∃ t, exec (.cutoverTimerExpiry c) s = .next t ∧ SameMeters s t ∧ OtherChannels s t c ∧
      t.chan c = { s.chan c with
        prev := (s.chan c).cur, cur := some k, next := none, cutover := .stopped, cutoverKey := none, renewal := .idle,
        grace := if (s.chan c).cur.isSome then .running (s.chan c).graceSecs else .stopped } ∧
      (t.key k).state = .active ∧ PromotionJudged s t c k) ∧
    ((s.chan c).next ≠ some k → ∃ t, exec (.cutoverTimerExpiry c) s = .next t ∧ SameMeters s t ∧ t.keys = s.keys ∧
      SameFrames s t ∧ SameFaults s t ∧ OtherChannels s t c ∧
      t.chan c = { s.chan c with cutover := .stopped, cutoverKey := none })) ∧
  (∀ (c : Fin 16) (k : Fin 32) (s : State), (s.chan c).grace = .running 0 → (s.chan c).prev = some k →
    (s.chan c).cur ≠ some k → (s.chan c).next ≠ some k → (s.key k).owner = some c → (s.key k).state ≠ .free →
    ∃ t, exec (.graceTimerExpiry c) s = .next t ∧ SameMeters s t ∧ OtherChannels s t c ∧
      t.chan c = { s.chan c with grace := .stopped, prev := none } ∧ OtherKeys s t k ∧
      ((s.key k).refs = 0 → t.key k = KeySlot.zeroised ∧ t.keys.freeList = s.keys.freeList ++ [k]) ∧
      (0 < (s.key k).refs → (s.key k).load = .loaded → (s.chan c).hold.map (·.key) ≠ some k →
        t.key k = { s.key k with state := .retiring } ∧ t.keys.freeList = s.keys.freeList)) ∧
  (∀ s : State, s.notices.holdoff = .running 0 → ∃ t, exec .holdoffTimerExpiry s = .next t ∧
    t.notices.holdoff = (if s.faults.eligible = [] then .stopped else .ranOut) ∧ SameUnits s t) ∧
  (∀ s : State, 0 < s.time.minutesDue → ∃ t, exec .keyLifetimeTick s = .next t ∧
    t.time = { s.time with minutesDue := s.time.minutesDue - 1 } ∧ SameFrames s t ∧ SameMeters s t ∧
    (∀ k : Fin 32, t.key k = { s.key k with
      minutes := if (s.key k).state ≠ .free ∧ (s.key k).lifetime ≠ none then (s.key k).minutes - 1
        else (s.key k).minutes
      asked := (t.key k).asked, spent := (t.key k).spent }) ∧
    (∀ k : Fin 32, (s.key k).state = .free ∨ (s.key k).lifetime = none ∨ (s.key k).minutes = 0 →
      t.key k = s.key k) ∧
    (∀ (k : Fin 32) (c : Fin 16), s.minuteCounts k c →
      FlagsJudged s t k (s.key k).minuteLater c (decide ((s.chan c).cur = some k)) ∧
      (∀ why, (s.chan c).cur = some k → (s.key k).minuteLater.asks (s.percentOf c (s.key k)) false why →
        ⟨c, .renewRequest why⟩ ∈ t.notices.list ∨ 16 ≤ t.notices.list.length) ∧
      ((∀ (j : Fin 32) (d : Fin 16) (why : RenewReason), j ≠ k → s.minuteCounts j d → (s.chan d).cur = some j →
          ¬ (s.key j).minuteLater.asks (s.percentOf d (s.key j)) false why) →
        ListJudged s t (s.key k).minuteLater c (decide ((s.chan c).cur = some k)) false s.notices.list ∧
        (s.notices.list.length < 16 →
          ∀ u, SpentTaken s u (s.key k).minuteLater c (decide ((s.chan c).cur = some k)) false →
          t.faults = u.faults))))
end

