-- ==== Sys2Proof/Laws/State.lean ====
section
/-!
SUPPORT. One lemma per field for each plain update of State, true by definition, so that no later proof unfolds a record
update; and what a table reads after one of its places has been written.
-/

namespace Sys2Proof.Machine

/-! ## The fields an update leaves alone -/

@[simp] theorem State.bump_pending (s : State) : s.bump.pending = s.pending := rfl
@[simp] theorem State.bump_line (s : State) : s.bump.line = s.line := rfl
@[simp] theorem State.bump_wrstnToo (s : State) : s.bump.wrstnToo = s.wrstnToo := rfl
@[simp] theorem State.bump_straps (s : State) : s.bump.straps = s.straps := rfl
@[simp] theorem State.bump_fuses (s : State) : s.bump.fuses = s.fuses := rfl
@[simp] theorem State.bump_windows (s : State) : s.bump.windows = s.windows := rfl
@[simp] theorem State.bump_classes (s : State) : s.bump.classes = s.classes := rfl
@[simp] theorem State.bump_pool (s : State) : s.bump.pool = s.pool := rfl
@[simp] theorem State.bump_bus (s : State) : s.bump.bus = s.bus := rfl
@[simp] theorem State.bump_ks (s : State) : s.bump.ks = s.ks := rfl
@[simp] theorem State.bump_merges (s : State) : s.bump.merges = s.merges := rfl
@[simp] theorem State.bump_channels (s : State) : s.bump.channels = s.channels := rfl
@[simp] theorem State.bump_meterA (s : State) : s.bump.meterA = s.meterA := rfl
@[simp] theorem State.bump_meterB (s : State) : s.bump.meterB = s.meterB := rfl
@[simp] theorem State.bump_keys (s : State) : s.bump.keys = s.keys := rfl
@[simp] theorem State.bump_faults (s : State) : s.bump.faults = s.faults := rfl
@[simp] theorem State.bump_notices (s : State) : s.bump.notices = s.notices := rfl
@[simp] theorem State.bump_ctl (s : State) : s.bump.ctl = s.ctl := rfl
@[simp] theorem State.bump_time (s : State) : s.bump.time = s.time := rfl
@[simp] theorem State.bump_free (s : State) : s.bump.free = s.free := rfl

@[simp] theorem State.setTransit_pending (s : State) (l : List TransitEntry) : (s.setTransit l).pending = s.pending := rfl
@[simp] theorem State.setTransit_line (s : State) (l : List TransitEntry) : (s.setTransit l).line = s.line := rfl
@[simp] theorem State.setTransit_wrstnToo (s : State) (l : List TransitEntry) : (s.setTransit l).wrstnToo = s.wrstnToo := rfl
@[simp] theorem State.setTransit_straps (s : State) (l : List TransitEntry) : (s.setTransit l).straps = s.straps := rfl
@[simp] theorem State.setTransit_fuses (s : State) (l : List TransitEntry) : (s.setTransit l).fuses = s.fuses := rfl
@[simp] theorem State.setTransit_windows (s : State) (l : List TransitEntry) : (s.setTransit l).windows = s.windows := rfl
@[simp] theorem State.setTransit_classes (s : State) (l : List TransitEntry) : (s.setTransit l).classes = s.classes := rfl
@[simp] theorem State.setTransit_pool (s : State) (l : List TransitEntry) : (s.setTransit l).pool = s.pool := rfl
@[simp] theorem State.setTransit_ks (s : State) (l : List TransitEntry) : (s.setTransit l).ks = s.ks := rfl
@[simp] theorem State.setTransit_merges (s : State) (l : List TransitEntry) : (s.setTransit l).merges = s.merges := rfl
@[simp] theorem State.setTransit_channels (s : State) (l : List TransitEntry) : (s.setTransit l).channels = s.channels := rfl
@[simp] theorem State.setTransit_meterA (s : State) (l : List TransitEntry) : (s.setTransit l).meterA = s.meterA := rfl
@[simp] theorem State.setTransit_meterB (s : State) (l : List TransitEntry) : (s.setTransit l).meterB = s.meterB := rfl
@[simp] theorem State.setTransit_keys (s : State) (l : List TransitEntry) : (s.setTransit l).keys = s.keys := rfl
@[simp] theorem State.setTransit_faults (s : State) (l : List TransitEntry) : (s.setTransit l).faults = s.faults := rfl
@[simp] theorem State.setTransit_notices (s : State) (l : List TransitEntry) : (s.setTransit l).notices = s.notices := rfl
@[simp] theorem State.setTransit_ctl (s : State) (l : List TransitEntry) : (s.setTransit l).ctl = s.ctl := rfl
@[simp] theorem State.setTransit_time (s : State) (l : List TransitEntry) : (s.setTransit l).time = s.time := rfl
@[simp] theorem State.setTransit_stamp (s : State) (l : List TransitEntry) : (s.setTransit l).stamp = s.stamp := rfl
@[simp] theorem State.setTransit_free (s : State) (l : List TransitEntry) : (s.setTransit l).free = s.free := rfl

@[simp] theorem State.setInj_pending (s : State) (l : List InjEntry) : (s.setInj l).pending = s.pending := rfl
@[simp] theorem State.setInj_line (s : State) (l : List InjEntry) : (s.setInj l).line = s.line := rfl
@[simp] theorem State.setInj_wrstnToo (s : State) (l : List InjEntry) : (s.setInj l).wrstnToo = s.wrstnToo := rfl
@[simp] theorem State.setInj_straps (s : State) (l : List InjEntry) : (s.setInj l).straps = s.straps := rfl
@[simp] theorem State.setInj_fuses (s : State) (l : List InjEntry) : (s.setInj l).fuses = s.fuses := rfl
@[simp] theorem State.setInj_windows (s : State) (l : List InjEntry) : (s.setInj l).windows = s.windows := rfl
@[simp] theorem State.setInj_classes (s : State) (l : List InjEntry) : (s.setInj l).classes = s.classes := rfl
@[simp] theorem State.setInj_pool (s : State) (l : List InjEntry) : (s.setInj l).pool = s.pool := rfl
@[simp] theorem State.setInj_ks (s : State) (l : List InjEntry) : (s.setInj l).ks = s.ks := rfl
@[simp] theorem State.setInj_merges (s : State) (l : List InjEntry) : (s.setInj l).merges = s.merges := rfl
@[simp] theorem State.setInj_channels (s : State) (l : List InjEntry) : (s.setInj l).channels = s.channels := rfl
@[simp] theorem State.setInj_meterA (s : State) (l : List InjEntry) : (s.setInj l).meterA = s.meterA := rfl
@[simp] theorem State.setInj_meterB (s : State) (l : List InjEntry) : (s.setInj l).meterB = s.meterB := rfl
@[simp] theorem State.setInj_keys (s : State) (l : List InjEntry) : (s.setInj l).keys = s.keys := rfl
@[simp] theorem State.setInj_faults (s : State) (l : List InjEntry) : (s.setInj l).faults = s.faults := rfl
@[simp] theorem State.setInj_notices (s : State) (l : List InjEntry) : (s.setInj l).notices = s.notices := rfl
@[simp] theorem State.setInj_ctl (s : State) (l : List InjEntry) : (s.setInj l).ctl = s.ctl := rfl
@[simp] theorem State.setInj_time (s : State) (l : List InjEntry) : (s.setInj l).time = s.time := rfl
@[simp] theorem State.setInj_stamp (s : State) (l : List InjEntry) : (s.setInj l).stamp = s.stamp := rfl
@[simp] theorem State.setInj_free (s : State) (l : List InjEntry) : (s.setInj l).free = s.free := rfl

@[simp] theorem State.respond_pending (s : State) (r : UpResponse) : (s.respond r).pending = s.pending := rfl
@[simp] theorem State.respond_line (s : State) (r : UpResponse) : (s.respond r).line = s.line := rfl
@[simp] theorem State.respond_wrstnToo (s : State) (r : UpResponse) : (s.respond r).wrstnToo = s.wrstnToo := rfl
@[simp] theorem State.respond_straps (s : State) (r : UpResponse) : (s.respond r).straps = s.straps := rfl
@[simp] theorem State.respond_fuses (s : State) (r : UpResponse) : (s.respond r).fuses = s.fuses := rfl
@[simp] theorem State.respond_windows (s : State) (r : UpResponse) : (s.respond r).windows = s.windows := rfl
@[simp] theorem State.respond_classes (s : State) (r : UpResponse) : (s.respond r).classes = s.classes := rfl
@[simp] theorem State.respond_pool (s : State) (r : UpResponse) : (s.respond r).pool = s.pool := rfl
@[simp] theorem State.respond_ks (s : State) (r : UpResponse) : (s.respond r).ks = s.ks := rfl
@[simp] theorem State.respond_merges (s : State) (r : UpResponse) : (s.respond r).merges = s.merges := rfl
@[simp] theorem State.respond_channels (s : State) (r : UpResponse) : (s.respond r).channels = s.channels := rfl
@[simp] theorem State.respond_meterA (s : State) (r : UpResponse) : (s.respond r).meterA = s.meterA := rfl
@[simp] theorem State.respond_meterB (s : State) (r : UpResponse) : (s.respond r).meterB = s.meterB := rfl
@[simp] theorem State.respond_keys (s : State) (r : UpResponse) : (s.respond r).keys = s.keys := rfl
@[simp] theorem State.respond_faults (s : State) (r : UpResponse) : (s.respond r).faults = s.faults := rfl
@[simp] theorem State.respond_notices (s : State) (r : UpResponse) : (s.respond r).notices = s.notices := rfl
@[simp] theorem State.respond_ctl (s : State) (r : UpResponse) : (s.respond r).ctl = s.ctl := rfl
@[simp] theorem State.respond_time (s : State) (r : UpResponse) : (s.respond r).time = s.time := rfl
@[simp] theorem State.respond_stamp (s : State) (r : UpResponse) : (s.respond r).stamp = s.stamp := rfl
@[simp] theorem State.respond_free (s : State) (r : UpResponse) : (s.respond r).free = s.free := rfl

@[simp] theorem State.ask_pending (s : State) (r : InjReq) : (s.ask r).pending = s.pending := rfl
@[simp] theorem State.ask_line (s : State) (r : InjReq) : (s.ask r).line = s.line := rfl
@[simp] theorem State.ask_wrstnToo (s : State) (r : InjReq) : (s.ask r).wrstnToo = s.wrstnToo := rfl
@[simp] theorem State.ask_straps (s : State) (r : InjReq) : (s.ask r).straps = s.straps := rfl
@[simp] theorem State.ask_fuses (s : State) (r : InjReq) : (s.ask r).fuses = s.fuses := rfl
@[simp] theorem State.ask_windows (s : State) (r : InjReq) : (s.ask r).windows = s.windows := rfl
@[simp] theorem State.ask_classes (s : State) (r : InjReq) : (s.ask r).classes = s.classes := rfl
@[simp] theorem State.ask_pool (s : State) (r : InjReq) : (s.ask r).pool = s.pool := rfl
@[simp] theorem State.ask_ks (s : State) (r : InjReq) : (s.ask r).ks = s.ks := rfl
@[simp] theorem State.ask_merges (s : State) (r : InjReq) : (s.ask r).merges = s.merges := rfl
@[simp] theorem State.ask_channels (s : State) (r : InjReq) : (s.ask r).channels = s.channels := rfl
@[simp] theorem State.ask_meterA (s : State) (r : InjReq) : (s.ask r).meterA = s.meterA := rfl
@[simp] theorem State.ask_meterB (s : State) (r : InjReq) : (s.ask r).meterB = s.meterB := rfl
@[simp] theorem State.ask_keys (s : State) (r : InjReq) : (s.ask r).keys = s.keys := rfl
@[simp] theorem State.ask_faults (s : State) (r : InjReq) : (s.ask r).faults = s.faults := rfl
@[simp] theorem State.ask_notices (s : State) (r : InjReq) : (s.ask r).notices = s.notices := rfl
@[simp] theorem State.ask_ctl (s : State) (r : InjReq) : (s.ask r).ctl = s.ctl := rfl
@[simp] theorem State.ask_time (s : State) (r : InjReq) : (s.ask r).time = s.time := rfl
@[simp] theorem State.ask_stamp (s : State) (r : InjReq) : (s.ask r).stamp = s.stamp := rfl
@[simp] theorem State.ask_free (s : State) (r : InjReq) : (s.ask r).free = s.free := rfl

@[simp] theorem State.putFault_pending (s : State) (i : Fin 32) (e : Option FaultEntry) : (s.putFault i e).pending = s.pending := rfl
@[simp] theorem State.putFault_line (s : State) (i : Fin 32) (e : Option FaultEntry) : (s.putFault i e).line = s.line := rfl
@[simp] theorem State.putFault_wrstnToo (s : State) (i : Fin 32) (e : Option FaultEntry) : (s.putFault i e).wrstnToo = s.wrstnToo := rfl
@[simp] theorem State.putFault_straps (s : State) (i : Fin 32) (e : Option FaultEntry) : (s.putFault i e).straps = s.straps := rfl
@[simp] theorem State.putFault_fuses (s : State) (i : Fin 32) (e : Option FaultEntry) : (s.putFault i e).fuses = s.fuses := rfl
@[simp] theorem State.putFault_windows (s : State) (i : Fin 32) (e : Option FaultEntry) : (s.putFault i e).windows = s.windows := rfl
@[simp] theorem State.putFault_classes (s : State) (i : Fin 32) (e : Option FaultEntry) : (s.putFault i e).classes = s.classes := rfl
@[simp] theorem State.putFault_pool (s : State) (i : Fin 32) (e : Option FaultEntry) : (s.putFault i e).pool = s.pool := rfl
@[simp] theorem State.putFault_bus (s : State) (i : Fin 32) (e : Option FaultEntry) : (s.putFault i e).bus = s.bus := rfl
@[simp] theorem State.putFault_ks (s : State) (i : Fin 32) (e : Option FaultEntry) : (s.putFault i e).ks = s.ks := rfl
@[simp] theorem State.putFault_merges (s : State) (i : Fin 32) (e : Option FaultEntry) : (s.putFault i e).merges = s.merges := rfl
@[simp] theorem State.putFault_channels (s : State) (i : Fin 32) (e : Option FaultEntry) : (s.putFault i e).channels = s.channels := rfl
@[simp] theorem State.putFault_meterA (s : State) (i : Fin 32) (e : Option FaultEntry) : (s.putFault i e).meterA = s.meterA := rfl
@[simp] theorem State.putFault_meterB (s : State) (i : Fin 32) (e : Option FaultEntry) : (s.putFault i e).meterB = s.meterB := rfl
@[simp] theorem State.putFault_keys (s : State) (i : Fin 32) (e : Option FaultEntry) : (s.putFault i e).keys = s.keys := rfl
@[simp] theorem State.putFault_notices (s : State) (i : Fin 32) (e : Option FaultEntry) : (s.putFault i e).notices = s.notices := rfl
@[simp] theorem State.putFault_ctl (s : State) (i : Fin 32) (e : Option FaultEntry) : (s.putFault i e).ctl = s.ctl := rfl
@[simp] theorem State.putFault_time (s : State) (i : Fin 32) (e : Option FaultEntry) : (s.putFault i e).time = s.time := rfl
@[simp] theorem State.putFault_stamp (s : State) (i : Fin 32) (e : Option FaultEntry) : (s.putFault i e).stamp = s.stamp := rfl
@[simp] theorem State.putFault_free (s : State) (i : Fin 32) (e : Option FaultEntry) : (s.putFault i e).free = s.free := rfl

@[simp] theorem State.bumpUpdates_pending (s : State) : s.bumpUpdates.pending = s.pending := rfl
@[simp] theorem State.bumpUpdates_line (s : State) : s.bumpUpdates.line = s.line := rfl
@[simp] theorem State.bumpUpdates_wrstnToo (s : State) : s.bumpUpdates.wrstnToo = s.wrstnToo := rfl
@[simp] theorem State.bumpUpdates_straps (s : State) : s.bumpUpdates.straps = s.straps := rfl
@[simp] theorem State.bumpUpdates_fuses (s : State) : s.bumpUpdates.fuses = s.fuses := rfl
@[simp] theorem State.bumpUpdates_windows (s : State) : s.bumpUpdates.windows = s.windows := rfl
@[simp] theorem State.bumpUpdates_classes (s : State) : s.bumpUpdates.classes = s.classes := rfl
@[simp] theorem State.bumpUpdates_pool (s : State) : s.bumpUpdates.pool = s.pool := rfl
@[simp] theorem State.bumpUpdates_bus (s : State) : s.bumpUpdates.bus = s.bus := rfl
@[simp] theorem State.bumpUpdates_ks (s : State) : s.bumpUpdates.ks = s.ks := rfl
@[simp] theorem State.bumpUpdates_merges (s : State) : s.bumpUpdates.merges = s.merges := rfl
@[simp] theorem State.bumpUpdates_channels (s : State) : s.bumpUpdates.channels = s.channels := rfl
@[simp] theorem State.bumpUpdates_meterA (s : State) : s.bumpUpdates.meterA = s.meterA := rfl
@[simp] theorem State.bumpUpdates_meterB (s : State) : s.bumpUpdates.meterB = s.meterB := rfl
@[simp] theorem State.bumpUpdates_keys (s : State) : s.bumpUpdates.keys = s.keys := rfl
@[simp] theorem State.bumpUpdates_notices (s : State) : s.bumpUpdates.notices = s.notices := rfl
@[simp] theorem State.bumpUpdates_ctl (s : State) : s.bumpUpdates.ctl = s.ctl := rfl
@[simp] theorem State.bumpUpdates_time (s : State) : s.bumpUpdates.time = s.time := rfl
@[simp] theorem State.bumpUpdates_stamp (s : State) : s.bumpUpdates.stamp = s.stamp := rfl
@[simp] theorem State.bumpUpdates_free (s : State) : s.bumpUpdates.free = s.free := rfl

@[simp] theorem State.raiseLost_pending (s : State) (n : Nat) : (s.raiseLost n).pending = s.pending := rfl
@[simp] theorem State.raiseLost_line (s : State) (n : Nat) : (s.raiseLost n).line = s.line := rfl
@[simp] theorem State.raiseLost_wrstnToo (s : State) (n : Nat) : (s.raiseLost n).wrstnToo = s.wrstnToo := rfl
@[simp] theorem State.raiseLost_straps (s : State) (n : Nat) : (s.raiseLost n).straps = s.straps := rfl
@[simp] theorem State.raiseLost_fuses (s : State) (n : Nat) : (s.raiseLost n).fuses = s.fuses := rfl
@[simp] theorem State.raiseLost_windows (s : State) (n : Nat) : (s.raiseLost n).windows = s.windows := rfl
@[simp] theorem State.raiseLost_classes (s : State) (n : Nat) : (s.raiseLost n).classes = s.classes := rfl
@[simp] theorem State.raiseLost_pool (s : State) (n : Nat) : (s.raiseLost n).pool = s.pool := rfl
@[simp] theorem State.raiseLost_bus (s : State) (n : Nat) : (s.raiseLost n).bus = s.bus := rfl
@[simp] theorem State.raiseLost_ks (s : State) (n : Nat) : (s.raiseLost n).ks = s.ks := rfl
@[simp] theorem State.raiseLost_merges (s : State) (n : Nat) : (s.raiseLost n).merges = s.merges := rfl
@[simp] theorem State.raiseLost_channels (s : State) (n : Nat) : (s.raiseLost n).channels = s.channels := rfl
@[simp] theorem State.raiseLost_meterA (s : State) (n : Nat) : (s.raiseLost n).meterA = s.meterA := rfl
@[simp] theorem State.raiseLost_meterB (s : State) (n : Nat) : (s.raiseLost n).meterB = s.meterB := rfl
@[simp] theorem State.raiseLost_keys (s : State) (n : Nat) : (s.raiseLost n).keys = s.keys := rfl
@[simp] theorem State.raiseLost_notices (s : State) (n : Nat) : (s.raiseLost n).notices = s.notices := rfl
@[simp] theorem State.raiseLost_ctl (s : State) (n : Nat) : (s.raiseLost n).ctl = s.ctl := rfl
@[simp] theorem State.raiseLost_time (s : State) (n : Nat) : (s.raiseLost n).time = s.time := rfl
@[simp] theorem State.raiseLost_stamp (s : State) (n : Nat) : (s.raiseLost n).stamp = s.stamp := rfl
@[simp] theorem State.raiseLost_free (s : State) (n : Nat) : (s.raiseLost n).free = s.free := rfl

@[simp] theorem State.setProto_pending (s : State) (l : List ProtoEntry) : (s.setProto l).pending = s.pending := rfl
@[simp] theorem State.setProto_line (s : State) (l : List ProtoEntry) : (s.setProto l).line = s.line := rfl
@[simp] theorem State.setProto_wrstnToo (s : State) (l : List ProtoEntry) : (s.setProto l).wrstnToo = s.wrstnToo := rfl
@[simp] theorem State.setProto_straps (s : State) (l : List ProtoEntry) : (s.setProto l).straps = s.straps := rfl
@[simp] theorem State.setProto_fuses (s : State) (l : List ProtoEntry) : (s.setProto l).fuses = s.fuses := rfl
@[simp] theorem State.setProto_windows (s : State) (l : List ProtoEntry) : (s.setProto l).windows = s.windows := rfl
@[simp] theorem State.setProto_classes (s : State) (l : List ProtoEntry) : (s.setProto l).classes = s.classes := rfl
@[simp] theorem State.setProto_pool (s : State) (l : List ProtoEntry) : (s.setProto l).pool = s.pool := rfl
@[simp] theorem State.setProto_bus (s : State) (l : List ProtoEntry) : (s.setProto l).bus = s.bus := rfl
@[simp] theorem State.setProto_ks (s : State) (l : List ProtoEntry) : (s.setProto l).ks = s.ks := rfl
@[simp] theorem State.setProto_merges (s : State) (l : List ProtoEntry) : (s.setProto l).merges = s.merges := rfl
@[simp] theorem State.setProto_channels (s : State) (l : List ProtoEntry) : (s.setProto l).channels = s.channels := rfl
@[simp] theorem State.setProto_meterA (s : State) (l : List ProtoEntry) : (s.setProto l).meterA = s.meterA := rfl
@[simp] theorem State.setProto_meterB (s : State) (l : List ProtoEntry) : (s.setProto l).meterB = s.meterB := rfl
@[simp] theorem State.setProto_keys (s : State) (l : List ProtoEntry) : (s.setProto l).keys = s.keys := rfl
@[simp] theorem State.setProto_faults (s : State) (l : List ProtoEntry) : (s.setProto l).faults = s.faults := rfl
@[simp] theorem State.setProto_ctl (s : State) (l : List ProtoEntry) : (s.setProto l).ctl = s.ctl := rfl
@[simp] theorem State.setProto_time (s : State) (l : List ProtoEntry) : (s.setProto l).time = s.time := rfl
@[simp] theorem State.setProto_stamp (s : State) (l : List ProtoEntry) : (s.setProto l).stamp = s.stamp := rfl
@[simp] theorem State.setProto_free (s : State) (l : List ProtoEntry) : (s.setProto l).free = s.free := rfl

@[simp] theorem State.deliver_pending (s : State) : s.deliver.pending = s.pending := rfl
@[simp] theorem State.deliver_line (s : State) : s.deliver.line = s.line := rfl
@[simp] theorem State.deliver_wrstnToo (s : State) : s.deliver.wrstnToo = s.wrstnToo := rfl
@[simp] theorem State.deliver_straps (s : State) : s.deliver.straps = s.straps := rfl
@[simp] theorem State.deliver_fuses (s : State) : s.deliver.fuses = s.fuses := rfl
@[simp] theorem State.deliver_windows (s : State) : s.deliver.windows = s.windows := rfl
@[simp] theorem State.deliver_classes (s : State) : s.deliver.classes = s.classes := rfl
@[simp] theorem State.deliver_pool (s : State) : s.deliver.pool = s.pool := rfl
@[simp] theorem State.deliver_ks (s : State) : s.deliver.ks = s.ks := rfl
@[simp] theorem State.deliver_merges (s : State) : s.deliver.merges = s.merges := rfl
@[simp] theorem State.deliver_channels (s : State) : s.deliver.channels = s.channels := rfl
@[simp] theorem State.deliver_meterA (s : State) : s.deliver.meterA = s.meterA := rfl
@[simp] theorem State.deliver_meterB (s : State) : s.deliver.meterB = s.meterB := rfl
@[simp] theorem State.deliver_keys (s : State) : s.deliver.keys = s.keys := rfl
@[simp] theorem State.deliver_faults (s : State) : s.deliver.faults = s.faults := rfl
@[simp] theorem State.deliver_notices (s : State) : s.deliver.notices = s.notices := rfl
@[simp] theorem State.deliver_ctl (s : State) : s.deliver.ctl = s.ctl := rfl
@[simp] theorem State.deliver_time (s : State) : s.deliver.time = s.time := rfl
@[simp] theorem State.deliver_stamp (s : State) : s.deliver.stamp = s.stamp := rfl
@[simp] theorem State.deliver_free (s : State) : s.deliver.free = s.free := rfl

@[simp] theorem State.judgeIrq_pending (s : State) : s.judgeIrq.pending = s.pending := rfl
@[simp] theorem State.judgeIrq_line (s : State) : s.judgeIrq.line = s.line := rfl
@[simp] theorem State.judgeIrq_wrstnToo (s : State) : s.judgeIrq.wrstnToo = s.wrstnToo := rfl
@[simp] theorem State.judgeIrq_straps (s : State) : s.judgeIrq.straps = s.straps := rfl
@[simp] theorem State.judgeIrq_fuses (s : State) : s.judgeIrq.fuses = s.fuses := rfl
@[simp] theorem State.judgeIrq_windows (s : State) : s.judgeIrq.windows = s.windows := rfl
@[simp] theorem State.judgeIrq_classes (s : State) : s.judgeIrq.classes = s.classes := rfl
@[simp] theorem State.judgeIrq_pool (s : State) : s.judgeIrq.pool = s.pool := rfl
@[simp] theorem State.judgeIrq_bus (s : State) : s.judgeIrq.bus = s.bus := rfl
@[simp] theorem State.judgeIrq_ks (s : State) : s.judgeIrq.ks = s.ks := rfl
@[simp] theorem State.judgeIrq_merges (s : State) : s.judgeIrq.merges = s.merges := rfl
@[simp] theorem State.judgeIrq_channels (s : State) : s.judgeIrq.channels = s.channels := rfl
@[simp] theorem State.judgeIrq_meterA (s : State) : s.judgeIrq.meterA = s.meterA := rfl
@[simp] theorem State.judgeIrq_meterB (s : State) : s.judgeIrq.meterB = s.meterB := rfl
@[simp] theorem State.judgeIrq_keys (s : State) : s.judgeIrq.keys = s.keys := rfl
@[simp] theorem State.judgeIrq_faults (s : State) : s.judgeIrq.faults = s.faults := rfl
@[simp] theorem State.judgeIrq_notices (s : State) : s.judgeIrq.notices = s.notices := rfl
@[simp] theorem State.judgeIrq_time (s : State) : s.judgeIrq.time = s.time := rfl
@[simp] theorem State.judgeIrq_stamp (s : State) : s.judgeIrq.stamp = s.stamp := rfl
@[simp] theorem State.judgeIrq_free (s : State) : s.judgeIrq.free = s.free := rfl

@[simp] theorem State.setRec_pending (s : State) (n : Nat) (f : SlotRec → SlotRec) : (s.setRec n f).pending = s.pending := rfl
@[simp] theorem State.setRec_line (s : State) (n : Nat) (f : SlotRec → SlotRec) : (s.setRec n f).line = s.line := rfl
@[simp] theorem State.setRec_wrstnToo (s : State) (n : Nat) (f : SlotRec → SlotRec) : (s.setRec n f).wrstnToo = s.wrstnToo := rfl
@[simp] theorem State.setRec_straps (s : State) (n : Nat) (f : SlotRec → SlotRec) : (s.setRec n f).straps = s.straps := rfl
@[simp] theorem State.setRec_fuses (s : State) (n : Nat) (f : SlotRec → SlotRec) : (s.setRec n f).fuses = s.fuses := rfl
@[simp] theorem State.setRec_windows (s : State) (n : Nat) (f : SlotRec → SlotRec) : (s.setRec n f).windows = s.windows := rfl
@[simp] theorem State.setRec_classes (s : State) (n : Nat) (f : SlotRec → SlotRec) : (s.setRec n f).classes = s.classes := rfl
@[simp] theorem State.setRec_bus (s : State) (n : Nat) (f : SlotRec → SlotRec) : (s.setRec n f).bus = s.bus := rfl
@[simp] theorem State.setRec_ks (s : State) (n : Nat) (f : SlotRec → SlotRec) : (s.setRec n f).ks = s.ks := rfl
@[simp] theorem State.setRec_merges (s : State) (n : Nat) (f : SlotRec → SlotRec) : (s.setRec n f).merges = s.merges := rfl
@[simp] theorem State.setRec_channels (s : State) (n : Nat) (f : SlotRec → SlotRec) : (s.setRec n f).channels = s.channels := rfl
@[simp] theorem State.setRec_meterA (s : State) (n : Nat) (f : SlotRec → SlotRec) : (s.setRec n f).meterA = s.meterA := rfl
@[simp] theorem State.setRec_meterB (s : State) (n : Nat) (f : SlotRec → SlotRec) : (s.setRec n f).meterB = s.meterB := rfl
@[simp] theorem State.setRec_keys (s : State) (n : Nat) (f : SlotRec → SlotRec) : (s.setRec n f).keys = s.keys := rfl
@[simp] theorem State.setRec_faults (s : State) (n : Nat) (f : SlotRec → SlotRec) : (s.setRec n f).faults = s.faults := rfl
@[simp] theorem State.setRec_notices (s : State) (n : Nat) (f : SlotRec → SlotRec) : (s.setRec n f).notices = s.notices := rfl
@[simp] theorem State.setRec_ctl (s : State) (n : Nat) (f : SlotRec → SlotRec) : (s.setRec n f).ctl = s.ctl := rfl
@[simp] theorem State.setRec_time (s : State) (n : Nat) (f : SlotRec → SlotRec) : (s.setRec n f).time = s.time := rfl
@[simp] theorem State.setRec_stamp (s : State) (n : Nat) (f : SlotRec → SlotRec) : (s.setRec n f).stamp = s.stamp := rfl
@[simp] theorem State.setRec_free (s : State) (n : Nat) (f : SlotRec → SlotRec) : (s.setRec n f).free = s.free := rfl

@[simp] theorem State.setChan_pending (s : State) (c : Fin 16) (f : Channel → Channel) : (s.setChan c f).pending = s.pending := rfl
@[simp] theorem State.setChan_line (s : State) (c : Fin 16) (f : Channel → Channel) : (s.setChan c f).line = s.line := rfl
@[simp] theorem State.setChan_wrstnToo (s : State) (c : Fin 16) (f : Channel → Channel) : (s.setChan c f).wrstnToo = s.wrstnToo := rfl
@[simp] theorem State.setChan_straps (s : State) (c : Fin 16) (f : Channel → Channel) : (s.setChan c f).straps = s.straps := rfl
@[simp] theorem State.setChan_fuses (s : State) (c : Fin 16) (f : Channel → Channel) : (s.setChan c f).fuses = s.fuses := rfl
@[simp] theorem State.setChan_windows (s : State) (c : Fin 16) (f : Channel → Channel) : (s.setChan c f).windows = s.windows := rfl
@[simp] theorem State.setChan_classes (s : State) (c : Fin 16) (f : Channel → Channel) : (s.setChan c f).classes = s.classes := rfl
@[simp] theorem State.setChan_pool (s : State) (c : Fin 16) (f : Channel → Channel) : (s.setChan c f).pool = s.pool := rfl
@[simp] theorem State.setChan_bus (s : State) (c : Fin 16) (f : Channel → Channel) : (s.setChan c f).bus = s.bus := rfl
@[simp] theorem State.setChan_ks (s : State) (c : Fin 16) (f : Channel → Channel) : (s.setChan c f).ks = s.ks := rfl
@[simp] theorem State.setChan_merges (s : State) (c : Fin 16) (f : Channel → Channel) : (s.setChan c f).merges = s.merges := rfl
@[simp] theorem State.setChan_meterA (s : State) (c : Fin 16) (f : Channel → Channel) : (s.setChan c f).meterA = s.meterA := rfl
@[simp] theorem State.setChan_meterB (s : State) (c : Fin 16) (f : Channel → Channel) : (s.setChan c f).meterB = s.meterB := rfl
@[simp] theorem State.setChan_keys (s : State) (c : Fin 16) (f : Channel → Channel) : (s.setChan c f).keys = s.keys := rfl
@[simp] theorem State.setChan_faults (s : State) (c : Fin 16) (f : Channel → Channel) : (s.setChan c f).faults = s.faults := rfl
@[simp] theorem State.setChan_notices (s : State) (c : Fin 16) (f : Channel → Channel) : (s.setChan c f).notices = s.notices := rfl
@[simp] theorem State.setChan_ctl (s : State) (c : Fin 16) (f : Channel → Channel) : (s.setChan c f).ctl = s.ctl := rfl
@[simp] theorem State.setChan_time (s : State) (c : Fin 16) (f : Channel → Channel) : (s.setChan c f).time = s.time := rfl
@[simp] theorem State.setChan_stamp (s : State) (c : Fin 16) (f : Channel → Channel) : (s.setChan c f).stamp = s.stamp := rfl
@[simp] theorem State.setChan_free (s : State) (c : Fin 16) (f : Channel → Channel) : (s.setChan c f).free = s.free := rfl

@[simp] theorem State.setKey_pending (s : State) (k : Fin 32) (f : KeySlot → KeySlot) : (s.setKey k f).pending = s.pending := rfl
@[simp] theorem State.setKey_line (s : State) (k : Fin 32) (f : KeySlot → KeySlot) : (s.setKey k f).line = s.line := rfl
@[simp] theorem State.setKey_wrstnToo (s : State) (k : Fin 32) (f : KeySlot → KeySlot) : (s.setKey k f).wrstnToo = s.wrstnToo := rfl
@[simp] theorem State.setKey_straps (s : State) (k : Fin 32) (f : KeySlot → KeySlot) : (s.setKey k f).straps = s.straps := rfl
@[simp] theorem State.setKey_fuses (s : State) (k : Fin 32) (f : KeySlot → KeySlot) : (s.setKey k f).fuses = s.fuses := rfl
@[simp] theorem State.setKey_windows (s : State) (k : Fin 32) (f : KeySlot → KeySlot) : (s.setKey k f).windows = s.windows := rfl
@[simp] theorem State.setKey_classes (s : State) (k : Fin 32) (f : KeySlot → KeySlot) : (s.setKey k f).classes = s.classes := rfl
@[simp] theorem State.setKey_pool (s : State) (k : Fin 32) (f : KeySlot → KeySlot) : (s.setKey k f).pool = s.pool := rfl
@[simp] theorem State.setKey_bus (s : State) (k : Fin 32) (f : KeySlot → KeySlot) : (s.setKey k f).bus = s.bus := rfl
@[simp] theorem State.setKey_ks (s : State) (k : Fin 32) (f : KeySlot → KeySlot) : (s.setKey k f).ks = s.ks := rfl
@[simp] theorem State.setKey_merges (s : State) (k : Fin 32) (f : KeySlot → KeySlot) : (s.setKey k f).merges = s.merges := rfl
@[simp] theorem State.setKey_channels (s : State) (k : Fin 32) (f : KeySlot → KeySlot) : (s.setKey k f).channels = s.channels := rfl
@[simp] theorem State.setKey_meterA (s : State) (k : Fin 32) (f : KeySlot → KeySlot) : (s.setKey k f).meterA = s.meterA := rfl
@[simp] theorem State.setKey_meterB (s : State) (k : Fin 32) (f : KeySlot → KeySlot) : (s.setKey k f).meterB = s.meterB := rfl
@[simp] theorem State.setKey_faults (s : State) (k : Fin 32) (f : KeySlot → KeySlot) : (s.setKey k f).faults = s.faults := rfl
@[simp] theorem State.setKey_notices (s : State) (k : Fin 32) (f : KeySlot → KeySlot) : (s.setKey k f).notices = s.notices := rfl
@[simp] theorem State.setKey_ctl (s : State) (k : Fin 32) (f : KeySlot → KeySlot) : (s.setKey k f).ctl = s.ctl := rfl
@[simp] theorem State.setKey_time (s : State) (k : Fin 32) (f : KeySlot → KeySlot) : (s.setKey k f).time = s.time := rfl
@[simp] theorem State.setKey_stamp (s : State) (k : Fin 32) (f : KeySlot → KeySlot) : (s.setKey k f).stamp = s.stamp := rfl
@[simp] theorem State.setKey_free (s : State) (k : Fin 32) (f : KeySlot → KeySlot) : (s.setKey k f).free = s.free := rfl

@[simp] theorem State.dropMerges_pending (s : State) (n : Nat) : (s.dropMerges n).pending = s.pending := rfl
@[simp] theorem State.dropMerges_line (s : State) (n : Nat) : (s.dropMerges n).line = s.line := rfl
@[simp] theorem State.dropMerges_wrstnToo (s : State) (n : Nat) : (s.dropMerges n).wrstnToo = s.wrstnToo := rfl
@[simp] theorem State.dropMerges_straps (s : State) (n : Nat) : (s.dropMerges n).straps = s.straps := rfl
@[simp] theorem State.dropMerges_fuses (s : State) (n : Nat) : (s.dropMerges n).fuses = s.fuses := rfl
@[simp] theorem State.dropMerges_windows (s : State) (n : Nat) : (s.dropMerges n).windows = s.windows := rfl
@[simp] theorem State.dropMerges_classes (s : State) (n : Nat) : (s.dropMerges n).classes = s.classes := rfl
@[simp] theorem State.dropMerges_pool (s : State) (n : Nat) : (s.dropMerges n).pool = s.pool := rfl
@[simp] theorem State.dropMerges_bus (s : State) (n : Nat) : (s.dropMerges n).bus = s.bus := rfl
@[simp] theorem State.dropMerges_ks (s : State) (n : Nat) : (s.dropMerges n).ks = s.ks := rfl
@[simp] theorem State.dropMerges_channels (s : State) (n : Nat) : (s.dropMerges n).channels = s.channels := rfl
@[simp] theorem State.dropMerges_meterA (s : State) (n : Nat) : (s.dropMerges n).meterA = s.meterA := rfl
@[simp] theorem State.dropMerges_meterB (s : State) (n : Nat) : (s.dropMerges n).meterB = s.meterB := rfl
@[simp] theorem State.dropMerges_keys (s : State) (n : Nat) : (s.dropMerges n).keys = s.keys := rfl
@[simp] theorem State.dropMerges_faults (s : State) (n : Nat) : (s.dropMerges n).faults = s.faults := rfl
@[simp] theorem State.dropMerges_notices (s : State) (n : Nat) : (s.dropMerges n).notices = s.notices := rfl
@[simp] theorem State.dropMerges_ctl (s : State) (n : Nat) : (s.dropMerges n).ctl = s.ctl := rfl
@[simp] theorem State.dropMerges_time (s : State) (n : Nat) : (s.dropMerges n).time = s.time := rfl
@[simp] theorem State.dropMerges_stamp (s : State) (n : Nat) : (s.dropMerges n).stamp = s.stamp := rfl
@[simp] theorem State.dropMerges_free (s : State) (n : Nat) : (s.dropMerges n).free = s.free := rfl

@[simp] theorem State.clearValid_pending (s : State) (n : Nat) : (s.clearValid n).pending = s.pending := rfl
@[simp] theorem State.clearValid_line (s : State) (n : Nat) : (s.clearValid n).line = s.line := rfl
@[simp] theorem State.clearValid_wrstnToo (s : State) (n : Nat) : (s.clearValid n).wrstnToo = s.wrstnToo := rfl
@[simp] theorem State.clearValid_straps (s : State) (n : Nat) : (s.clearValid n).straps = s.straps := rfl
@[simp] theorem State.clearValid_fuses (s : State) (n : Nat) : (s.clearValid n).fuses = s.fuses := rfl
@[simp] theorem State.clearValid_windows (s : State) (n : Nat) : (s.clearValid n).windows = s.windows := rfl
@[simp] theorem State.clearValid_classes (s : State) (n : Nat) : (s.clearValid n).classes = s.classes := rfl
@[simp] theorem State.clearValid_bus (s : State) (n : Nat) : (s.clearValid n).bus = s.bus := rfl
@[simp] theorem State.clearValid_ks (s : State) (n : Nat) : (s.clearValid n).ks = s.ks := rfl
@[simp] theorem State.clearValid_channels (s : State) (n : Nat) : (s.clearValid n).channels = s.channels := rfl
@[simp] theorem State.clearValid_meterA (s : State) (n : Nat) : (s.clearValid n).meterA = s.meterA := rfl
@[simp] theorem State.clearValid_meterB (s : State) (n : Nat) : (s.clearValid n).meterB = s.meterB := rfl
@[simp] theorem State.clearValid_keys (s : State) (n : Nat) : (s.clearValid n).keys = s.keys := rfl
@[simp] theorem State.clearValid_faults (s : State) (n : Nat) : (s.clearValid n).faults = s.faults := rfl
@[simp] theorem State.clearValid_notices (s : State) (n : Nat) : (s.clearValid n).notices = s.notices := rfl
@[simp] theorem State.clearValid_ctl (s : State) (n : Nat) : (s.clearValid n).ctl = s.ctl := rfl
@[simp] theorem State.clearValid_time (s : State) (n : Nat) : (s.clearValid n).time = s.time := rfl
@[simp] theorem State.clearValid_stamp (s : State) (n : Nat) : (s.clearValid n).stamp = s.stamp := rfl
@[simp] theorem State.clearValid_free (s : State) (n : Nat) : (s.clearValid n).free = s.free := rfl

@[simp] theorem State.askMul_pending (s : State) (r : MulReq) : (s.askMul r).pending = s.pending := rfl
@[simp] theorem State.askMul_line (s : State) (r : MulReq) : (s.askMul r).line = s.line := rfl
@[simp] theorem State.askMul_wrstnToo (s : State) (r : MulReq) : (s.askMul r).wrstnToo = s.wrstnToo := rfl
@[simp] theorem State.askMul_straps (s : State) (r : MulReq) : (s.askMul r).straps = s.straps := rfl
@[simp] theorem State.askMul_fuses (s : State) (r : MulReq) : (s.askMul r).fuses = s.fuses := rfl
@[simp] theorem State.askMul_windows (s : State) (r : MulReq) : (s.askMul r).windows = s.windows := rfl
@[simp] theorem State.askMul_classes (s : State) (r : MulReq) : (s.askMul r).classes = s.classes := rfl
@[simp] theorem State.askMul_pool (s : State) (r : MulReq) : (s.askMul r).pool = s.pool := rfl
@[simp] theorem State.askMul_bus (s : State) (r : MulReq) : (s.askMul r).bus = s.bus := rfl
@[simp] theorem State.askMul_merges (s : State) (r : MulReq) : (s.askMul r).merges = s.merges := rfl
@[simp] theorem State.askMul_channels (s : State) (r : MulReq) : (s.askMul r).channels = s.channels := rfl
@[simp] theorem State.askMul_meterA (s : State) (r : MulReq) : (s.askMul r).meterA = s.meterA := rfl
@[simp] theorem State.askMul_meterB (s : State) (r : MulReq) : (s.askMul r).meterB = s.meterB := rfl
@[simp] theorem State.askMul_keys (s : State) (r : MulReq) : (s.askMul r).keys = s.keys := rfl
@[simp] theorem State.askMul_faults (s : State) (r : MulReq) : (s.askMul r).faults = s.faults := rfl
@[simp] theorem State.askMul_notices (s : State) (r : MulReq) : (s.askMul r).notices = s.notices := rfl
@[simp] theorem State.askMul_ctl (s : State) (r : MulReq) : (s.askMul r).ctl = s.ctl := rfl
@[simp] theorem State.askMul_time (s : State) (r : MulReq) : (s.askMul r).time = s.time := rfl
@[simp] theorem State.askMul_stamp (s : State) (r : MulReq) : (s.askMul r).stamp = s.stamp := rfl
@[simp] theorem State.askMul_free (s : State) (r : MulReq) : (s.askMul r).free = s.free := rfl

@[simp] theorem State.askCipher_pending (s : State) (r : BgReq) : (s.askCipher r).pending = s.pending := rfl
@[simp] theorem State.askCipher_line (s : State) (r : BgReq) : (s.askCipher r).line = s.line := rfl
@[simp] theorem State.askCipher_wrstnToo (s : State) (r : BgReq) : (s.askCipher r).wrstnToo = s.wrstnToo := rfl
@[simp] theorem State.askCipher_straps (s : State) (r : BgReq) : (s.askCipher r).straps = s.straps := rfl
@[simp] theorem State.askCipher_fuses (s : State) (r : BgReq) : (s.askCipher r).fuses = s.fuses := rfl
@[simp] theorem State.askCipher_windows (s : State) (r : BgReq) : (s.askCipher r).windows = s.windows := rfl
@[simp] theorem State.askCipher_classes (s : State) (r : BgReq) : (s.askCipher r).classes = s.classes := rfl
@[simp] theorem State.askCipher_pool (s : State) (r : BgReq) : (s.askCipher r).pool = s.pool := rfl
@[simp] theorem State.askCipher_bus (s : State) (r : BgReq) : (s.askCipher r).bus = s.bus := rfl
@[simp] theorem State.askCipher_merges (s : State) (r : BgReq) : (s.askCipher r).merges = s.merges := rfl
@[simp] theorem State.askCipher_channels (s : State) (r : BgReq) : (s.askCipher r).channels = s.channels := rfl
@[simp] theorem State.askCipher_meterA (s : State) (r : BgReq) : (s.askCipher r).meterA = s.meterA := rfl
@[simp] theorem State.askCipher_meterB (s : State) (r : BgReq) : (s.askCipher r).meterB = s.meterB := rfl
@[simp] theorem State.askCipher_keys (s : State) (r : BgReq) : (s.askCipher r).keys = s.keys := rfl
@[simp] theorem State.askCipher_faults (s : State) (r : BgReq) : (s.askCipher r).faults = s.faults := rfl
@[simp] theorem State.askCipher_notices (s : State) (r : BgReq) : (s.askCipher r).notices = s.notices := rfl
@[simp] theorem State.askCipher_ctl (s : State) (r : BgReq) : (s.askCipher r).ctl = s.ctl := rfl
@[simp] theorem State.askCipher_time (s : State) (r : BgReq) : (s.askCipher r).time = s.time := rfl
@[simp] theorem State.askCipher_stamp (s : State) (r : BgReq) : (s.askCipher r).stamp = s.stamp := rfl
@[simp] theorem State.askCipher_free (s : State) (r : BgReq) : (s.askCipher r).free = s.free := rfl

@[simp] theorem State.setMisses_pending (s : State) (l : List MissEntry) : (s.setMisses l).pending = s.pending := rfl
@[simp] theorem State.setMisses_line (s : State) (l : List MissEntry) : (s.setMisses l).line = s.line := rfl
@[simp] theorem State.setMisses_wrstnToo (s : State) (l : List MissEntry) : (s.setMisses l).wrstnToo = s.wrstnToo := rfl
@[simp] theorem State.setMisses_straps (s : State) (l : List MissEntry) : (s.setMisses l).straps = s.straps := rfl
@[simp] theorem State.setMisses_fuses (s : State) (l : List MissEntry) : (s.setMisses l).fuses = s.fuses := rfl
@[simp] theorem State.setMisses_windows (s : State) (l : List MissEntry) : (s.setMisses l).windows = s.windows := rfl
@[simp] theorem State.setMisses_classes (s : State) (l : List MissEntry) : (s.setMisses l).classes = s.classes := rfl
@[simp] theorem State.setMisses_pool (s : State) (l : List MissEntry) : (s.setMisses l).pool = s.pool := rfl
@[simp] theorem State.setMisses_bus (s : State) (l : List MissEntry) : (s.setMisses l).bus = s.bus := rfl
@[simp] theorem State.setMisses_merges (s : State) (l : List MissEntry) : (s.setMisses l).merges = s.merges := rfl
@[simp] theorem State.setMisses_channels (s : State) (l : List MissEntry) : (s.setMisses l).channels = s.channels := rfl
@[simp] theorem State.setMisses_meterA (s : State) (l : List MissEntry) : (s.setMisses l).meterA = s.meterA := rfl
@[simp] theorem State.setMisses_meterB (s : State) (l : List MissEntry) : (s.setMisses l).meterB = s.meterB := rfl
@[simp] theorem State.setMisses_keys (s : State) (l : List MissEntry) : (s.setMisses l).keys = s.keys := rfl
@[simp] theorem State.setMisses_faults (s : State) (l : List MissEntry) : (s.setMisses l).faults = s.faults := rfl
@[simp] theorem State.setMisses_notices (s : State) (l : List MissEntry) : (s.setMisses l).notices = s.notices := rfl
@[simp] theorem State.setMisses_ctl (s : State) (l : List MissEntry) : (s.setMisses l).ctl = s.ctl := rfl
@[simp] theorem State.setMisses_time (s : State) (l : List MissEntry) : (s.setMisses l).time = s.time := rfl
@[simp] theorem State.setMisses_stamp (s : State) (l : List MissEntry) : (s.setMisses l).stamp = s.stamp := rfl
@[simp] theorem State.setMisses_free (s : State) (l : List MissEntry) : (s.setMisses l).free = s.free := rfl

@[simp] theorem State.setOverflow_pending (s : State) (l : List OverflowBeat) : (s.setOverflow l).pending = s.pending := rfl
@[simp] theorem State.setOverflow_line (s : State) (l : List OverflowBeat) : (s.setOverflow l).line = s.line := rfl
@[simp] theorem State.setOverflow_wrstnToo (s : State) (l : List OverflowBeat) : (s.setOverflow l).wrstnToo = s.wrstnToo := rfl
@[simp] theorem State.setOverflow_straps (s : State) (l : List OverflowBeat) : (s.setOverflow l).straps = s.straps := rfl
@[simp] theorem State.setOverflow_fuses (s : State) (l : List OverflowBeat) : (s.setOverflow l).fuses = s.fuses := rfl
@[simp] theorem State.setOverflow_windows (s : State) (l : List OverflowBeat) : (s.setOverflow l).windows = s.windows := rfl
@[simp] theorem State.setOverflow_classes (s : State) (l : List OverflowBeat) : (s.setOverflow l).classes = s.classes := rfl
@[simp] theorem State.setOverflow_pool (s : State) (l : List OverflowBeat) : (s.setOverflow l).pool = s.pool := rfl
@[simp] theorem State.setOverflow_bus (s : State) (l : List OverflowBeat) : (s.setOverflow l).bus = s.bus := rfl
@[simp] theorem State.setOverflow_merges (s : State) (l : List OverflowBeat) : (s.setOverflow l).merges = s.merges := rfl
@[simp] theorem State.setOverflow_channels (s : State) (l : List OverflowBeat) : (s.setOverflow l).channels = s.channels := rfl
@[simp] theorem State.setOverflow_meterA (s : State) (l : List OverflowBeat) : (s.setOverflow l).meterA = s.meterA := rfl
@[simp] theorem State.setOverflow_meterB (s : State) (l : List OverflowBeat) : (s.setOverflow l).meterB = s.meterB := rfl
@[simp] theorem State.setOverflow_keys (s : State) (l : List OverflowBeat) : (s.setOverflow l).keys = s.keys := rfl
@[simp] theorem State.setOverflow_faults (s : State) (l : List OverflowBeat) : (s.setOverflow l).faults = s.faults := rfl
@[simp] theorem State.setOverflow_notices (s : State) (l : List OverflowBeat) : (s.setOverflow l).notices = s.notices := rfl
@[simp] theorem State.setOverflow_ctl (s : State) (l : List OverflowBeat) : (s.setOverflow l).ctl = s.ctl := rfl
@[simp] theorem State.setOverflow_time (s : State) (l : List OverflowBeat) : (s.setOverflow l).time = s.time := rfl
@[simp] theorem State.setOverflow_stamp (s : State) (l : List OverflowBeat) : (s.setOverflow l).stamp = s.stamp := rfl
@[simp] theorem State.setOverflow_free (s : State) (l : List OverflowBeat) : (s.setOverflow l).free = s.free := rfl

@[simp] theorem State.setCipher_pending (s : State) (g : Option CipherGrant) : (s.setCipher g).pending = s.pending := rfl
@[simp] theorem State.setCipher_line (s : State) (g : Option CipherGrant) : (s.setCipher g).line = s.line := rfl
@[simp] theorem State.setCipher_wrstnToo (s : State) (g : Option CipherGrant) : (s.setCipher g).wrstnToo = s.wrstnToo := rfl
@[simp] theorem State.setCipher_straps (s : State) (g : Option CipherGrant) : (s.setCipher g).straps = s.straps := rfl
@[simp] theorem State.setCipher_fuses (s : State) (g : Option CipherGrant) : (s.setCipher g).fuses = s.fuses := rfl
@[simp] theorem State.setCipher_windows (s : State) (g : Option CipherGrant) : (s.setCipher g).windows = s.windows := rfl
@[simp] theorem State.setCipher_classes (s : State) (g : Option CipherGrant) : (s.setCipher g).classes = s.classes := rfl
@[simp] theorem State.setCipher_pool (s : State) (g : Option CipherGrant) : (s.setCipher g).pool = s.pool := rfl
@[simp] theorem State.setCipher_bus (s : State) (g : Option CipherGrant) : (s.setCipher g).bus = s.bus := rfl
@[simp] theorem State.setCipher_merges (s : State) (g : Option CipherGrant) : (s.setCipher g).merges = s.merges := rfl
@[simp] theorem State.setCipher_channels (s : State) (g : Option CipherGrant) : (s.setCipher g).channels = s.channels := rfl
@[simp] theorem State.setCipher_meterA (s : State) (g : Option CipherGrant) : (s.setCipher g).meterA = s.meterA := rfl
@[simp] theorem State.setCipher_meterB (s : State) (g : Option CipherGrant) : (s.setCipher g).meterB = s.meterB := rfl
@[simp] theorem State.setCipher_keys (s : State) (g : Option CipherGrant) : (s.setCipher g).keys = s.keys := rfl
@[simp] theorem State.setCipher_faults (s : State) (g : Option CipherGrant) : (s.setCipher g).faults = s.faults := rfl
@[simp] theorem State.setCipher_notices (s : State) (g : Option CipherGrant) : (s.setCipher g).notices = s.notices := rfl
@[simp] theorem State.setCipher_ctl (s : State) (g : Option CipherGrant) : (s.setCipher g).ctl = s.ctl := rfl
@[simp] theorem State.setCipher_time (s : State) (g : Option CipherGrant) : (s.setCipher g).time = s.time := rfl
@[simp] theorem State.setCipher_stamp (s : State) (g : Option CipherGrant) : (s.setCipher g).stamp = s.stamp := rfl
@[simp] theorem State.setCipher_free (s : State) (g : Option CipherGrant) : (s.setCipher g).free = s.free := rfl

@[simp] theorem State.setCtl_pending (s : State) (f : ControlUnit → ControlUnit) : (s.setCtl f).pending = s.pending := rfl
@[simp] theorem State.setCtl_line (s : State) (f : ControlUnit → ControlUnit) : (s.setCtl f).line = s.line := rfl
@[simp] theorem State.setCtl_wrstnToo (s : State) (f : ControlUnit → ControlUnit) : (s.setCtl f).wrstnToo = s.wrstnToo := rfl
@[simp] theorem State.setCtl_straps (s : State) (f : ControlUnit → ControlUnit) : (s.setCtl f).straps = s.straps := rfl
@[simp] theorem State.setCtl_fuses (s : State) (f : ControlUnit → ControlUnit) : (s.setCtl f).fuses = s.fuses := rfl
@[simp] theorem State.setCtl_windows (s : State) (f : ControlUnit → ControlUnit) : (s.setCtl f).windows = s.windows := rfl
@[simp] theorem State.setCtl_classes (s : State) (f : ControlUnit → ControlUnit) : (s.setCtl f).classes = s.classes := rfl
@[simp] theorem State.setCtl_pool (s : State) (f : ControlUnit → ControlUnit) : (s.setCtl f).pool = s.pool := rfl
@[simp] theorem State.setCtl_bus (s : State) (f : ControlUnit → ControlUnit) : (s.setCtl f).bus = s.bus := rfl
@[simp] theorem State.setCtl_ks (s : State) (f : ControlUnit → ControlUnit) : (s.setCtl f).ks = s.ks := rfl
@[simp] theorem State.setCtl_merges (s : State) (f : ControlUnit → ControlUnit) : (s.setCtl f).merges = s.merges := rfl
@[simp] theorem State.setCtl_channels (s : State) (f : ControlUnit → ControlUnit) : (s.setCtl f).channels = s.channels := rfl
@[simp] theorem State.setCtl_meterA (s : State) (f : ControlUnit → ControlUnit) : (s.setCtl f).meterA = s.meterA := rfl
@[simp] theorem State.setCtl_meterB (s : State) (f : ControlUnit → ControlUnit) : (s.setCtl f).meterB = s.meterB := rfl
@[simp] theorem State.setCtl_keys (s : State) (f : ControlUnit → ControlUnit) : (s.setCtl f).keys = s.keys := rfl
@[simp] theorem State.setCtl_faults (s : State) (f : ControlUnit → ControlUnit) : (s.setCtl f).faults = s.faults := rfl
@[simp] theorem State.setCtl_notices (s : State) (f : ControlUnit → ControlUnit) : (s.setCtl f).notices = s.notices := rfl
@[simp] theorem State.setCtl_time (s : State) (f : ControlUnit → ControlUnit) : (s.setCtl f).time = s.time := rfl
@[simp] theorem State.setCtl_stamp (s : State) (f : ControlUnit → ControlUnit) : (s.setCtl f).stamp = s.stamp := rfl
@[simp] theorem State.setCtl_free (s : State) (f : ControlUnit → ControlUnit) : (s.setCtl f).free = s.free := rfl

@[simp] theorem State.putWindow_pending (s : State) (i : Fin 16) (w : Option Window) (p : List (Nat × SlotRec)) : (s.putWindow i w p).pending = s.pending := rfl
@[simp] theorem State.putWindow_line (s : State) (i : Fin 16) (w : Option Window) (p : List (Nat × SlotRec)) : (s.putWindow i w p).line = s.line := rfl
@[simp] theorem State.putWindow_wrstnToo (s : State) (i : Fin 16) (w : Option Window) (p : List (Nat × SlotRec)) : (s.putWindow i w p).wrstnToo = s.wrstnToo := rfl
@[simp] theorem State.putWindow_straps (s : State) (i : Fin 16) (w : Option Window) (p : List (Nat × SlotRec)) : (s.putWindow i w p).straps = s.straps := rfl
@[simp] theorem State.putWindow_fuses (s : State) (i : Fin 16) (w : Option Window) (p : List (Nat × SlotRec)) : (s.putWindow i w p).fuses = s.fuses := rfl
@[simp] theorem State.putWindow_classes (s : State) (i : Fin 16) (w : Option Window) (p : List (Nat × SlotRec)) : (s.putWindow i w p).classes = s.classes := rfl
@[simp] theorem State.putWindow_bus (s : State) (i : Fin 16) (w : Option Window) (p : List (Nat × SlotRec)) : (s.putWindow i w p).bus = s.bus := rfl
@[simp] theorem State.putWindow_ks (s : State) (i : Fin 16) (w : Option Window) (p : List (Nat × SlotRec)) : (s.putWindow i w p).ks = s.ks := rfl
@[simp] theorem State.putWindow_merges (s : State) (i : Fin 16) (w : Option Window) (p : List (Nat × SlotRec)) : (s.putWindow i w p).merges = s.merges := rfl
@[simp] theorem State.putWindow_channels (s : State) (i : Fin 16) (w : Option Window) (p : List (Nat × SlotRec)) : (s.putWindow i w p).channels = s.channels := rfl
@[simp] theorem State.putWindow_meterA (s : State) (i : Fin 16) (w : Option Window) (p : List (Nat × SlotRec)) : (s.putWindow i w p).meterA = s.meterA := rfl
@[simp] theorem State.putWindow_meterB (s : State) (i : Fin 16) (w : Option Window) (p : List (Nat × SlotRec)) : (s.putWindow i w p).meterB = s.meterB := rfl
@[simp] theorem State.putWindow_keys (s : State) (i : Fin 16) (w : Option Window) (p : List (Nat × SlotRec)) : (s.putWindow i w p).keys = s.keys := rfl
@[simp] theorem State.putWindow_faults (s : State) (i : Fin 16) (w : Option Window) (p : List (Nat × SlotRec)) : (s.putWindow i w p).faults = s.faults := rfl
@[simp] theorem State.putWindow_notices (s : State) (i : Fin 16) (w : Option Window) (p : List (Nat × SlotRec)) : (s.putWindow i w p).notices = s.notices := rfl
@[simp] theorem State.putWindow_ctl (s : State) (i : Fin 16) (w : Option Window) (p : List (Nat × SlotRec)) : (s.putWindow i w p).ctl = s.ctl := rfl
@[simp] theorem State.putWindow_time (s : State) (i : Fin 16) (w : Option Window) (p : List (Nat × SlotRec)) : (s.putWindow i w p).time = s.time := rfl
@[simp] theorem State.putWindow_stamp (s : State) (i : Fin 16) (w : Option Window) (p : List (Nat × SlotRec)) : (s.putWindow i w p).stamp = s.stamp := rfl
@[simp] theorem State.putWindow_free (s : State) (i : Fin 16) (w : Option Window) (p : List (Nat × SlotRec)) : (s.putWindow i w p).free = s.free := rfl

/-! ## The field an update writes -/

@[simp] theorem State.bump_stamp (s : State) : s.bump.stamp = s.stamp + 1 := rfl
@[simp] theorem State.setTransit_bus (s : State) (l : List TransitEntry) :
    (s.setTransit l).bus = { s.bus with transit := l } := rfl
@[simp] theorem State.setInj_bus (s : State) (l : List InjEntry) : (s.setInj l).bus = { s.bus with inj := l } := rfl
@[simp] theorem State.respond_bus (s : State) (r : UpResponse) :
    (s.respond r).bus = { s.bus with up := r :: s.bus.up } := rfl
@[simp] theorem State.ask_bus (s : State) (r : InjReq) :
    (s.ask r).bus = { s.bus with injAsked := s.bus.injAsked ++ [r] } := rfl
@[simp] theorem State.setCtl_ctl (s : State) (f : ControlUnit → ControlUnit) : (s.setCtl f).ctl = f s.ctl := rfl
@[simp] theorem State.setProto_notices (s : State) (l : List ProtoEntry) :
    (s.setProto l).notices = { s.notices with list := l } := rfl
@[simp] theorem State.putWindow_windows (s : State) (i : Fin 16) (w : Option Window) (p : List (Nat × SlotRec)) :
    (s.putWindow i w p).windows = s.windows.set i w := rfl
@[simp] theorem State.putWindow_pool (s : State) (i : Fin 16) (w : Option Window) (p : List (Nat × SlotRec)) :
    (s.putWindow i w p).pool = p := rfl

/-! ## Reading a table after a write -/

/-- A channel record after a change of one. -/
theorem State.chan_setChan (s : State) (c d : Fin 16) (f : Channel → Channel) :
    (s.setChan c f).chan d = if d = c then f (s.chan c) else s.chan d := by
  unfold State.chan State.setChan
  by_cases h : d = c
  · subst h; simp
  · rw [if_neg h]
    have hv : c.val ≠ d.val := fun e => h (Fin.ext e.symm)
    simpa using Vector.getElem_set_ne (xs := s.channels) (x := f s.channels[c]) c.isLt d.isLt hv

@[simp] theorem State.chan_setChan_self (s : State) (c : Fin 16) (f : Channel → Channel) :
    (s.setChan c f).chan c = f (s.chan c) := by simp [State.chan_setChan]

/-- A key slot after a change of one. -/
theorem State.key_setKey (s : State) (k j : Fin 32) (f : KeySlot → KeySlot) :
    (s.setKey k f).key j = if j = k then f (s.key k) else s.key j := by
  unfold State.key State.setKey
  by_cases h : j = k
  · subst h; simp
  · rw [if_neg h]
    have hv : k.val ≠ j.val := fun e => h (Fin.ext e.symm)
    simpa using Vector.getElem_set_ne (xs := s.keys.slots) (x := f s.keys.slots[k]) k.isLt j.isLt hv

@[simp] theorem State.key_setKey_self (s : State) (k : Fin 32) (f : KeySlot → KeySlot) :
    (s.setKey k f).key k = f (s.key k) := by simp [State.key_setKey]

/-- Looking a number up in a list in which every second part may have been changed. -/
theorem lookup_map_second (l : List (Nat × SlotRec)) (n m : Nat) (f : SlotRec → SlotRec) :
    (l.map fun p => if p.1 == n then (p.1, f p.2) else p).lookup m =
      if m = n then (l.lookup m).map f else l.lookup m := by
  induction l with
  | nil => simp
  | cons p l ih =>
    obtain ⟨a, r⟩ := p
    rw [List.map_cons]
    by_cases ha : a = n
    · subst ha
      by_cases hm : m = a
      · subst hm; simp
      · have hb : (m == a) = false := by simpa using hm
        simp only [beq_self_eq_true, if_true, List.lookup_cons, hb, ih, if_neg hm]
    · have hb : (a == n) = false := by simpa using ha
      by_cases hm : m = a
      · subst hm; simp [ha]
      · have hc : (m == a) = false := by simpa using hm
        simp only [hb, Bool.false_eq_true, if_false, List.lookup_cons, hc, ih]

/-- A slot record after a change of one. -/
theorem State.slotRec_setRec (s : State) (n m : Nat) (f : SlotRec → SlotRec) :
    (s.setRec n f).slotRec m = if m = n then (s.slotRec m).map f else s.slotRec m :=
  lookup_map_second s.pool n m f

@[simp] theorem State.slotRec_setRec_self (s : State) (n : Nat) (f : SlotRec → SlotRec) :
    (s.setRec n f).slotRec n = (s.slotRec n).map f := by simp [State.slotRec_setRec]

end Sys2Proof.Machine
end

