-- ==== Sys2Proof/Laws/Steady.lean ====
section
/-!
SUPPORT. Every shared operation leaves the settings of `State.steady` alone: the queue of commands, the reset lines and
pins, the window and class tables, the Time Base, the arbiter's count and the policy. Only the commands that write one of
them do so directly.
-/

namespace Sys2Proof.Machine

/-! ## Machine/Operands.lean and Machine/Ops.lean -/

@[simp] theorem State.bump_steady (s : State) : s.bump.steady = s.steady := rfl
@[simp] theorem State.setTransit_steady (s : State) (l : List TransitEntry) : (s.setTransit l).steady = s.steady := rfl
@[simp] theorem State.setInj_steady (s : State) (l : List InjEntry) : (s.setInj l).steady = s.steady := rfl
@[simp] theorem State.respond_steady (s : State) (r : UpResponse) : (s.respond r).steady = s.steady := rfl
@[simp] theorem State.answer_steady (s : State) (t : Transaction) (ok : Bool) : (s.answer t ok).steady = s.steady := rfl
@[simp] theorem State.ask_steady (s : State) (r : InjReq) : (s.ask r).steady = s.steady := rfl
@[simp] theorem State.askSlot_steady (s : State) (op : InjOp) (u : Fin 5) (r : SlotRec) (off : Nat) (a : Access) :
    (s.askSlot op u r off a).steady = s.steady := rfl
@[simp] theorem State.askPage_steady (s : State) (op : InjOp) (off : Nat) (a : Access) :
    (s.askPage op off a).steady = s.steady := rfl
@[simp] theorem State.freeInj_steady (s : State) (id : Nat) : (s.freeInj id).steady = s.steady := rfl
@[simp] theorem State.freeTransit_steady (s : State) (id : Nat) : (s.freeTransit id).steady = s.steady := rfl
@[simp] theorem State.setEntry_steady (s : State) (id : Nat) (f : TransitEntry → TransitEntry) :
    (s.setEntry id f).steady = s.steady := rfl
@[simp] theorem State.setRec_steady (s : State) (n : Nat) (f : SlotRec → SlotRec) :
    (s.setRec n f).steady = s.steady := rfl
@[simp] theorem State.setChan_steady (s : State) (c : Fin 16) (f : Channel → Channel) :
    (s.setChan c f).steady = s.steady := rfl
@[simp] theorem State.setKey_steady (s : State) (k : Fin 32) (f : KeySlot → KeySlot) :
    (s.setKey k f).steady = s.steady := rfl
@[simp] theorem State.setMeter_steady (s : State) (l : Link) (f : Meter → Meter) :
    (s.setMeter l f).steady = s.steady := by
  cases l <;> rfl
@[simp] theorem State.loseReport_steady (s : State) : s.loseReport.steady = s.steady := by
  unfold State.loseReport; dsimp only; (repeat' split) <;> rfl
@[simp] theorem State.askRecord_steady (s : State) (r : Report) : (s.askRecord r).steady = s.steady := by
  unfold State.askRecord; (repeat' split) <;> simp
theorem State.reportTurns_steady (l : List Report) (s : State) : (State.reportTurns l s).steady = s.steady := by
  induction l generalizing s with
  | nil => rfl
  | cons r l ih =>
    unfold State.reportTurns
    (repeat' split) <;> first | rfl | simp [ih]

@[simp] theorem State.reportTurn_steady (s : State) : s.reportTurn.steady = s.steady := by
  simp [State.reportTurn, State.reportTurns_steady]
@[simp] theorem State.handReport_steady (s : State) (r : Report) : (s.handReport r).steady = s.steady := by
  unfold State.handReport; split
  · rw [State.reportTurn_steady]; rfl
  · simp
@[simp] theorem State.reportFault_steady (s : State) (e : FaultEntry) : (s.reportFault e).steady = s.steady := by
  unfold State.reportFault; (repeat' split) <;> simp
@[simp] theorem State.putFault_steady (s : State) (i : Fin 32) (e : Option FaultEntry) :
    (s.putFault i e).steady = s.steady := rfl
@[simp] theorem State.bumpUpdates_steady (s : State) : s.bumpUpdates.steady = s.steady := rfl
@[simp] theorem State.raiseLost_steady (s : State) (n : Nat) : (s.raiseLost n).steady = s.steady := rfl
@[simp] theorem State.countIn_steady (s : State) (o : Occurrence) (i : Fin 32) (e : FaultEntry) :
    (s.countIn o i e).steady = s.steady := by
  unfold State.countIn; (repeat' split) <;> simp
@[simp] theorem State.fillFault_steady (s : State) (o : Occurrence) (i : Fin 32) :
    (s.fillFault o i).steady = s.steady := by
  simp [State.fillFault]
@[simp] theorem State.applyFault_steady (s : State) (o : Occurrence) : (s.applyFault o).steady = s.steady := by
  unfold State.applyFault; (repeat' split) <;> simp
@[simp] theorem State.escalate_steady (s : State) (o : Occurrence) : (s.escalate o).steady = s.steady := by
  unfold State.escalate; (repeat' split) <;> simp
@[simp] theorem State.recordFault_steady (s : State) (o : Occurrence) : (s.recordFault o).steady = s.steady := by
  simp [State.recordFault]
@[simp] theorem State.setProto_steady (s : State) (l : List ProtoEntry) : (s.setProto l).steady = s.steady := rfl
@[simp] theorem State.noticeBlocked_steady (s : State) (c : Fin 16) (w : Option (Fin 16)) (n : Option Nat) :
    (s.noticeBlocked c w n).steady = s.steady := by
  simp [State.noticeBlocked]
@[simp] theorem State.handProto_steady (s : State) (e : ProtoEntry) : (s.handProto e).steady = s.steady := by
  unfold State.handProto; (repeat' split) <;> simp
@[simp] theorem State.debit_steady (s : State) (c : Fin 16) (size : Nat) (w : Option (Fin 16)) (slot : Option Nat) (quiet : Bool) :
    (s.debit c size w slot quiet).steady = s.steady := by
  unfold State.debit; dsimp only; (repeat' split) <;> simp
@[simp] theorem State.deliver_steady (s : State) : s.deliver.steady = s.steady := rfl
@[simp] theorem State.enterInj_steady (s : State) (r : InjReq) : (s.enterInj r).steady = s.steady := by
  simp [State.enterInj]
@[simp] theorem State.placeInj_steady (s : State) (r : InjReq) : (s.placeInj r).steady = s.steady := by
  unfold State.placeInj; split
  · simp
  · rfl
/-- A fold of an operation that leaves the settings alone leaves them alone. -/
theorem foldl_steady {α : Type} (f : State → α → State) (h : ∀ s a, (f s a).steady = s.steady) (l : List α) (s : State) :
    (l.foldl f s).steady = s.steady := by
  induction l generalizing s with
  | nil => rfl
  | cons a l ih => simp [List.foldl_cons, ih, h]

@[simp] theorem State.placeAsked_steady (s : State) : s.placeAsked.steady = s.steady := by
  unfold State.placeAsked; rw [foldl_steady _ (fun s a => State.placeInj_steady s a)]; rfl
@[simp] theorem State.judgeHoldoff_steady (s : State) : s.judgeHoldoff.steady = s.steady := by
  unfold State.judgeHoldoff; (repeat' split) <;> rfl
@[simp] theorem State.judgeIrq_steady (s : State) : s.judgeIrq.steady = s.steady := rfl
@[simp] theorem State.settle_steady (s : State) : s.settle.steady = s.steady := by
  simp [State.settle]
/-! ## Machine/Frames.lean -/

@[simp] theorem State.clearValid_steady (s : State) (n : Nat) : (s.clearValid n).steady = s.steady := rfl
@[simp] theorem State.dropMerges_steady (s : State) (n : Nat) : (s.dropMerges n).steady = s.steady := rfl
@[simp] theorem State.askMul_steady (s : State) (r : MulReq) : (s.askMul r).steady = s.steady := rfl
@[simp] theorem State.askCipher_steady (s : State) (r : BgReq) : (s.askCipher r).steady = s.steady := rfl
@[simp] theorem State.fold_steady (s : State) (n b : Nat) (blk : Block) (whole : Bool) :
    (s.fold n b blk whole).steady = s.steady := by
  unfold State.fold; (repeat' split) <;> simp
@[simp] theorem State.evictMerge_steady (s : State) : s.evictMerge.steady = s.steady := by
  unfold State.evictMerge; (repeat' split) <;> simp
@[simp] theorem State.newMerge_steady (s : State) (n b : Nat) (bytes : List (Option Byte)) :
    (s.newMerge n b bytes).steady = s.steady := by
  unfold State.newMerge; dsimp only; (repeat' split) <;> first | rfl | exact State.evictMerge_steady s
@[simp] theorem State.mergeStep_steady (s : State) (n b : Nat) (bytes : List (Option Byte)) :
    (s.mergeStep n b bytes).steady = s.steady := by
  unfold State.mergeStep; dsimp only; (repeat' split) <;> first | rfl | exact State.fold_steady _ _ _ _ _ | exact State.newMerge_steady _ _ _ _
@[simp] theorem State.blockStep_steady (s : State) (e : TransitEntry) (b : Nat) :
    (s.blockStep e b).steady = s.steady := by
  unfold State.blockStep; (repeat' split) <;> first | rfl | simp; (repeat' split) <;> simp
@[simp] theorem State.serveBeat_steady (s : State) (w : Waiter) (ks : Block) : (s.serveBeat w ks).steady = s.steady := by
  unfold State.serveBeat; dsimp only; (repeat' split) <;> simp
@[simp] theorem State.withdrawBeat_steady (s : State) (w : Waiter) : (s.withdrawBeat w).steady = s.steady := rfl
@[simp] theorem State.setMisses_steady (s : State) (l : List MissEntry) : (s.setMisses l).steady = s.steady := rfl
@[simp] theorem State.setOverflow_steady (s : State) (l : List OverflowBeat) : (s.setOverflow l).steady = s.steady := rfl
@[simp] theorem State.lookupBeat_steady (s : State) (o : OverflowBeat) : (s.lookupBeat o).steady = s.steady := by
  unfold State.lookupBeat; (repeat' split) <;> simp
theorem State.serveOverflowList_steady (l : List OverflowBeat) (s : State) :
    (State.serveOverflowList l s).steady = s.steady := by
  induction l generalizing s with
  | nil => rfl
  | cons o l ih => unfold State.serveOverflowList; split <;> simp [ih]

@[simp] theorem State.serveOverflow_steady (s : State) : s.serveOverflow.steady = s.steady := by
  simp [State.serveOverflow, State.serveOverflowList_steady]
@[simp] theorem State.lookupBeats_steady (s : State) (e : TransitEntry) (key : Fin 32) (r : SlotRec) :
    (s.lookupBeats e key r).steady = s.steady := by
  exact foldl_steady _ (fun st p => by split <;> simp) _ _
@[simp] theorem State.setFinish_steady (s : State) (n : Nat) (f : Finish → Finish) :
    (s.setFinish n f).steady = s.steady := rfl
@[simp] theorem State.beginDirect_steady (s : State) (n : Nat) : (s.beginDirect n).steady = s.steady := by
  unfold State.beginDirect; (repeat' split) <;> simp
@[simp] theorem State.beginSweep_steady (s : State) (n : Nat) : (s.beginSweep n).steady = s.steady := by
  unfold State.beginSweep; dsimp only; (repeat' split) <;> first | rfl | skip
  all_goals simp; rw [foldl_steady _ (fun s a => by simp)]; simp
@[simp] theorem State.beginTail_steady (s : State) (n : Nat) : (s.beginTail n).steady = s.steady := by
  unfold State.beginTail; (repeat' split) <;> simp
@[simp] theorem State.beginFinish_steady (s : State) (n : Nat) : (s.beginFinish n).steady = s.steady := by
  unfold State.beginFinish; (repeat' split) <;> simp
@[simp] theorem State.askResult_steady (s : State) (n : Nat) : (s.askResult n).steady = s.steady := by
  unfold State.askResult; (repeat' split) <;> simp
/-! ## Machine/Store.lean -/

@[simp] theorem State.withdrawKeystream_steady (s : State) (k : Fin 32) : (s.withdrawKeystream k).steady = s.steady := by
  unfold State.withdrawKeystream; dsimp only; rw [State.serveOverflow_steady, foldl_steady _ State.withdrawBeat_steady]; rfl
@[simp] theorem State.keys_steady (s : State) (x : KeyStore) : ({ s with keys := x } : State).steady = s.steady := rfl

@[simp] theorem State.zeroise_steady (s : State) (k : Fin 32) : (s.zeroise k).steady = s.steady := by
  unfold State.zeroise; dsimp only; rw [State.keys_steady]; simp
@[simp] theorem State.judgeKey_steady (s : State) (k : Fin 32) : (s.judgeKey k).steady = s.steady := by
  unfold State.judgeKey; (repeat' split) <;> simp
@[simp] theorem State.takeRef_steady (s : State) (k : Fin 32) : (s.takeRef k).steady = s.steady := rfl
@[simp] theorem State.untakeRef_steady (s : State) (k : Fin 32) : (s.untakeRef k).steady = s.steady := rfl
@[simp] theorem State.dropRef_steady (s : State) (k : Fin 32) : (s.dropRef k).steady = s.steady := by
  simp [State.dropRef]
@[simp] theorem State.dropRefOf_steady (s : State) (k : Option (Fin 32)) : (s.dropRefOf k).steady = s.steady := by
  cases k <;> simp [State.dropRefOf]
theorem State.allocate_steady {s t : State} {c : Fin 16} {k : Fin 32} (h : s.allocate c = some (k, t)) :
    t.steady = s.steady := by
  unfold State.allocate at h
  split at h
  · cases h
  · cases h; rfl

@[simp] theorem State.spentCurrent_steady (s : State) (k : Fin 32) : (s.spentCurrent k).steady = s.steady := by
  unfold State.spentCurrent; (repeat' split) <;> simp
@[simp] theorem State.judgeSpent_steady (s : State) (k : Fin 32) : (s.judgeSpent k).steady = s.steady := by
  unfold State.judgeSpent; (repeat' split) <;> simp
@[simp] theorem State.judgeSoft_steady (s : State) (k : Fin 32) : (s.judgeSoft k).steady = s.steady := by
  unfold State.judgeSoft; (repeat' split) <;> simp
@[simp] theorem State.judgeMarks_steady (s : State) (k : Fin 32) : (s.judgeMarks k).steady = s.steady := by
  simp [State.judgeMarks]
@[simp] theorem State.takeSequence_steady (s : State) (k : Fin 32) : (s.takeSequence k).steady = s.steady := rfl
@[simp] theorem State.addBytes_steady (s : State) (k : Fin 32) (size : Nat) : (s.addBytes k size).steady = s.steady := by
  simp [State.addBytes]
@[simp] theorem State.freshen_steady (s : State) (n : Nat) : (s.freshen n).steady = s.steady := rfl
@[simp] theorem State.failRec_steady (s : State) (n : Nat) (why : Reason) : (s.failRec n why).steady = s.steady := by
  simp [State.failRec]
@[simp] theorem State.failOutbound_steady (s : State) (n : Nat) (why : Reason) :
    (s.failOutbound n why).steady = s.steady := by
  simp [State.failOutbound]
/-! ## Machine/Renewal.lean -/

@[simp] theorem State.keyEvent_steady (s : State) (c : Fin 16) (b : Bool) (k : Fin 32) :
    (s.keyEvent c b k).steady = s.steady := by
  simp [State.keyEvent]
@[simp] theorem State.dropRenewRequest_steady (s : State) (c : Fin 16) : (s.dropRenewRequest c).steady = s.steady := rfl
@[simp] theorem State.dropConfirmOf_steady (s : State) (k : Fin 32) : (s.dropConfirmOf k).steady = s.steady := rfl
@[simp] theorem State.judgePromoted_steady (s : State) (k : Fin 32) : (s.judgePromoted k).steady = s.steady := by
  unfold State.judgePromoted; (repeat' split) <;> simp
@[simp] theorem State.judgeKeyOf_steady (s : State) (k : Option (Fin 32)) : (s.judgeKeyOf k).steady = s.steady := by
  cases k <;> simp [State.judgeKeyOf]
@[simp] theorem State.promote_steady (s : State) (c : Fin 16) : (s.promote c).steady = s.steady := by
  unfold State.promote; (repeat' split) <;> simp
@[simp] theorem State.unclaim_steady (s : State) (n : Nat) : (s.unclaim n).steady = s.steady := rfl
@[simp] theorem State.clearHold_steady (s : State) (c : Fin 16) : (s.clearHold c).steady = s.steady := by
  unfold State.clearHold; (repeat' split) <;> simp
@[simp] theorem State.askOffer_steady (s : State) (c : Fin 16) (work n : Nat) :
    (s.askOffer c work n).steady = s.steady := by
  unfold State.askOffer; (repeat' split) <;> simp
@[simp] theorem State.startLoading_steady (s : State) (c : Fin 16) : (s.startLoading c).steady = s.steady := by
  unfold State.startLoading; (repeat' split) <;> simp
@[simp] theorem State.offerFault_steady (s : State) (c : Fin 16) (cls : FaultClass) (n : Nat) :
    (s.offerFault c cls n).steady = s.steady := by
  simp [State.offerFault]
@[simp] theorem State.displaceHold_steady (s : State) (c : Fin 16) : (s.displaceHold c).steady = s.steady := by
  unfold State.displaceHold; (repeat' split) <;> simp
@[simp] theorem State.handOn_steady (s : State) (c : Fin 16) (n : Nat) (serial : BitVec 32) (gen : Byte) :
    (s.handOn c n serial gen).steady = s.steady := by
  unfold State.handOn
  dsimp only
  split
  · simp
  · rename_i h
    have h1 := State.allocate_steady h
    split <;> simp [h1]
@[simp] theorem State.seat_steady (s : State) (c : Fin 16) (plain : List Block) :
    (s.seat c plain).steady = s.steady := by
  unfold State.seat; dsimp only; (repeat' split) <;> simp
@[simp] theorem State.endLoading_steady (s : State) (c : Fin 16) (plain : List Block) :
    (s.endLoading c plain).steady = s.steady := by
  unfold State.endLoading; dsimp only; (repeat' split) <;> simp
@[simp] theorem State.endInstall_steady (s : State) (c : Fin 16) (k : Fin 32) :
    (s.endInstall c k).steady = s.steady := by
  simp [State.endInstall]
@[simp] theorem State.subkeyReturn_steady (s : State) (k : Fin 32) (h : Block) :
    (s.subkeyReturn k h).steady = s.steady := by
  unfold State.subkeyReturn; dsimp only; (repeat' split) <;> simp
@[simp] theorem State.confirmTagged_steady (s : State) (c : Fin 16) (k : Fin 32) :
    (s.confirmTagged c k).steady = s.steady := by
  unfold State.confirmTagged; (repeat' split) <;> simp
/-! ## Machine/Outbound.lean -/

@[simp] theorem State.enter_steady (s : State) (e : TransitEntry) : (s.enter e).steady = s.steady := by
  simp [State.enter]
@[simp] theorem State.admit_steady (s : State) (n : Nat) (c : Fin 16) (k : Fin 32) :
    (s.admitFrame n c k).steady = s.steady := by
  simp [State.admitFrame]
@[simp] theorem State.failAdmission_steady (s : State) (n : Nat) (c : Fin 16) (why : Reason) (i : Fin 16) :
    (s.failAdmission n c why i).steady = s.steady := by
  unfold State.failAdmission; dsimp only; (repeat' split) <;> simp
@[simp] theorem State.openOutbound_steady (s : State) (n : Nat) (i : Fin 16) :
    (s.openOutbound n i).steady = s.steady := by
  unfold State.openOutbound; (repeat' split) <;> simp
@[simp] theorem State.takeClose_steady (s : State) (n : Nat) : (s.takeClose n).steady = s.steady := by
  unfold State.takeClose; dsimp only; (repeat' split) <;> simp
@[simp] theorem State.releaseRec_steady (s : State) (n : Nat) : (s.releaseRec n).steady = s.steady := by
  simp [State.releaseRec]
@[simp] theorem State.outboundRequest_steady (s : State) (n : Nat) (req : Option Byte) (payload : Bool) :
    (s.outboundRequest n req payload).steady = s.steady := by
  unfold State.outboundRequest; (repeat' split) <;> simp
@[simp] theorem State.mirrorEntry_steady (s : State) (id n off : Nat) : (s.mirrorEntry id n off).steady = s.steady := by
  unfold State.mirrorEntry; (repeat' split) <;> simp
@[simp] theorem State.noteRetouch_steady (s : State) (n : Nat) (bytes : List (Option Byte)) (off : Nat) :
    (s.noteRetouch n bytes off).steady = s.steady := by
  unfold State.noteRetouch; (repeat' split) <;> simp
@[simp] theorem State.writeOutbound_steady (s : State) (t : Transaction) (p : Place) (n : Nat) (bytes : List (Option Byte)) :
    (s.writeOutbound t p n bytes).steady = s.steady := by
  unfold State.writeOutbound; dsimp only; (repeat' split) <;> simp
@[simp] theorem State.disturb_steady (s : State) (n : Nat) : (s.disturb n).steady = s.steady := rfl
@[simp] theorem State.disturbedFault_steady (s : State) (r : SlotRec) (i : Fin 16) :
    (s.disturbedFault r i).steady = s.steady := by
  simp [State.disturbedFault]
@[simp] theorem State.dropOutbound_steady (s : State) (t : Transaction) (p : Place) (n : Nat) (bytes : List (Option Byte))
    (r : SlotRec) : (s.dropOutbound t p n bytes r).steady = s.steady := by
  simp [State.dropOutbound]
@[simp] theorem State.outboundWrite_steady (s : State) (t : Transaction) (p : Place) (n : Nat) (bytes : List (Option Byte)) :
    (s.outboundWrite t p n bytes).steady = s.steady := by
  unfold State.outboundWrite; dsimp only; (repeat' split) <;> simp
@[simp] theorem State.forwardRead_steady (s : State) (t : Transaction) (p : Place) (beats : Nat) (r : SlotRec) (treat : Nat → Treat) :
    (s.forwardRead t p beats r treat).steady = s.steady := by
  unfold State.forwardRead; dsimp only; (repeat' split) <;> simp
@[simp] theorem State.outboundLine_steady (s : State) (t : Transaction) (p : Place) (n : Nat) :
    (s.outboundLine t p n).steady = s.steady := by
  unfold State.outboundLine; dsimp only; (repeat' split) <;> simp
@[simp] theorem State.outboundTag_steady (s : State) (n : Nat) (tag : Block) :
    (s.outboundTag n tag).steady = s.steady := by
  unfold State.outboundTag; (repeat' split) <;> simp
@[simp] theorem State.payFrame_steady (s : State) (r : SlotRec) (len : Nat) (quiet : Bool) :
    (s.payFrame r len quiet).steady = s.steady := by
  unfold State.payFrame; dsimp only; (repeat' split) <;> simp
@[simp] theorem State.frameLanded_steady (s : State) (n : Nat) : (s.frameLanded n).steady = s.steady := by
  unfold State.frameLanded; dsimp only; (repeat' split) <;> simp
@[simp] theorem State.outboundLate_steady (s : State) (e : TransitEntry) (n : Nat) :
    (s.outboundLate e n).steady = s.steady := by
  unfold State.outboundLate; (repeat' split) <;> simp
/-! ## Machine/Inbound.lean -/

@[simp] theorem State.rejectRec_steady (s : State) (n : Nat) (why : Reason) : (s.rejectRec n why).steady = s.steady := by
  simp [State.rejectRec]
@[simp] theorem State.slotFaultOf_steady (s : State) (cls : Option FaultClass) (r : SlotRec) :
    (s.slotFaultOf cls r).steady = s.steady := by
  cases cls <;> simp [State.slotFaultOf]
@[simp] theorem State.reject_steady (s : State) (n : Nat) (why : Reason) (cls : Option FaultClass) :
    (s.reject n why cls).steady = s.steady := by
  unfold State.reject; (repeat' split) <;> simp
@[simp] theorem State.raiseRejects_steady (s : State) (c : Fin 16) (r : SlotRec) :
    (s.raiseRejects c r).steady = s.steady := by
  unfold State.raiseRejects; dsimp only; split <;> simp
@[simp] theorem State.rejectTag_steady (s : State) (n : Nat) : (s.rejectTag n).steady = s.steady := by
  unfold State.rejectTag; dsimp only; (repeat' split) <;> simp
@[simp] theorem State.passRec_steady (s : State) (n : Nat) : (s.passRec n).steady = s.steady := by
  unfold State.passRec; dsimp only; (repeat' split) <;> simp
@[simp] theorem State.passData_steady (s : State) (n : Nat) : (s.passData n).steady = s.steady := by
  unfold State.passData; dsimp only; (repeat' split) <;> simp
@[simp] theorem State.passOffer_steady (s : State) (n : Nat) (c : Fin 16) (what : OfferPass) :
    (s.passOffer n c what).steady = s.steady := by
  cases what <;> simp [State.passOffer]
@[simp] theorem State.decideData_steady (s : State) (n : Nat) (r : SlotRec) : (s.decideData n r).steady = s.steady := by
  unfold State.decideData; dsimp only; (repeat' split) <;> simp
@[simp] theorem State.tryCompare_steady (s : State) (n : Nat) : (s.tryCompare n).steady = s.steady := by
  unfold State.tryCompare; (repeat' split) <;> simp
@[simp] theorem State.note_steady (s : State) (n : Nat) (why : Reason) : (s.note n why).steady = s.steady := rfl
@[simp] theorem State.inboundTag_steady (s : State) (n : Nat) (tag : Block) :
    (s.inboundTag n tag).steady = s.steady := by
  simp [State.inboundTag]
@[simp] theorem State.endRuling_steady (s : State) (c : Fin 16) : (s.endRuling c).steady = s.steady := rfl
@[simp] theorem State.rulingReject_steady (s : State) (c : Fin 16) (n : Nat) (why : Reason) (cls : FaultClass) :
    (s.rulingReject c n why cls).steady = s.steady := by
  simp [State.rulingReject]
@[simp] theorem State.rulingPass_steady (s : State) (c : Fin 16) (n : Nat) (what : OfferPass) :
    (s.rulingPass c n what).steady = s.steady := by
  unfold State.rulingPass; dsimp only; (repeat' split) <;> simp
@[simp] theorem State.raiseHighMark_steady (s : State) (c : Fin 16) (serial : Nat) :
    (s.raiseHighMark c serial).steady = s.steady := rfl
@[simp] theorem State.startRuling_steady (s : State) (c : Fin 16) (n : Nat) : (s.startRuling c n).steady = s.steady := by
  unfold State.startRuling; dsimp only; (repeat' split) <;> simp
@[simp] theorem State.settleRuling_steady (s : State) (c : Fin 16) (n : Nat) (plain : List Block) :
    (s.settleRuling c n plain).steady = s.steady := by
  unfold State.settleRuling; dsimp only; (repeat' split) <;> simp
@[simp] theorem State.failRuling_steady (s : State) (c : Fin 16) (n : Nat) (why : Reason) :
    (s.failRuling c n why).steady = s.steady := by
  simp [State.failRuling]
@[simp] theorem State.chooseKey_steady (s : State) (n : Nat) (r : SlotRec) : (s.chooseKey n r).steady = s.steady := by
  unfold State.chooseKey; dsimp only; (repeat' split) <;> simp
@[simp] theorem State.parseHeader_steady (s : State) (n : Nat) (bytes : List (Option Byte)) (off : Nat) :
    (s.parseHeader n bytes off).steady = s.steady := by
  unfold State.parseHeader; dsimp only; (repeat' split) <;> simp
@[simp] theorem State.arriveHeader_steady (s : State) (n : Nat) (bytes : List (Option Byte)) (off : Nat) :
    (s.arriveHeader n bytes off).steady = s.steady := by
  unfold State.arriveHeader; (repeat' split) <;> simp
@[simp] theorem State.arriveBlock_steady (s : State) (n : Nat) (bytes : List (Option Byte)) (off b : Nat) :
    (s.arriveBlock n bytes off b).steady = s.steady := by
  unfold State.arriveBlock; dsimp only; (repeat' split) <;> simp
@[simp] theorem State.arrivePayload_steady (s : State) (n : Nat) (bytes : List (Option Byte)) (off : Nat) :
    (s.arrivePayload n bytes off).steady = s.steady := by
  exact foldl_steady _ (fun st b => by simp) _ _
@[simp] theorem State.arriveWrite_steady (s : State) (t : Transaction) (p : Place) (n : Nat) (bytes : List (Option Byte)) :
    (s.arriveWrite t p n bytes).steady = s.steady := by
  simp [State.arriveWrite]
@[simp] theorem State.inboundLine_steady (s : State) (t : Transaction) (p : Place) (n : Nat) (bytes : List (Option Byte)) :
    (s.inboundLine t p n bytes).steady = s.steady := by
  unfold State.inboundLine; (repeat' split) <;> simp
@[simp] theorem State.takeCheck_steady (s : State) (n : Nat) : (s.takeCheck n).steady = s.steady := by
  unfold State.takeCheck; (repeat' split) <;> simp
@[simp] theorem State.inboundRequest_steady (s : State) (n : Nat) (req : Option Byte) :
    (s.inboundRequest n req).steady = s.steady := by
  unfold State.inboundRequest; (repeat' split) <;> simp
@[simp] theorem State.inboundHeader_steady (s : State) (t : Transaction) (p : Place) (n : Nat) (bytes : List (Option Byte)) :
    (s.inboundHeader t p n bytes).steady = s.steady := by
  unfold State.inboundHeader; dsimp only; split <;> simp
@[simp] theorem State.inboundPayload_steady (s : State) (t : Transaction) (p : Place) (n : Nat) :
    (s.inboundPayload t p n).steady = s.steady := by
  unfold State.inboundPayload; dsimp only; (repeat' split) <;> simp
@[simp] theorem State.inboundRead_steady (s : State) (t : Transaction) (p : Place) (n beats : Nat) :
    (s.inboundRead t p n beats).steady = s.steady := by
  unfold State.inboundRead; dsimp only; (repeat' split) <;> simp
@[simp] theorem State.inboundLate_steady (s : State) (e : TransitEntry) (n : Nat) :
    (s.inboundLate e n).steady = s.steady := by
  unfold State.inboundLate; dsimp only; (repeat' split) <;> simp
/-! ## Machine/Accept.lean -/

@[simp] theorem State.refuse_steady (s : State) (t : Transaction) (cls : FaultClass) (ch : Option (Fin 16)) (p : Place) :
    (s.refuse t cls ch p).steady = s.steady := by
  simp [State.refuse]
@[simp] theorem State.noticeHeader_steady (s : State) (t : Transaction) (p : Place) (n : Nat) (bytes : List (Option Byte)) :
    (s.noticeHeader t p n bytes).steady = s.steady := by
  unfold State.noticeHeader; dsimp only; (repeat' split) <;> simp
@[simp] theorem State.acceptAt_steady (s : State) (t : Transaction) (p : Place) (r : Route) :
    (s.acceptAt t p r).steady = s.steady := by
  cases r <;> simp [State.acceptAt]; split <;> simp
@[simp] theorem State.accept_steady (s : State) (t : Transaction) : (s.accept t).steady = s.steady := by
  unfold State.accept; (repeat' split) <;> simp
/-! ## Machine/Notices.lean -/

@[simp] theorem State.askNotice_steady (s : State) (n o : Nat) (k : Fin 32) (blocks : Nat) :
    (s.askNotice n o k blocks).steady = s.steady := by
  unfold State.askNotice; split
  · rfl
  · exact foldl_steady _ (fun st b => by simp) _ _
@[simp] theorem State.compose_steady (s : State) (n : Nat) (plan : NoticePlan) (payload : State → List Byte) :
    (s.compose n plan payload).steady = s.steady := by
  unfold State.compose; dsimp only; rw [State.judgeMarks_steady, State.askNotice_steady]; rfl
theorem State.startProtocol_steady (n : Nat) (l : List ProtoEntry) (s : State) :
    (State.startProtocol n l s).steady = s.steady := by
  induction l generalizing s with
  | nil => rfl
  | cons e l ih => unfold State.startProtocol; split <;> simp [ih]

@[simp] theorem State.markComposing_steady (s : State) (l : List (Fin 32 × FaultEntry)) :
    (s.markComposing l).steady = s.steady := by
  exact foldl_steady _ (fun st p => by simp) _ _
@[simp] theorem State.restartHoldoff_steady (s : State) : s.restartHoldoff.steady = s.steady := rfl
@[simp] theorem State.startFaultNotice_steady (s : State) (n : Nat) (k : Fin 32) (l : List (Fin 32 × FaultEntry)) :
    (s.startFaultNotice n k l).steady = s.steady := by
  unfold State.startFaultNotice; dsimp only; rw [State.compose_steady]; exact State.markComposing_steady s l
@[simp] theorem State.blockNotices_steady (s : State) : s.blockNotices.steady = s.steady := by
  unfold State.blockNotices; split
  · rfl
  · rw [State.noticeBlocked_steady]; rfl
@[simp] theorem State.noticeKeystream_steady (s : State) (o b : Nat) (out : Block) :
    (s.noticeKeystream o b out).steady = s.steady := by
  unfold State.noticeKeystream; dsimp only; split
  · rfl
  · rw [State.fold_steady]; rfl
@[simp] theorem State.judgeNotice_steady (s : State) : s.judgeNotice.steady = s.steady := by
  unfold State.judgeNotice; (repeat' split) <;> simp
@[simp] theorem State.askNoticeLine0_steady (s : State) (c : Composition) : (s.askNoticeLine0 c).steady = s.steady := by
  unfold State.askNoticeLine0; (repeat' split) <;> simp
@[simp] theorem State.noticeTag_steady (s : State) (n : Nat) (tag : Block) : (s.noticeTag n tag).steady = s.steady := by
  unfold State.noticeTag; dsimp only; (repeat' split) <;> simp
@[simp] theorem State.settleCarried_steady (s : State) (c : Carried) : (s.settleCarried c).steady = s.steady := by
  unfold State.settleCarried; (repeat' split) <;> simp
@[simp] theorem State.returnCarried_steady (s : State) (c : Carried) : (s.returnCarried c).steady = s.steady := by
  unfold State.returnCarried; (repeat' split) <;> simp
@[simp] theorem State.subtractLost_steady (s : State) (n : Nat) : (s.subtractLost n).steady = s.steady := by
  unfold State.subtractLost; split <;> rfl
@[simp] theorem State.noticeDone_steady (s : State) (c : Composition) (ch : Fin 16) (kind : Byte) :
    (s.noticeDone c ch kind).steady = s.steady := by
  unfold State.noticeDone; (repeat' split) <;> simp [foldl_steady]
@[simp] theorem State.completeComposition_steady (s : State) (c : Composition) :
    (s.completeComposition c).steady = s.steady := by
  unfold State.completeComposition; dsimp only; (repeat' split) <;> simp <;> rfl
@[simp] theorem State.failComposition_steady (s : State) (c : Composition) :
    (s.failComposition c).steady = s.steady := by
  unfold State.failComposition; dsimp only; (repeat' split) <;> simp [foldl_steady] <;> rfl
/-! ## Machine/Control.lean and Machine/Bus.lean -/

@[simp] theorem State.setCtl_steady (s : State) (f : ControlUnit → ControlUnit) : (s.setCtl f).steady = s.steady := rfl
@[simp] theorem State.judgeFetch_steady (s : State) : s.judgeFetch.steady = s.steady := by
  unfold State.judgeFetch; (repeat' split) <;> simp
@[simp] theorem State.takeProducer_steady (s : State) (v : Nat) : (s.takeProducer v).steady = s.steady := by
  simp [State.takeProducer]
@[simp] theorem State.takeConsumer_steady (s : State) (v : Nat) : (s.takeConsumer v).steady = s.steady := rfl
@[simp] theorem State.handPage_steady (s : State) (e : TransitEntry) : (s.handPage e).steady = s.steady := by
  unfold State.handPage; dsimp only; (repeat' split) <;> simp
@[simp] theorem State.completeWrite_steady (s : State) (e : TransitEntry) : (s.completeWrite e).steady = s.steady := by
  simp [State.completeWrite]
@[simp] theorem State.judgeCompletion_steady (s : State) : s.judgeCompletion.steady = s.steady := by
  unfold State.judgeCompletion; (repeat' split) <;> simp
@[simp] theorem State.complete_steady (s : State) (status ch : Byte) : (s.complete status ch).steady = s.steady := by
  unfold State.complete; dsimp only; split <;> simp
theorem State.handSnapshot_steady (l : List FaultEntry) (s : State) : (State.handSnapshot l s).steady = s.steady := by
  induction l generalizing s with
  | nil => simp [State.handSnapshot]
  | cons e l ih => unfold State.handSnapshot; split <;> simp [ih]

@[simp] theorem State.readBack_steady (s : State) (id : Nat) (ok : Bool) (data : List Byte) :
    (s.readBack id ok data).steady = s.steady := rfl
@[simp] theorem State.passedMemoryError_steady (s : State) (e : TransitEntry) :
    (s.passedMemoryError e).steady = s.steady := by
  simp [State.passedMemoryError]
@[simp] theorem State.lateError_steady (s : State) (e : TransitEntry) : (s.lateError e).steady = s.steady := by
  unfold State.lateError; (repeat' split) <;> simp
@[simp] theorem State.failFinish_steady (s : State) (n o : Nat) (why : Reason) :
    (s.failFinish n o why).steady = s.steady := by
  unfold State.failFinish; (repeat' split) <;> simp
@[simp] theorem State.failOffer_steady (s : State) (c : Fin 16) (work : Nat) (why : Reason) :
    (s.failOffer c work why).steady = s.steady := by
  unfold State.failOffer; (repeat' split) <;> simp
@[simp] theorem State.followLost_steady (s : State) : s.followLost.steady = s.steady := by
  unfold State.followLost; (repeat' split) <;> simp
@[simp] theorem State.failOp_steady (s : State) (op : InjOp) (why : Reason) : (s.failOp op why).steady = s.steady := by
  unfold State.failOp; (repeat' split) <;> simp
@[simp] theorem State.failInjected_steady (s : State) (e : InjEntry) (cls : FaultClass) (why : Reason) :
    (s.failInjected e cls why).steady = s.steady := by
  simp [State.failInjected]
@[simp] theorem State.advanceRing_steady (s : State) : s.advanceRing.steady = s.steady := by
  unfold State.advanceRing; split <;> rfl
@[simp] theorem State.askReportWord_steady (s : State) : s.askReportWord.steady = s.steady := rfl
/-! ## Machine/Cipher.lean -/

@[simp] theorem State.setCipher_steady (s : State) (g : Option CipherGrant) : (s.setCipher g).steady = s.steady := rfl
@[simp] theorem State.grantMiss_steady (s : State) (m : MissEntry) : (s.grantMiss m).steady = s.steady := rfl
@[simp] theorem State.grantBackground_steady (s : State) (r : BgReq) : (s.grantBackground r).steady = s.steady := rfl
@[simp] theorem State.cacheInsert_steady (s : State) (e : CacheEntry) : (s.cacheInsert e).steady = s.steady := rfl
@[simp] theorem State.completeMiss_steady (s : State) (m : MissEntry) (out : Block) :
    (s.completeMiss m out).steady = s.steady := by
  unfold State.completeMiss; dsimp only; rw [State.serveOverflow_steady, foldl_steady _ (fun st w => State.serveBeat_steady st w out)]; rfl
@[simp] theorem State.rulingBlock_steady (s : State) (c : Fin 16) (w : OfferWork) (b : Nat) (out : Block) :
    (s.rulingBlock c w b out).steady = s.steady := by
  unfold State.rulingBlock; dsimp only; split <;> simp
@[simp] theorem State.loadingBlock_steady (s : State) (c : Fin 16) (w : OfferWork) (b : Nat) (out : Block) :
    (s.loadingBlock c w b out).steady = s.steady := by
  unfold State.loadingBlock; dsimp only; split <;> simp
@[simp] theorem State.offerBlock_steady (s : State) (c : Fin 16) (work b : Nat) (out : Block) :
    (s.offerBlock c work b out).steady = s.steady := by
  unfold State.offerBlock; (repeat' split) <;> simp
@[simp] theorem State.maskReturn_steady (s : State) (n o : Nat) (out : Block) :
    (s.maskReturn n o out).steady = s.steady := by
  unfold State.maskReturn; (repeat' split) <;> simp
@[simp] theorem State.backgroundResult_steady (s : State) (use : BgUse) (out : Block) :
    (s.backgroundResult use out).steady = s.steady := by
  cases use <;> simp [State.backgroundResult]
@[simp] theorem State.addProduct_steady (s : State) (n : Nat) (b : Block) : (s.addProduct n b).steady = s.steady := rfl
@[simp] theorem State.judgeSweep_steady (s : State) (n o : Nat) : (s.judgeSweep n o).steady = s.steady := by
  unfold State.judgeSweep; (repeat' split) <;> simp
@[simp] theorem State.correctionReturn_steady (s : State) (n o : Nat) (b : Block) :
    (s.correctionReturn n o b).steady = s.steady := by
  unfold State.correctionReturn; dsimp only; split <;> simp
@[simp] theorem State.productReturn_steady (s : State) (r : MulReq) (b : Block) :
    (s.productReturn r b).steady = s.steady := by
  unfold State.productReturn; (repeat' split) <;> simp
@[simp] theorem State.settleMerges_steady (s : State) (n len : Nat) : (s.settleMerges n len).steady = s.steady := by
  unfold State.settleMerges; (repeat' split) <;> simp
@[simp] theorem State.decideFinish_steady (s : State) (n o len : Nat) (stage : FinishStage) :
    (s.decideFinish n o len stage).steady = s.steady := by
  unfold State.decideFinish; dsimp only; (repeat' split) <;> simp
@[simp] theorem State.tailReturn_steady (s : State) (n o : Nat) (b : Block) :
    (s.tailReturn n o b).steady = s.steady := by
  unfold State.tailReturn; (repeat' split) <;> simp
@[simp] theorem State.sweepFold_steady (s : State) (n len b : Nat) (blk : Block) :
    (s.sweepFold n len b blk).steady = s.steady := by
  unfold State.sweepFold; (repeat' split) <;> simp
@[simp] theorem State.sweepReturn_steady (s : State) (n o first : Nat) (blocks : List Block) :
    (s.sweepReturn n o first blocks).steady = s.steady := by
  unfold State.sweepReturn; dsimp only; (repeat' split) <;> simp [foldl_steady]
@[simp] theorem State.handTag_steady (s : State) (n : Nat) (role : WinRole) (tag : Block) :
    (s.handTag n role tag).steady = s.steady := by
  cases role <;> simp [State.handTag]
@[simp] theorem State.frameAnswered_steady (s : State) (n o : Nat) : (s.frameAnswered n o).steady = s.steady := by
  unfold State.frameAnswered; (repeat' split) <;> simp
@[simp] theorem State.tagHeld_steady (s : State) (n o : Nat) (tag : Block) : (s.tagHeld n o tag).steady = s.steady := by
  unfold State.tagHeld; (repeat' split) <;> simp
@[simp] theorem State.askPlain_steady (s : State) (c : Fin 16) (work n : Nat) :
    (s.askPlain c work n).steady = s.steady := by
  unfold State.askPlain; split
  · rfl
  · exact foldl_steady _ (fun st b => by simp) _ _
/-! ## Machine/Channels.lean and Machine/Clock.lean -/

@[simp] theorem State.untakeOf_steady (s : State) (k : Option (Fin 32)) : (s.untakeOf k).1.steady = s.steady := by
  cases k <;> simp [State.untakeOf]

@[simp] theorem State.tearSlot_steady (s : State) (c : Fin 16) (n : Nat) (r : SlotRec) :
    (s.tearSlot c n r).1.steady = s.steady := by
  unfold State.tearSlot; (repeat' split) <;> simp

theorem State.tearSlots_steady (c : Fin 16) (l : List (Nat × SlotRec)) (a : State × List (Fin 32)) :
    (State.tearSlots c l a).1.steady = a.1.steady := by
  induction l generalizing a with
  | nil => rfl
  | cons p l ih => simp [State.tearSlots, ih]

@[simp] theorem State.tearHold_steady (s : State) (c : Fin 16) : (s.tearHold c).1.steady = s.steady := by
  unfold State.tearHold; split <;> simp

@[simp] theorem State.teardown_steady (s : State) (c : Fin 16) (state : ChanState) :
    (s.teardown c state).steady = s.steady := by
  unfold State.teardown; dsimp only; rw [foldl_steady _ (fun s a => State.judgeKey_steady s a)]; simp [State.tearSlots_steady]
@[simp] theorem State.lifetimeTick_steady (s : State) (k : Fin 32) : (s.lifetimeTick k).steady = s.steady := by
  unfold State.lifetimeTick; (repeat' split) <;> simp
@[simp] theorem State.tickTimers_steady (s : State) : s.tickTimers.steady = s.steady := rfl
@[simp] theorem State.tickInjected_steady (s : State) : s.tickInjected.steady = s.steady := rfl

end Sys2Proof.Machine
end

