-- ==== Sys2Proof/Laws/Operations.lean ====
section
/-!
SUPPORT. What the shared operations can do, said once: which parts of the state each of them can change, and what a
command's outcome is when it answers a next state. Later proofs cite these and unfold no operation.
-/

namespace Sys2Proof.Machine

/-! ## Outcomes -/

/-- A step that settles answers the settled state and nothing else. -/
@[simp] theorem done_eq_next (s t : State) : done s = .next t ↔ s.settle = t := by
  unfold done
  constructor
  · intro h; cases h; rfl
  · intro h; rw [h]

/-- A command that is not the event at hand answers the state as it was. -/
@[simp] theorem idle_eq_next (s t : State) : idle s = .next t ↔ s = t := by
  unfold idle
  constructor
  · intro h; cases h; rfl
  · intro h; rw [h]

/-- A control page command runs its effect while the unit executes its code, and changes nothing otherwise. -/
theorem command_next {code : Nat} {s t : State} {f : State → State} (h : command code s f = .next t) :
    (s.executes code = true ∧ t = (f s).settle) ∨ (s.executes code = false ∧ t = s) := by
  unfold command at h
  split at h
  · exact .inl ⟨‹_›, ((done_eq_next _ _).1 h).symm⟩
  · rename_i hn
    exact .inr ⟨by simpa using hn, ((idle_eq_next _ _).1 h).symm⟩

/-- An acceptance that answers a next state: the whole acceptance, or nothing. -/
theorem acceptWhen_next {mine : Bool} {x : Transaction} {s t : State} (h : acceptWhen mine x s = .next t) :
    x.wellFormed = true ∧ ((s.accepting = true ∧ mine = true ∧ t = (s.accept x).settle) ∨ t = s) := by
  unfold acceptWhen at h
  split at h
  · rename_i hw
    refine ⟨hw, ?_⟩
    split at h
    · rename_i ha
      simp only [Bool.and_eq_true] at ha
      exact .inl ⟨ha.1, ha.2, ((done_eq_next _ _).1 h).symm⟩
    · exact .inr ((idle_eq_next _ _).1 h).symm
  · cases h

/-- An answer to an injected write: the entry is freed and its step follows, or nothing happens. -/
theorem answered_next {id : Nat} {mine : InjOp → Bool} {s t : State} {f : State → State}
    (h : answered id mine s f = .next t) :
    (∃ e, s.issuedInj id = some e ∧ mine e.req.op = true ∧ t = (f (s.freeInj id)).settle) ∨ t = s := by
  unfold answered at h
  split at h
  · rename_i e he
    split at h
    · exact .inl ⟨e, he, ‹_›, ((done_eq_next _ _).1 h).symm⟩
    · exact .inr ((idle_eq_next _ _).1 h).symm
  · exact .inr ((idle_eq_next _ _).1 h).symm

/-- The data of an injected read: the entry is freed and its step follows, or nothing happens. -/
theorem readReturned_next {id : Nat} {data : List Byte} {mine : InjOp → Bool} {s t : State}
    {f : InjOp → State → State} (h : readReturned id data mine s f = .next t) :
    (∃ e, s.issuedInj id = some e ∧ mine e.req.op = true ∧ fitsAccess e.req.access data = true ∧
      t = (f e.req.op (s.freeInj id)).settle) ∨ t = s := by
  unfold readReturned at h
  split at h
  · rename_i e he
    split at h
    · split at h
      · exact .inl ⟨e, he, ‹_›, ‹_›, ((done_eq_next _ _).1 h).symm⟩
      · cases h
    · exact .inr ((idle_eq_next _ _).1 h).symm
  · exact .inr ((idle_eq_next _ _).1 h).symm

/-! ## The report queue: the Control Unit and the requests of the step, and nothing else (R179, R180) -/

theorem State.loseReport_only (s : State) :
    ∃ ctl asked, s.loseReport = { s with ctl := ctl, bus := { s.bus with injAsked := asked } } := by
  unfold State.loseReport
  dsimp only
  (repeat' split) <;> exact ⟨_, _, rfl⟩

theorem State.askRecord_only (s : State) (r : Report) :
    ∃ ctl asked, s.askRecord r = { s with ctl := ctl, bus := { s.bus with injAsked := asked } } := by
  unfold State.askRecord
  split <;> exact ⟨_, _, rfl⟩

theorem State.reportTurns_only (l : List Report) (s : State) :
    ∃ ctl asked, State.reportTurns l s = { s with ctl := ctl, bus := { s.bus with injAsked := asked } } := by
  induction l generalizing s with
  | nil => exact ⟨_, _, rfl⟩
  | cons r l ih =>
    unfold State.reportTurns
    split
    · exact ⟨_, _, rfl⟩
    · split
      · obtain ⟨c, a, h⟩ := State.askRecord_only s r
        obtain ⟨c', a', h'⟩ := ih (s.askRecord r)
        exact ⟨c', a', by rw [h', h]⟩
      · obtain ⟨c, a, h⟩ := State.loseReport_only s
        obtain ⟨c', a', h'⟩ := ih s.loseReport
        exact ⟨c', a', by rw [h', h]⟩

theorem State.reportTurn_only (s : State) :
    ∃ ctl asked, s.reportTurn = { s with ctl := ctl, bus := { s.bus with injAsked := asked } } :=
  State.reportTurns_only s.ctl.queue s

theorem State.handReport_only (s : State) (r : Report) :
    ∃ ctl asked, s.handReport r = { s with ctl := ctl, bus := { s.bus with injAsked := asked } } := by
  unfold State.handReport
  split
  · obtain ⟨c, a, h⟩ := State.reportTurn_only { s with ctl := { s.ctl with queue := s.ctl.queue ++ [r] } }
    exact ⟨c, a, by rw [h]⟩
  · exact State.loseReport_only s

theorem State.reportFault_only (s : State) (e : FaultEntry) :
    ∃ ctl asked, s.reportFault e = { s with ctl := ctl, bus := { s.bus with injAsked := asked } } := by
  unfold State.reportFault
  split
  · exact State.handReport_only _ _
  · exact ⟨_, _, rfl⟩

/-! ## Taking a fault: the fault table, the reports, and the escalation of its channel (R150 to R158) -/

theorem State.countIn_only (s : State) (o : Occurrence) (i : Fin 32) (e : FaultEntry) :
    ∃ ctl asked table, s.countIn o i e = { s with
      ctl := ctl, bus := { s.bus with injAsked := asked }
      faults := { s.faults with table := table, updates := s.faults.updates + 1 } } := by
  unfold State.countIn
  dsimp only
  split
  · obtain ⟨c, a, h⟩ := State.reportFault_only
      ((s.putFault i (some (e.counted o s.faults.noticeMask s.time.ms s.faults.updates))).bumpUpdates)
      (e.counted o s.faults.noticeMask s.time.ms s.faults.updates)
    exact ⟨c, a, _, by rw [h]; rfl⟩
  · exact ⟨_, _, _, rfl⟩

theorem State.fillFault_only (s : State) (o : Occurrence) (i : Fin 32) :
    ∃ ctl asked table, s.fillFault o i = { s with
      ctl := ctl, bus := { s.bus with injAsked := asked }
      faults := { s.faults with table := table, updates := s.faults.updates + 1 } } := by
  unfold State.fillFault
  obtain ⟨c, a, h⟩ := State.reportFault_only
    ((s.putFault i (some (o.entry s.faults.noticeMask s.time.ms s.faults.updates))).bumpUpdates)
    (o.entry s.faults.noticeMask s.time.ms s.faults.updates)
  exact ⟨c, a, _, by dsimp only; rw [h]; rfl⟩

/-- What an occurrence can change before escalation. -/
theorem State.applyFault_only (s : State) (o : Occurrence) :
    ∃ ctl asked faults, s.applyFault o = { s with
      ctl := ctl, bus := { s.bus with injAsked := asked }, faults := faults } := by
  unfold State.applyFault
  split
  · obtain ⟨c, a, x, h⟩ := State.countIn_only s o ‹_› ‹_›; exact ⟨c, a, _, h⟩
  · split
    · obtain ⟨c, a, x, h⟩ := State.fillFault_only s o ‹_›; exact ⟨c, a, _, h⟩
    · split
      · rename_i i e _
        obtain ⟨c, a, x, h⟩ := State.fillFault_only (s.raiseLost e.delta) o i
        exact ⟨c, a, _, by rw [h]; rfl⟩
      · exact ⟨_, _, _, rfl⟩

/-- A fault changes no other part of the state, and a channel record by escalation alone (R102, R158). -/
theorem State.recordFault_only (s : State) (o : Occurrence) :
    ∃ ctl asked faults channels, s.recordFault o = { s with
      ctl := ctl, bus := { s.bus with injAsked := asked }, faults := faults, channels := channels } ∧
      ∀ c, (s.recordFault o).chan c = s.chan c ∨ (s.recordFault o).chan c = (s.chan c).escalated := by
  obtain ⟨ctl, a, f, h⟩ := State.applyFault_only s o.scoped
  unfold State.recordFault State.escalate
  split
  · split
    · refine ⟨ctl, a, f, _, by rw [h]; rfl, fun c => ?_⟩
      rw [State.chan_setChan]
      split
      · rename_i hc
        right; rw [hc, h]; rfl
      · left; rw [h]; rfl
    · exact ⟨ctl, a, f, _, h, fun c => .inl (by rw [h]; rfl)⟩
  · exact ⟨ctl, a, f, _, h, fun c => .inl (by rw [h]; rfl)⟩

theorem State.noticeBlocked_only (s : State) (d : Fin 16) (w : Option (Fin 16)) (n : Option Nat) :
    ∃ ctl asked faults channels, s.noticeBlocked d w n = { s with
      ctl := ctl, bus := { s.bus with injAsked := asked }, faults := faults, channels := channels } ∧
      ∀ c, (s.noticeBlocked d w n).chan c = s.chan c ∨ (s.noticeBlocked d w n).chan c = (s.chan c).escalated :=
  State.recordFault_only s _

/-- Handing an entry to the protocol notice list changes the list, and with a full list what a fault changes (R164). -/
theorem State.handProto_only (s : State) (e : ProtoEntry) :
    ∃ ctl asked faults channels list, s.handProto e = { s with
      ctl := ctl, bus := { s.bus with injAsked := asked }, faults := faults, channels := channels
      notices := { s.notices with list := list } } ∧
      ∀ c, (s.handProto e).chan c = s.chan c ∨ (s.handProto e).chan c = (s.chan c).escalated := by
  have listed (l : List ProtoEntry) : ∃ ctl asked faults channels list, s.setProto l = { s with
      ctl := ctl, bus := { s.bus with injAsked := asked }, faults := faults, channels := channels
      notices := { s.notices with list := list } } ∧
      ∀ c, (s.setProto l).chan c = s.chan c ∨ (s.setProto l).chan c = (s.chan c).escalated :=
    ⟨_, _, _, _, l, rfl, fun _ => .inl rfl⟩
  unfold State.handProto
  (repeat' split) <;> first
    | exact listed _
    | obtain ⟨ctl, a, f, ch, h, hc⟩ := State.noticeBlocked_only s e.channel none none
      exact ⟨ctl, a, f, ch, s.notices.list, h, hc⟩

@[simp] theorem State.setMeter_chan (s : State) (l : Link) (f : Meter → Meter) (c : Fin 16) :
    (s.setMeter l f).chan c = s.chan c := by cases l <;> rfl

/-- A debit changes one meter, and with a shortfall what a fault changes (R110). -/
theorem State.debit_only (s : State) (c : Fin 16) (size : Nat) (w : Option (Fin 16)) (slot : Option Nat) (q : Bool) :
    ∃ ctl asked faults channels, s.debit c size w slot q = { s.setMeter (s.chan c).link (·.debit size) with
      ctl := ctl, bus := { s.bus with injAsked := asked }, faults := faults, channels := channels } ∧
      ∀ d, (s.debit c size w slot q).chan d = s.chan d ∨ (s.debit c size w slot q).chan d = (s.chan d).escalated := by
  unfold State.debit
  dsimp only
  have hb : (s.setMeter (s.chan c).link (·.debit size)).bus = s.bus := by cases (s.chan c).link <;> rfl
  split
  · obtain ⟨ctl, a, f, ch, h, hc⟩ := State.recordFault_only (s.setMeter (s.chan c).link (·.debit size))
      { occurrence .metered (some c) w slot none with quiet := q }
    exact ⟨ctl, a, f, ch, by rw [h, hb], fun d => by simpa using hc d⟩
  · refine ⟨s.ctl, s.bus.injAsked, s.faults, s.channels, ?_, fun d => .inl (by simp)⟩
    cases (s.chan c).link <;> rfl

/-! ## Settling: the two queues, the port, the holdoff timer and the interrupt -/

theorem State.placeInj_only (s : State) (r : InjReq) :
    ∃ inj waiting stamp, s.placeInj r = { s with
      bus := { s.bus with inj := inj, injWaiting := waiting }, stamp := stamp } := by
  unfold State.placeInj
  split <;> exact ⟨_, _, _, rfl⟩

theorem State.placeAsked_only (s : State) :
    ∃ inj waiting stamp, s.placeAsked = { s with
      bus := { s.bus with inj := inj, injWaiting := waiting, injAsked := [] }, stamp := stamp } := by
  suffices h : ∀ (l : List InjReq) (u : State), ∃ inj waiting stamp, l.foldl State.placeInj u = { u with
      bus := { u.bus with inj := inj, injWaiting := waiting }, stamp := stamp } by
    obtain ⟨i, w, n, h⟩ := h (orderAsked s.bus.injAsked) { s with bus := { s.bus with injAsked := [] } }
    exact ⟨i, w, n, by unfold State.placeAsked; rw [h]⟩
  intro l
  induction l with
  | nil => exact fun u => ⟨_, _, _, rfl⟩
  | cons r l ih =>
    intro u
    obtain ⟨i, w, n, h⟩ := State.placeInj_only u r
    obtain ⟨i', w', n', h'⟩ := ih (u.placeInj r)
    exact ⟨i', w', n', by rw [List.foldl_cons, h', h]⟩

/-- Everything a settling can change, and what the interrupt line is afterwards (R181). -/
theorem State.settle_only (s : State) :
    ∃ transit inj waiting up stamp holdoff, s.settle = { s with
      bus := { s.bus with transit := transit, inj := inj, injWaiting := waiting, injAsked := [], up := up }
      stamp := stamp
      notices := { s.notices with holdoff := holdoff }
      ctl := { s.ctl with irq := s.irqWanted } } := by
  obtain ⟨i, w, n, h⟩ := State.placeAsked_only s.deliver
  unfold State.settle
  rw [h]
  unfold State.judgeHoldoff
  (repeat' split) <;> exact ⟨_, _, _, _, _, _, rfl⟩

@[simp] theorem State.settle_pending (s : State) : s.settle.pending = s.pending := by
  obtain ⟨_, _, _, _, _, _, h⟩ := s.settle_only; rw [h]
@[simp] theorem State.settle_line (s : State) : s.settle.line = s.line := by
  obtain ⟨_, _, _, _, _, _, h⟩ := s.settle_only; rw [h]
@[simp] theorem State.settle_wrstnToo (s : State) : s.settle.wrstnToo = s.wrstnToo := by
  obtain ⟨_, _, _, _, _, _, h⟩ := s.settle_only; rw [h]
@[simp] theorem State.settle_windows (s : State) : s.settle.windows = s.windows := by
  obtain ⟨_, _, _, _, _, _, h⟩ := s.settle_only; rw [h]
@[simp] theorem State.settle_classes (s : State) : s.settle.classes = s.classes := by
  obtain ⟨_, _, _, _, _, _, h⟩ := s.settle_only; rw [h]
@[simp] theorem State.settle_pool (s : State) : s.settle.pool = s.pool := by
  obtain ⟨_, _, _, _, _, _, h⟩ := s.settle_only; rw [h]
@[simp] theorem State.settle_ks (s : State) : s.settle.ks = s.ks := by
  obtain ⟨_, _, _, _, _, _, h⟩ := s.settle_only; rw [h]
@[simp] theorem State.settle_merges (s : State) : s.settle.merges = s.merges := by
  obtain ⟨_, _, _, _, _, _, h⟩ := s.settle_only; rw [h]
@[simp] theorem State.settle_channels (s : State) : s.settle.channels = s.channels := by
  obtain ⟨_, _, _, _, _, _, h⟩ := s.settle_only; rw [h]
@[simp] theorem State.settle_meterA (s : State) : s.settle.meterA = s.meterA := by
  obtain ⟨_, _, _, _, _, _, h⟩ := s.settle_only; rw [h]
@[simp] theorem State.settle_meterB (s : State) : s.settle.meterB = s.meterB := by
  obtain ⟨_, _, _, _, _, _, h⟩ := s.settle_only; rw [h]
@[simp] theorem State.settle_keys (s : State) : s.settle.keys = s.keys := by
  obtain ⟨_, _, _, _, _, _, h⟩ := s.settle_only; rw [h]
@[simp] theorem State.settle_faults (s : State) : s.settle.faults = s.faults := by
  obtain ⟨_, _, _, _, _, _, h⟩ := s.settle_only; rw [h]
@[simp] theorem State.settle_time (s : State) : s.settle.time = s.time := by
  obtain ⟨_, _, _, _, _, _, h⟩ := s.settle_only; rw [h]
@[simp] theorem State.settle_free (s : State) : s.settle.free = s.free := by
  obtain ⟨_, _, _, _, _, _, h⟩ := s.settle_only; rw [h]
@[simp] theorem State.settle_straps (s : State) : s.settle.straps = s.straps := by
  obtain ⟨_, _, _, _, _, _, h⟩ := s.settle_only; rw [h]
@[simp] theorem State.settle_fuses (s : State) : s.settle.fuses = s.fuses := by
  obtain ⟨_, _, _, _, _, _, h⟩ := s.settle_only; rw [h]

@[simp] theorem State.settle_chan (s : State) (c : Fin 16) : s.settle.chan c = s.chan c := by
  unfold State.chan; rw [State.settle_channels]
@[simp] theorem State.settle_key (s : State) (k : Fin 32) : s.settle.key k = s.key k := by
  unfold State.key; rw [State.settle_keys]
@[simp] theorem State.settle_slotRec (s : State) (n : Nat) : s.settle.slotRec n = s.slotRec n := by
  unfold State.slotRec; rw [State.settle_pool]

/-- The Control Unit after a settling: its fields as they were but for the interrupt, which is judged (R181). -/
theorem State.settle_ctl (s : State) : s.settle.ctl = { s.ctl with irq := s.irqWanted } := by
  obtain ⟨_, _, _, _, _, _, h⟩ := s.settle_only; rw [h]

/-- The requests of a step are all placed (R16). -/
@[simp] theorem State.settle_injAsked (s : State) : s.settle.bus.injAsked = [] := by
  obtain ⟨_, _, _, _, _, _, h⟩ := s.settle_only; rw [h]

/-- The interrupt stands as it is judged after every settling (R181). -/
theorem State.settle_irqSound (s : State) : s.settle.irqSound := by
  obtain ⟨_, _, _, _, _, _, h⟩ := s.settle_only
  unfold State.irqSound
  rw [h]
  rfl

/-- Settling takes out of the transit table only entries that can be delivered or have lost every strobe (R10, R15). -/
theorem State.settle_transit (s : State) :
    s.settle.bus.transit = s.bus.transit.filter fun e => !(e.deliverable || e.emptied) := by
  obtain ⟨i, w, n, h⟩ := State.placeAsked_only s.deliver
  unfold State.settle
  rw [h]
  unfold State.judgeHoldoff
  (repeat' split) <;> rfl

/-- The responses that a settling drives (R10, R15). -/
theorem State.settle_up (s : State) :
    s.settle.bus.up =
      ((s.bus.transit.filter fun e => e.deliverable || e.emptied).map TransitEntry.response).reverse ++ s.bus.up := by
  obtain ⟨i, w, n, h⟩ := State.placeAsked_only s.deliver
  unfold State.settle
  rw [h]
  unfold State.judgeHoldoff
  (repeat' split) <;> rfl

/-! ## The injection queue (R16) -/

/-- Requests that find the queue with room, and none before them, take entries at once in their order. -/
theorem placeInj_room (l : List InjReq) (s : State) (hw : s.bus.injWaiting = [])
    (hr : s.bus.inj.length + l.length ≤ Config.injectionSize) :
    (l.foldl State.placeInj s).bus.inj =
      s.bus.inj ++ l.zipIdx.map fun p => (⟨s.stamp + p.2, p.1, false, 0, 0⟩ : InjEntry) := by
  induction l generalizing s with
  | nil => simp
  | cons r l ih =>
    have hlt : s.bus.inj.length < Config.injectionSize := by simp at hr; omega
    have hp : s.placeInj r = s.enterInj r := by simp [State.placeInj, hw, hlt]
    rw [List.foldl_cons, hp, ih _ (by simpa [State.enterInj] using hw) (by simp [State.enterInj] at hr ⊢; omega)]
    simp [State.enterInj, List.zipIdx_cons, List.zipIdx_succ, Function.comp_def]
    intros; omega

/-! ## Key slots -/

/-- The judgement of R120 leaves a FREE slot, and one that has a role, as it is. -/
theorem State.judgeKey_kept (s : State) (k : Fin 32)
    (h : (s.key k).state = .free ∨ (s.keyRole k).isSome = true) : s.judgeKey k = s := by
  unfold State.judgeKey
  rcases h with h | h
  · simp [h]
  · by_cases hf : (s.key k).state = .free
    · simp [hf]
    · simp [hf, h]

/-- The judgement of R120 zeroises a slot with neither role nor reference. -/
theorem State.judgeKey_zeroises (s : State) (k : Fin 32) (h : (s.key k).state ≠ .free) (hr : s.keyRole k = none)
    (h0 : (s.key k).refs = 0) : s.judgeKey k = s.zeroise k := by
  simp [State.judgeKey, h, hr, h0]

/-- A reference taken raises the count of its slot alone (R119). -/
theorem State.takeRef_key (s : State) (k j : Fin 32) :
    (s.takeRef k).key j = if j = k then { s.key k with refs := (s.key k).refs + 1 } else s.key j :=
  State.key_setKey s k j _

/-- A sequence taken raises the next sequence and the frames used of its slot alone (R122). -/
theorem State.takeSequence_key (s : State) (k j : Fin 32) :
    (s.takeSequence k).key j =
      if j = k then { s.key k with nextSeq := (s.key k).nextSeq + 1, frames := (s.key k).frames + 1 } else s.key j :=
  State.key_setKey s k j _

/-- The zeroisation of a key slot withdraws the requests that name it, and of the others only its loading's plaintext
(R47, R118). -/
theorem State.withdraws_iff (s : State) (k : Fin 32) (r : BgReq) :
    s.withdraws k r = true ↔ r.key = .slot k ∨ s.strayPlain k r = true := by
  simp [State.withdraws]

/-- Everything a confirmation that has been tagged can do (R143). -/
theorem State.confirmTagged_cases (s : State) (c : Fin 16) (k : Fin 32) :
    s.confirmTagged c k = s ∨
    ((s.chan c).renewal = .confirming ∧ (s.chan c).next = some k ∧ (s.key k).seatedAs = some .next ∧
      s.confirmTagged c k = s.setChan c fun x =>
        { x with renewal := .cutoverWait, cutover := .running x.cutoverSecs, cutoverKey := some k }) ∨
    ((s.chan c).renewal = .confirming ∧ (s.chan c).cur = some k ∧ (s.key k).seatedAs = some .current ∧
      s.confirmTagged c k = s.setChan c fun x => { x with renewal := .idle }) := by
  unfold State.confirmTagged
  split
  · exact .inl rfl
  · rename_i h
    have h := Decidable.not_not.mp h
    split
    · rename_i g; exact .inr (.inl ⟨h, g.1, g.2, rfl⟩)
    · split
      · rename_i g; exact .inr (.inr ⟨h, g.1, g.2, rfl⟩)
      · exact .inl rfl

end Sys2Proof.Machine
end

