-- ==== Sys2Proof/Tests/Slice0.lean ====
section
/-!
SUPPORT. Tests: the well-formedness checks with an ill-formed term each, the cipher and the field on known values, one
step of most families on a small state, and for each statement with hypotheses a witness that meets them.
-/

namespace Sys2Proof.Tests

-- One theorem at a time: the kernel's evaluations side by side would each hold a stack of their own.
set_option Elab.async false

open Sys2Proof Sys2Proof.Machine

/-! ## Well-formed commands (00_scope.md, Conventions; R9) -/

theorem test_no_beats_refused : (Instr.transactionAccept ⟨0, 0, .read 0⟩).wellFormed = false := by decide +kernel
theorem test_seventeen_beats_refused : (Instr.transactionAccept ⟨0, 0, .read 17⟩).wellFormed = false := by decide +kernel
theorem test_part_beat_refused :
    (Instr.outboundClearWrite ⟨0, 0, .write (List.replicate 12 none)⟩).wellFormed = false := by decide +kernel
theorem test_past_the_top_refused :
    (Instr.inboundClearRead ⟨0, 0xFFFFFFFFF8, .read 2⟩).wellFormed = false := by decide +kernel
theorem test_top_beat_accepted : (Instr.inboundClearRead ⟨0, 0xFFFFFFFFFF, .read 1⟩).wellFormed = true := by decide +kernel
theorem test_odd_response_refused : (Instr.passedResponse 0 [1, 2, 3]).wellFormed = false := by decide +kernel
theorem test_long_response_refused : (Instr.passedErrorResponse 0 (List.replicate 136 0)).wellFormed = false := by decide +kernel
theorem test_short_tag_refused : (Instr.tagReadReturn 0 (List.replicate 8 0)).wellFormed = false := by decide +kernel
theorem test_short_tail_refused : (Instr.tailFetchReturn 0 []).wellFormed = false := by decide +kernel
theorem test_half_block_sweep_refused : (Instr.sweepReadReturn 0 (List.replicate 24 0)).wellFormed = false := by decide +kernel
theorem test_short_offer_refused : (Instr.offerPayloadReadReturn 0 (List.replicate 56 0)).wellFormed = false := by decide +kernel
theorem test_short_record_refused : (Instr.commandFetchReturn 0 (List.replicate 16 0)).wellFormed = false := by decide +kernel

/-! ## The cipher and the field -/

/-- FIPS 197, appendix C.3. -/
theorem test_cipher_block :
    cipherBlock 0x000102030405060708090a0b0c0d0e0f101112131415161718191a1b1c1d1e1f
      0x00112233445566778899aabbccddeeff = 0x8ea2b7ca516745bfeafc49904b496089 := by decide +kernel

/-- The number 1 is the identity of the field (R34). -/
theorem test_field_identity : fieldMul 0x123456789ABCDEF0 1 = 0x123456789ABCDEF0 := by decide +kernel
/-- x^127 · x is x^7 + x^2 + x + 1 (R34). -/
theorem test_field_reduction : fieldMul (1 <<< 127) 2 = 0x87 := by decide +kernel
/-- H^3 of x is x^3 (R34). -/
theorem test_field_power : fieldPow 2 3 = 8 := by decide +kernel


/-! ## A small state -/

/-- A slot record of the bed, in record 0 (OUTBOUND), 1 (INBOUND) or 2 (NOTICE). -/
def freshOut : SlotRec := SlotRec.fresh .outbound 1 0
def freshIn : SlotRec := SlotRec.fresh .inbound 2 0
def freshNotice : SlotRec := SlotRec.fresh .notice 3 0

/-- The key slot that the bed's channel 2 holds as CURRENT. -/
def bedKey : KeySlot :=
  { KeySlot.zeroised with
    state := .active, load := .loaded, owner := some 2, gen := 7, material := 99, subkey := 2, frameLimit := 1000,
    softPercent := 80 }

/-- Out of reset, with one OUTBOUND, INBOUND and NOTICE slot at 0x2000, 0x4000 and 0x6000 and a REPORT window of 16 records
at 0x8000, initiator 2 BLOCKED, and channel 2 OPEN with its CURRENT key in key slot 5. -/
def bed : State :=
  { State.reset with
    line := .released
    fuses := ⟨true, 1, 0xCAFE0001⟩
    windows := ((((resetWindows 0).set 1 (some ⟨.outbound, 0x2000, 1, some 2, some 0⟩)).set 2
      (some ⟨.inbound, 0x4000, 1, none, some 1⟩)).set 3 (some ⟨.notice, 0x6000, 1, none, some 2⟩)).set 4
      (some ⟨.report, 0x8000, 16, none, none⟩)
    classes := resetClasses.set 2 .blocked
    pool := [(0, freshOut), (1, freshIn), (2, freshNotice)]
    channels := (Vector.replicate 16 (Channel.cleared 0)).set 2
      { Channel.cleared 40 with state := .opened, cur := some 5 }
    keys := { slots := (Vector.replicate 32 KeySlot.zeroised).set 5 bedKey, freeList := (List.finRange 32).erase 5 }
    stamp := 10 }

/-- The bed with another record. -/
def bedRec (n : Nat) (f : SlotRec → SlotRec) : State := bed.setRec n f

/-- The bed with another channel 2. -/
def bedChan (f : Channel → Channel) : State := bed.setChan 2 f

/-- The bed with an ISSUED injected transaction, of age 4. -/
def withInj (s : State) (op : InjOp) (a : Access) : State :=
  { s with bus := { s.bus with inj := [⟨4, ⟨op, 0, 0x2000, a, some 1, some 0⟩, true, 2, 2⟩] } }

/-- That entry. -/
def issued (op : InjOp) (a : Access) : InjEntry := ⟨4, ⟨op, 0, 0x2000, a, some 1, some 0⟩, true, 2, 2⟩

/-- The bed with this command record under execution. -/
def bedCommand (l : List Byte) : State := { bed with ctl := { bed.ctl with state := .executing, record := l } }

/-- What a check finds in the next state. -/
def after (o : Host.Outcome State Fault Refusal) (p : State → Bool) : Bool :=
  match o with
  | .next t => p t
  | _ => false

/-- A clear-side header write of byte 14 to the slot at this address. -/
def request (base : Addr) (v : Byte) : Transaction := ⟨0, base, .write (List.replicate 14 none ++ [some v, none])⟩

/-! ## One step each -/

/-- Reset, then LEAVE_POWER_ON_RESET with fuses BLANK: ROOT_BLANK stands in entry 0 (R116, R152). -/
theorem test_leave_reset_blank :
    after (exec (.leavePowerOnReset ⟨false, 0, 0⟩) State.reset) (fun t =>
      (t.faults.table[0].map (·.cls)) == some .rootBlank && (t.bus.inj.map (·.req.op)).contains .resetZero) = true := by
  decide +kernel

/-- WRSTN asserted under PORSTN: leaving power-on reset leaves the part in warm reset, and it accepts nothing (R21). -/
theorem test_both_reset_lines :
    after (exec .warmReset State.reset) (fun t => after (exec (.leavePowerOnReset ⟨true, 7, 9⟩) t) (fun u =>
      decide (u.line = .warm ∧ u.fuses.programmed = true) && !u.accepting && u.bus.inj.isEmpty &&
        after (exec .leaveWarmReset u) (fun v => v.accepting && (v.bus.inj.map (·.req.op)).contains .resetZero)))
      = true := by decide +kernel

/-- A write of zeros from this slot offset to byte 39, a release among them. -/
def payloadRelease (off : Nat) : List (Option Byte) := List.replicate (40 - off) (some 0)

/-- A write to a TAGGED slot over bytes 8 to 39 is dropped whole, and its length bytes are captured first (R23, R51). -/
theorem test_dropped_write_captures :
    after (exec (.outboundClearWrite ⟨0, 0x2008, .write (List.replicate 32 (some 1))⟩)
        (bed.setRec 0 fun r => { r with state := .tagged, length := some 20 })) (fun t =>
      (t.slotRec 0).any (fun r => decide (r.length = some 257 ∧ r.state = .tagged)) && t.bus.transit.isEmpty) = true := by
  decide +kernel

/-- A write of bytes 8 to 39 to a FAILED slot that carries a release leaves it FAILED with its reason, and its header
bytes go on with the mirror of FAILED and that reason; the release of byte 14 alone is taken (R56, R67, R68). -/
theorem test_failed_keeps_payload_release :
    let s := bed.setRec 0 fun r => { r with state := .failed, reason := .memory }
    after (exec (.outboundClearWrite ⟨0, 0x2008, .write (payloadRelease 8)⟩) s) (fun t =>
      (t.slotRec 0).any (fun r => decide (r.state = .failed ∧ r.reason = .memory)) &&
        t.bus.transit.map (·.access) == [.write (List.replicate 6 (some 0) ++ [some 4, some Reason.memory.code] ++
          List.replicate 24 none)]) = true ∧
    after (exec (.outboundClearWrite (request 0x2000 0)) s) (fun t =>
      (t.slotRec 0).map (·.state) == some .free) = true := by decide +kernel

/-- A first payload beat opens the slot under the CURRENT key with sequence 1 (R52, R53, R122). -/
theorem test_opening_fills :
    after (exec (.transactionAccept ⟨0, 0x2020, .write (List.replicate 8 (some 1))⟩) bed) (fun t =>
      (t.slotRec 0).any (fun r => decide (r.state = .filling ∧ r.seq = some 1)) && (t.key 5).nextSeq == 2 &&
        (t.key 5).refs == 1) = true := by decide +kernel

/-- That beat asks for one keystream block, the first of the frame (R45, R58). -/
theorem test_opening_misses :
    after (exec (.outboundClearWrite ⟨0, 0x2020, .write (List.replicate 8 (some 1))⟩) bed) (fun t =>
      t.ks.misses.map (·.ctr) == [0x0102070F_00000001_CAFE0001_00000001] &&
        t.bus.transit.map (fun e => t.bus.transitReady e) == [false]) = true := by decide +kernel

/-- The block of that frame is enciphered with its first half of keystream when the engine returns (R32, R46). -/
theorem test_miss_enciphers :
    after (exec (.outboundClearWrite ⟨0, 0x2020, .write (List.replicate 8 (some 0))⟩) bed) (fun t =>
      after (exec .cipherGrant t) (fun u => after (exec .keystreamMissComplete u) (fun v =>
        v.bus.transit.map (·.access) ==
          [.write (((beBytes 16 (cipherBlock 99 0x0102070F_00000001_CAFE0001_00000001).toNat).take 8).map some)])))
      = true := by decide +kernel

/-- The marks of R128's worked example: 800,000 frames, 107,374,182 bytes, 288 minutes left; spent at 1,000,000 frames. -/
theorem test_worked_budget :
    let k : KeySlot := { bedKey with frameLimit := 1000000, byteLimit := some 2048, lifetime := some 1440, minutes := 847 }
    ({ k with frames := 799999, bytes := 107374181, minutes := 289 } : KeySlot).softReached 80 = none ∧
    ({ k with frames := 800000 } : KeySlot).softReached 80 = some .softFrames ∧
    ({ k with bytes := 107374182 } : KeySlot).softReached 80 = some .softBytes ∧
    ({ k with minutes := 288 } : KeySlot).softReached 80 = some .softLifetime ∧
    ({ k with frames := 999999 } : KeySlot).spentReached = false ∧
    ({ k with frames := 1000000 } : KeySlot).spentReached = true := by decide

/-- The opening that brings frames used to the frame limit is admitted, and asks with reason SPENT (R125, R127). -/
theorem test_opening_spends :
    after (exec (.transactionAccept ⟨0, 0x2020, .write (List.replicate 8 (some 1))⟩)
        (bed.setKey 5 fun k => { k with frames := 999 })) (fun t =>
      (t.slotRec 0).any (fun r => decide (r.state = .filling)) && (t.key 5).spent &&
        decide (t.notices.list = [⟨2, .renewRequest .spent⟩]) &&
        t.faults.used.map (·.2.cls) == [.keySpent]) = true := by decide +kernel

/-- A transaction that touches two lines is refused (R9). -/
theorem test_two_lines_refused :
    after (exec (.transactionAccept ⟨0, 0x2078, .read 2⟩) bed) (fun t =>
      t.bus.up == [⟨0, 0x2078, false, List.replicate 16 0⟩] && t.bus.transit.isEmpty) = true := by decide +kernel

/-- A line-side write opens an inbound slot (R74). -/
theorem test_arrival :
    after (exec (.inboundLineWrite ⟨1, 0x4020, .write (List.replicate 8 (some 1))⟩) bed) (fun t =>
      (t.slotRec 1).map (fun r => (r.state, r.valid)) == some (.arriving, false)) = true := by decide +kernel

/-- CHECK without a header is REJECTED(MALFORMED) (R81). -/
theorem test_check_without_header :
    after (exec (.inboundClearHeaderWrite (request 0x4000 5)) (bedRec 1 fun r => { r with state := .arriving }))
      (fun t => (t.slotRec 1).map (fun r => (r.state, r.reason)) == some (.rejected, .malformed)) = true := by
  decide +kernel

/-- An empty DATA frame closes and finishes direct: its tag is the length term and the mask (R38, R39, R63). -/
theorem test_close_empty_frame :
    after (exec (.outboundClearWrite (request 0x2000 1))
        (bedRec 0 fun r => { r with state := .filling, kind := some 1, opening := some 3, key := some (.slot 5), valid := true }))
      (fun t => after (exec (.finishDecision 0) t) fun u =>
        (u.slotRec 0).map (·.stage) == some (some .direct) && u.ks.mulQueue.map (·.exp) == [1] &&
          u.ks.background.length == 1) = true := by decide +kernel

/-- The arbiter grants the transit table entry while the passover count is below 8, and counts (R17). -/
theorem test_arbiter_passover :
    after (exec (.transactionAccept ⟨0, 0x900000, .read 1⟩) (bed.enterInj ⟨.fetch, 4, 0, .read 4, none, none⟩)) (fun t =>
      after (exec .downstreamGrant t) fun u => u.bus.passover == 1 && u.bus.down.map (·.injected) == [false]) = true := by
  decide +kernel

/-- The replay window passes a sequence behind the high mark once (R85). -/
theorem test_replay_window :
    ((KeySlot.zeroised.replayDecision 9).bind (·.replayDecision 5)).bind (·.replayDecision 5) = none ∧
      (((KeySlot.zeroised.replayDecision 9).bind (·.replayDecision 5)).map (·.high)) = some 9 := by decide

/-- The worked refill order: overdraw, committed level, excess level (R107). -/
theorem test_refill :
    Meter.refill ⟨true, 100, 2048, 2048, 4, 7, 2000, 1000, 30⟩ = ⟨true, 100, 2048, 2048, 4, 7, 2048, 1022, 0⟩ := by decide
/-- A debit of 3000 from 2048 and 500 leaves 452 overdrawn (R110). -/
theorem test_debit :
    Meter.debit ⟨true, 0, 2048, 2048, 4, 7, 2048, 500, 0⟩ 3000 = ⟨true, 0, 2048, 2048, 4, 7, 0, 0, 452⟩ := by decide

/-- SET_METER clamps: thresholds 9 and 2 become 8 and 8, burst sizes 0 and 2^32 − 1 become 2048 and 1048575 (R106). -/
theorem test_set_meter_clamps :
    after (exec .setMeter (bedCommand [8, 0, 1, 1, 9, 2, 0, 50, 0, 0, 0, 0, 255, 255, 255, 255])) (fun t =>
      t.meterB == ⟨true, 50, 2048, 1048575, 8, 8, 2048, 1048575, 0⟩) = true := by decide +kernel

/-- SET_CHANNEL clamps (R103). -/
theorem test_set_channel_clamps :
    after (exec .setChannel (bedCommand [4, 0, 2, 1, 200, 0, 49, 0, 0])) (fun t =>
      decide ((t.chan 2).link = .b ∧ (t.chan 2).priority = 7 ∧ (t.chan 2).softOverride = some 50 ∧
        (t.chan 2).cutoverSecs = 1 ∧ (t.chan 2).graceSecs = 1)) = true := by decide +kernel

/-- DROP_KEYS zeroises the CURRENT key and puts it at the tail of the free list (R101, R118). -/
theorem test_drop_keys :
    after (exec .dropKeys (bedCommand [6, 0, 2])) (fun t =>
      decide ((t.chan 2).state = .guarded ∧ (t.chan 2).cur = none ∧ t.key 5 = KeySlot.zeroised) &&
        t.keys.freeList.getLast? == some 5) = true := by decide +kernel

/-- A fault of a class and channel that stands in the table is counted there (R151). -/
theorem test_fault_counted :
    let o : Occurrence := ⟨.overrun, .correctable, some 3, none, none, none, false⟩
    (((bed.recordFault o).recordFault o).faults.table[0]).map (·.count) = some 2 := by decide +kernel

/-- A FATAL occurrence guards an OPEN channel (R102, R158). -/
theorem test_escalation :
    ((bed.recordFault ⟨.integrityStorm, .fatal, some 2, none, none, none, false⟩).chan 2).state = .guarded := by
  decide +kernel

/-- An offer whose serial lies below the high mark is REPLAYED without its payload (R135). -/
theorem test_old_offer :
    after (exec (.offerRulingStart 2) ((bedRec 1 fun r => { r with
        state := .checking, seq := some 39, key := some .root, length := some 64, channel := some 2 }).setChan 2 fun c =>
          { c with rulingQueue := [1] }))
      (fun t => (t.slotRec 1).map (·.reason) == some .replayed && (t.chan 2).highMark == 40) = true := by decide +kernel

/-- REQUEST_RENEWAL, and the notice that it leads to: 32 bytes under the CURRENT key (R165, R166, R177). -/
theorem test_renewal_notice :
    after (exec .requestRenewal (bedCommand [7, 0, 2])) (fun t => after (exec .protocolNoticeStart t) fun u =>
      (u.slotRec 2).map (fun r => (r.state, r.kind, r.length)) == some (.composing, some 4, some 32) &&
        u.ks.background.length == 2) = true := by decide +kernel

/-- A completed producer index write leads to the fetch of record 0 at page offset 0x100 (R174, R175). -/
theorem test_producer_write :
    after (exec (.commandProducerIndexWrite 10) (bed.enter { bed.plainEntry ⟨0, 0, .write
        ((beBytes 4 1).map some ++ List.replicate 4 none)⟩ (some ⟨0, .controlPage, none, none, 0⟩) with issued := true }))
      (fun t => t.ctl.producer == 1 && t.bus.inj.map (fun e => (e.req.op, e.req.start)) == [(.fetch, 0x100)]) = true := by
  decide +kernel

/-- The first key's confirmation leads to IDLE though a NEXT key has come since; for another role it leads to nothing (R143). -/
theorem test_confirm_for_its_role :
    let s (as : KeyRole) := (bedChan fun c => { c with next := some 6, renewal := .confirming }).setKey 5 fun k =>
      { k with seatedAs := some as }
    ((((s .current).confirmTagged 2 5).chan 2).renewal, (((s .next).confirmTagged 2 5).chan 2).renewal) =
      (.idle, .confirming) := by decide +kernel

/-- A completed notice that carried more than the lost total now holds never raises it (R154). -/
theorem test_lost_total_not_raised :
    ({ bed with faults := { bed.faults with lost := 3 } }.subtractLost 9).faults.lost ≤ 3 := by
  have h : ¬ 9 ≤ ({ bed with faults := { bed.faults with lost := 3 } } : State).faults.lost := by decide
  simp only [State.subtractLost, if_neg h]
  exact Nat.min_le_right _ _

/-- The lost-report count changed while its write was outstanding: an ERROR too is followed by the present value (R180). -/
theorem test_lost_count_after_error :
    after (exec (.injectedError 4) (withInj { bed with
        faults := { bed.faults with localMask := ⟨false, false, false⟩ }, ctl := { bed.ctl with lost := 2, lostWritten := 1 } }
        .lostWord (.write []))) (fun t =>
      t.bus.inj.map (·.req.access) == [.write (List.replicate 4 none ++ (beBytes 4 2).map some)]) = true := by decide +kernel

/-- A failed composition's NOTICE_BLOCKED names the notice slot (R148, R170). -/
theorem test_notice_blocked_names_slot :
    after (exec (.injectedError 4) (withInj { bedRec 2 (fun r => { r with
        state := .composing, channel := some 2, opening := some 3 }) with
          notices := { bed.notices with comp := some ⟨2, 3, 5, [], [], none, [], 0⟩ } } (.noticeLine0 3) (.write []))) (fun t =>
      (List.finRange 32).any fun i => (t.faults.table[i]).any fun e =>
        decide (e.cls = .noticeBlocked ∧ e.channel = some 2 ∧ e.window = some 3 ∧ e.slot = some 0)) = true := by decide +kernel

/-- The waiting plaintext requests of an offer whose key slot is zeroised are withdrawn (R118). -/
theorem test_stray_plaintext_withdrawn :
    (let held := ((bedRec 1 fun r => { r with claimed := true }).setKey 6 fun k =>
        { k with state := .staged, owner := some 2, refs := 1 }).setChan 2 fun c =>
      { c with hold := some ⟨1, 41, 8, 6⟩, loading := some ⟨3, 1, none, [none, none, none, none]⟩ }
    ({ held with ks := { held.ks with background := [⟨.offerPlain 2 3 1, .root, 7⟩] } }.teardown 2 .guarded).ks.background)
      = [] := by decide +kernel

/-- Four 250-microsecond intervals make a millisecond (R182). -/
theorem test_time_base :
    after (exec .timeBaseTick { bed with time := { bed.time with quarter := 3 } }) (fun t =>
      t.time.ms == 1 && t.time.quarter == 0) = true := by decide +kernel

/-! ## Witnesses: states and operands that meet the hypotheses of the statements -/

/-- The fault table's invariant from a check of its pairs. -/
theorem faultsSound_of (s : State)
    (h : ∀ i j : Fin 32, ∀ e ∈ s.faults.table[i], ∀ f ∈ s.faults.table[j], e.cls = f.cls → e.channel = f.channel → i = j)
    (g : ∀ i : Fin 32, ∀ e ∈ s.faults.table[i], e.cls.deviceScoped = true → e.channel = none) : s.faultsSound :=
  ⟨fun i j e f he hf => h i j e he f hf, fun i e he => g i e he⟩

/-- The bed with a command in front. -/
def front : State := { bed with pending := [.meterRefill, .staleResponse 0] }

theorem witness_StepRunsFrontCommand : front.pending = .meterRefill :: [.staleResponse 0] ∧ bed.pending = [] := by decide

theorem witness_tablesSound : front.tablesSound := by unfold State.tablesSound; decide +kernel
theorem witness_metersSound : front.metersSound := by unfold State.metersSound Meter.sound; decide +kernel
theorem witness_channelsSound : front.channelsSound := by unfold State.channelsSound Channel.sound; decide +kernel
theorem witness_faultsSound : front.faultsSound := faultsSound_of front (by decide +kernel) (by decide +kernel)
theorem witness_irqSound : front.irqSound := by unfold State.irqSound; decide +kernel
theorem witness_passoverSound : front.passoverSound := by unfold State.passoverSound; decide +kernel
theorem witness_rested : front.rested := by unfold State.rested; decide +kernel
theorem witness_agesSound : front.agesSound := by unfold State.agesSound; decide +kernel
theorem witness_poolSound : front.poolSound := by unfold State.poolSound; decide +kernel
theorem witness_sizesSound : front.sizesSound := by unfold State.sizesSound; decide +kernel

/-- The Key Store's invariant, without a hold and with an idle engine, from checks of its slots, roles and records. -/
theorem keysSound_of (s : State) (holds : ∀ c, (s.chan c).hold = none)
    (asked : s.ks.background = [] ∧ s.ks.cipher = none) (slots : ∀ k, s.keySlotSound k)
    (roles : ∀ c, (s.chan c).next = none ∧ (s.chan c).prev = none ∧
      ∀ k, (s.chan c).cur = some k → (s.key k).owner = some c)
    (free : s.keys.freeList.Nodup)
    (recs : ∀ p ∈ s.pool, p.2.state = .free ∨ p.2.state = .failed ∨ p.2.state = .rejected ∨
      (p.2.state = .arriving ∧ p.2.headerSeen = false) → p.2.keySlot = none) : s.keysSound := by
  refine ⟨slots, fun c => ?_, free, recs, fun r k h => ?_⟩
  · obtain ⟨next, prev, cur⟩ := roles c
    simp_all [State.roleKeysSound]
  · rcases h with h | ⟨g, hg, _⟩
    · rw [asked.1] at h; cases h
    · rw [asked.2] at hg; cases hg

theorem witness_keysSound : front.keysSound :=
  keysSound_of front (by decide +kernel) (by decide +kernel) (by unfold State.keySlotSound; decide +kernel)
    (by decide +kernel) (by decide +kernel) (by decide +kernel)

/-- The premises of EntryZeroStaysFixed, MetersStayInRange, ChannelsStaySound, FaultKeysStayUnique, EveryStepSettles,
CollectionsStaySound and KeySlotsStaySound meet in one state that steps. -/
theorem witness_sound_and_steps : front.sound ∧ ∃ t, step front = .next t :=
  ⟨⟨witness_tablesSound, witness_metersSound, witness_channelsSound, witness_faultsSound, witness_irqSound,
    witness_passoverSound, witness_rested, witness_agesSound, witness_poolSound, witness_sizesSound, witness_keysSound⟩, ⟨_, rfl⟩⟩

theorem witness_SettingsHaveTheirCommands :
    (∃ t, exec .meterRefill bed = .next t) ∧ (∃ t, exec .setWindow (bedCommand [1]) = .next t) := ⟨⟨_, rfl⟩, ⟨_, rfl⟩⟩

theorem witness_OfferMarkNeverFalls :
    (∀ b, Instr.warmReset ≠ .powerOnReset b) ∧ ∃ t, exec .warmReset bed = .next t := ⟨by simp, ⟨_, rfl⟩⟩

theorem witness_SequencePassesOnce :
    (KeySlot.zeroised.replayDecision 1).isSome = true ∧ (KeySlot.zeroised.replayDecision 4294967295).isSome = true ∧
      KeySlot.zeroised.replayDecision 0 = none := by decide

/-- A fault table entry of the tests. -/
def faultEntry (cls : FaultClass) (sev : Severity) (c : Option (Fin 16)) (notice : NoticeState) (updated : Nat) :
    FaultEntry := ⟨cls, sev, c, none, none, none, 3, 1, 0, 0, notice, false, updated⟩

/-- The bed with a full fault table of this severity and notice state. -/
def bedFull (sev : Severity) (notice : NoticeState) : State :=
  { bed with faults := { bed.faults with
      table := Vector.ofFn fun i : Fin 32 => some
        (faultEntry (if i.val < 16 then .overrun else .replayed) sev (some (Fin.ofNat 16 i.val)) notice i.val) } }

theorem witness_full_faultsSound :
    (bedFull .correctable .pending).faultsSound ∧ (bedFull .fatal .pending).faultsSound ∧
      (bedFull .correctable .composing).faultsSound :=
  ⟨faultsSound_of _ (by decide +kernel) (by decide +kernel), faultsSound_of _ (by decide +kernel) (by decide +kernel),
    faultsSound_of _ (by decide +kernel) (by decide +kernel)⟩

/-- The four ways of FaultUnitTakesOccurrence: counted, a free entry, a replaced one, and none to replace. -/
theorem witness_FaultUnitTakesOccurrence :
    let o : Occurrence := ⟨.keySpent, .degraded, some 2, none, none, none, false⟩
    o = o.scoped ∧
    ((bedFull .correctable .pending).faults.table[(0 : Fin 32)] =
      some (faultEntry .overrun .correctable (some 0) .pending 0)) ∧
    (bed.faults.table[(0 : Fin 32)] = none) ∧
    (∀ j : Fin 32, (bedFull .correctable .pending).faults.table[j] ≠ none) ∧
    (∀ j : Fin 32, ∀ e ∈ (bedFull .correctable .pending).faults.table[j], ¬ (e.cls = o.cls ∧ e.channel = o.channel) ∧
      e.severity.code < o.severity.code ∧ e.notice ≠ .composing) ∧
    (∀ j : Fin 32, ∀ e ∈ (bedFull .correctable .composing).faults.table[j], e.notice = .composing) := by decide +kernel

/-- An occurrence that raises an entry's severity, with local reports for it (R151, R155). -/
theorem witness_FaultUnitTakesOccurrence_raise :
    let o : Occurrence := ⟨.overrun, .degraded, some 0, none, none, none, false⟩
    o = o.scoped ∧ (bedFull .correctable .pending).faults.table[(0 : Fin 32)] =
      some (faultEntry .overrun .correctable (some 0) .pending 0) ∧
    (faultEntry .overrun .correctable (some 0) .pending 0).severity.code < o.severity.code ∧
    (bedFull .correctable .pending).faults.localMask.has .degraded = true := by decide +kernel

theorem witness_WarmResetKeeps : bed.line ≠ .powerOn := by decide

theorem witness_LeavingResets :
    State.reset.line = .powerOn ∧ State.reset.wrstnToo = false ∧
      ({ State.reset with wrstnToo := true } : State).line = .powerOn ∧ ({ bed with line := .warm } : State).line = .warm ∧
      bed.fuses.programmed = true ∧
      State.reset.fuses.programmed = false := by decide

/-! ### Transactions -/

/-- Transactions outside every window, over two lines, and from a BLOCKED initiator. -/
theorem witness_PortPassesAndRefuses :
    bed.accepting = true ∧
    (Transaction.mk 0 0x9000 (.read 16)).wellFormed = true ∧ bed.placeOf ⟨0, 0x9000, .read 16⟩ = none ∧
    (Transaction.mk 0 0x1FF8 (.read 2)).wellFormed = true ∧
    bed.placeOf ⟨0, 0x1FF8, .read 2⟩ = some ⟨1, .outbound, some 0, some 0, 0⟩ ∧ lineOf 0x1FF8 ≠ lineOf 0x2007 ∧
    bed.placeOf ⟨2, 0x27F8, .read 1⟩ = some ⟨1, .outbound, some 0, some 0, 2040⟩ ∧
    bed.classOf ⟨2, 0x27F8, .read 1⟩ = .blocked := by decide +kernel

/-- Accesses inside one line that go to no frame unit: raw reads, and the CONFLICTs of R10. -/
theorem witness_PortPassesAndRefuses_inside :
    bed.placeOf ⟨1, 0x2008, .read 1⟩ = some ⟨1, .outbound, some 0, some 0, 8⟩ ∧
    bed.classOf ⟨1, 0x2008, .read 1⟩ = .line ∧ lineOf 0x2008 = lineOf 0x200F ∧
    bed.placeOf ⟨0, 0x67F8, .read 1⟩ = some ⟨3, .notice, some 0, some 2, 2040⟩ ∧
    bed.classOf ⟨0, 0x67F8, .read 1⟩ = .clear ∧ lineOf 0x67F8 = lineOf 0x67FF ∧
    bed.placeOf ⟨0, 0x8000, .write (List.replicate 8 none)⟩ = some ⟨4, .report, none, none, 0⟩ ∧
    bed.placeOf ⟨0, 0x6010, .write (List.replicate 8 (some 1))⟩ = some ⟨3, .notice, some 0, some 2, 16⟩ ∧
    strobesIn (List.replicate 8 (some 1)) 16 16 2048 = true ∧
    bed.placeOf ⟨1, 0, .write (List.replicate 8 none)⟩ = some ⟨0, .controlPage, none, none, 0⟩ ∧
    bed.classOf ⟨1, 0, .write (List.replicate 8 none)⟩ = .line := by decide +kernel

/-! ### What statements share: report records, and the judgement of a budget -/

/-- A live ring that is not full, with no write outstanding and with one; and no live ring. -/
theorem witness_Handed :
    let live : State := { bed with ctl := { bed.ctl with ringSize := 16, ringProducer := 5, ringConsumer := 2 } }
    live.reportOutstanding = false ∧ live.ctl.queue = [] ∧ live.ringLive = true ∧
    (live.ctl.ringProducer + 1) % live.ctl.ringSize ≠ live.ctl.ringConsumer ∧ live.reportWindow.isSome = true ∧
    (withInj live .reportWord (.write [])).reportOutstanding = true ∧ live.ctl.queue.length ≤ 8 ∧
    bed.reportOutstanding = false ∧ bed.ringLive = false := by decide +kernel

/-- Key slots that ask for SOFT_FRAMES, SOFT_BYTES and SOFT_LIFETIME, that are newly spent, that were spent before they
are promoted, and that do not ask. -/
theorem witness_budgets :
    ({ bedKey with frames := 800 } : KeySlot).asks 80 false .softFrames ∧
    ({ bedKey with byteLimit := some 1, bytes := 52428 } : KeySlot).asks 80 false .softBytes ∧
    ({ bedKey with lifetime := some 10, minutes := 2 } : KeySlot).asks 80 false .softLifetime ∧
    (({ bedKey with frames := 1000 } : KeySlot).spends false ∧ ({ bedKey with frames := 1000 } : KeySlot).asks 80 false .spent) ∧
    (({ bedKey with spent := true, asked := true } : KeySlot).spends true ∧
      ({ bedKey with spent := true, asked := true } : KeySlot).asks 80 true .spent) ∧
    ∀ why, ¬ bedKey.asks 80 false why := by
  simp [KeySlot.asks, KeySlot.softens, KeySlot.spends, KeySlot.softMark, KeySlot.spentMark, bedKey, KeySlot.zeroised]

/-- A RENEW_REQUEST that joins the end of a list, takes the place of another, and is dropped at a full list. -/
theorem witness_RenewHanded :
    RenewHanded [⟨2, .keyConfirm 5⟩] [⟨2, .keyConfirm 5⟩, ⟨2, .renewRequest .spent⟩] 2 .spent ∧
    RenewHanded [⟨2, .renewRequest .softBytes⟩, ⟨2, .keyConfirm 5⟩] [⟨2, .renewRequest .spent⟩, ⟨2, .keyConfirm 5⟩] 2
      .spent ∧
    RenewHanded (List.replicate 16 ⟨3, .keyConfirm 5⟩) (List.replicate 16 ⟨3, .keyConfirm 5⟩) 2 .spent := by
  simp [RenewHanded]

/-- A promotion of the bed's key slot: no PREVIOUS key, and a list with places. -/
theorem witness_PromotionJudged :
    (bed.chan 2).prev = none ∧ bed.ks.overflow = [] ∧ bed.notices.list.length < 16 := by decide +kernel

/-- The place of the first byte of the bed's outbound, inbound and notice slots. -/
def placeOut : Place := ⟨1, .outbound, some 0, some 0, 0⟩
def placeIn : Place := ⟨2, .inbound, some 0, some 1, 0⟩
def placeNotice : Place := ⟨3, .notice, some 0, some 2, 0⟩

/-- The bytes of a header write of byte 14 alone. -/
def requestBytes (v : Byte) : List (Option Byte) := List.replicate 14 none ++ [some v, none]

theorem witness_AdmittedOpening :
    Reaches bed ⟨0, 0x2000, .write (List.replicate 16 (some 3))⟩ .outboundClearWrite placeOut 0 freshOut ∧
    freshOut.state = .free ∧ opensOutbound (List.replicate 16 (some 3)) 0 = true ∧
    strobedAt (List.replicate 16 (some 3)) 0 14 ≠ some 1 ∧ bed.boundChannel freshOut = some 2 := by
  unfold Reaches; decide +kernel

theorem witness_AdmittedOpening_admission : bed.admission 2 = .ok 5 := by rfl

/-- The bed's CURRENT key belongs to its channel, and the cache holds nothing under it. -/
theorem witness_AdmittedOpening_budget :
    (bed.key 5).owner = some 2 ∧ bed.notices.list.length < 16 ∧ ∀ ctr, bed.ks.cached 5 ctr = none :=
  ⟨by decide +kernel, by decide +kernel, fun _ => rfl⟩

/-- The five refusals of an opening, by channel state, keys and meter. -/
theorem witness_RefusedOpening :
    Reaches (bedChan fun c => { c with state := .guarded }) ⟨0, 0x27F8, .write (List.replicate 8 (some 3))⟩
      .outboundClearWrite { placeOut with off := 2040 } 0 freshOut ∧
    opensOutbound (List.replicate 8 (some 3)) 2040 = true ∧
    ((bedChan fun c => { c with state := .disabled }).chan 2).state = .disabled ∧
    ((bedChan fun c => { c with state := .guarded }).chan 2).state = .guarded ∧
    (((bedChan fun c => { c with cur := none }).chan 2).state = .opened ∧
      ((bedChan fun c => { c with cur := none }).chan 2).cur = none) ∧
    ((bed.setKey 5 fun k => { k with spent := true }).key 5).spent = true ∧
    (({ bed with meterA := ⟨true, 0, 2048, 2048, 4, 7, 2047, 0, 0⟩ } : State).meter .a).admits (bed.chan 2).priority
      = false := by
  refine ⟨?_, by decide +kernel⟩
  unfold Reaches; decide +kernel

/-- A record that is FILLING under key slot 5. -/
def fillingRec : SlotRec := { freshOut with
  state := .filling, channel := some 2, key := some (.slot 5), kind := some 1, length := some 2016, opening := some 3,
  valid := true }

theorem witness_CloseIsJudged :
    (bedRec 0 fun _ => fillingRec).agesSound ∧
    Reaches (bedRec 0 fun _ => fillingRec) (request 0x2000 1) .outboundClearWrite placeOut 0 fillingRec ∧
    strobesIn (requestBytes 1) 0 32 2048 = false ∧ strobedAt (requestBytes 1) 0 14 = some 1 ∧
    (fillingRec.capture (requestBytes 1) 0).kind = some kindData ∧
    (fillingRec.capture (requestBytes 1) 0).length.getD 0 = 2016 ∧
    ((({ fillingRec with length := some 2017 } : SlotRec).capture (requestBytes 1) 0).length.getD 0 = 2017) ∧
    (({ fillingRec with kind := some 2 } : SlotRec).capture (requestBytes 1) 0).kind ≠ some kindData := by
  refine ⟨by unfold State.agesSound; decide +kernel, ?_, by decide +kernel⟩
  unfold Reaches; decide +kernel

/-- A write that opens the bed's FREE slot, fills its first block and closes it, with kind DATA, a length and a CLOSE. -/
def closeBytes (kind hi : Byte) : List (Option Byte) :=
  [none, some kind] ++ List.replicate 10 none ++ [some hi, some 16, some 1, none] ++ List.replicate 16 none ++
    List.replicate 16 (some 3)

/-- A CLOSE in the write that opens the slot: DATA of 16 bytes, another kind, and a length above 2016. -/
theorem witness_CloseIsJudged_opening :
    bed.agesSound ∧
    Reaches bed ⟨0, 0x2000, .write (closeBytes 1 0)⟩ .outboundClearWrite placeOut 0 freshOut ∧
    freshOut.state = .free ∧ bed.boundChannel freshOut = some 2 ∧ strobedAt (closeBytes 1 0) 0 14 = some 1 ∧
    strobesIn (closeBytes 1 0) 0 32 2048 = true ∧ (freshOut.capture (closeBytes 1 0) 0).kind = some kindData ∧
    (freshOut.capture (closeBytes 1 0) 0).length.getD 0 = 16 ∧
    (freshOut.capture (closeBytes 2 0) 0).kind ≠ some kindData ∧
    (freshOut.capture (closeBytes 1 8) 0).length.getD 0 = 2064 ∧
    (bed.key 5).owner = some 2 ∧ (bed.key 5).state ≠ .free := by
  refine ⟨by unfold State.agesSound; decide +kernel, ?_, by decide +kernel⟩
  unfold Reaches; decide +kernel

/-- A payload write of this many bytes at the bed's outbound slot, and its place. -/
def payloadAt (off len : Nat) : Transaction := ⟨0, BitVec.ofNat 40 (0x2000 + off), .write (List.replicate len (some 3))⟩

/-- The keystream block of the filling record's first payload block. -/
def bedCached : State :=
  let s := bedRec 0 fun _ => fillingRec
  { s with ks := { s.ks with cache := s.ks.cache.set 0 (some ⟨5, s.recBlock fillingRec 1, 77⟩) } }

/-- Payload writes in FILLING, with the keystream cached and not, in FAILED without and with header bytes, in TAGGING and
TAGGED, one that carries a release in FAILED, and one whose opening fails. -/
theorem witness_OutboundPayloadPath :
    bedCached.agesSound ∧ Reaches bedCached (payloadAt 32 16) .outboundClearWrite { placeOut with off := 32 } 0 fillingRec ∧
    Reaches (bedRec 0 fun _ => fillingRec) (payloadAt 2032 16) .outboundClearWrite { placeOut with off := 2032 } 0
      fillingRec ∧
    Reaches (bedRec 0 fun _ => { fillingRec with state := .failed }) (payloadAt 16 24) .outboundClearWrite
      { placeOut with off := 16 } 0 { fillingRec with state := .failed } ∧
    Reaches (bedRec 0 fun _ => { fillingRec with state := .failed }) (payloadAt 0 40) .outboundClearWrite placeOut 0
      { fillingRec with state := .failed } ∧
    Reaches (bedRec 0 fun _ => { fillingRec with state := .failed }) ⟨0, 0x2000, .write (payloadRelease 0)⟩
      .outboundClearWrite placeOut 0 { fillingRec with state := .failed } ∧
    Reaches (bedRec 0 fun _ => { fillingRec with state := .tagging }) (payloadAt 32 8) .outboundClearWrite
      { placeOut with off := 32 } 0 { fillingRec with state := .tagging } ∧
    Reaches (bedRec 0 fun _ => { fillingRec with state := .tagged }) (payloadAt 32 8) .outboundClearWrite
      { placeOut with off := 32 } 0 { fillingRec with state := .tagged } ∧
    Reaches (bedChan fun c => { c with state := .guarded }) (payloadAt 32 8) .outboundClearWrite
      { placeOut with off := 32 } 0 freshOut := by
  refine ⟨by unfold State.agesSound; decide +kernel, ?_, ?_, ?_, ?_, ?_, ?_, ?_, ?_⟩ <;> (unfold Reaches; decide +kernel)

theorem witness_OutboundPayloadPath_bytes :
    strobesIn (List.replicate 16 (some 3)) 32 32 2048 = true ∧ strobesIn (List.replicate 24 (some 3)) 16 0 16 = false ∧
    strobesIn (List.replicate 24 (some 3)) 16 32 2048 = true ∧ strobesIn (List.replicate 40 (some 3)) 0 0 16 = true ∧
    strobesIn (payloadRelease 0) 0 32 2048 = true ∧ strobedAt (payloadRelease 0) 0 14 = some 0 ∧
    strobesIn (payloadRelease 0) 0 0 16 = true ∧ strobedAt (List.replicate 40 (some 3)) 0 14 ≠ some 0 ∧ opensOutbound (List.replicate 8 (some 3)) 32 = true ∧
    bedCached.ks.cached 5 (bedCached.recBlock fillingRec (blockAt 32)) = some 77 ∧
    bedCached.ks.cached 5 (bedCached.recBlock fillingRec (blockAt 2032)) = none ∧ bed.keyRole 5 ≠ none ∧
    (bedChan fun c => { c with state := .guarded }).boundChannel freshOut = some 2 ∧
    strobesIn (List.replicate 8 (some 3)) 32 12 14 = false := by decide +kernel

/-- The GUARDED channel admits nothing, and the OPEN one admits under key slot 5: an opening write of payload, whose
keystream is cached for the frame it opens, and one without. -/
theorem witness_OutboundPayloadPath_openings :
    (bedChan fun c => { c with state := .guarded }).admission 2 = .error .channelGuarded ∧
    bed.admission 2 = .ok 5 ∧ bed.boundChannel freshOut = some 2 ∧
    Reaches bed (payloadAt 32 16) .outboundClearWrite { placeOut with off := 32 } 0 freshOut := by
  unfold Reaches; exact ⟨rfl, rfl, by decide +kernel⟩

/-- A write of these bytes of payload block 1 of the bed's outbound slot that waits for its keystream. -/
def waitingWrite (len : Nat) : TransitEntry :=
  ⟨7, 0, 0x2020, .write (List.replicate len (some 3)), some 1, some 0, some 0, true, some 3, true, [],
    List.replicate (len / 8) .waiting, false, none⟩

/-- A read of that block that waits for the same keystream. -/
def waitingRead : TransitEntry :=
  ⟨8, 0, 0x2020, .read 2, some 1, some 0, some 0, true, none, false, List.replicate 16 .decipher, [.waiting, .waiting],
    false, none⟩

/-- The bed with those two in the transit table and the miss they wait on in the engine. -/
def bedMiss (len : Nat) (waiters : List Waiter) : State :=
  let s := bedRec 0 fun _ => fillingRec
  { s with
    bus := { s.bus with transit := [waitingWrite len, waitingRead] }
    ks := { s.ks with misses := [⟨6, 5, 77, waiters, true⟩], cipher := some ⟨.miss 6, .slot 5, 77, false⟩ } }

theorem witness_OutboundPayloadPath_miss :
    (let w : List Waiter := [⟨7, 0⟩, ⟨7, 1⟩]
     (bedMiss 16 w).agesSound ∧ (bedMiss 16 w).ks.misses.find? (·.id == 6) = some ⟨6, 5, 77, w, true⟩ ∧ w.Nodup ∧
      (bedMiss 16 w).ks.overflow = [] ∧ (bedMiss 16 w).bus.entry 7 = some (waitingWrite 16)) ∧
    (bedMiss 8 [⟨7, 0⟩]).bus.entry 7 = some (waitingWrite 8) ∧
    (bedMiss 16 []).slotRec 0 = some fillingRec ∧ fillingRec.opening = (waitingWrite 16).opening ∧
    (waitingWrite 16).start % 2048 = 32 + 16 * (1 - 1) ∧ 1 ∉ fillingRec.folded ∧ (bedMiss 16 []).mergeOf 0 1 = none ∧
    waitingRead.access = .read 2 ∧ waitingRead.back = none ∧ .waiting ∈ (waitingWrite 8).beatKeys := by
  unfold State.agesSound; decide +kernel

/-- The releases of the three kinds of slot, the key slot in a role, and one that has left its roles. -/
theorem witness_ReleaseReturnsSlot :
    Reaches (bedRec 0 fun _ => { fillingRec with state := .failed, key := none }) (request 0x2000 0) .outboundClearWrite
      placeOut 0 { fillingRec with state := .failed, key := none } ∧
    Reaches (bedRec 1 fun r => { r with state := .passed, key := some (.slot 5) }) (request 0x4000 0) .inboundClearHeader
      placeIn 1 { freshIn with state := .passed, key := some (.slot 5) } ∧
    Reaches (bedRec 2 fun r => { r with state := .tagged, key := some (.slot 5) }) (request 0x6000 0) .noticeClearHeader
      placeNotice 2 { freshNotice with state := .tagged, key := some (.slot 5) } ∧
    strobesIn (requestBytes 0) 0 32 2048 = false ∧ strobesIn (requestBytes 0) 0 16 32 = false ∧
    strobedAt (requestBytes 0) 0 14 = some 0 ∧
    (bed.keyRole 5).isSome = true ∧
    ((bedChan fun c => { c with cur := none }).setKey 5 fun k => { k with state := .retiring, refs := 1 }).keyRole 5 = none ∧
    (((bedChan fun c => { c with cur := none }).setKey 5 fun k => { k with state := .retiring, refs := 1 }).key 5).refs
      = 1 := by
  refine ⟨?_, ?_, ?_, by decide +kernel⟩ <;> (unfold Reaches; decide +kernel)

theorem witness_ClearReadTreatment :
    bed.agesSound ∧
    Reaches bed ⟨0, 0x2000, .read 16⟩ .outboundClearRead placeOut 0 freshOut ∧
    Reaches bed ⟨0, 0x4000, .read 5⟩ .inboundClearRead placeIn 1 freshIn ∧
    Reaches bed ⟨0, 0x4020, .read 1⟩ .inboundClearRead { placeIn with off := 32 } 1 freshIn ∧
    Reaches (bedRec 1 fun r => { r with state := .passed, kind := some 1, length := some 9, key := some (.slot 5) })
      ⟨0, 0x4000, .read 16⟩ .inboundClearRead placeIn 1
      { freshIn with state := .passed, kind := some 1, length := some 9, key := some (.slot 5) } := by
  refine ⟨witness_agesSound, ?_, ?_, ?_, ?_⟩ <;> (unfold Reaches; decide +kernel)

/-- Reads under key slot 5 of a block whose keystream is cached and of one whose is not. -/
theorem witness_ClearReadTreatment_keys :
    Reaches bedCached ⟨0, 0x2020, .read 4⟩ .outboundClearRead { placeOut with off := 32 } 0 fillingRec ∧
    bedCached.ks.cached 5 (bedCached.recBlock fillingRec (blockAt (0x2020 % 2048 + 8 * 1))) = some 77 ∧
    bedCached.ks.cached 5 (bedCached.recBlock fillingRec (blockAt (0x2020 % 2048 + 8 * 2))) = none := by
  unfold Reaches; decide +kernel

theorem witness_WrongSideWrites :
    Reaches (bedRec 0 fun _ => fillingRec) ⟨1, 0x2000, .write (List.replicate 8 none)⟩ .outboundLineWrite placeOut 0
      fillingRec ∧
    Reaches bed ⟨1, 0x2000, .write (List.replicate 8 none)⟩ .outboundLineWrite placeOut 0 freshOut ∧
    Reaches (bedRec 0 fun _ => { fillingRec with state := .tagging }) ⟨1, 0x2000, .write (List.replicate 8 none)⟩
      .outboundLineWrite placeOut 0 { fillingRec with state := .tagging } ∧
    Reaches (bedRec 1 fun r => { r with state := .arriving }) ⟨0, 0x4010, .write (List.replicate 8 (some 0))⟩
      .inboundClearPayload { placeIn with off := 16 } 1 { freshIn with state := .arriving } ∧
    Reaches bed ⟨0, 0x4010, .write (List.replicate 8 (some 0))⟩ .inboundClearPayload { placeIn with off := 16 } 1
      freshIn := by
  refine ⟨?_, ?_, ?_, ?_, ?_⟩ <;> (unfold Reaches; decide +kernel)

/-- A whole header of a DATA frame of channel 2 under generation 7. -/
def header : List (Option Byte) :=
  [0x31, 1, 2, 7, 0, 0, 0, 1, 0xCA, 0xFE, 0, 1, 0, 16, 0, 0].map some

theorem witness_LineSideArrival :
    Reaches bed ⟨1, 0x4000, .write header⟩ .inboundLineWrite placeIn 1 freshIn ∧
    Reaches (bedRec 1 fun r => { r with state := .checking }) ⟨1, 0x4000, .write header⟩ .inboundLineWrite placeIn 1
      { freshIn with state := .checking } ∧
    Reaches (bedRec 1 fun r => { r with state := .rejected }) ⟨1, 0x4000, .write header⟩ .inboundLineWrite placeIn 1
      { freshIn with state := .rejected } ∧
    freshIn.headerSeen = false ∧ strobesAll header 0 0 16 = true ∧ headerSound header 0 bed.shop = true ∧
    headerSound (List.replicate 16 (some 0)) 0 bed.shop = false := by
  refine ⟨?_, ?_, ?_, by decide +kernel⟩ <;> (unfold Reaches; decide +kernel)

/-- An ARRIVING record with its header seen. -/
def arrivingRec : SlotRec := { freshIn with
  state := .arriving, channel := some 2, kind := some 1, gen := some 7, seq := some 1, length := some 16,
  key := some (.slot 5), headerSeen := true, valid := true, opening := some 3 }

/-- A bed whose channel 2 has this generation as NEXT in key slot 6 and that as PREVIOUS in key slot 7. -/
def bedGens (next prev : Byte) : State :=
  ((bedChan fun c => { c with next := some 6, prev := some 7 }).setKey 6 fun k => { k with gen := next }).setKey 7 fun k =>
    { k with gen := prev }

/-- The key choice: a KEY_OFFER with fuses PROGRAMMED and BLANK, DATA under CURRENT, NEXT, PREVIOUS and no key; the
pre-check of CURRENT; and the payload clauses of an ARRIVING record of 20 bytes. -/
theorem witness_LineSideArrival_clauses :
    headerField header 0 2 3 = (2 : Fin 16).val ∧ headerField header 0 1 2 = 1 ∧
    headerField ([0x31, 2].map some ++ header.drop 2) 0 1 2 = 2 ∧
    headerSound ([0x31, 2].map some ++ header.drop 2) 0 bed.shop = true ∧ bed.fuses.programmed = true ∧
    State.reset.fuses.programmed = false ∧ (bed.key 5).gen = 7 ∧ ((bedGens 8 6).chan 2).cur = some 5 ∧
    (((bedGens 7 6).setKey 5 fun k => { k with gen := 6 }).key 6).gen = 7 ∧
    (((bedGens 6 7).setKey 5 fun k => { k with gen := 5 }).key 7).gen = 7 ∧
    (∀ k : Fin 32, (((bedGens 8 6).setKey 5 fun k => { k with gen := 9 }).chan 2).cur = some k → k = 5) ∧
    strobesIn (List.replicate 8 (some 3)) 32 0 16 = false ∧ blocksStrobed (List.replicate 8 (some 3)) 32 = [1] ∧
    blocksStrobed (List.replicate 32 (some 3)) 32 = [1, 2] ∧
    (∀ b ∈ [1, 2], (blockBytesIn (List.replicate 32 (some 3)) 32 b).all Option.isSome = true) ∧
    (blockBytesIn (List.replicate 8 (some 3)) 32 1).all Option.isSome = false ∧
    blocksStrobed (List.replicate 8 (some 3)) 48 = [2] ∧ arrivingRec.reason = .none ∧ arrivingRec.doomed = false ∧
    strobesIn header 0 0 14 = true := by decide +kernel

theorem witness_LineSideArrival_payload :
    Reaches (bedRec 1 fun _ => { arrivingRec with length := some 20 }) ⟨1, 0x4020, .write (List.replicate 32 (some 3))⟩
      .inboundLineWrite { placeIn with off := 32 } 1 { arrivingRec with length := some 20 } ∧
    Reaches bed ⟨1, 0x4020, .write (List.replicate 8 (some 3))⟩ .inboundLineWrite { placeIn with off := 32 } 1 freshIn ∧
    Reaches (bedRec 1 fun _ => arrivingRec) ⟨1, 0x4000, .write header⟩ .inboundLineWrite placeIn 1 arrivingRec := by
  refine ⟨?_, ?_, ?_⟩ <;> (unfold Reaches; decide +kernel)

/-- A burst of line 0 with a sound header and three payload blocks, of a frame of one: header and payload in one write. -/
def lineZero : List (Option Byte) := header ++ List.replicate 64 (some 3)

theorem witness_LineSideArrival_burst :
    Reaches bed ⟨1, 0x4000, .write lineZero⟩ .inboundLineWrite placeIn 1 freshIn ∧ strobesIn lineZero 0 0 16 = true ∧
    blocksStrobed lineZero 0 = [1, 2, 3] ∧ (blockBytesIn lineZero 0 1).all Option.isSome = true := by
  unfold Reaches; decide +kernel

/-- The CHECK of a sound header, and the five early reasons. -/
theorem witness_CheckSettlesOrBegins :
    Reaches (bedRec 1 fun _ => arrivingRec) (request 0x4000 5) .inboundClearHeader placeIn 1 arrivingRec ∧
    strobedAt (requestBytes 5) 0 14 = some 5 ∧ arrivingRec.reason = .none ∧ arrivingRec.doomed = false ∧
    ({ arrivingRec with headerSeen := false } : SlotRec).headerSeen = false ∧
    ({ arrivingRec with reason := .memory } : SlotRec).reason = .memory ∧
    ((bedChan fun c => { c with state := .disabled }).chan 2).state = .disabled ∧
    ({ arrivingRec with reason := .noKey } : SlotRec).reason = .noKey ∧
    ({ arrivingRec with doomed := true } : SlotRec).doomed = true := by
  refine ⟨?_, by decide +kernel⟩
  unfold Reaches; decide +kernel

theorem witness_NoticeHeaderWrite :
    Reaches bed (request 0x6000 0) .noticeClearHeader placeNotice 2 freshNotice ∧ freshNotice.state = .free ∧
    Reaches bed (request 0x6000 5) .noticeClearHeader placeNotice 2 freshNotice ∧
    Reaches (bedRec 2 fun r => { r with state := .composing }) (request 0x6000 0) .noticeClearHeader placeNotice 2
      { freshNotice with state := .composing } := by
  refine ⟨?_, by decide +kernel, ?_, ?_⟩ <;> (unfold Reaches; decide +kernel)

/-- A completed write to the control page, ISSUED, of age 10. -/
def pageEntry (start : Nat) (bytes : List (Option Byte)) : TransitEntry :=
  ⟨10, 0, start, .write bytes, some 0, none, none, true, none, false, [], [], true, none⟩

/-- The bed with a transit table entry. -/
def withTransit (s : State) (e : TransitEntry) : State := { s with bus := { s.bus with transit := [e] }, stamp := 11 }

/-- The control page writes that take no index word, from the CLEAR and the LINE side. -/
theorem witness_IndexWordsAreTaken_otherWrites :
    (request 0 7).wellFormed = true ∧ bed.accepting = true ∧
    bed.placeOf (request 0 7) = some ⟨0, .controlPage, none, none, 0⟩ ∧ bed.classOf (request 0 7) = .clear ∧
    bed.classOf ⟨1, 0, .write (requestBytes 7)⟩ = .line ∧ lineOf 0 = lineOf 15 ∧
    (withTransit bed (pageEntry 0 (requestBytes 7))).issuedWrite 10 = some (pageEntry 0 (requestBytes 7)) ∧
    (pageEntry 0 (requestBytes 7)).pageWrite = true ∧
    bed.producerWritten (pageEntry 0 (requestBytes 7)) = none ∧
    bed.consumerWritten (pageEntry 0 (requestBytes 7)) = none := by decide +kernel

/-- The bytes of an index word with nothing after it. -/
def wordBytes (v : Nat) : List (Option Byte) := (beBytes 4 v).map some ++ List.replicate 4 none

/-- The bed with a live ring of 16 records, three of them written and not read. -/
def bedRing : State := { bed with ctl := { bed.ctl with ringSize := 16, ringProducer := 5, ringConsumer := 2 } }

theorem witness_IndexWordsAreTaken :
    (withTransit bed (pageEntry 0 (wordBytes 31))).issuedWrite 10 = some (pageEntry 0 (wordBytes 31)) ∧
    bed.wordWritten (pageEntry 0 (wordBytes 31)) 0 = some 31 ∧ bed.wordWritten (pageEntry 0 (wordBytes 0)) 0 = some 0 ∧
    bed.ctl.consumer = 0 ∧
    (withTransit bedRing (pageEntry 16 (wordBytes 5))).issuedWrite 10 = some (pageEntry 16 (wordBytes 5)) ∧
    bedRing.wordWritten (pageEntry 16 (wordBytes 5)) 16 = some 5 ∧ bedRing.ringLive = true ∧
    (5 + bedRing.ctl.ringSize - bedRing.ctl.ringConsumer) % bedRing.ctl.ringSize ≤
      (bedRing.ctl.ringProducer + bedRing.ctl.ringSize - bedRing.ctl.ringConsumer) % bedRing.ctl.ringSize ∧
    (withInj bed .fetch (.read 4)).issuedInj 4 = some (issued .fetch (.read 4)) ∧
    (List.replicate 32 (0 : Byte)).length = 32 := by decide +kernel

/-! ### The downstream side -/

/-- The bed with a READY entry in both collections, at this passover count. -/
def bedBoth (passover : Nat) : State :=
  { bed with bus := { bed.bus with
      transit := [{ pageEntry 0 (requestBytes 7) with issued := false }]
      inj := [⟨3, ⟨.fetch, 4, 0x100, .read 4, none, none⟩, false, 0, 0⟩]
      passover := passover }, stamp := 11 }

theorem witness_ArbiterChooses :
    (bedBoth 8).agesSound ∧ (bedBoth 8).rested ∧ (bedBoth 7).agesSound ∧ (bedBoth 7).rested ∧
    (∃ j ∈ (bedBoth 8).bus.inj, (bedBoth 8).bus.injReady j = true) ∧ (bedBoth 8).bus.passover = 8 ∧
    (∃ e ∈ (bedBoth 7).bus.transit, (bedBoth 7).bus.transitReady e = true) ∧ (bedBoth 7).bus.passover ≠ 8 ∧
    (∀ e ∈ bed.bus.transit, bed.bus.transitReady e = false) ∧ (∀ j ∈ bed.bus.inj, bed.bus.injReady j = false) ∧
    bed.line ≠ .powerOn := by
  unfold State.agesSound State.rested; decide +kernel

/-- An ISSUED read of two beats, the first with its keystream in hand. -/
def readEntry : TransitEntry :=
  ⟨10, 0, 0x2020, .read 2, some 1, some 0, some 0, true, none, false,
    List.replicate 4 .raw ++ List.replicate 4 .zero ++ List.replicate 8 .decipher, [.none, .held 5], true, none⟩

theorem witness_PassedResponses :
    (withTransit bed readEntry).agesSound ∧ (withTransit bed readEntry).rested ∧
    (withTransit bed readEntry).issuedEntry 10 = some readEntry ∧ readEntry.access = .read 2 ∧
    (List.replicate 16 (9 : Byte)).length = 8 * 2 ∧ (∀ b ∈ readEntry.beatKeys, b ≠ .waiting) ∧
    (let e := { pageEntry 0x9000 (requestBytes 7) with window := none }
     (withTransit bed e).agesSound ∧ (withTransit bed e).rested ∧ (withTransit bed e).issuedEntry 10 = some e ∧
      e.pageWrite = false ∧ e.recNo = none) := by
  unfold State.agesSound State.rested; decide +kernel

/-- An outbound record whose finish is in flight, at this stage. -/
def finishingRec (stage : FinishStage) : SlotRec :=
  { fillingRec with state := .tagging, length := some 20, finish := some ⟨stage, 20, none, none, none⟩ }

/-- A passed payload write of the present opening of the bed's outbound slot, and of the present arrival of its inbound
slot. -/
def filledEntry : TransitEntry := { waitingWrite 8 with beatKeys := [.none], issued := true }
def arrivedEntry (start : Nat) : TransitEntry :=
  { filledEntry with
    initiator := 1, start := start, window := some 2, recNo := some 1, clear := false, fills := false, beatKeys := [.none] }

theorem witness_PassedResponses_late :
    (∀ r ∈ [fillingRec, finishingRec .waiting, finishingRec .tail, { finishingRec .direct with frameAsked := true },
        { fillingRec with state := .tagged }],
      (withTransit (bedRec 0 fun _ => r) filledEntry).issuedEntry 7 = some filledEntry ∧ r.role = .outbound ∧
      filledEntry.opening = r.opening ∧ (withTransit (bedRec 0 fun _ => r) filledEntry).slotRec 0 = some r) ∧
    (∀ r ∈ [arrivingRec, { arrivingRec with state := .checking, finish := some ⟨.tail, 16, none, none, none⟩ }],
      ∀ start ∈ [0x4000, 0x4020],
      (withTransit (bedRec 1 fun _ => r) (arrivedEntry start)).issuedEntry 7 = some (arrivedEntry start) ∧
      r.role = .inbound ∧ (arrivedEntry start).opening = r.opening ∧
      (withTransit (bedRec 1 fun _ => r) (arrivedEntry start)).slotRec 1 = some r) ∧
    (withTransit (bedRec 0 fun _ => fillingRec) filledEntry).agesSound ∧
    (withTransit (bedRec 0 fun _ => fillingRec) filledEntry).rested := by
  unfold State.agesSound State.rested; decide +kernel

theorem witness_QueueServesOldestRequest :
    (let q : InjReq := ⟨.fetch, 4, 0x100, .read 4, none, none⟩
     let s : State := { bed with bus := { bed.bus with injWaiting := [q] } }
     s.bus.injWaiting = q :: [] ∧ s.bus.inj.length < 8 ∧ s.bus.injAsked = []) ∧
    (∀ e ∈ bed.bus.transit, e.id ≠ 3) ∧ (∀ e ∈ bed.bus.inj, e.id ≠ 3) := by decide +kernel

theorem witness_InjectedFailures :
    (withInj bed .fetch (.read 4)).agesSound ∧
    (withInj bed .fetch (.read 4)).issuedInj 4 = some (issued .fetch (.read 4)) ∧
    1 ≤ (issued .fetch (.read 4)).timeout ∧
    (issued .fetch (.read 4)).timeout ≤ (issued .fetch (.read 4)).ticks ∧
    (withInj (bedRec 0 fun _ => finishingRec .tail) (.tailFetch 0 3) (.read 2)).agesSound ∧
    (withInj (bedRec 0 fun _ => finishingRec .tail) (.tailFetch 0 3) (.read 2)).finishing 0 3 =
      some (finishingRec .tail) ∧ (finishingRec .tail).role = .outbound ∧ (finishingRec .tail).reason = .none := by
  unfold State.agesSound; decide +kernel

/-- Both engines' failures in the bed: a CHECK's reads, a notice's write, an offer's read in ruling and in loading, the status
write, and the ring's writes and the lost count's with FATAL faults not reported. -/
theorem witness_InjectedFailures_clauses :
    (let s := withInj (bedRec 1 fun _ => { arrivingRec with state := .checking, finish := some ⟨.tail, 20, none, none, none⟩ })
       (.tailFetch 1 3) (.read 2)
     s.issuedInj 4 = some (issued (.tailFetch 1 3) (.read 2)) ∧ (s.finishing 1 3).map (·.role) = some .inbound) ∧
    (let w : OfferWork := ⟨3, 1, none, [none, none, none, none]⟩
     let r : SlotRec := { arrivingRec with state := .checking, key := some .root }
     let s := (withInj (bedRec 1 fun _ => r) (.offerRead 2 3) (.read 8)).setChan 2 fun c => { c with ruling := some w }
     s.issuedInj 4 = some (issued (.offerRead 2 3) (.read 8)) ∧ (s.chan 2).ruling = some w ∧ s.slotRec w.recNo = some r ∧
      r.keySlot = none) ∧
    (let w : OfferWork := ⟨3, 1, none, [none, none, none, none]⟩
     let s := ((withInj (bedRec 1 fun _ => { arrivingRec with state := .passed, claimed := true }) (.offerRead 2 3) (.read 8)).setChan
       2 fun c => { c with loading := some w, hold := some ⟨1, 41, 8, 6⟩ }).setKey 6 fun k =>
         { k with state := .staged, owner := some 2, refs := 1 }
     (s.chan 2).ruling = none ∧ (s.chan 2).loading = some w ∧ (s.chan 2).hold = some ⟨1, 41, 8, 6⟩ ∧
      (s.slotRec 1).isSome = true ∧ s.keyRole 6 = none ∧ (s.key 6).state ≠ .free ∧ (s.key 6).refs = 1 ∧
      s.ks.overflow = []) ∧
    (let s := withInj { bed with ctl := { bed.ctl with state := .completing } } .statusWrite (.write [])
     s.issuedInj 4 = some (issued .statusWrite (.write [])) ∧ s.ctl.doneWaiting = none ∧
      (s.freeInj 4).bus.outstanding (fun op => decide (op = .statusWrite)) = false) ∧
    ({ bed.faults with localMask := ⟨false, false, false⟩ } : FaultUnit).localMask.fatal = false ∧
    (let s := withInj { bedRing with ctl := { bedRing.ctl with queue := [⟨.commandDone 0 0 0, 0xFF, none, none, 0⟩] } }
       .reportRecord (.write [])
     s.ctl.queue = ⟨.commandDone 0 0 0, 0xFF, none, none, 0⟩ :: [] ∧ s.ringLive = true ∧
      (s.ctl.ringProducer + 1) % s.ctl.ringSize ≠ s.ctl.ringConsumer ∧ (s.freeInj 4).reportOutstanding = false ∧
      s.reportWindow = some (4, ⟨.report, 0x8000, 16, none, none⟩)) ∧
    (withInj bed .lostWord (.write [])).issuedInj 4 = some (issued .lostWord (.write [])) := by decide +kernel

/-! ### The engines -/

/-- A miss file entry, not granted, of key slot 5. -/
def miss : MissEntry := ⟨6, 5, 77, [], false⟩

/-- The bed with its Keystream Unit changed. -/
def bedKs (f : Keystream → Keystream) : State := { bed with ks := f bed.ks }

/-- Requests of the engines under key slot 5. -/
def maskReq : BgReq := ⟨.mask 0 3, .slot 5, 21⟩
def foldReq : MulReq := ⟨.fold, 0, 3, .slot 5, 9, 2⟩

theorem witness_EnginesGrantOldest :
    (bedKs fun k => { k with misses := [miss] }).ks.misses = [] ++ miss :: [] ∧ bed.ks.cipher = none ∧
    miss.granted = false ∧ (bed.key miss.key).load = .loaded ∧
    (bedKs fun k => { k with background := [maskReq] }).ks.background = [] ++ maskReq :: [] ∧
    bed.bgReady maskReq = true ∧
    (bedKs fun k => { k with mulQueue := [foldReq] }).ks.mulQueue = [] ++ foldReq :: [] ∧ bed.ks.mulBusy = none ∧
    bed.keyReady foldReq.key = true := by decide +kernel

theorem witness_MissFillsCache :
    (let s := bedKs fun k => { k with misses := [{ miss with granted := true }],
                                      cipher := some ⟨.miss 6, .slot 5, 77, false⟩, pointer := 15 }
     s.ks.misses.find? (·.id == miss.id) = some { miss with granted := true } ∧ s.ks.pointer = 15) ∧
    (bedKs fun k => { k with cipher := some ⟨.miss 6, .slot 5, 77, true⟩ }).ks.cipher =
      some ⟨.miss 6, .slot 5, 77, true⟩ := by decide +kernel

/-- Half a block. -/
def halfBlock (first : Bool) : List (Option Byte) :=
  (List.range 16).map fun i => if (i < 8) = first then some (BitVec.ofNat 8 i) else none

/-- The bed with a FILLING slot and this merge queue. -/
def bedMerge (l : List MergeEntry) : State := { bedRec 0 (fun _ => fillingRec) with merges := l }

/-- Without an entry, with one that fits, overlaps or is filled, and with all places held by another slot or this one. -/
theorem witness_PartialBlocksMerge :
    (bedMerge []).slotRec 0 = some fillingRec ∧ fillingRec.opening = some 3 ∧ fillingRec.key = some (.slot 5) ∧
    fillingRec.valid = true ∧ 1 ∉ fillingRec.folded ∧ (bedMerge []).mergeOf 0 1 = none ∧
    (bedMerge [⟨0, 1, halfBlock true⟩]).mergeOf 0 1 = some ⟨0, 1, halfBlock true⟩ ∧
    overlapBytes (halfBlock true) (halfBlock true) = true ∧ overlapBytes (halfBlock true) (halfBlock false) = false ∧
    (joinBytes (halfBlock true) (halfBlock false)).all Option.isSome = true ∧
    (joinBytes (halfBlock true) (List.replicate 16 none)).all Option.isSome = false ∧
    (bedMerge (List.replicate 32 ⟨1, 9, halfBlock true⟩)).mergeOf 0 1 = none ∧
    (bedMerge (List.replicate 32 ⟨1, 9, halfBlock true⟩)).slotRec 1 = some freshIn ∧
    (bedMerge (List.replicate 32 ⟨0, 9, halfBlock true⟩)).mergeOf 0 1 = none ∧
    32 ≤ (bedMerge (List.replicate 32 ⟨0, 9, halfBlock true⟩)).merges.length := by decide +kernel

/-- A composition in the bed's notice slot. -/
def composition (confirms : Option (Fin 32)) (carried : List Carried) : Composition :=
  ⟨2, 3, 5, [1, 2], [none, none], confirms, carried, 0⟩

/-- A notice record under composition. -/
def composingRec (kind : Byte) : SlotRec := { freshNotice with
  state := .composing, channel := some 2, kind := some kind, gen := some 7, seq := some 1, length := some 32,
  key := some (.slot 5), opening := some 3, valid := true, finish := some ⟨.waiting, 32, none, none, none⟩ }

/-- The bed with that composition in flight. -/
def bedNotice (kind : Byte) (c : Composition) : State :=
  { bedRec 2 (fun _ => composingRec kind) with notices := { bed.notices with comp := some c } }

theorem witness_BackgroundBlocksReturn :
    (bedKs fun k => { k with cipher := some ⟨.background maskReq, .slot 5, 21, false⟩ }).ks.cipher =
      some ⟨.background maskReq, .slot 5, 21, false⟩ ∧ maskReq.use = .mask 0 3 ∧
    (bedRec 0 fun _ => finishingRec .direct).finishing 0 3 = some (finishingRec .direct) ∧
    (BgReq.mk (.noticeBlock 3 2) (.slot 5) 21).use = .noticeBlock 3 2 ∧
    (bedNotice 4 (composition none [])).notices.comp = some (composition none []) ∧
    (composition none []).opening = 3 := by decide +kernel

/-- The plaintext of an offer that channel 2 of the bed accepts, for generation 8, and one it does not. -/
def offerPlaintext (gen : Byte) : List Block :=
  [blockOf ([gen, 80, 0, 0, 0, 0, 0, 0] ++ List.replicate 8 9), 11, 12, blockOf (List.replicate 16 0)]

/-- The reading of that offer, with its last block still owed; its bytes in memory are such that the block comes out. -/
def offerWork (out : Block) (l : List Block) : OfferWork :=
  ⟨9, 1, some (l.take 3 ++ [l.getD 3 0 ^^^ out]), [l[0]?, l[1]?, l[2]?, none]⟩

/-- An offer ruled on, at the serial 41 above the mark: acceptable and not, with the reading's blocks together again. -/
theorem witness_BackgroundBlocksReturn_ruling :
    (let l := offerPlaintext 8
     let w := offerWork 5 l
     let s := (bedRec 1 fun _ => { arrivingRec with state := .checking, key := some .root, seq := some 41 }).setChan 2 fun c =>
       { c with ruling := some w, rulingQueue := [1] }
     w.plain.set 3 (some ((w.data.getD []).getD 3 0 ^^^ 5)) = l.map some ∧ offerField l 4 8 = 0 ∧ offerField l 56 64 = 0 ∧
      (∀ k, (s.chan 2).cur = some k → offerGen l = (s.key k).gen + 1) ∧ (s.chan 2).ruling = some w ∧
      (s.slotRec 1).bind (·.key) = some .root ∧ (s.chan 2).highMark < (41 : BitVec 32).toNat ∧ (s.chan 2).hold = none ∧
      s.keys.freeList.head? = some 0 ∧ (s.chan 2).renewal ≠ .installing) ∧
    offerGen (offerPlaintext 9) ≠ (bed.key 5).gen + 1 ∧
    (let s := (bedChan fun c => { c with hold := some ⟨0, 40, 8, 6⟩ }).setKey 6 fun k =>
       { k with state := .staged, owner := some 2, refs := 1 }
     s.keyRole 6 = none ∧ (s.key 6).refs = 1 ∧ (s.slotRec 0).isSome = true ∧ s.ks.overflow = [] ∧
      (s.keys.freeList ++ [6]).head? = some 0) ∧
    (let s := bed.setKey 5 fun k => { k with serial := 40, nonce := offerNonce (offerPlaintext 8) }
     (s.key 5).load = .loaded ∧ (s.key 5).serial = 40 ∧ (s.chan 2).cur = some 5 ∧ (s.chan 2).next = none ∧
      (s.chan 2).highMark = 40 ∧ s.notices.list.length < 16) ∧
    (bed.key 5).serial ≠ 40 ∧
    (BgReq.mk (.offerPlain 2 9 4) .root 21).use = .offerPlain 2 9 4 ∧ (bed.chan 2).loading = none := by decide +kernel

/-- The grant that gives the last block of reading 9 on channel 2. -/
def lastGrant : CipherGrant := ⟨.background ⟨.offerPlain 2 9 4, .root, 21⟩, .root, 21, false⟩

/-- What the engine makes of it. -/
def lastOut : Block := cipherBlock (bed.materialOf .root) 21

/-- The last block of a ruling comes back, as `out`, of an offer of this serial with the mark at 40 and with the serial 40
and the offer's nonce on the CURRENT key, with this reason noted on its slot, on a channel in this state. -/
def bedRuled (out : Block) (serial : BitVec 32) (noted : Option Reason) (st : ChanState) : State :=
  let s := ((bedRec 1 fun _ => { arrivingRec with
      state := .checking, key := some .root, seq := some serial, noted := noted }).setChan 2 fun c =>
    { c with ruling := some (offerWork out (offerPlaintext 8)), rulingQueue := [1], state := st }).setKey 5 fun k =>
      { k with serial := 40, nonce := offerNonce (offerPlaintext 8) }
  { s with ks := { s.ks with cipher := some lastGrant } }

/-- That offer repeats the CURRENT key at serial 40 and is acceptable above it, whatever reason is noted on its slot and
whatever state its channel is in. -/
theorem witness_BackgroundBlocksReturn_noted (serial : BitVec 32) (noted : Option Reason) (st : ChanState) :
    let s := bedRuled lastOut serial noted st
    let w := offerWork lastOut (offerPlaintext 8)
    s.ks.cipher = some lastGrant ∧ lastOut = cipherBlock (s.materialOf lastGrant.key) lastGrant.input ∧
    (s.chan 2).ruling = some w ∧ w.id = 9 ∧ (s.slotRec w.recNo).map (·.key) = some (some .root) ∧
    (s.slotRec w.recNo).map (·.noted) = some noted ∧ (s.slotRec w.recNo).map (·.channel) = some (some 2) ∧
    (s.slotRec w.recNo).map (·.seq) = some (some serial) ∧ (s.chan 2).state = st ∧
    w.plain.set 3 (some ((w.data.getD []).getD 3 0 ^^^ lastOut)) = (offerPlaintext 8).map some ∧
    (s.key 5).load = .loaded ∧ (s.key 5).serial = 40 ∧ (s.key 5).nonce = offerNonce (offerPlaintext 8) ∧
    (s.chan 2).cur = some 5 ∧ (s.chan 2).highMark = 40 ∧ (s.key 5).gen + 1 = 8 :=
  ⟨rfl, rfl, rfl, rfl, rfl, rfl, rfl, rfl, rfl, by simp [offerWork, offerPlaintext], rfl, rfl, rfl, rfl,
    rfl, rfl⟩

/-- With a reason noted, or on a DISABLED channel, both are REJECTED with that reason or CHANNEL_DOWN, and give nothing to
the hold or the notice list (R82, R86, R138). -/
theorem test_noted_offer_is_rejected :
    ([(some Reason.disturbed, ChanState.opened), (none, .disabled)].all fun z => [(40 : BitVec 32), 41].all fun serial =>
      after (done ((bedRuled 5 serial z.1 z.2).backgroundResult (.offerPlain 2 9 4) 5)) fun t =>
        (t.slotRec 1).any (fun r => decide (r.state = .rejected ∧ r.reason = z.1.getD .channelDown)) &&
          (t.chan 2).hold.isNone && t.notices.list.isEmpty && t.faults.used.isEmpty &&
          decide ((t.chan 2).highMark = serial.toNat)) = true := by decide +kernel

/-- An offer that is held and loaded, with a ruling in flight beside it and without. -/
theorem witness_BackgroundBlocksReturn_loading :
    let w := offerWork 5 (offerPlaintext 8)
    let s := ((bedRec 1 fun r => { r with state := .passed, claimed := true }).setChan 2 fun c =>
      { c with loading := some w, hold := some ⟨1, 41, 8, 6⟩ }).setKey 6 fun k =>
        { k with state := .staged, owner := some 2, refs := 1 }
    (s.chan 2).ruling = none ∧ (s.chan 2).loading = some w ∧ (s.chan 2).hold = some ⟨1, 41, 8, 6⟩ ∧
    (let v : OfferWork := ⟨12, 1, none, [none, none, none, none]⟩
     v.id ≠ w.id ∧ ((s.setChan 2 fun c => { c with ruling := some v }).chan 2).ruling = some v ∧
      ((s.setChan 2 fun c => { c with ruling := some v }).chan 2).loading = some w) ∧
    (s.slotRec 1).isSome = true ∧ s.keyRole 6 = none ∧ (s.key 6).owner = some 2 ∧ (s.key 6).refs = 1 ∧
    (s.key 6).state ≠ .free ∧ s.ks.overflow = [] ∧ (s.chan 2).next ≠ some 6 ∧ (s.chan 2).prev ≠ some 6 := by decide +kernel

theorem witness_SubkeysAreStored :
    (bedKs fun k => { k with cipher := some ⟨.background ⟨.rootSubkey, .root, 0⟩, .root, 0, false⟩ }).ks.cipher =
      some ⟨.background ⟨.rootSubkey, .root, 0⟩, .root, 0, false⟩ ∧
    (bed.key 5).owner = some 2 ∧
    (bedChan fun c => { c with installing := some (5, .current) }).installCurrent 2 5 = true ∧
    bed.notices.list.length < 16 := by decide +kernel

theorem witness_FoldProductsAdd :
    (bedKs fun k => { k with mulBusy := some (foldReq, false) }).ks.mulBusy = some (foldReq, false) ∧
    (bedKs fun k => { k with mulBusy := some (foldReq, true) }).ks.mulBusy = some (foldReq, true) ∧
    (bedRec 0 fun _ => fillingRec).slotRec foldReq.recNo = some fillingRec ∧ fillingRec.opening = some foldReq.opening ∧
    bed.slotRec foldReq.recNo = some freshOut ∧ freshOut.opening ≠ some foldReq.opening := by decide +kernel

/-- The last product of a sweep and of a notice, an earlier one, and those of a correction and of a length term. -/
theorem witness_FoldProductsAdd_finish :
    (finishingRec (.sweep 0)).opening = some foldReq.opening ∧ (finishingRec (.sweep 0)).key = some (.slot 5) ∧
    bed.notices.comp = none ∧
    (bed.ks.mulQueue.all fun m => m.recNo != foldReq.recNo || m.opening != foldReq.opening) = true ∧
    ([foldReq].all fun m => m.recNo != foldReq.recNo || m.opening != foldReq.opening) = false ∧
    ({ composition none [] with cipher := [some 1, some 2] } : Composition).cipher.all Option.isSome = true ∧
    (composingRec 5).stage = some .waiting ∧ (composingRec 5).opening = some (composition none []).opening ∧
    ({ foldReq with use := .correction } : MulReq).use = .correction ∧
    (finishingRec .tail).stage = some .tail ∧ ({ foldReq with use := .lenTerm } : MulReq).use = .lenTerm := by
  decide +kernel

/-- The three kinds of finish, the sweep at its longest, and the padded last block in the merge queue. -/
theorem witness_FinishReadsReturn_decision :
    (bedRec 0 fun _ => finishingRec .waiting).slotRec 0 = some (finishingRec .waiting) ∧
    (finishingRec .waiting).stage = some .waiting ∧ (finishingRec .waiting).state = .tagging ∧
    (bedRec 0 fun _ => finishingRec .settled).slotRec 0 = some (finishingRec .settled) ∧
    (finishingRec .settled).stage = some .settled ∧
    bed.ks.productsOwed 0 3 = 0 ∧ bed.bus.writesWait 3 = false ∧ (∀ m ∈ bed.merges, m.recNo ≠ 0) ∧
    finishKind true [] [] 0 = .direct ∧ finishKind true [1, 2] [1] 20 = .direct ∧
    finishKind true [1] [1] 20 = .tailFetch ∧ finishKind true [1, 2] [1, 2] 20 = .tailFetch ∧
    finishKind false [] [] 2016 = .sweep ∧ finishKind true [2] [2] 20 = .sweep ∧ finishKind true [1, 2, 3] [1] 20 = .sweep ∧
    (bedMerge [⟨0, 2, List.replicate 4 (some 1) ++ List.replicate 12 none⟩]).mergeOf 0 2 =
      some ⟨0, 2, List.replicate 4 (some 1) ++ List.replicate 12 none⟩ ∧ (finishingRec .waiting).valid = true ∧
    2 ∉ (finishingRec .waiting).folded ∧ bed.bus.injAsked = [] := by
  decide +kernel

theorem witness_FinishReadsReturn :
    (withInj bed (.tailFetch 0 3) (.read 2)).issuedInj 4 = some (issued (.tailFetch 0 3) (.read 2)) ∧
    (List.replicate 16 (1 : Byte)).length = 16 ∧
    (withInj (bedRec 0 fun _ => finishingRec .tail) (.tailFetch 0 3) (.read 2)).finishing 0 3 =
      some (finishingRec .tail) ∧
    (withInj bed (.sweepRead 0 3 1) (.read (2 * 2))).issuedInj 4 = some (issued (.sweepRead 0 3 1) (.read (2 * 2))) ∧
    (List.replicate 32 (1 : Byte)).length = 16 * 2 ∧
    (withInj (bedRec 0 fun _ => finishingRec (.sweep 1)) (.sweepRead 0 3 1) (.read 4)).finishing 0 3 =
      some (finishingRec (.sweep 1)) ∧ (finishingRec (.sweep 1)).valid = true ∧
    (∀ i < 2, 1 + i ∉ (finishingRec (.sweep 1)).folded) := by decide +kernel

/-- A finish with both products in hand. -/
def formed : Finish := ⟨.direct, 20, some 1, some 2, none⟩

theorem witness_DirectFinishFormsTag :
    (bedRec 0 fun _ => { finishingRec .direct with finish := some formed }).slotRec 0 =
      some { finishingRec .direct with finish := some formed } ∧
    (finishingRec .direct).opening = some 3 ∧ (finishingRec .direct).role = .outbound ∧
    (finishingRec .direct).reason ≠ .disturbed ∧
    ({ finishingRec .direct with reason := .disturbed } : SlotRec).reason = .disturbed ∧
    ({ arrivingRec with state := .checking, finish := some formed } : SlotRec).role = .inbound ∧
    ({ arrivingRec with state := .checking, finish := some formed } : SlotRec).tagRead = none := by decide +kernel

/-- A notice whose tag is formed, of two blocks and of nine. -/
theorem witness_DirectFinishFormsTag_notice :
    (composingRec 5).role = .notice ∧ (composition none []).recNo = 2 ∧ (composition none []).cipher.length ≤ 6 ∧
    6 < ({ composition none [] with cipher := List.replicate 9 none } : Composition).cipher.length ∧
    (bedNotice 5 (composition none [])).notices.comp = some (composition none []) := by decide +kernel

/-! ### Frames that land, verdicts and offers -/

theorem witness_FrameWriteLands :
    (withInj (bedRec 0 fun _ => finishingRec .direct) (.frameWrite 0 3) (.write [])).issuedInj 4 =
      some (issued (.frameWrite 0 3) (.write [])) ∧
    (withInj (bedRec 0 fun _ => finishingRec .direct) (.frameWrite 0 3) (.write [])).finishing 0 3 =
      some (finishingRec .direct) ∧
    (finishingRec .direct).key = some (.slot 5) ∧ (finishingRec .direct).channel = some 2 ∧
    (finishingRec .direct).reason = .none ∧ ({ finishingRec .direct with reason := .memory } : SlotRec).reason ≠ .none :=
  by decide +kernel

/-- The bed's key slot as the frame's: its channel, its role, and debits that are red and not. -/
theorem witness_FrameWriteLands_budget :
    (bed.key 5).owner = some 2 ∧ bed.keyRole 5 ≠ none ∧ bed.notices.list.length < 16 ∧
    (bed.meter .a).debitIsRed 52 = false ∧
    (({ bed with meterA := ⟨true, 20, 2048, 2048, 4, 7, 20, 0, 0⟩ } : State).meter .a).debitIsRed 52 = true := by
  decide +kernel

/-- A record under CHECK whose tag, all ones in its bytes, is in hand. -/
def checkingRec (kind : Byte) (seq : BitVec 32) : SlotRec := { arrivingRec with
  state := .checking, kind := some kind, seq := some seq,
  finish := some ⟨.direct, 16, some 1, some 2, some (blockOf (List.replicate 16 1))⟩ }

/-- The verdicts, the replay window at its edges. -/
theorem witness_TagsAreCompared :
    (withInj (bedRec 1 fun _ => checkingRec 1 1) (.tagRead 1 3) (.read 2)).issuedInj 4 =
      some (issued (.tagRead 1 3) (.read 2)) ∧
    (withInj (bedRec 1 fun _ => checkingRec 1 1) (.tagRead 1 3) (.read 2)).finishing 1 3 = some (checkingRec 1 1) ∧
    (List.replicate 16 (1 : Byte)).length = 16 ∧ blockOf (List.replicate 16 1) ≠ blockOf (List.replicate 16 2) ∧
    ((bed.key 5).replayDecision 1).isSome = true ∧
    ({ bed.key 5 with high := 65 } : KeySlot).replayDecision 1 = none ∧
    (({ bed.key 5 with high := 64 } : KeySlot).replayDecision 1).isSome = true ∧
    bed.keyRole 5 ≠ some .next ∧ (checkingRec kindOffer 41).kind = some kindOffer ∧ (checkingRec 1 1).noted = none ∧
    ({ checkingRec 1 1 with noted := some .disturbed } : SlotRec).noted = some .disturbed := by decide +kernel

/-- A tag read that comes before the tag, a tag that comes after it, equal to it and not, the reject thresholds, and a
frame under NEXT. -/
theorem witness_TagsAreCompared_clauses :
    (let r : SlotRec := { arrivingRec with state := .checking, finish := some ⟨.tail, 16, none, none, none⟩ }
     let s := withInj (bedRec 1 fun _ => r) (.tagRead 1 3) (.read 2)
     s.issuedInj 4 = some (issued (.tagRead 1 3) (.read 2)) ∧ s.finishing 1 3 = some r) ∧
    (let r : SlotRec := { arrivingRec with state := .checking, finish := some formed, tagRead := some 3 }
     (bedRec 1 fun _ => r).finishing 1 3 = some r ∧ r.acc ^^^ 1 ^^^ 2 = 3 ∧ (4 : Block) ≠ 3) ∧
    bed.ks.overflow = [] ∧ (bed.chan 2).threshold = 0 ∧
    ((bedChan fun c => { c with threshold := 2, rejects := 0 }).chan 2).threshold = 2 ∧
    min (((bedChan fun c => { c with threshold := 2, rejects := 1 }).chan 2).rejects + 1) 255 = 2 ∧
    ((bedGens 8 6).chan 2).next = some 6 ∧
    (((bedGens 8 6).setKey 6 fun k => { k with owner := some 2 }).key 6).owner = some 2 ∧
    ((bedGens 8 6).chan 2).cur ≠ some 6 ∧ ((bedGens 8 6).chan 2).prev ≠ some 6 := by decide +kernel

/-- An offer that waits at the head of channel 2's ruling queue. -/
def offerRec (serial : BitVec 32) (len : Nat) : SlotRec :=
  { checkingRec kindOffer serial with key := some .root, length := some len }

/-- The bed with that offer. -/
def bedOffer (serial : BitVec 32) (len : Nat) : State :=
  (bedRec 1 fun _ => offerRec serial len).setChan 2 fun c => { c with rulingQueue := [1] }

/-- The channel's high mark is 40: an offer below it, at it and above it, of length 64 and another. -/
theorem witness_OfferRulingBegins :
    ((bedOffer 39 64).chan 2).ruling = none ∧ ((bedOffer 39 64).chan 2).rulingQueue = 1 :: [] ∧
    (bedOffer 39 64).slotRec 1 = some (offerRec 39 64) ∧ (offerRec 39 64).key = some .root ∧
    ((bedOffer 39 64).chan 2).highMark = 40 ∧ (offerRec 40 63).length ≠ some 64 ∧ (offerRec 40 64).length = some 64 ∧
    (offerRec 41 63).length ≠ some 64 ∧
    (let w : OfferWork := ⟨3, 1, none, [none, none, none, none]⟩
     let s := (withInj (bedOffer 41 64) (.offerRead 2 3) (.read 8)).setChan 2 fun c => { c with ruling := some w }
     s.issuedInj 4 = some (issued (.offerRead 2 3) (.read 8)) ∧ (s.chan 2).ruling = some w ∧ w.id = 3 ∧
      s.slotRec w.recNo = some (offerRec 41 64) ∧ (List.replicate 64 (0 : Byte)).length = 64) := by decide +kernel

/-- The bed with the read of reading 3 on channel 2 ISSUED, and these readings in flight. -/
def bedReading (ruling loading : Option OfferWork) : State :=
  (withInj (bedOffer 41 64) (.offerRead 2 3) (.read 8)).setChan 2 fun c => { c with ruling := ruling, loading := loading }

/-- The read of a loading, with a ruling in flight beside it and without, and one of a reading given up. -/
theorem witness_OfferRulingBegins_loading :
    let w : OfferWork := OfferWork.begin 3 1
    let v : OfferWork := OfferWork.begin 12 1
    (∀ ruling ∈ [none, some v],
      (bedReading ruling (some w)).issuedInj 4 = some (issued (.offerRead 2 3) (.read 8)) ∧
      ((bedReading ruling (some w)).chan 2).loading = some w ∧ ((bedReading ruling (some w)).chan 2).ruling = ruling ∧
      (bedReading ruling (some w)).slotRec w.recNo = some (offerRec 41 64)) ∧ w.id = 3 ∧ v.id ≠ 3 ∧
    (bedReading (some v) none).issuedInj 4 = some (issued (.offerRead 2 3) (.read 8)) ∧
    ((bedReading (some v) none).chan 2).ruling = some v ∧ ((bedReading (some v) none).chan 2).loading = none := by
  decide +kernel

/-- The read of a loading asks for four blocks in order under the root key; that of a reading given up for none (R136,
R140). -/
theorem test_loading_read_asks_blocks :
    after (exec (.offerPayloadReadReturn 4 (List.replicate 64 0)) (bedReading none (some (OfferWork.begin 3 1)))) (fun t =>
      t.ks.background.map (fun q => (q.use, q.key)) == ([1, 2, 3, 4].map fun b => (.offerPlain 2 3 b, .root)) &&
        ((t.chan 2).loading.bind (·.data)).isSome) = true ∧
    after (exec (.offerPayloadReadReturn 4 (List.replicate 64 0)) (bedReading (some (OfferWork.begin 12 1)) none)) (fun t =>
      t.ks.background.isEmpty && t.bus.inj.isEmpty) = true := by decide +kernel

/-! ### Notices -/

/-- The bed with this protocol notice list. -/
def bedList (l : List ProtoEntry) : State := { bed with notices := { bed.notices with list := l } }

theorem witness_ProtocolNoticeBegins :
    bed.notices.comp = none ∧ (bedList [⟨2, .renewRequest .requested⟩]).freeNoticeSlot = some 2 ∧
    bed.slotRec 2 = some freshNotice ∧ (bed.key 5).owner = some 2 := by decide +kernel

/-- A RENEW_REQUEST and a KEY_CONFIRM that can be composed, and one of a DISABLED channel that cannot. -/
theorem witness_ProtocolNoticeBegins_composes (l : List ProtoEntry) :
    (bedList l).composes ⟨2, .renewRequest .requested⟩ 5 ∧ (bedList l).composes ⟨2, .keyConfirm 5⟩ 5 ∧
    ∀ k, ¬ (bedList l).composes ⟨3, .renewRequest .requested⟩ k := by
  have h : (bedList l).chan 2 = bed.chan 2 ∧ (bedList l).key 5 = bed.key 5 ∧ (bedList l).chan 3 = bed.chan 3 :=
    ⟨rfl, rfl, rfl⟩
  refine ⟨⟨.inr ⟨⟨_, rfl⟩, ?_⟩, ?_⟩, ⟨.inl rfl, ?_⟩, fun k hk => absurd ?_ hk.2.1⟩
  all_goals simp only [h]
  all_goals decide +kernel

/-- The bed with a fault that waits for a notice on reporting channel c. -/
def bedDue (c : Fin 16) : State :=
  { bed with
    faults := { bed.faults with
      table := bed.faults.table.set 0 (some (faultEntry .conflict .degraded (some 2) .pending 0))
      noticeMask := .all }
    notices := { bed.notices with holdoff := .ranOut, reporting := c } }

theorem witness_FaultNoticeBegins :
    (bedDue 2).notices.comp = none ∧ (bedDue 2).freeNoticeSlot = some 2 ∧ (bedDue 2).slotRec 2 = some freshNotice ∧
    (bedDue 2).notices.list = [] ∧ ((bedDue 2).key 5).owner = some (bedDue 2).notices.reporting ∧
    (bedDue 2).selectFaults ((bedDue 2).meter ((bedDue 2).chan (bedDue 2).notices.reporting).link).colour ≠ [] ∧
    ((bedDue 3).chan 3).cur = none ∧ (bedDue 3).notices.blocked = false ∧
    ({ (bedDue 3) with notices := { (bedDue 3).notices with blocked := true } } : State).notices.blocked = true ∧
    ((bedDue 2).chan 2).cur = some 5 ∧ ((bedDue 2).chan 2).state ≠ .disabled ∧ ((bedDue 2).key 5).load = .loaded ∧
    ((bedDue 2).key 5).spent = false ∧ (bedDue 2).selectFaults .red = [] := by
  decide +kernel

/-- A fault notice is due on the bed's fault, whose holdoff has run out, and none is due without a fault. -/
theorem witness_FaultNoticeBegins_due : (∀ c, (bedDue c).due) ∧ ¬ bed.due := by
  have h : ∀ i : Fin 32, bed.faults.table[i] = none := by decide +kernel
  refine ⟨fun _ => .inr (.inl rfl), ?_⟩
  rintro (⟨i, e, he, -⟩ | hr | ⟨l, -, hl, hall⟩)
  · exact absurd he.1 (by simp [h])
  · exact absurd hr (by decide +kernel)
  · obtain ⟨i, hi⟩ := List.exists_mem_of_length_pos (l := l) (by omega)
    obtain ⟨e, he⟩ := hall i hi
    exact absurd he.1 (by simp [h])

/-- The bed's fault is admitted at GREEN, so its holdoff timer is not stopped. -/
theorem witness_HoldoffJudged :
    (bedDue 2).admits .green 0 (faultEntry .conflict .degraded (some 2) .pending 0) ∧
    ∀ i e, ¬ bed.admits .green i e := by
  have h : ∀ i : Fin 32, bed.faults.table[i] = none := by decide +kernel
  exact ⟨by unfold State.admits; decide +kernel, fun i e he => absurd he.1 (by simp [h])⟩

/-- Three entries in the order a fault notice takes them: FATAL, then by first time, then by number (R168). -/
theorem test_notice_order :
    (orderEntries [(4, { faultEntry .conflict .degraded (some 1) .pending 0 with firstTime := 9 }),
      (7, faultEntry .overrun .correctable (some 1) .pending 0), (3, faultEntry .overrun .correctable (some 2) .pending 0),
      (9, { faultEntry .integrityStorm .fatal (some 1) .pending 0 with firstTime := 50 })]).map (·.1) = [9, 3, 7, 4] := by
  decide +kernel

/-- A fault notice with one carried entry, which stands COMPOSING at number 0. -/
def bedCarried : State :=
  { bedNotice 5 (composition none [⟨0, .conflict, some 2, 3⟩]) with
    faults := { bed.faults with
      table := bed.faults.table.set 0 (some (faultEntry .conflict .degraded (some 2) .composing 0)) } }

theorem witness_NoticeWritesLand :
    (withInj bedCarried (.noticeLine1 3) (.write [])).issuedInj 4 = some (issued (.noticeLine1 3) (.write [])) ∧
    (withInj bedCarried (.noticeLine0 3) (.write [])).issuedInj 4 = some (issued (.noticeLine0 3) (.write [])) ∧
    bedCarried.notices.comp = some (composition none [⟨0, .conflict, some 2, 3⟩]) ∧
    bedCarried.slotRec 2 = some (composingRec 5) ∧ (composingRec 5).channel = some 2 ∧
    (composingRec 5).key = some (.slot 5) ∧
    bedCarried.faults.table[(0 : Fin 32)] = some (faultEntry .conflict .degraded (some 2) .composing 0) := by
  decide +kernel

/-- The carried entry of that notice, the lost total, and confirmations for NEXT and CURRENT. -/
theorem witness_NoticeWritesLand_clauses :
    (let f := faultEntry .conflict .degraded (some 2) .composing 0
     f.cls.severity.code ≤ f.severity.code ∧ f.cls ≠ .keySpent) ∧
    (composition none []).lost ≤ bedCarried.faults.lost ∧
    ({ bed.key 5 with bytes := min ((bed.key 5).bytes + (32 + 32)) 281474976710655 } : KeySlot).spentReached = false ∧
    ((bedCarried.setKey 5 fun k => { k with asked := true }).key 5).asked = true ∧
    (bed.meter (bed.chan 2).link).debitIsRed (32 + 32) = false ∧
    (let s := ((bedNotice 3 (composition (some 6) [])).setChan 2 fun c =>
       { c with next := some 6, renewal := .confirming }).setKey 6 fun k => { k with seatedAs := some .next }
     (s.chan 2).renewal = .confirming ∧ (s.chan 2).next = some 6 ∧ (s.key 6).seatedAs = some .next) ∧
    (composition (some 6) []).confirms = some 6 ∧ (composingRec 3).kind ≠ some 5 := by decide +kernel

theorem witness_NoticeWritesLand_budget :
    (bedCarried.key 5).owner = some 2 ∧ bedCarried.notices.list.length < 16 ∧
    (composition (some 6) []).confirms ≠ none ∧ (composingRec 4).kind ≠ some 5 := by decide +kernel

theorem witness_NoticeWritesLand_faultsSound : bedCarried.faultsSound :=
  faultsSound_of _ (by decide +kernel) (by decide +kernel)

/-! ### Control page commands -/

/-- A SET_WINDOW record. -/
def windowRecord (index role : Byte) (count : Nat) (base : Nat) : List Byte :=
  [1, 0, index, role, 2, 0] ++ beBytes 2 count ++ beBytes 8 base

/-- The bed with records 200 and 400 assigned to window 7, and a SET_WINDOW record: the longest free run is 199. -/
def bedCrowded (l : List Byte) : State :=
  { bedCommand l with pool := bed.pool ++ [(200, SlotRec.fresh .outbound 7 0), (400, SlotRec.fresh .outbound 7 1)] }

/-- SET_WINDOW: the wait, and each status in the order of its checks. -/
theorem witness_SetWindowChecksAndAssigns :
    (bedCommand (windowRecord 5 1 1 0xA000)).executes 0x01 = true ∧
    (let s := withTransit (bedCommand (windowRecord 5 1 1 0xA000)) (pageEntry 0xA7F8 (requestBytes 0))
     s.runBusy s.windowAsk = true) ∧
    (let s := bedCommand (windowRecord 5 1 1 0xA000)
     s.runBusy s.windowAsk = false ∧ s.windowAsk.role = some .outbound ∧ s.windowAsk.index = (5 : Fin 16).val ∧
      s.windowAsk.sound .outbound = true) ∧
    (bedCommand (windowRecord 0 1 1 0xA000)).windowAsk.sound .outbound = false ∧
    (bedCommand (windowRecord 5 9 1 0xA000)).windowAsk.role = none ∧
    (bedCommand (windowRecord 5 3 1 0xA000)).windowAsk.sound .notice = true ∧
    ((bed.otherWindows 5).any fun w => doubled .notice w.role) = true ∧
    ((bed.otherWindows 5).any fun w => runsOverlap 0x2000 2048 w.base.toNat w.run) = true ∧
    ((bed.otherWindows 5).any fun w => runsOverlap 0xA000 2048 w.base.toNat w.run) = false ∧
    ((bedRec 0 fun _ => fillingRec).pool.any fun p => decide (p.2.window = 1) && decide (p.2.state ≠ .free)) = true ∧
    (∀ f ∈ List.range 313, ∃ p ∈ (bedCrowded (windowRecord 5 1 200 0x80000)).pool,
      p.2.window ≠ 5 ∧ f ≤ p.1 ∧ p.1 < f + 200) ∧
    (∀ p ∈ (bedCrowded (windowRecord 5 1 197 0x80000)).pool, p.2.window ≠ 5 → p.1 < 3 ∨ 3 + 197 ≤ p.1) ∧
    (∀ g, g < 3 → ∃ p ∈ (bedCrowded (windowRecord 5 1 197 0x80000)).pool,
      p.2.window ≠ 5 ∧ g ≤ p.1 ∧ p.1 < g + 197) := by decide +kernel

theorem witness_SetWindowChecksAndAssigns_poolSound :
    (bedCommand (windowRecord 5 1 1 0xA000)).poolSound ∧ (bedCrowded (windowRecord 5 1 200 0x80000)).poolSound := by
  unfold State.poolSound; decide +kernel

theorem witness_ClearWindowAndSetInitiator :
    (bedCommand [2, 0, 0]).executes 0x02 = true ∧ ((bedCommand [2, 0, 0]).arg 2).toNat = 0 ∧
    ((bedCommand [2, 0, 16]).arg 2).toNat = 16 ∧ ((bedCommand [2, 0, 15]).arg 2).toNat = (15 : Fin 16).val ∧
    bed.windows[(15 : Fin 16)] = none ∧ bed.windows[(1 : Fin 16)] ≠ none ∧
    (∃ p ∈ (bedRec 0 fun _ => fillingRec).pool, p.2.window = 1 ∧ p.2.state ≠ .free) ∧
    (∀ p ∈ bed.pool, p.2.window = 1 → p.2.state = .free) ∧
    (bedCommand [3, 0, 15, 3]).executes 0x03 = true ∧ ((bedCommand [3, 0, 15, 3]).arg 3).toNat ≤ 3 ∧
    ((bedCommand [3, 0, 1, 4]).arg 3).toNat = 4 ∧ bed.classes[(0 : Fin 16)] = .clear ∧ bed.line ≠ .powerOn := by
  decide +kernel

theorem witness_SetChannelStoresSettings :
    (bedCommand [4, 0, 15, 1]).executes 0x04 = true ∧ ((bedCommand [4, 0, 15, 1]).arg 2).toNat = (15 : Fin 16).val ∧
    ((bedCommand [4, 0, 15, 1]).arg 3).toNat ≤ 1 ∧ 15 < ((bedCommand [4, 0, 16, 0]).arg 2).toNat ∧
    1 < ((bedCommand [4, 0, 0, 2]).arg 3).toNat := by decide

theorem witness_SetChannelStateTable :
    (bedCommand [5, 0, 2, 0]).executes 0x05 = true ∧ ((bedCommand [5, 0, 2, 0]).arg 3).toNat = 0 ∧
    ((bedCommand [5, 0, 2, 1]).arg 3).toNat = 1 ∧ ((bedCommand [5, 0, 2, 2]).arg 3).toNat = 2 ∧
    2 < ((bedCommand [5, 0, 2, 3]).arg 3).toNat ∧ (bed.chan 3).state = .disabled ∧ (bed.chan 2).state ≠ .disabled ∧
    (bed.chan 2).cur ≠ none := by decide +kernel

theorem witness_DropKeysTearsDown :
    (bedCommand [6, 0, 2]).poolSound ∧ (bedCommand [6, 0, 2]).executes 0x06 = true ∧
    ((bedCommand [6, 0, 2]).arg 2).toNat = (2 : Fin 16).val ∧ 15 < ((bedCommand [6, 0, 16]).arg 2).toNat ∧
    (bedRec 0 fun _ => fillingRec).slotRec 0 = some fillingRec ∧
    (bedRec 0 fun _ => fillingRec).boundChannel fillingRec = some 2 ∧ arrivingRec.channel = some 2 ∧
    (checkingRec 1 1).state = .checking ∧ (finishingRec .direct).state = .tagging := by
  unfold State.poolSound; decide +kernel

/-- DROP_KEYS on channel 2, without a slot under its CURRENT key and with a PASSED one. -/
def bedDrop : State :=
  { bedCommand [6, 0, 2] with
    pool := [(0, freshOut), (1, { arrivingRec with state := .passed }), (2, freshNotice)]
    keys := { bed.keys with slots := bed.keys.slots.set 5 { bedKey with refs := 1 } } }

theorem witness_DropKeysTearsDown_keys :
    (bedDrop.chan 2).cur = some 5 ∧
    (bedDrop.pool.countP fun p => decide (p.2.keySlot = some 5 ∧
      ¬ (p.2.role = .outbound ∧ p.2.state = .filling ∧ bedDrop.boundChannel p.2 = some 2) ∧
      ¬ (p.2.role = .inbound ∧ p.2.state = .arriving ∧ p.2.channel = some 2))) = 1 ∧
    ((bedCommand [6, 0, 2]).pool.countP fun p => decide (p.2.keySlot = some 5)) = 0 := by decide +kernel

theorem witness_DropKeysTearsDown_keysSound : (bedCommand [6, 0, 2]).keysSound ∧ bedDrop.keysSound :=
  ⟨keysSound_of _ (by decide +kernel) (by decide +kernel) (by unfold State.keySlotSound; decide +kernel)
      (by decide +kernel) (by decide +kernel) (by decide +kernel),
    keysSound_of _ (by decide +kernel) (by decide +kernel) (by unfold State.keySlotSound; decide +kernel)
      (by decide +kernel) (by decide +kernel) (by decide +kernel)⟩

theorem witness_RenewalIsRequested :
    (bedCommand [7, 0, 2]).executes 0x07 = true ∧ (bed.chan 2).cur ≠ none ∧ (bed.chan 3).cur = none ∧
    (∀ e ∈ bed.notices.list, ∀ why, e ≠ ⟨2, .renewRequest why⟩) ∧ bed.notices.list.length < 16 ∧
    (bedList [⟨2, .renewRequest .spent⟩]).notices.list = [] ++ ⟨2, .renewRequest .spent⟩ :: [] ∧
    16 ≤ (List.replicate 16 (⟨3, .keyConfirm 1⟩ : ProtoEntry)).length := by
  refine ⟨by decide, by decide +kernel, by decide +kernel, by intro e h; exact absurd h (by simp [bed, State.reset,
    NoticeEngine.cleared]), by decide, by decide, by decide⟩

theorem witness_SetMeterFillsLevels :
    (bedCommand [8, 0, 1, 1]).executes 0x08 = true ∧ ((bedCommand [8, 0, 1, 1]).arg 2).toNat = 1 ∧
    ((bedCommand [8, 0, 0, 1]).arg 2).toNat = 0 ∧ 1 < ((bedCommand [8, 0, 2, 0]).arg 2).toNat ∧
    1 < ((bedCommand [8, 0, 0, 2]).arg 3).toNat := by decide

/-- The ring sizes 0, 16 (that of the REPORT window) and 32, which is refused. -/
theorem witness_SetPolicyWritesFields :
    (bedCommand [9, 0, 15, 7, 7, 1, 1, 16, 0, 16]).executes 0x09 = true ∧
    (bedCommand [9, 0, 15, 7, 7, 1, 1, 16, 0, 16]).argNat 8 10 = 16 ∧
    ((bedCommand [9, 0, 15, 7, 7, 1, 1, 16, 0, 16]).arg 2).toNat = (15 : Fin 16).val ∧
    bed.windows[(4 : Fin 16)] = some ⟨.report, 0x8000, 16, none, none⟩ ∧
    (∀ j : Fin 16, ∀ v ∈ bed.windows[j], v.role = .report → j = 4) ∧
    (bedCommand [9, 0, 15, 7, 7, 1, 1, 16, 0, 0]).argNat 8 10 = 0 ∧
    (bedCommand [9, 0, 0, 7, 7, 1, 1, 16, 0, 32]).argNat 8 10 = 32 ∧
    15 < ((bedCommand [9, 0, 16]).arg 2).toNat ∧ 1 < ((bedCommand [9, 0, 0, 0, 0, 2]).arg 5).toNat := by decide +kernel

theorem witness_FaultCommands :
    (bedCommand [10, 0, 0, 11, 2]).executes 0x0A = true ∧
    ((bedDue 2).faults.table[(0 : Fin 32)] = some (faultEntry .conflict .degraded (some 2) .pending 0)) ∧
    FaultClass.conflict.code = 11 ∧ chanByte (some 2) = 2 ∧ ((bedCommand [10, 0, 1]).arg 2).toNat = 1 ∧
    1 < ((bedCommand [10, 0, 2]).arg 2).toNat ∧
    (bedCommand [11, 0]).executes 0x0B = true ∧ (∀ i : Fin 32, bed.faults.table[i] = none) ∧
    (let s : State := { bed with ctl := { bed.ctl with state := .executing,
                                                       snapshot := some [faultEntry .conflict .degraded none .none 0] } }
     s.ctl.state = .executing ∧ s.ctl.snapshot = some [faultEntry .conflict .degraded none .none 0] ∧
      s.ctl.queue.length < 8) := by decide +kernel

/-- SNAPSHOT_FAULTS with one of the ring's writes outstanding and room for the records and none; with the ring live and the
queue empty; and with the ring not live. -/
theorem witness_FaultCommands_snapshot :
    (let s := withInj { bedRing with ctl := { (bedCommand [11, 0]).ctl with ringSize := 16, ringProducer := 5, ringConsumer := 2 } }
       .reportWord (.write [])
     s.executes 0x0B = true ∧ s.reportOutstanding = true ∧ s.ctl.queue.length ≤ 8) ∧
    (let s : State := { bedRing with ctl := { (bedCommand [11, 0]).ctl with ringSize := 16, ringProducer := 5, ringConsumer := 2 } }
     s.executes 0x0B = true ∧ s.reportOutstanding = false ∧ s.ringLive = true ∧ s.ctl.queue = [] ∧
      (s.ctl.ringProducer + 1) % s.ctl.ringSize ≠ s.ctl.ringConsumer ∧
      s.reportWindow = some (4, ⟨.report, 0x8000, 16, none, none⟩)) ∧
    (bedCommand [11, 0]).ringLive = false ∧ (bedDue 2).faults.used.map (·.2) ≠ [] ∧
    8 < ((bedFull .correctable .pending).faults.used.map (·.2)).length := by decide +kernel

theorem witness_FaultCommands_faultsSound : (bedCommand [10, 0, 0, 11, 2]).faultsSound :=
  faultsSound_of _ (by decide +kernel) (by decide +kernel)

/-- A record that waits in COMPLETING. -/
def waitingDone : Report := ⟨.commandDone 0 0 0, 0xFF, none, none, 0⟩

/-- The bed in COMPLETING with that record or none. -/
def bedCompleting (r : Option Report) : State := { bed with ctl := { bed.ctl with state := .completing, doneWaiting := r } }

theorem witness_CommandsComplete :
    (bedCommand [12]).ctl.state = .executing ∧ (bedCommand [12]).ctl.snapshot = none ∧
    11 < ((bedCommand [12]).arg 0).toNat ∧ ((bedCommand [0]).arg 0).toNat = 0 ∧
    (bedCompleting (some waitingDone)).ctl.doneWaiting = some waitingDone ∧ bed.ctl.queue.length < 8 ∧
    (withInj (bedCompleting (some waitingDone)) .statusWrite (.write [])).bus.outstanding
      (fun op => decide (op = .statusWrite)) = true ∧
    (bedCompleting (some waitingDone)).bus.outstanding (fun op => decide (op = .statusWrite)) = false ∧
    (withInj (bedCompleting none) .statusWrite (.write [])).issuedInj 4 = some (issued .statusWrite (.write [])) ∧
    ((withInj (bedCompleting none) .statusWrite (.write [])).freeInj 4).bus.outstanding
      (fun op => decide (op = .statusWrite)) = false := by decide +kernel

theorem witness_InjectedWritesAnswered :
    (withInj bedRing .reportRecord (.write [])).agesSound ∧
    (withInj bedRing .reportRecord (.write [])).issuedInj 4 = some (issued .reportRecord (.write [])) ∧
    0 < bedRing.ctl.ringSize ∧
    (let s := withInj { bedRing with ctl := { bedRing.ctl with queue := [waitingDone] } } .reportWord (.write [])
     s.agesSound ∧ s.issuedInj 4 = some (issued .reportWord (.write [])) ∧ s.ctl.queue = waitingDone :: [] ∧
      s.ringLive = true ∧ (s.ctl.ringProducer + 1) % s.ctl.ringSize ≠ s.ctl.ringConsumer ∧
      (s.freeInj 4).reportOutstanding = false ∧ s.reportWindow = some (4, ⟨.report, 0x8000, 16, none, none⟩)) ∧
    bedRing.ctl.queue = [] ∧
    (withInj bed .lostWord (.write [])).issuedInj 4 = some (issued .lostWord (.write [])) ∧
    bed.ctl.lost = bed.ctl.lostWritten ∧
    (withInj bed (.headerResult 0 false) (.write [])).issuedInj 4 = some (issued (.headerResult 0 false) (.write [])) ∧
    (withInj bed .resetZero (.write [])).issuedInj 4 = some (issued .resetZero (.write [])) := by
  unfold State.agesSound; decide +kernel

/-! ### Time -/

theorem witness_TimeBaseCounts :
    bed.line ≠ .powerOn ∧ bed.time.quarter ≤ 3 ∧ bed.time.subMs ≤ 999 ∧ bed.time.subSec ≤ 59 ∧
    (let b : TimeBase := { bed.time with quarter := 3, subMs := 999, subSec := 59 }
     b.quarter ≤ 3 ∧ b.subMs ≤ 999 ∧ b.subSec ≤ 59) := by decide

theorem witness_RefillSpendsCredit :
    0 < ({ bed with time := { bed.time with refillsDue := 1 } } : State).time.refillsDue ∧
    (bed.meter .a).metered = false ∧
    (({ bed with meterB := ⟨true, 100, 2048, 2048, 4, 7, 0, 0, 30⟩ } : State).meter .b).metered = true := by decide

theorem witness_TimersRunOut :
    (let s := bedChan fun c => { c with cur := none, next := some 5, cutover := .running 0, cutoverKey := some 5 }
     (s.chan 2).cutover = .running 0 ∧ (s.chan 2).cutoverKey = some 5 ∧ (s.chan 2).next = some 5 ∧
      (s.key 5).owner = some 2 ∧ (s.chan 2).prev ≠ some 5) ∧
    (let s := bedChan fun c => { c with cutover := .running 0, cutoverKey := some 5 }
     (s.chan 2).next ≠ some 5) ∧
    (let s := bedChan fun c => { c with cur := none, prev := some 5, grace := .running 0 }
     (s.chan 2).grace = .running 0 ∧ (s.chan 2).prev = some 5 ∧ (s.chan 2).cur ≠ some 5 ∧ (s.chan 2).next ≠ some 5 ∧
      (s.key 5).state ≠ .free ∧ (s.key 5).refs = 0 ∧ (s.key 5).load = .loaded ∧
      (s.chan 2).hold.map (·.key) ≠ some 5) ∧
    0 < ((bed.setKey 5 fun k => { k with refs := 1 }).key 5).refs ∧
    ({ bed with notices := { bed.notices with holdoff := .running 0 } } : State).notices.holdoff = .running 0 ∧
    0 < ({ bed with time := { bed.time with minutesDue := 1 } } : State).time.minutesDue := by decide +kernel

/-- The bed at a minute expiry, its key slot with a lifetime of 5 and these minutes left: no other key slot counts. -/
def bedMinute (minutes : Nat) : State :=
  { bed.setKey 5 fun k => { k with lifetime := some 5, minutes := minutes } with
    time := { bed.time with minutesDue := 1 } }

theorem witness_TimersRunOut_minute :
    0 < (bedMinute 1).time.minutesDue ∧ (bedMinute 1).minuteCounts 5 2 ∧ ((bedMinute 1).chan 2).cur = some 5 ∧
    (bedMinute 1).notices.list.length < 16 ∧ ((bedMinute 1).key 5).minuteLater.spends false ∧
    ((bedMinute 1).key 6).state = .free ∧
    ∀ (j : Fin 32) (d : Fin 16), j ≠ 5 → ¬ (bedMinute 1).minuteCounts j d := by
  have h : ∀ j : Fin 32, j ≠ 5 → ((bedMinute 1).key j).state = .free := by decide +kernel
  refine ⟨by decide +kernel, by unfold State.minuteCounts; decide +kernel, by decide +kernel, by decide +kernel,
    .inl ⟨by decide +kernel, .inr (.inr (.inl (by decide +kernel)))⟩, by decide +kernel, fun j d hj hm => hm.2.1 (h j hj)⟩

/-- The last minute of a CURRENT key slot spends it (R126, R127). -/
theorem test_lifetime_spends :
    after (exec .keyLifetimeTick (bedMinute 1)) (fun t =>
      (t.key 5).spent && decide (t.notices.list = [⟨2, .renewRequest .spent⟩]) &&
        t.faults.used.map (·.2.cls) == [.keySpent]) = true := by decide +kernel

/-- A promotion writes its KEY_EVENT record to the ring (R129 step 4). -/
theorem test_promotion_reported :
    after (exec (.cutoverTimerExpiry 2) { (bedChan fun c =>
        { c with cur := none, next := some 5, cutover := .running 0, cutoverKey := some 5 }) with ctl := bedRing.ctl })
      (fun t => t.bus.inj.map (fun e => (e.req.op, e.req.start)) == [(.reportRecord, 0x8000 + 32 * 5)]) = true := by
  decide +kernel

end Sys2Proof.Tests
end

section
/-!
SUPPORT. What a settling keeps of the two queues: the requests of a step reach the injection queue or wait for it, no
entry of the queue is lost, and the units outside the bus stand as they were.
-/

namespace Sys2Proof.Machine

/-! ## Requests and entries through a settling (R16) -/

@[simp] theorem State.settle_passover (s : State) : s.settle.bus.passover = s.bus.passover :=
  congrArg Steady.passover s.settle_steady

@[simp] theorem State.settle_down (s : State) : s.settle.bus.down = s.bus.down :=
  congrArg Steady.down s.settle_steady

theorem mem_orderAsked {q : InjReq} {l : List InjReq} : q ∈ orderAsked l ↔ q ∈ l := by
  simp [orderAsked]

/-- A request that is placed takes an entry or waits: it joins the requests, and none leaves. -/
theorem State.mem_requests_placeInj {q : InjReq} (s : State) (r : InjReq) :
    q ∈ (s.placeInj r).requests ↔ q ∈ s.requests ∨ q = r := by
  unfold State.placeInj
  split
  · have taken : (s.enterInj r).requests = s.bus.inj.map (·.req) ++ [r] ++ s.bus.injWaiting := by
      simp [State.requests, State.enterInj]
    rw [taken]
    simp only [State.requests, List.mem_append, List.mem_singleton]
    exact or_right_comm
  · simp [State.requests, or_assoc]

theorem State.mem_requests_placeAsked {q : InjReq} (s : State) :
    q ∈ s.placeAsked.requests ↔ q ∈ s.requests ∨ q ∈ s.bus.injAsked := by
  suffices h : ∀ (l : List InjReq) (u : State), q ∈ (l.foldl State.placeInj u).requests ↔ q ∈ u.requests ∨ q ∈ l by
    unfold State.placeAsked
    rw [h, mem_orderAsked]
    rfl
  intro l
  induction l with
  | nil => simp
  | cons r l ih => intro u; simp [ih, State.mem_requests_placeInj, or_assoc]

theorem State.judgeHoldoff_bus (s : State) : s.judgeHoldoff.bus = s.bus := by
  unfold State.judgeHoldoff
  (repeat' split) <;> rfl

theorem State.settle_bus (s : State) : s.settle.bus = s.deliver.placeAsked.bus := by
  simp [State.settle, State.judgeHoldoff_bus]

/-- A settling places every request of the step and drops none that was made before (R16). -/
theorem State.mem_requests_settle {q : InjReq} (s : State) :
    q ∈ s.settle.requests ↔ q ∈ s.requests ∨ q ∈ s.bus.injAsked := by
  have hp := s.deliver.mem_requests_placeAsked (q := q)
  unfold State.requests at hp ⊢
  rw [State.settle_bus]
  exact hp

/-- The entries of the injection queue stay in it through a settling. -/
theorem State.mem_inj_settle {i : InjEntry} (s : State) (h : i ∈ s.bus.inj) : i ∈ s.settle.bus.inj := by
  rw [State.settle_bus]
  unfold State.placeAsked
  suffices hf : ∀ (l : List InjReq) (u : State), i ∈ u.bus.inj → i ∈ (l.foldl State.placeInj u).bus.inj from hf _ _ h
  intro l
  induction l with
  | nil => exact fun u hu => hu
  | cons r l ih =>
    intro u hu
    refine ih _ ?_
    unfold State.placeInj
    split
    · simp [State.enterInj, hu]
    · exact hu

/-! ## The units outside the bus -/

/-- Settling changes the Notice Engine's holdoff timer alone (R167). -/
theorem State.settle_sameNotices (s : State) : SameNotices s s.settle := by
  obtain ⟨_, _, _, _, _, _, h⟩ := s.settle_only
  unfold SameNotices
  rw [h]

/-- A state whose units are those of s settles to one whose units are. -/
theorem SameUnits.settle {s u : State} (h : SameUnits s u) : SameUnits s u.settle := by
  obtain ⟨hf, hk, hm, hx, hn, hc⟩ := h
  refine ⟨by simpa [SameFrames] using hf, by simpa [SameKeys] using hk, by simpa [SameMeters] using hm,
    by simpa [SameFaults] using hx, ?_, ?_⟩
  · have hs := u.settle_sameNotices
    unfold SameNotices at hs hn ⊢
    rw [hs, hn]
  · unfold SameControl at hc ⊢
    rw [State.settle_ctl, hc]

end Sys2Proof.Machine
end

section
/-!
SUPPORT. The downstream arbiter: which entries `oldestTransit` and `oldestInj` name, what DOWNSTREAM_GRANT does in each
case of R17, and what a grant changes.
-/

namespace Sys2Proof.Machine

/-! ## The oldest READY entry -/

section Oldest

variable {α : Type} {age : α → Nat} {ready : α → Bool} {l : List α}

/-- Of a collection in the order of its ages, the search finds the READY entry that no READY one is older than. -/
theorem find?_oldest_eq_some {x : α} (sorted : l.Pairwise fun a b => age a < age b) (hx : x ∈ l) (hr : ready x = true)
    (hmin : ∀ y ∈ l, ready y = true → age x ≤ age y) :
    (l.find? fun a => ready a && l.all fun b => !ready b || decide (age a ≤ age b)) = some x := by
  cases hf : l.find? fun a => ready a && l.all fun b => !ready b || decide (age a ≤ age b) with
  | none =>
    rw [List.find?_eq_none] at hf
    refine absurd ?_ (hf x hx)
    simp only [hr, Bool.true_and, List.all_eq_true, Bool.or_eq_true, Bool.not_eq_true', decide_eq_true_eq]
    exact fun y hy => (Bool.eq_false_or_eq_true (ready y)).symm.imp_right (hmin y hy)
  | some y =>
    have hy := List.mem_of_find?_eq_some hf
    have hp := List.find?_some hf
    simp only [Bool.and_eq_true, List.all_eq_true, Bool.or_eq_true, Bool.not_eq_true', decide_eq_true_eq] at hp
    obtain ⟨hry, hall⟩ := hp
    have hage : age y = age x :=
      le_antisymm ((hall x hx).resolve_left (by simp [hr])) (hmin y hy hry)
    have distinct : (l.map age).Nodup := List.pairwise_map.2 (sorted.imp Nat.ne_of_lt)
    rw [List.inj_on_of_nodup_map distinct hy hx hage]

/-- The search finds nothing exactly when nothing is READY. -/
theorem find?_oldest_eq_none :
    (l.find? fun a => ready a && l.all fun b => !ready b || decide (age a ≤ age b)) = none ↔
      ∀ a ∈ l, ready a = false := by
  constructor
  · intro hf
    cases hm : (l.filter ready).argmin age with
    | none => simpa using List.argmin_eq_none.1 hm
    | some m =>
      have hmem := List.argmin_mem hm
      rw [List.mem_filter] at hmem
      refine absurd ?_ (List.find?_eq_none.1 hf m hmem.1)
      simp only [hmem.2, Bool.true_and, List.all_eq_true, Bool.or_eq_true, Bool.not_eq_true', decide_eq_true_eq]
      exact fun y hy => (Bool.eq_false_or_eq_true (ready y)).symm.imp_right fun hr =>
        List.le_of_mem_argmin (List.mem_filter.2 ⟨hy, hr⟩) hm
  · intro h
    simp +contextual [List.find?_eq_none, h]

end Oldest

theorem oldestTransit_eq_some {s : State} {e : TransitEntry} (ages : s.agesSound) (he : e ∈ s.bus.transit)
    (hr : s.bus.transitReady e = true) (hmin : ∀ f ∈ s.bus.transit, s.bus.transitReady f = true → e.id ≤ f.id) :
    s.bus.oldestTransit = some e := by
  obtain ⟨sorted, -⟩ := ages
  exact find?_oldest_eq_some sorted he hr hmin

theorem oldestInj_eq_some {s : State} {j : InjEntry} (ages : s.agesSound) (hj : j ∈ s.bus.inj)
    (hr : s.bus.injReady j = true) (hmin : ∀ i ∈ s.bus.inj, s.bus.injReady i = true → j.id ≤ i.id) :
    s.bus.oldestInj = some j := by
  obtain ⟨-, -, sorted, -⟩ := ages
  exact find?_oldest_eq_some sorted hj hr hmin

theorem oldestTransit_eq_none {b : Bus} : b.oldestTransit = none ↔ ∀ e ∈ b.transit, b.transitReady e = false :=
  find?_oldest_eq_none

theorem oldestInj_eq_none {b : Bus} : b.oldestInj = none ↔ ∀ j ∈ b.inj, b.injReady j = false :=
  find?_oldest_eq_none

/-! ## The choice (R17) -/

theorem grant_injected {s : State} {j : InjEntry} (hj : s.bus.oldestInj = some j)
    (h : s.bus.passover = 8 ∨ s.bus.oldestTransit = none) : exec .downstreamGrant s = done (s.grantInj j) := by
  change execDownstreamGrant s = _
  unfold execDownstreamGrant
  rw [hj]
  cases he : s.bus.oldestTransit with
  | none => rfl
  | some e => exact if_pos (h.resolve_right (by simp [he]))

/-- A transit table entry passes over a READY injection queue entry, and the count rises. -/
theorem grant_over {s : State} {e : TransitEntry} {j : InjEntry} (he : s.bus.oldestTransit = some e)
    (hj : s.bus.oldestInj = some j) (h : s.bus.passover ≠ 8) :
    exec .downstreamGrant s = done (s.grantTransit e (s.bus.passover + 1)) := by
  change execDownstreamGrant s = _
  unfold execDownstreamGrant
  rw [he, hj]
  exact if_neg h

theorem grant_alone {s : State} {e : TransitEntry} (he : s.bus.oldestTransit = some e) (hj : s.bus.oldestInj = none) :
    exec .downstreamGrant s = done (s.grantTransit e 0) := by
  change execDownstreamGrant s = _
  unfold execDownstreamGrant
  rw [he, hj]

theorem grant_nothing {s : State} (he : s.bus.oldestTransit = none) (hj : s.bus.oldestInj = none) :
    exec .downstreamGrant s = .next s := by
  change execDownstreamGrant s = _
  unfold execDownstreamGrant
  rw [he, hj]
  rfl

/-! ## What a grant changes -/

theorem grantInj_sameUnits (s : State) (j : InjEntry) : SameUnits s (s.grantInj j) :=
  ⟨⟨rfl, rfl, rfl⟩, ⟨rfl, rfl⟩, ⟨rfl, rfl⟩, rfl, rfl, rfl⟩

theorem grantTransit_sameUnits (s : State) (e : TransitEntry) (n : Nat) : SameUnits s (s.grantTransit e n) :=
  ⟨⟨rfl, rfl, rfl⟩, ⟨rfl, rfl⟩, ⟨rfl, rfl⟩, rfl, rfl, rfl⟩

@[simp] theorem grantInj_passover (s : State) (j : InjEntry) : (s.grantInj j).bus.passover = 0 := rfl

@[simp] theorem grantTransit_passover (s : State) (e : TransitEntry) (n : Nat) :
    (s.grantTransit e n).bus.passover = n := rfl

@[simp] theorem grantInj_down (s : State) (j : InjEntry) :
    (s.grantInj j).bus.down = ⟨j.id, true, j.req.start, j.req.access⟩ :: s.bus.down := rfl

@[simp] theorem grantTransit_down (s : State) (e : TransitEntry) (n : Nat) :
    (s.grantTransit e n).bus.down = ⟨e.id, false, e.start, e.access⟩ :: s.bus.down := rfl

/-- The granted entry is ISSUED under the timeout setting in force (R20), and a settling keeps it in the queue. -/
theorem granted_mem_inj {s : State} {j : InjEntry} (hj : j ∈ s.bus.inj) :
    { j with issued := true, timeout := s.bus.timeout, ticks := 0 } ∈ (s.grantInj j).settle.bus.inj := by
  apply State.mem_inj_settle
  exact List.mem_map.2 ⟨j, hj, by simp⟩

/-- A granted entry that could not be delivered before cannot be after: settling keeps it in the transit table. -/
theorem granted_mem_transit {s : State} {e : TransitEntry} (n : Nat) (he : e ∈ s.bus.transit)
    (rest : e.deliverable = false) :
    { e with issued := true } ∈ (s.grantTransit e n).settle.bus.transit := by
  rw [State.settle_transit]
  refine List.mem_filter.2 ⟨List.mem_map.2 ⟨e, he, by simp⟩, ?_⟩
  have hd : ({ e with issued := true } : TransitEntry).deliverable = false := rest
  have hm : ({ e with issued := true } : TransitEntry).emptied = false := by
    unfold TransitEntry.emptied
    split <;> simp
  simp [hd, hm]

/-! ## Both resets (R17, R21) -/

theorem powerOnReset_passover {b : BitVec 28} {s t : State} (h : exec (.powerOnReset b) s = .next t) :
    t.bus.passover = 0 := by
  change execPowerOnReset b s = _ at h
  rw [execPowerOnReset, done_eq_next] at h
  rw [← h, State.settle_passover]
  rfl

theorem warmReset_passover {s t : State} (hl : s.line ≠ .powerOn) (h : exec .warmReset s = .next t) :
    t.bus.passover = 0 := by
  change execWarmReset s = _ at h
  rw [execWarmReset, if_neg hl, done_eq_next] at h
  rw [← h, State.settle_passover]
  rfl

/-! ## The statement -/

/-- The injection queue's turn: with the count at its top, or with no transit table entry READY. -/
theorem grant_takes_injected {s : State} {j : InjEntry} (hj : j ∈ s.bus.inj) (hr : s.bus.injReady j = true)
    (ages : s.agesSound) (hmin : ∀ i ∈ s.bus.inj, s.bus.injReady i = true → j.id ≤ i.id)
    (turn : s.bus.passover = 8 ∨ ∀ e ∈ s.bus.transit, s.bus.transitReady e = false) :
    ∃ t, exec .downstreamGrant s = .next t ∧ t.bus.passover = 0 ∧
      t.bus.down = ⟨j.id, true, j.req.start, j.req.access⟩ :: s.bus.down ∧ SameUnits s t ∧
      (∃ i ∈ t.bus.inj, i.id = j.id ∧ i.issued = true ∧ i.timeout = s.bus.timeout ∧ i.ticks = 0) :=
  ⟨(s.grantInj j).settle,
    grant_injected (oldestInj_eq_some ages hj hr hmin) (turn.imp_right oldestTransit_eq_none.2),
    by simp, by simp, (grantInj_sameUnits s j).settle, _, granted_mem_inj hj, rfl, rfl, rfl, rfl⟩

/-- The transit table's turn: the count rises over a READY injection queue entry and is 0 when there is none. -/
theorem grant_takes_transit {s : State} {e : TransitEntry} (he : e ∈ s.bus.transit)
    (hr : s.bus.transitReady e = true) (ages : s.agesSound) (rest : s.rested)
    (hmin : ∀ f ∈ s.bus.transit, s.bus.transitReady f = true → e.id ≤ f.id)
    (turn : ¬ (s.bus.passover = 8 ∧ ∃ j ∈ s.bus.inj, s.bus.injReady j = true)) :
    ∃ t, exec .downstreamGrant s = .next t ∧
      ((∃ j ∈ s.bus.inj, s.bus.injReady j = true) → t.bus.passover = s.bus.passover + 1) ∧
      ((∀ j ∈ s.bus.inj, s.bus.injReady j = false) → t.bus.passover = 0) ∧
      t.bus.down = ⟨e.id, false, e.start, e.access⟩ :: s.bus.down ∧ SameUnits s t ∧
      { e with issued := true } ∈ t.bus.transit := by
  have hold := oldestTransit_eq_some ages he hr hmin
  have granted (n : Nat) := granted_mem_transit n he (rest.1 e he).1
  cases hj : s.bus.oldestInj with
  | none =>
    have none_ready := oldestInj_eq_none.1 hj
    refine ⟨_, grant_alone hold hj, ?_, fun _ => by simp, by simp, (grantTransit_sameUnits s e 0).settle, granted 0⟩
    rintro ⟨j, hm, hjr⟩
    simp [none_ready j hm] at hjr
  | some j =>
    have one_ready : ∃ j ∈ s.bus.inj, s.bus.injReady j = true := by
      by_contra hn
      simp only [not_exists, not_and, Bool.not_eq_true] at hn
      simp [oldestInj_eq_none.2 hn] at hj
    have below : s.bus.passover ≠ 8 := fun h8 => turn ⟨h8, one_ready⟩
    refine ⟨_, grant_over hold hj below, fun _ => by simp, ?_, by simp, (grantTransit_sameUnits s e _).settle, granted _⟩
    intro hn
    obtain ⟨i, hi, hir⟩ := one_ready
    simp [hn i hi] at hir

/-- Settles O29: the four cases of R17 by which collection has a READY entry, and the two resets. -/
theorem arbiterChooses : Obligations.ArbiterChooses :=
  ⟨fun _ _ hj hr ages hmin turn => grant_takes_injected hj hr ages hmin turn,
    fun _ _ he hr ages rest hmin turn => grant_takes_transit he hr ages rest hmin turn,
    fun _ ht hi => grant_nothing (oldestTransit_eq_none.2 ht) (oldestInj_eq_none.2 hi),
    fun _ _ _ h => powerOnReset_passover h,
    fun _ _ hl h => warmReset_passover hl h⟩

end Sys2Proof.Machine
end

section
/-!
SUPPORT. What handing on a report record and completing a command change: the Control Unit and the requests of the step.
-/

namespace Sys2Proof.Machine

/-! ## Report records (R179, R180) -/

/-- The state with its report queue and lost-report counts as given, and more requests made: all that the handing on of
report records can come to. -/
def State.withReports (s : State) (lost written : Nat) (queue : List Report) (more : List InjReq) : State :=
  { s with
    ctl := { s.ctl with lost := lost, lostWritten := written, queue := queue }
    bus := { s.bus with injAsked := s.bus.injAsked ++ more } }

theorem State.withReports_none (s : State) (queue : List Report) :
    { s with ctl := { s.ctl with queue := queue } } = s.withReports s.ctl.lost s.ctl.lostWritten queue [] := by
  simp [State.withReports]

@[simp] theorem State.withReports_withReports (s : State) (l w l' w' : Nat) (q q' : List Report) (m m' : List InjReq) :
    (s.withReports l w q m).withReports l' w' q' m' = s.withReports l' w' q' (m ++ m') := by
  simp [State.withReports]

theorem State.loseReport_withReports (s : State) :
    ∃ lost written more, s.loseReport = s.withReports lost written s.ctl.queue more := by
  unfold State.loseReport
  dsimp only
  split
  · exact ⟨_, _, [], s.withReports_none s.ctl.queue⟩
  · split
    · exact ⟨min (s.ctl.lost + 1) Config.top32, s.ctl.lostWritten, [], by simp [State.withReports]⟩
    · exact ⟨_, _, [_], rfl⟩

theorem State.askRecord_withReports (s : State) (r : Report) :
    ∃ more, s.askRecord r = s.withReports s.ctl.lost s.ctl.lostWritten s.ctl.queue more := by
  unfold State.askRecord
  split
  · exact ⟨[_], rfl⟩
  · exact ⟨[], s.withReports_none s.ctl.queue⟩

theorem State.reportTurns_withReports (l : List Report) (s : State) :
    ∃ lost written queue more, State.reportTurns l s = s.withReports lost written queue more := by
  induction l generalizing s with
  | nil => exact ⟨_, _, _, [], s.withReports_none []⟩
  | cons r l ih =>
    unfold State.reportTurns
    split
    · exact ⟨_, _, _, [], s.withReports_none _⟩
    · split
      · obtain ⟨m, h⟩ := s.askRecord_withReports r
        obtain ⟨x, w, q, m', h'⟩ := ih (s.askRecord r)
        exact ⟨x, w, q, m ++ m', by rw [h', h, State.withReports_withReports]⟩
      · obtain ⟨_, _, m, h⟩ := s.loseReport_withReports
        obtain ⟨x, w, q, m', h'⟩ := ih s.loseReport
        exact ⟨x, w, q, m ++ m', by rw [h', h, State.withReports_withReports]⟩

theorem State.handReport_withReports (s : State) (r : Report) :
    ∃ lost written queue more, s.handReport r = s.withReports lost written queue more := by
  unfold State.handReport
  split
  · rw [State.withReports_none]
    obtain ⟨x, w, q, m, h⟩ := State.reportTurns_withReports (s.ctl.queue ++ [r])
      (s.withReports s.ctl.lost s.ctl.lostWritten (s.ctl.queue ++ [r]) [])
    exact ⟨x, w, q, [] ++ m, by rw [← State.withReports_withReports]; exact h⟩
  · obtain ⟨x, w, m, h⟩ := s.loseReport_withReports
    exact ⟨x, w, _, m, h⟩

/-! ## Completion (R176) -/

/-- The request for the consumer index and status write of the command in execution (R176). -/
def State.statusRequest (s : State) (status : Byte) : InjReq :=
  ⟨.statusWrite, 4, s.pageBase, statusAccess ((s.ctl.consumer + 1) % 32) (s.arg 0) (s.arg 1) status, some 0, none⟩

/-- The Control Unit once the command in execution has completed, but for its report records (R176). -/
def State.completedCtl (s : State) (status : Byte) : ControlUnit :=
  { s.ctl with
    consumer := (s.ctl.consumer + 1) % 32, lastCode := s.arg 0, lastTag := s.arg 1, lastStatus := status,
    state := .completing, snapshot := none }

/-- Everything a completion changes: the status goes out, and the COMMAND_DONE record joins the queue or waits. -/
theorem State.complete_only (s : State) (status channel : Byte) :
    ∃ lost written queue waiting more, s.complete status channel = { s with
      ctl := { s.completedCtl status with lost := lost, lostWritten := written, queue := queue, doneWaiting := waiting }
      bus := { s.bus with injAsked := s.bus.injAsked ++ s.statusRequest status :: more } } := by
  unfold State.complete
  dsimp only
  split
  · obtain ⟨x, w, q, m, h⟩ := State.handReport_withReports
      ((s.setCtl fun _ => s.completedCtl status).ask (s.statusRequest status))
      ⟨.commandDone (s.arg 1) (s.arg 0) status, channel, none, none, s.time.ms⟩
    refine ⟨x, w, q, s.ctl.doneWaiting, m, h.trans ?_⟩
    simp [State.withReports, State.completedCtl]
  · exact ⟨_, _, _, _, [], rfl⟩

section Fields

variable (s : State) (status channel : Byte)

@[simp] theorem State.complete_windows : (s.complete status channel).windows = s.windows := by
  obtain ⟨_, _, _, _, _, h⟩ := s.complete_only status channel; rw [h]
@[simp] theorem State.complete_classes : (s.complete status channel).classes = s.classes := by
  obtain ⟨_, _, _, _, _, h⟩ := s.complete_only status channel; rw [h]
@[simp] theorem State.complete_pool : (s.complete status channel).pool = s.pool := by
  obtain ⟨_, _, _, _, _, h⟩ := s.complete_only status channel; rw [h]
@[simp] theorem State.complete_ks : (s.complete status channel).ks = s.ks := by
  obtain ⟨_, _, _, _, _, h⟩ := s.complete_only status channel; rw [h]
@[simp] theorem State.complete_merges : (s.complete status channel).merges = s.merges := by
  obtain ⟨_, _, _, _, _, h⟩ := s.complete_only status channel; rw [h]
@[simp] theorem State.complete_channels : (s.complete status channel).channels = s.channels := by
  obtain ⟨_, _, _, _, _, h⟩ := s.complete_only status channel; rw [h]
@[simp] theorem State.complete_meterA : (s.complete status channel).meterA = s.meterA := by
  obtain ⟨_, _, _, _, _, h⟩ := s.complete_only status channel; rw [h]
@[simp] theorem State.complete_meterB : (s.complete status channel).meterB = s.meterB := by
  obtain ⟨_, _, _, _, _, h⟩ := s.complete_only status channel; rw [h]
@[simp] theorem State.complete_keys : (s.complete status channel).keys = s.keys := by
  obtain ⟨_, _, _, _, _, h⟩ := s.complete_only status channel; rw [h]
@[simp] theorem State.complete_faults : (s.complete status channel).faults = s.faults := by
  obtain ⟨_, _, _, _, _, h⟩ := s.complete_only status channel; rw [h]
@[simp] theorem State.complete_notices : (s.complete status channel).notices = s.notices := by
  obtain ⟨_, _, _, _, _, h⟩ := s.complete_only status channel; rw [h]

end Fields

/-- A command that completes with a status from a state u in which it has changed neither the Control Unit nor the straps
of s has completed with that status, its requests placed (R176). -/
theorem completed_of_complete {s u : State} {status : Byte} (channel : Byte) (ctl : u.ctl = s.ctl)
    (straps : u.straps = s.straps) : Completed s (u.complete status channel).settle status := by
  obtain ⟨_, _, _, _, _, h⟩ := u.complete_only status channel
  have asked : u.statusRequest status ∈ (u.complete status channel).settle.requests :=
    (State.mem_requests_settle _).2 (.inr (by simp [h]))
  have after := congrArg State.ctl h
  have sent : u.statusRequest status = s.statusRequest status := by
    simp [State.statusRequest, State.pageBase, State.arg, ctl, straps]
  have unit : u.completedCtl status = s.completedCtl status := by simp [State.completedCtl, State.arg, ctl]
  rw [sent] at asked
  unfold Completed
  rw [State.settle_ctl, after, unit]
  exact ⟨rfl, rfl, rfl, rfl, rfl, _, asked, rfl, rfl, rfl⟩

/-- A completion leaves the indices and the ring alone (R176). -/
theorem sameRing_of_complete {s u : State} (status channel : Byte) (ctl : u.ctl = s.ctl) :
    SameRing s (u.complete status channel).settle := by
  obtain ⟨_, _, _, _, _, h⟩ := u.complete_only status channel
  have after := congrArg State.ctl h
  unfold SameRing
  rw [State.settle_ctl, after, ← ctl]
  exact ⟨rfl, rfl, rfl, rfl⟩

/-- The Notice Engine after a completion and its settling. -/
theorem sameNotices_of_complete {s u : State} (status channel : Byte) (notices : u.notices = s.notices) :
    SameNotices s (u.complete status channel).settle := by
  have h := (u.complete status channel).settle_sameNotices
  unfold SameNotices at h ⊢
  rw [h, State.complete_notices, notices]

end Sys2Proof.Machine
end

section
/-!
SUPPORT. What every command leaves alone: all of `State.steady` but for the commands that `setsSettings` names, and
the initiator class table but for both resets and SET_INITIATOR (R8).
-/

namespace Sys2Proof.Machine

/-! ## Outcomes that keep a part of the state -/

/-- Whatever state an outcome answers agrees with s on a part of the state. -/
def Keeps {α : Type} (part : State → α) (s : State) (o : Host.Outcome State Fault Refusal) : Prop :=
  ∀ t, o = .next t → part t = part s

section Outcomes

variable {α : Type} (part : State → α) (s u : State)

@[simp] theorem keeps_idle : Keeps part s (idle s) := fun t h => by rw [(idle_eq_next s t).1 h]

@[simp] theorem keeps_fault (f : Fault) : Keeps part s (.fault f) := fun _ h => by cases h

theorem keeps_done (settled : part u.settle = part u) : Keeps part s (done u) ↔ part u = part s := by
  simp [Keeps, settled]

@[simp] theorem keeps_steady_done : Keeps State.steady s (done u) ↔ u.steady = s.steady :=
  keeps_done _ _ _ u.settle_steady

@[simp] theorem keeps_classes_done : Keeps State.classes s (done u) ↔ u.classes = s.classes :=
  keeps_done _ _ _ u.settle_classes

end Outcomes

theorem classes_eq_of_steady {s t : State} (h : t.steady = s.steady) : t.classes = s.classes :=
  congrArg Steady.classes h

section Shapes

variable (s : State)

theorem keeps_acceptWhen (mine : Bool) (x : Transaction) : Keeps State.steady s (acceptWhen mine x s) := by
  unfold acceptWhen
  (repeat' split) <;> simp

theorem keeps_command (code : Nat) {f : State → State} (h : (f s).steady = s.steady) :
    Keeps State.steady s (command code s f) := by
  unfold command
  split <;> simp [h]

theorem keeps_classes_command (code : Nat) {f : State → State} (h : (f s).classes = s.classes) :
    Keeps State.classes s (command code s f) := by
  unfold command
  split <;> simp [h]

theorem keeps_answered (id : Nat) (mine : InjOp → Bool) {f : State → State} (h : ∀ u, (f u).steady = u.steady) :
    Keeps State.steady s (answered id mine s f) := by
  unfold answered
  (repeat' split) <;> simp [h]

theorem keeps_readReturned (id : Nat) (data : List Byte) (mine : InjOp → Bool) {f : InjOp → State → State}
    (h : ∀ op u, (f op u).steady = u.steady) : Keeps State.steady s (readReturned id data mine s f) := by
  unfold readReturned
  (repeat' split) <;> simp [h]

end Shapes

/-! ## The effects of the commands that no shared operation covers -/

theorem State.onChannel_steady (s : State) {f : Fin 16 → State → State} (h : ∀ c, (f c s).steady = s.steady) :
    (s.onChannel f).steady = s.steady := by
  unfold State.onChannel
  split
  · exact h _
  · simp

theorem State.setChannel_steady (c : Fin 16) (s : State) : (State.setChannel c s).steady = s.steady := by
  unfold State.setChannel
  split <;> simp

theorem State.setChannelState_steady (c : Fin 16) (s : State) : (State.setChannelState c s).steady = s.steady := by
  unfold State.setChannelState
  (repeat' split) <;> simp

theorem State.dropKeys_steady (c : Fin 16) (s : State) : (State.dropKeys c s).steady = s.steady := by
  simp [State.dropKeys]

theorem State.requestRenewal_steady (c : Fin 16) (s : State) : (State.requestRenewal c s).steady = s.steady := by
  unfold State.requestRenewal
  split <;> simp

theorem State.setMeterCommand_steady (s : State) : s.setMeterCommand.steady = s.steady := by
  unfold State.setMeterCommand
  split <;> simp

@[simp] theorem State.clearOne_steady (s : State) (cls : FaultClass) (c : Option (Fin 16)) :
    (s.clearOne cls c).steady = s.steady := by
  unfold State.clearOne
  split <;> simp

@[simp] theorem State.discardFaults_steady (s : State) : s.discardFaults.steady = s.steady := by
  unfold State.discardFaults
  (repeat' split) <;> first | rfl | simp

@[simp] theorem State.offerData_steady (s : State) (c : Fin 16) (work : Nat) (blocks : List Block) :
    (s.offerData c work blocks).steady = s.steady := by
  unfold State.offerData
  (repeat' split) <;> simp

@[simp] theorem State.askZeroing_steady (s : State) : s.askZeroing.steady = s.steady := rfl

@[simp] theorem State.returnComposing_steady (s : State) : s.returnComposing.steady = s.steady := rfl

@[simp] theorem State.deviceFault_steady (s : State) (cls : FaultClass) : (s.deviceFault cls).steady = s.steady := by
  simp [State.deviceFault]

@[simp] theorem State.readFuses_steady (s : State) : s.readFuses.steady = s.steady := by
  unfold State.readFuses
  split <;> simp

@[simp] theorem State.restartFaults_steady (s : State) : s.restartFaults.steady = s.steady := by
  unfold State.restartFaults
  (repeat' split) <;> simp <;> rfl

/-! ## The rows -/

section Rows

variable (s : State)

theorem execControlPageOtherWrite_keeps (w : PageWrite) :
    Keeps State.steady s (execControlPageOtherWrite w s) := by
  unfold execControlPageOtherWrite
  (repeat' split) <;> simp

theorem execCommandProducerIndexWrite_keeps (id : Nat) :
    Keeps State.steady s (execCommandProducerIndexWrite id s) := by
  unfold execCommandProducerIndexWrite
  (repeat' split) <;> simp

theorem execReportConsumerIndexWrite_keeps (id : Nat) : Keeps State.steady s (execReportConsumerIndexWrite id s) := by
  unfold execReportConsumerIndexWrite
  (repeat' split) <;> simp

theorem execPassedResponse_keeps (id : Nat) (data : List Byte) :
    Keeps State.steady s (execPassedResponse id data s) := by
  unfold execPassedResponse
  (repeat' split) <;> simp

theorem execPassedErrorResponse_keeps (id : Nat) (data : List Byte) :
    Keeps State.steady s (execPassedErrorResponse id data s) := by
  unfold execPassedErrorResponse
  (repeat' split) <;> simp

theorem execInjectionRequestServed_keeps : Keeps State.steady s (execInjectionRequestServed s) := by
  unfold execInjectionRequestServed
  (repeat' split) <;> simp
  rfl

theorem execInjectedError_keeps (id : Nat) : Keeps State.steady s (execInjectedError id s) := by
  unfold execInjectedError
  split <;> simp

theorem execDownstreamTimeout_keeps (id : Nat) : Keeps State.steady s (execDownstreamTimeout id s) := by
  unfold execDownstreamTimeout
  (repeat' split) <;> simp

theorem execCipherGrant_keeps : Keeps State.steady s (execCipherGrant s) := by
  unfold execCipherGrant
  (repeat' split) <;> simp

theorem execKeystreamMissComplete_keeps : Keeps State.steady s (execKeystreamMissComplete s) := by
  unfold execKeystreamMissComplete
  (repeat' split) <;> simp

theorem execBackgroundCipherComplete_keeps : Keeps State.steady s (execBackgroundCipherComplete s) := by
  unfold execBackgroundCipherComplete
  (repeat' split) <;> simp

theorem execRootSubkeyComplete_keeps : Keeps State.steady s (execRootSubkeyComplete s) := by
  unfold execRootSubkeyComplete
  (repeat' split) <;> simp
  rfl

theorem execHashSubkeyReturn_keeps : Keeps State.steady s (execHashSubkeyReturn s) := by
  unfold execHashSubkeyReturn
  (repeat' split) <;> simp

theorem execMultiplierGrant_keeps : Keeps State.steady s (execMultiplierGrant s) := by
  unfold execMultiplierGrant
  (repeat' split) <;> simp
  rfl

theorem execMultiplierProductReturn_keeps : Keeps State.steady s (execMultiplierProductReturn s) := by
  unfold execMultiplierProductReturn
  (repeat' split) <;> simp <;> rfl

theorem execFinishDecision_keeps (n : Nat) : Keeps State.steady s (execFinishDecision n s) := by
  unfold execFinishDecision
  (repeat' split) <;> simp

theorem execTailFetchReturn_keeps (id : Nat) (data : List Byte) :
    Keeps State.steady s (execTailFetchReturn id data s) :=
  keeps_readReturned s _ _ _ fun op u => by split <;> simp

theorem execSweepReadReturn_keeps (id : Nat) (data : List Byte) :
    Keeps State.steady s (execSweepReadReturn id data s) :=
  keeps_readReturned s _ _ _ fun op u => by split <;> simp

theorem execTagReadReturn_keeps (id : Nat) (data : List Byte) : Keeps State.steady s (execTagReadReturn id data s) :=
  keeps_readReturned s _ _ _ fun op u => by split <;> simp

theorem execOfferPayloadReadReturn_keeps (id : Nat) (data : List Byte) :
    Keeps State.steady s (execOfferPayloadReadReturn id data s) :=
  keeps_readReturned s _ _ _ fun op u => by split <;> simp

theorem execHeaderResultWriteAnswered_keeps (id : Nat) : Keeps State.steady s (execHeaderResultWriteAnswered id s) :=
  keeps_answered s id _ fun _ => rfl

theorem execResetZeroingWriteAnswered_keeps (id : Nat) : Keeps State.steady s (execResetZeroingWriteAnswered id s) :=
  keeps_answered s id _ fun _ => rfl

theorem execStatusWriteAnswered_keeps (id : Nat) : Keeps State.steady s (execStatusWriteAnswered id s) :=
  keeps_answered s id _ State.judgeCompletion_steady

theorem execReportRecordWriteAnswered_keeps (id : Nat) : Keeps State.steady s (execReportRecordWriteAnswered id s) :=
  keeps_answered s id _ fun _ => by simp

theorem execReportProducerWordAnswered_keeps (id : Nat) : Keeps State.steady s (execReportProducerWordAnswered id s) :=
  keeps_answered s id _ State.reportTurn_steady

theorem execLostReportCountWriteAnswered_keeps (id : Nat) : Keeps State.steady s (execLostReportCountWriteAnswered id s) :=
  keeps_answered s id _ State.followLost_steady

theorem execSetChannel_keeps : Keeps State.steady s (execSetChannel s) :=
  keeps_command s _ (s.onChannel_steady fun c => State.setChannel_steady c s)

theorem execSetChannelState_keeps : Keeps State.steady s (execSetChannelState s) :=
  keeps_command s _ (s.onChannel_steady fun c => State.setChannelState_steady c s)

theorem execDropKeys_keeps : Keeps State.steady s (execDropKeys s) :=
  keeps_command s _ (s.onChannel_steady fun c => State.dropKeys_steady c s)

theorem execRequestRenewal_keeps : Keeps State.steady s (execRequestRenewal s) :=
  keeps_command s _ (s.onChannel_steady fun c => State.requestRenewal_steady c s)

theorem execSetMeter_keeps : Keeps State.steady s (execSetMeter s) :=
  keeps_command s _ s.setMeterCommand_steady

theorem execClearFaults_keeps : Keeps State.steady s (execClearFaults s) :=
  keeps_command s _ (by simp)

theorem execSnapshotFaults_keeps : Keeps State.steady s (execSnapshotFaults s) :=
  keeps_command s _ (State.handSnapshot_steady _ s)

theorem execDirectFinishComplete_keeps (n : Nat) : Keeps State.steady s (execDirectFinishComplete n s) := by
  unfold execDirectFinishComplete
  (repeat' split) <;> simp

theorem execFrameWriteAnswered_keeps (id : Nat) : Keeps State.steady s (execFrameWriteAnswered id s) := by
  unfold execFrameWriteAnswered
  (repeat' split) <;> simp

theorem execNoticeLine1WriteAnswered_keeps (id : Nat) : Keeps State.steady s (execNoticeLine1WriteAnswered id s) := by
  unfold execNoticeLine1WriteAnswered
  dsimp only
  (repeat' split) <;> simp

theorem execNoticeCompositionComplete_keeps (id : Nat) :
    Keeps State.steady s (execNoticeCompositionComplete id s) := by
  unfold execNoticeCompositionComplete
  dsimp only
  (repeat' split) <;> simp

theorem execOfferRulingStart_keeps (c : Fin 16) : Keeps State.steady s (execOfferRulingStart c s) := by
  unfold execOfferRulingStart
  split <;> simp

theorem execProtocolNoticeStart_keeps : Keeps State.steady s (execProtocolNoticeStart s) := by
  unfold execProtocolNoticeStart
  split <;> simp [State.startProtocol_steady]

theorem execFaultNoticeStart_keeps : Keeps State.steady s (execFaultNoticeStart s) := by
  unfold execFaultNoticeStart
  dsimp only
  (repeat' split) <;> simp

theorem execCommandFetchReturn_keeps (id : Nat) (data : List Byte) :
    Keeps State.steady s (execCommandFetchReturn id data s) := by
  unfold execCommandFetchReturn
  (repeat' split) <;> simp

theorem execSnapshotRecordHanded_keeps : Keeps State.steady s (execSnapshotRecordHanded s) := by
  unfold execSnapshotRecordHanded
  (repeat' split) <;> simp [State.handSnapshot_steady]

theorem execUnknownCommand_keeps : Keeps State.steady s (execUnknownCommand s) := by
  unfold execUnknownCommand
  split <;> simp

theorem execCommandDoneHanded_keeps : Keeps State.steady s (execCommandDoneHanded s) := by
  unfold execCommandDoneHanded
  (repeat' split) <;> simp

theorem execCutoverTimerExpiry_keeps (c : Fin 16) : Keeps State.steady s (execCutoverTimerExpiry c s) := by
  unfold execCutoverTimerExpiry
  dsimp only
  split
  · rw [keeps_steady_done]
    split <;> simp
  · simp

theorem execGraceTimerExpiry_keeps (c : Fin 16) : Keeps State.steady s (execGraceTimerExpiry c s) := by
  unfold execGraceTimerExpiry
  split <;> simp

theorem execHoldoffTimerExpiry_keeps : Keeps State.steady s (execHoldoffTimerExpiry s) := by
  unfold execHoldoffTimerExpiry
  split <;> simp
  rfl

end Rows

/-- The commands that write a setting of `State.steady`: the resets, the arbiter's grant, the commands on the window and
class tables and the policy, and the expiries that the Time Base counts. -/
def setsSettings : Instr → Bool
  | .powerOnReset _ | .leavePowerOnReset _ | .warmReset | .leaveWarmReset | .downstreamGrant
  | .setWindow | .clearWindow | .setInitiator | .setPolicy | .timeBaseTick | .meterRefill | .keyLifetimeTick => true
  | _ => false

/-- Every other command leaves the settings alone. -/
theorem exec_keeps_steady (c : Instr) (s : State) (h : setsSettings c = false) : Keeps State.steady s (exec c s) := by
  cases c with
  | powerOnReset | leavePowerOnReset | warmReset | leaveWarmReset | downstreamGrant | setWindow | clearWindow
  | setInitiator | setPolicy | timeBaseTick | meterRefill | keyLifetimeTick => cases h
  | transactionAccept x | outboundClearWrite x | outboundClearRead x | outboundLineWrite x | inboundLineWrite x
  | inboundClearHeaderWrite x | inboundClearPayloadWrite x | inboundClearRead x | noticeClearHeaderWrite x =>
    exact keeps_acceptWhen s _ x
  | headerResultWriteAnswered id => exact execHeaderResultWriteAnswered_keeps s id
  | resetZeroingWriteAnswered id => exact execResetZeroingWriteAnswered_keeps s id
  | statusWriteAnswered id => exact execStatusWriteAnswered_keeps s id
  | reportRecordWriteAnswered id => exact execReportRecordWriteAnswered_keeps s id
  | reportProducerWordAnswered id => exact execReportProducerWordAnswered_keeps s id
  | lostReportCountWriteAnswered id => exact execLostReportCountWriteAnswered_keeps s id
  | setChannel => exact execSetChannel_keeps s
  | setChannelState => exact execSetChannelState_keeps s
  | dropKeys => exact execDropKeys_keeps s
  | requestRenewal => exact execRequestRenewal_keeps s
  | setMeter => exact execSetMeter_keeps s
  | clearFaults => exact execClearFaults_keeps s
  | snapshotFaults => exact execSnapshotFaults_keeps s
  | staleResponse => exact keeps_idle _ s
  | controlPageOtherWrite w => exact execControlPageOtherWrite_keeps s w
  | commandProducerIndexWrite id => exact execCommandProducerIndexWrite_keeps s id
  | reportConsumerIndexWrite id => exact execReportConsumerIndexWrite_keeps s id
  | passedResponse id data => exact execPassedResponse_keeps s id data
  | passedErrorResponse id data => exact execPassedErrorResponse_keeps s id data
  | injectionRequestServed => exact execInjectionRequestServed_keeps s
  | injectedError id => exact execInjectedError_keeps s id
  | downstreamTimeout id => exact execDownstreamTimeout_keeps s id
  | cipherGrant => exact execCipherGrant_keeps s
  | keystreamMissComplete => exact execKeystreamMissComplete_keeps s
  | backgroundCipherComplete => exact execBackgroundCipherComplete_keeps s
  | rootSubkeyComplete => exact execRootSubkeyComplete_keeps s
  | multiplierGrant => exact execMultiplierGrant_keeps s
  | multiplierProductReturn => exact execMultiplierProductReturn_keeps s
  | finishDecision n => exact execFinishDecision_keeps s n
  | tailFetchReturn id data => exact execTailFetchReturn_keeps s id data
  | sweepReadReturn id data => exact execSweepReadReturn_keeps s id data
  | directFinishComplete n => exact execDirectFinishComplete_keeps s n
  | frameWriteAnswered id => exact execFrameWriteAnswered_keeps s id
  | tagReadReturn id data => exact execTagReadReturn_keeps s id data
  | offerRulingStart c => exact execOfferRulingStart_keeps s c
  | offerPayloadReadReturn id data => exact execOfferPayloadReadReturn_keeps s id data
  | hashSubkeyReturn => exact execHashSubkeyReturn_keeps s
  | protocolNoticeStart => exact execProtocolNoticeStart_keeps s
  | faultNoticeStart => exact execFaultNoticeStart_keeps s
  | noticeLine1WriteAnswered id => exact execNoticeLine1WriteAnswered_keeps s id
  | noticeCompositionComplete id => exact execNoticeCompositionComplete_keeps s id
  | commandFetchReturn id data => exact execCommandFetchReturn_keeps s id data
  | snapshotRecordHanded => exact execSnapshotRecordHanded_keeps s
  | unknownCommand => exact execUnknownCommand_keeps s
  | commandDoneHanded => exact execCommandDoneHanded_keeps s
  | cutoverTimerExpiry c => exact execCutoverTimerExpiry_keeps s c
  | graceTimerExpiry c => exact execGraceTimerExpiry_keeps s c
  | holdoffTimerExpiry => exact execHoldoffTimerExpiry_keeps s

/-! ## The initiator class table (R8) -/

theorem State.tryWindow_classes (s : State) (a : WindowAsk) : (s.tryWindow a).1.classes = s.classes := by
  unfold State.tryWindow State.placeWindow
  (repeat' split) <;> rfl

theorem State.setWindow_classes (s : State) : s.setWindow.classes = s.classes := by
  unfold State.setWindow
  split <;> simp [State.tryWindow_classes]

theorem State.clearWindow_classes (s : State) : s.clearWindow.classes = s.classes := by
  unfold State.clearWindow
  (repeat' split) <;> simp

theorem State.writeRing_classes (s : State) (size : Nat) : (s.writeRing size).classes = s.classes := by
  unfold State.writeRing
  dsimp only
  split <;> rfl

theorem State.setPolicy_classes (s : State) : s.setPolicy.classes = s.classes := by
  unfold State.setPolicy
  (repeat' split) <;> simp [State.writeRing_classes, State.writePolicy]

section Rows

variable (s : State)

theorem execLeavePowerOnReset_keeps_classes (f : Fuses) : Keeps State.classes s (execLeavePowerOnReset f s) := by
  unfold execLeavePowerOnReset
  (repeat' split)
  · simp
  · rw [keeps_classes_done, classes_eq_of_steady (State.readFuses_steady _)]
    rfl
  · simp

theorem execLeaveWarmReset_keeps_classes : Keeps State.classes s (execLeaveWarmReset s) := by
  unfold execLeaveWarmReset
  split
  · simp
  · rw [keeps_classes_done, classes_eq_of_steady (State.restartFaults_steady _)]
    rfl
  · simp

theorem execDownstreamGrant_keeps_classes : Keeps State.classes s (execDownstreamGrant s) := by
  unfold execDownstreamGrant
  (repeat' split) <;> simp [State.grantInj, State.grantTransit, State.setEntry]

theorem execTimeBaseTick_keeps_classes : Keeps State.classes s (execTimeBaseTick s) := by
  unfold execTimeBaseTick
  dsimp only
  split
  · simp
  · rw [keeps_classes_done]
    split <;> rfl

theorem execMeterRefill_keeps_classes : Keeps State.classes s (execMeterRefill s) := by
  unfold execMeterRefill
  split <;> simp

theorem execKeyLifetimeTick_keeps_classes : Keeps State.classes s (execKeyLifetimeTick s) := by
  unfold execKeyLifetimeTick
  dsimp only
  split
  · simp
  · rw [keeps_classes_done, classes_eq_of_steady (foldl_steady _ State.lifetimeTick_steady _ _)]

end Rows

/-- No command but the two resets and SET_INITIATOR changes the initiator class table. -/
theorem exec_keeps_classes (c : Instr) (s : State) (power : ∀ b, c ≠ .powerOnReset b) (warm : c ≠ .warmReset)
    (set : c ≠ .setInitiator) : Keeps State.classes s (exec c s) := by
  cases hc : setsSettings c with
  | false => exact fun t h => classes_eq_of_steady (exec_keeps_steady c s hc t h)
  | true =>
    cases c with
    | powerOnReset b => exact absurd rfl (power b)
    | warmReset => exact absurd rfl warm
    | setInitiator => exact absurd rfl set
    | leavePowerOnReset f => exact execLeavePowerOnReset_keeps_classes s f
    | leaveWarmReset => exact execLeaveWarmReset_keeps_classes s
    | downstreamGrant => exact execDownstreamGrant_keeps_classes s
    | setWindow => exact keeps_classes_command s _ s.setWindow_classes
    | clearWindow => exact keeps_classes_command s _ s.clearWindow_classes
    | setPolicy => exact keeps_classes_command s _ s.setPolicy_classes
    | timeBaseTick => exact execTimeBaseTick_keeps_classes s
    | meterRefill => exact execMeterRefill_keeps_classes s
    | keyLifetimeTick => exact execKeyLifetimeTick_keeps_classes s
    | _ => cases hc

end Sys2Proof.Machine
end

section
/-!
SUPPORT. CLEAR_WINDOW and SET_INITIATOR (R5, R8): one equation for each case of each command, what the rest of the part
keeps, and the initiator class table over every command.
-/

namespace Sys2Proof.Machine

/-! ## Codes of an index and of a class -/

theorem channelOf_val (i : Fin 16) : channelOf i.val = some i := by simp [channelOf]

theorem channelOf_above {v : Nat} (h : 15 < v) : channelOf v = none := by
  unfold channelOf
  exact dif_neg (by omega)

/-- The class that a code of 1 to 3 names, and that no other code names one (2.6). -/
theorem initClassOf_eq (v : Nat) :
    initClassOf v = if 1 ≤ v ∧ v ≤ 3 then some (if v = 1 then .clear else if v = 2 then .line else .blocked) else none := by
  match v with
  | 0 | 1 | 2 | 3 => rfl
  | n + 4 => simp [initClassOf]

/-! ## CLEAR_WINDOW (R2, R5) -/

/-- Entry 0, and an index above 15, are refused. -/
theorem clearWindow_refused {s : State} (h : (s.arg 2).toNat = 0 ∨ 15 < (s.arg 2).toNat) :
    s.clearWindow = s.complete statusBadArgument 0xFF := by
  unfold State.clearWindow
  rcases h with h | h
  · rw [h]
    rfl
  · rw [channelOf_above h]

section Index

variable {s : State} {i : Fin 16}

theorem clearWindow_of_index (h0 : i ≠ 0) (h : (s.arg 2).toNat = i.val) :
    s.clearWindow = if (s.windows[i]).isNone then s.complete statusOk 0xFF
      else if (s.recordsOf i).any fun p => decide (p.2.state ≠ .free) then s.complete statusBusy 0xFF
      else (s.putWindow i none (s.poolWithout i)).complete statusOk 0xFF := by
  unfold State.clearWindow
  rw [h, channelOf_val]
  exact if_neg h0

/-- Whether a window's slot records hold one that is not FREE (R5). -/
theorem recordsOf_any_busy :
    ((s.recordsOf i).any fun p => decide (p.2.state ≠ .free)) = true ↔
      ∃ p ∈ s.pool, p.2.window = i ∧ p.2.state ≠ .free := by
  simp [State.recordsOf]

theorem clearWindow_unused (h0 : i ≠ 0) (h : (s.arg 2).toNat = i.val) (hw : s.windows[i] = none) :
    s.clearWindow = s.complete statusOk 0xFF := by
  rw [clearWindow_of_index h0 h, if_pos (by simp [hw])]

theorem clearWindow_busy (h0 : i ≠ 0) (h : (s.arg 2).toNat = i.val) (hw : s.windows[i] ≠ none)
    (busy : ∃ p ∈ s.pool, p.2.window = i ∧ p.2.state ≠ .free) : s.clearWindow = s.complete statusBusy 0xFF := by
  rw [clearWindow_of_index h0 h, if_neg (by simpa using hw), if_pos (recordsOf_any_busy.2 busy)]

theorem clearWindow_cleared (h0 : i ≠ 0) (h : (s.arg 2).toNat = i.val) (hw : s.windows[i] ≠ none)
    (free : ∀ p ∈ s.pool, p.2.window = i → p.2.state = .free) :
    s.clearWindow = (s.putWindow i none (s.poolWithout i)).complete statusOk 0xFF := by
  have none_busy : ¬ ∃ p ∈ s.pool, p.2.window = i ∧ p.2.state ≠ .free := fun ⟨p, hp, hi, hf⟩ => hf (free p hp hi)
  rw [clearWindow_of_index h0 h, if_neg (by simpa using hw), if_neg (recordsOf_any_busy.not.2 none_busy)]

end Index

/-- In every case the command completes, with the window table and the pool alone written before. -/
theorem clearWindow_completes (s : State) :
    ∃ windows pool status, s.clearWindow = ({ s with windows := windows, pool := pool }).complete status 0xFF := by
  unfold State.clearWindow
  (repeat' split) <;> exact ⟨_, _, _, rfl⟩

theorem clearWindow_frame (s : State) :
    SameKeys s s.clearWindow.settle ∧ SameMeters s s.clearWindow.settle ∧ SameFaults s s.clearWindow.settle ∧
      SameNotices s s.clearWindow.settle ∧ SameRing s s.clearWindow.settle ∧ s.clearWindow.settle.ks = s.ks ∧
      s.clearWindow.settle.merges = s.merges := by
  obtain ⟨windows, pool, status, h⟩ := clearWindow_completes s
  rw [h]
  exact ⟨by simp [SameKeys], by simp [SameMeters], by simp [SameFaults], sameNotices_of_complete _ _ rfl,
    sameRing_of_complete _ _ rfl, by simp, by simp⟩

/-- A completion that has written nothing before leaves the window table and the pool (R5). -/
theorem completed_untouched (s : State) (status channel : Byte) :
    Completed s (s.complete status channel).settle status ∧ (s.complete status channel).settle.windows = s.windows ∧
      (s.complete status channel).settle.pool = s.pool :=
  ⟨completed_of_complete channel rfl rfl, by simp, by simp⟩

/-- A cleared entry is out of use, the others stand, and its records are unassigned (R5). -/
theorem completed_cleared (s : State) (i : Fin 16) (status channel : Byte) :
    let t := ((s.putWindow i none (s.poolWithout i)).complete status channel).settle
    Completed s t status ∧ t.windows[i] = none ∧ (∀ j, j ≠ i → t.windows[j] = s.windows[j]) ∧
      t.pool = s.pool.filter (fun p => decide (p.2.window ≠ i)) := by
  refine ⟨completed_of_complete channel rfl rfl, by simp, fun j hj => ?_, by simp [State.poolWithout]⟩
  have apart : i.val ≠ j.val := fun e => hj (Fin.ext e.symm)
  simpa using Vector.getElem_set_ne (xs := s.windows) (x := none) i.isLt j.isLt apart

theorem exec_clearWindow {s : State} (h : s.executes 0x02 = true) :
    exec .clearWindow s = .next s.clearWindow.settle := by
  change command 0x02 s State.clearWindow = _
  exact if_pos h

/-! ## SET_INITIATOR (R8) -/

/-- Initiator 0, an initiator above 15, and a code that names no class are refused. -/
theorem setInitiator_refused {s : State}
    (h : (s.arg 2).toNat = 0 ∨ 15 < (s.arg 2).toNat ∨ (s.arg 3).toNat = 0 ∨ 3 < (s.arg 3).toNat) :
    s.setInitiator = s.complete statusBadArgument 0xFF := by
  unfold State.setInitiator
  split
  · rename_i i cls hi hc
    have zero : i = 0 := by
      rcases h with h | h | h
      · rw [h] at hi
        exact (Option.some.inj hi).symm
      · rw [channelOf_above h] at hi
        cases hi
      · rw [initClassOf_eq, if_neg (by omega)] at hc
        cases hc
    exact if_pos zero
  · rfl

/-- The state with one entry of the initiator class table written. -/
def State.putClass (s : State) (i : Fin 16) (cls : InitClass) : State := { s with classes := s.classes.set i cls }

theorem setInitiator_accepted {s : State} {i : Fin 16} (h0 : i ≠ 0) (hi : (s.arg 2).toNat = i.val)
    (low : 1 ≤ (s.arg 3).toNat) (high : (s.arg 3).toNat ≤ 3) :
    s.setInitiator = (s.putClass i
      (if (s.arg 3).toNat = 1 then .clear else if (s.arg 3).toNat = 2 then .line else .blocked)).complete statusOk 0xFF := by
  unfold State.setInitiator
  rw [hi, channelOf_val, initClassOf_eq, if_pos ⟨low, high⟩]
  exact if_neg h0

/-- In every case the command completes, with a class other than initiator 0's alone written before. -/
theorem setInitiator_completes (s : State) :
    ∃ classes status, s.setInitiator = ({ s with classes := classes }).complete status 0xFF ∧
      classes[0] = s.classes[0] := by
  unfold State.setInitiator
  split
  · rename_i i cls _ _
    split
    · exact ⟨_, _, rfl, rfl⟩
    · rename_i h0
      refine ⟨_, _, rfl, Vector.getElem_set_ne i.isLt (by decide) fun e => h0 (Fin.ext e)⟩
  · exact ⟨_, _, rfl, rfl⟩

theorem setInitiator_frame (s : State) : SameBlocks s s.setInitiator.settle ∧ SameRing s s.setInitiator.settle := by
  obtain ⟨classes, status, h, -⟩ := setInitiator_completes s
  rw [h]
  exact ⟨⟨by simp [SameFrames], by simp [SameKeys], by simp [SameMeters], by simp [SameFaults],
    sameNotices_of_complete _ _ rfl⟩, sameRing_of_complete _ _ rfl⟩

/-- The class that an accepted command writes is its initiator's, and no other's (R8). -/
theorem completed_classed (s : State) (i : Fin 16) (cls : InitClass) (status channel : Byte) :
    let t := ((s.putClass i cls).complete status channel).settle
    Completed s t status ∧ (∀ j, j ≠ i → t.classes[j] = s.classes[j]) ∧ t.classes[i] = cls := by
  refine ⟨completed_of_complete channel rfl rfl, fun j hj => ?_, by simp [State.putClass]⟩
  have apart : i.val ≠ j.val := fun e => hj (Fin.ext e.symm)
  simpa [State.putClass] using Vector.getElem_set_ne (xs := s.classes) (x := cls) i.isLt j.isLt apart

theorem exec_setInitiator {s : State} (h : s.executes 0x03 = true) :
    exec .setInitiator s = .next s.setInitiator.settle := by
  change command 0x03 s State.setInitiator = _
  exact if_pos h

/-! ## The reset classes, and initiator 0 over every command (R8) -/

theorem resetClasses_get : ∀ i : Fin 16, resetClasses[i] = if i = 0 then .clear else .line := by decide

theorem powerOnReset_classes {b : BitVec 28} {s t : State} (h : exec (.powerOnReset b) s = .next t) :
    t.classes = resetClasses := by
  change execPowerOnReset b s = _ at h
  rw [execPowerOnReset, done_eq_next] at h
  rw [← h, State.settle_classes]
  rfl

theorem warmReset_classes {s t : State} (hl : s.line ≠ .powerOn) (h : exec .warmReset s = .next t) :
    t.classes = resetClasses := by
  change execWarmReset s = _ at h
  rw [execWarmReset, if_neg hl, done_eq_next] at h
  rw [← h, State.settle_classes]

/-- Under PORSTN, WRSTN is noted and the class table stays (notes/assumptions/11.md). -/
theorem warmReset_classes_powerOn {s t : State} (hl : s.line = .powerOn) (h : exec .warmReset s = .next t) :
    t.classes = s.classes := by
  change execWarmReset s = _ at h
  rw [execWarmReset, if_pos hl, done_eq_next] at h
  rw [← h, State.settle_classes]

theorem setInitiator_keeps_zero {s t : State} (h : exec .setInitiator s = .next t) : t.classes[0] = s.classes[0] := by
  change command 0x03 s State.setInitiator = _ at h
  rcases command_next h with ⟨-, rfl⟩ | ⟨-, rfl⟩
  · obtain ⟨classes, status, hs, h0⟩ := setInitiator_completes s
    simpa [hs] using h0
  · rfl

/-- No command changes the class of initiator 0 (R8). -/
theorem exec_keeps_initiator_zero (c : Instr) {s t : State} (clear : s.classes[0] = .clear)
    (h : exec c s = .next t) : t.classes[0] = .clear := by
  by_cases power : ∃ b, c = .powerOnReset b
  · obtain ⟨b, rfl⟩ := power
    rw [powerOnReset_classes h]
    exact resetClasses_get 0
  by_cases warm : c = .warmReset
  · subst warm
    by_cases hl : s.line = .powerOn
    · rw [warmReset_classes_powerOn hl h, clear]
    · rw [warmReset_classes hl h]
      exact resetClasses_get 0
  by_cases set : c = .setInitiator
  · subst set
    rw [setInitiator_keeps_zero h, clear]
  · rw [exec_keeps_classes c s (fun b hb => power ⟨b, hb⟩) warm set t h, clear]

/-! ## The statement -/

/-- Settles O48: CLEAR_WINDOW and SET_INITIATOR by the cases of their checks, initiator 0 by the commands that write the
class table, and the two resets. -/
theorem clearWindowAndSetInitiator : Obligations.ClearWindowAndSetInitiator := by
  refine ⟨fun s hs => ?_, fun s hs => ?_, fun c s t clear h => exec_keeps_initiator_zero c clear h,
    fun b s t h i => ?_, fun s t hl h i => ?_⟩
  · obtain ⟨keys, meters, faults, notices, ring, ks, merges⟩ := clearWindow_frame s
    refine ⟨_, exec_clearWindow hs, keys, meters, faults, notices, ring, ks, merges, fun bad => ?_,
      fun i h0 hi => ⟨fun unused => ?_, fun used busy => ?_, fun used free => ?_⟩⟩
    · rw [clearWindow_refused bad]
      exact completed_untouched s _ _
    · rw [clearWindow_unused h0 hi unused]
      exact completed_untouched s _ _
    · rw [clearWindow_busy h0 hi used busy]
      exact completed_untouched s _ _
    · rw [clearWindow_cleared h0 hi used free]
      exact completed_cleared s i _ _
  · obtain ⟨blocks, ring⟩ := setInitiator_frame s
    refine ⟨_, exec_setInitiator hs, blocks, ring, fun bad => ?_, fun i h0 hi low high => ?_⟩
    · rw [setInitiator_refused bad]
      exact ⟨completed_of_complete _ rfl rfl, by simp⟩
    · rw [setInitiator_accepted h0 hi low high]
      exact completed_classed s i _ _ _
  · rw [powerOnReset_classes h]
    exact resetClasses_get i
  · rw [warmReset_classes hl h]
    exact resetClasses_get i

end Sys2Proof.Machine
end

section
/-!
SUPPORT. SET_CHANNEL and SET_METER (R103, R106): the clamps as the tables write them, one equation for each case of each
command, and what the rest of the part keeps.
-/

namespace Sys2Proof.Machine

/-! ## Channel records and meters through a completion -/

@[simp] theorem State.complete_chan (s : State) (status channel : Byte) (c : Fin 16) :
    (s.complete status channel).chan c = s.chan c := by
  unfold State.chan; rw [State.complete_channels]

@[simp] theorem State.complete_meter (s : State) (status channel : Byte) (l : Link) :
    (s.complete status channel).meter l = s.meter l := by
  cases l
  · exact s.complete_meterA status channel
  · exact s.complete_meterB status channel

@[simp] theorem State.settle_meter (s : State) (l : Link) : s.settle.meter l = s.meter l := by
  cases l
  · exact s.settle_meterA
  · exact s.settle_meterB

@[simp] theorem State.setMeter_ctl (s : State) (l : Link) (f : Meter → Meter) : (s.setMeter l f).ctl = s.ctl := by
  cases l <;> rfl

@[simp] theorem State.setMeter_straps (s : State) (l : Link) (f : Meter → Meter) :
    (s.setMeter l f).straps = s.straps := by
  cases l <;> rfl

@[simp] theorem State.meter_setMeter_same (s : State) (l : Link) (f : Meter → Meter) :
    (s.setMeter l f).meter l = f (s.meter l) := by
  cases l <;> rfl

theorem State.meter_setMeter_other (s : State) (f : Meter → Meter) :
    ∀ {l m : Link}, m ≠ l → (s.setMeter l f).meter m = s.meter m
  | .a, .b, _ | .b, .a, _ => rfl
  | .a, .a, h | .b, .b, h => absurd rfl h

/-! ## Codes and clamps (R103, R106) -/

theorem byte_eq_zero_iff (b : Byte) : b = 0 ↔ b.toNat = 0 := BitVec.toNat_inj.symm

theorem byte_eq_one_iff (b : Byte) : b = 1 ↔ b.toNat = 1 := BitVec.toNat_inj.symm

theorem clampOverride_eq (v : Nat) :
    clampOverride v = if v = 0 then none else if v < 50 then some 50 else if v ≤ 95 then some v else some 95 := by
  unfold clampOverride
  by_cases zero : v = 0
  · rw [if_pos zero, if_pos zero]
  · rw [if_neg zero, if_neg zero]
    (repeat' split) <;> exact congrArg some (by omega)

theorem clampBurst_eq (v : Nat) :
    clampBurst v = if v < 2048 then 2048 else if 1048575 < v then 1048575 else v := by
  unfold clampBurst
  (repeat' split) <;> omega

/-! ## A command that names a channel (R28) -/

theorem onChannel_above {s : State} (f : Fin 16 → State → State) (h : 15 < (s.arg 2).toNat) :
    s.onChannel f = s.complete statusBadArgument (s.arg 2) := by
  unfold State.onChannel
  rw [channelOf_above h]

theorem onChannel_of_index {s : State} {c : Fin 16} (f : Fin 16 → State → State) (h : (s.arg 2).toNat = c.val) :
    s.onChannel f = f c s := by
  unfold State.onChannel
  rw [h, channelOf_val]

/-! ## SET_CHANNEL (R103) -/

/-- A channel record with the six settings of the command record, as the table of R103 gives them. -/
def State.channelSettings (s : State) (x : Channel) : Channel :=
  { x with
    link := if (s.arg 3).toNat = 0 then .a else .b
    priority := if (s.arg 4).toNat ≤ 7 then (s.arg 4).toNat else 7
    threshold := (s.arg 5).toNat
    softOverride := if (s.arg 6).toNat = 0 then none else if (s.arg 6).toNat < 50 then some 50
      else if (s.arg 6).toNat ≤ 95 then some (s.arg 6).toNat else some 95
    cutoverSecs := if (s.arg 7).toNat = 0 then 1 else (s.arg 7).toNat
    graceSecs := if (s.arg 8).toNat = 0 then 1 else (s.arg 8).toNat }

theorem setChannel_refused {s : State} (h : 15 < (s.arg 2).toNat ∨ 1 < (s.arg 3).toNat) :
    s.onChannel State.setChannel = s.complete statusBadArgument (s.arg 2) := by
  by_cases above : 15 < (s.arg 2).toNat
  · exact onChannel_above _ above
  · have index : (s.arg 2).toNat = (⟨(s.arg 2).toNat, by omega⟩ : Fin 16).val := rfl
    rw [onChannel_of_index _ index]
    exact if_pos (h.resolve_left above)

theorem setChannel_accepted {s : State} {c : Fin 16} (index : (s.arg 2).toNat = c.val) (link : (s.arg 3).toNat ≤ 1) :
    s.onChannel State.setChannel = (s.setChan c s.channelSettings).complete statusOk (s.arg 2) := by
  have priority : min 7 (s.arg 4).toNat = if (s.arg 4).toNat ≤ 7 then (s.arg 4).toNat else 7 := by
    rw [min_comm, min_def]
  have seconds (v : Nat) : max 1 v = if v = 0 then 1 else v := by split <;> omega
  rw [onChannel_of_index _ index]
  unfold State.setChannel
  rw [if_neg (by omega)]
  simp only [byte_eq_zero_iff, clampOverride_eq, priority, seconds]
  rfl

/-- In every case the command completes, with the channel records alone written before. -/
theorem setChannel_completes (s : State) :
    ∃ channels status, s.onChannel State.setChannel = ({ s with channels := channels }).complete status (s.arg 2) := by
  unfold State.onChannel State.setChannel
  (repeat' split) <;> exact ⟨_, _, rfl⟩

theorem setChannel_frame (s : State) :
    let t := (s.onChannel State.setChannel).settle
    SameFrames s t ∧ t.keys = s.keys ∧ SameMeters s t ∧ SameFaults s t ∧ SameNotices s t ∧ SameRing s t := by
  obtain ⟨channels, status, h⟩ := setChannel_completes s
  rw [h]
  exact ⟨by simp [SameFrames], by simp, by simp [SameMeters], by simp [SameFaults], sameNotices_of_complete _ _ rfl,
    sameRing_of_complete _ _ rfl⟩

theorem exec_setChannel {s : State} (h : s.executes 0x04 = true) :
    exec .setChannel s = .next (s.onChannel State.setChannel).settle := by
  change command 0x04 s (fun s => s.onChannel State.setChannel) = _
  exact if_pos h

/-- Settles O49: the frame of every case, then the refused and the accepted case. -/
theorem setChannelStoresSettings : Obligations.SetChannelStoresSettings := by
  intro s hs
  obtain ⟨frames, keys, meters, faults, notices, ring⟩ := setChannel_frame s
  refine ⟨_, exec_setChannel hs, frames, keys, meters, faults, notices, ring, fun bad => ?_, fun c index link => ?_⟩
  · rw [setChannel_refused bad]
    exact ⟨completed_of_complete _ rfl rfl, by simp⟩
  · rw [setChannel_accepted index link]
    refine ⟨completed_of_complete _ rfl rfl, fun d apart => ?_, ?_⟩
    · simp [State.chan_setChan, apart]
    · simp [State.channelSettings]

/-! ## SET_METER (R106) -/

section Fields

variable (s : State)

theorem meterOf_metered : s.meterOf.metered = decide ((s.arg 3).toNat = 1) :=
  decide_eq_decide.2 (byte_eq_one_iff _)

theorem meterOf_yellow : s.meterOf.yellow = if (s.arg 4).toNat ≤ 8 then (s.arg 4).toNat else 8 :=
  (min_comm _ _).trans (min_def _ _)

/-- The red threshold is not below the yellow one (R106). -/
theorem meterOf_red : s.meterOf.red =
    if min (s.arg 5).toNat 8 < s.meterOf.yellow then s.meterOf.yellow else min (s.arg 5).toNat 8 := by
  change max s.meterOf.yellow (min 8 (s.arg 5).toNat) = _
  split <;> omega

theorem meterOf_cbs : s.meterOf.cbs = if s.argNat 8 12 < 2048 then 2048
    else if 1048575 < s.argNat 8 12 then 1048575 else s.argNat 8 12 := clampBurst_eq _

theorem meterOf_ebs : s.meterOf.ebs = if s.argNat 12 16 < 2048 then 2048
    else if 1048575 < s.argNat 12 16 then 1048575 else s.argNat 12 16 := clampBurst_eq _

end Fields

theorem setMeter_refused {s : State} (h : 1 < (s.arg 2).toNat ∨ 1 < (s.arg 3).toNat) :
    s.setMeterCommand = s.complete statusBadArgument 0xFF := if_pos h

theorem setMeter_accepted {s : State} {l : Link} (meter : (s.arg 2).toNat = if l = .a then 0 else 1)
    (mode : (s.arg 3).toNat ≤ 1) :
    s.setMeterCommand = (s.setMeter l fun _ => s.meterOf).complete statusOk 0xFF := by
  have code : (s.arg 2).toNat ≤ 1 := by rw [meter]; split <;> omega
  have named : (if s.arg 2 = 0 then Link.a else .b) = l := by
    simp only [byte_eq_zero_iff, meter]
    cases l <;> rfl
  unfold State.setMeterCommand
  rw [if_neg (by omega), named]

/-- In every case the command completes, with the meters alone written before. -/
theorem setMeter_completes (s : State) :
    ∃ a b status, s.setMeterCommand = ({ s with meterA := a, meterB := b }).complete status 0xFF := by
  unfold State.setMeterCommand State.setMeter
  (repeat' split) <;> exact ⟨_, _, _, rfl⟩

theorem setMeter_frame (s : State) :
    let t := s.setMeterCommand.settle
    SameFrames s t ∧ SameKeys s t ∧ SameFaults s t ∧ SameNotices s t ∧ SameRing s t := by
  obtain ⟨a, b, status, h⟩ := setMeter_completes s
  rw [h]
  exact ⟨by simp [SameFrames], by simp [SameKeys], by simp [SameFaults], sameNotices_of_complete _ _ rfl,
    sameRing_of_complete _ _ rfl⟩

theorem exec_setMeter {s : State} (h : s.executes 0x08 = true) :
    exec .setMeter s = .next s.setMeterCommand.settle := by
  change command 0x08 s State.setMeterCommand = _
  exact if_pos h

/-- Settles O53: the frame of every case, then the refused case, and the accepted one field by field of the meter. -/
theorem setMeterFillsLevels : Obligations.SetMeterFillsLevels := by
  intro s hs
  obtain ⟨frames, keys, faults, notices, ring⟩ := setMeter_frame s
  refine ⟨_, exec_setMeter hs, frames, keys, faults, notices, ring, fun bad => ?_, fun l meter mode => ?_⟩
  · rw [setMeter_refused bad]
    exact ⟨completed_of_complete _ rfl rfl, by simp [SameMeters]⟩
  · rw [setMeter_accepted meter mode]
    have written : ((s.setMeter l fun _ => s.meterOf).complete statusOk 0xFF).settle.meter l = s.meterOf := by simp
    rw [written]
    refine ⟨completed_of_complete _ (by simp) (by simp), fun m apart => ?_, meterOf_metered s, rfl, meterOf_yellow s,
      meterOf_red s, meterOf_cbs s, meterOf_ebs s, rfl, rfl, rfl⟩
    rw [State.settle_meter, State.complete_meter, State.meter_setMeter_other s _ apart]

end Sys2Proof.Machine
end

section
/-!
SUPPORT. A step of the block: what it runs, and how a property that every command keeps is kept by every step. The reset
state, and the two tables that no command but the resets and those on windows and initiators writes.
-/

namespace Sys2Proof.Machine

/-! ## Steps and commands -/

/-- A step that answers a next state idles on an empty queue, or runs the front command on the rest of the queue. -/
theorem step_next {s t : State} (h : step s = .next t) :
    t = s ∨ ∃ c rest, exec c { s with pending := rest } = .next t := by
  unfold step at h
  split at h
  · cases h
    exact .inl rfl
  · exact .inr ⟨_, _, h⟩

/-- A property that does not read the queue of commands, and that every command keeps, is kept by every step. -/
theorem step_keeps {P : State → Prop} (queue : ∀ s rest, P s → P { s with pending := rest })
    (command : ∀ c s t, P s → exec c s = .next t → P t) {s t : State} (hs : P s) (h : step s = .next t) : P t := by
  rcases step_next h with rfl | ⟨c, rest, h⟩
  · exact hs
  · exact command c _ t (queue s rest hs) h

/-- Settles O1: the two cases of the queue. -/
theorem stepRunsFrontCommand : Obligations.StepRunsFrontCommand := by
  refine ⟨fun c rest s h => ?_, fun s h => ?_⟩ <;> unfold step <;> rw [h]

/-! ## The reset state -/

theorem cleared_sound (mark : Nat) : (Channel.cleared mark).sound := by
  simp [Channel.sound, Channel.cleared]

theorem Meter.cleared_sound : Meter.cleared.sound := by
  simp [Meter.sound, Meter.cleared, Config.top32]

theorem reset_chan (c : Fin 16) : State.reset.chan c = Channel.cleared 0 := by
  simp [State.chan, State.reset]

theorem reset_key (k : Fin 32) : State.reset.key k = KeySlot.zeroised := by
  simp [State.key, State.reset, KeyStore.cleared]

theorem reset_keyRole (k : Fin 32) : State.reset.keyRole k = none := by
  simp [State.keyRole, reset_key, KeySlot.zeroised]

theorem reset_keysSound : State.reset.keysSound := by
  refine ⟨fun k => ?_, fun c => ?_, List.nodup_finRange 32, ?_, ?_⟩
  · have listed : k ∈ State.reset.keys.freeList := List.mem_finRange k
    have holders : State.reset.recordHolders k = 0 ∧ State.reset.holdHolders k = 0 := by
      simp [State.recordHolders, State.holdHolders, State.reset, State.chan, Channel.cleared]
    simp [State.keySlotSound, listed, reset_key, reset_keyRole, KeySlot.zeroised, holders]
  · simp [State.roleKeysSound, reset_chan, Channel.cleared]
  · simp [State.reset]
  · simp [State.owed, State.reset, Keystream.cleared]

/-- Settles O2: the invariants of `State.sound` in their order. -/
theorem resetStateIsSound : Obligations.ResetStateIsSound := by
  refine ⟨⟨rfl, rfl⟩, ⟨Meter.cleared_sound, Meter.cleared_sound⟩, fun c => ?_, ?_, ?_, Nat.zero_le _, ?_, ?_,
    List.Pairwise.nil, ?_, reset_keysSound⟩
  · rw [reset_chan]
    exact cleared_sound 0
  · simp [State.faultsSound, State.reset, FaultUnit.cleared]
  · simp [State.irqSound, State.irqWanted, State.ringLive, State.reset, ControlUnit.cleared]
  · simp [State.rested, State.reset, Bus.cleared]
  · simp [State.agesSound, State.reset, Bus.cleared]
  · simp [State.sizesSound, State.reset, Bus.cleared, Keystream.cleared, NoticeEngine.cleared, ControlUnit.cleared]

/-! ## Entry 0 of the window table (R2) -/

theorem resetWindows_zero (b : BitVec 28) : (resetWindows b)[0] = some (Window.controlPage b) := by
  simp [resetWindows]

theorem channelOf_toNat {v : Nat} {i : Fin 16} (h : channelOf v = some i) : i.val = v := by
  unfold channelOf at h
  split at h
  · cases h
    rfl
  · cases h

/-- A window put at an index other than 0 leaves entry 0. -/
theorem State.putWindow_zero (s : State) {i : Fin 16} (w : Option Window) (p : List (Nat × SlotRec)) (h : i ≠ 0) :
    (s.putWindow i w p).windows[0] = s.windows[0] :=
  Vector.getElem_set_ne i.isLt (by decide) fun e => h (Fin.ext e)

theorem State.placeWindow_zero (s : State) (a : WindowAsk) (role : WinRole) {i : Fin 16} (h : i ≠ 0) :
    (s.placeWindow a role i).1.windows[0] = s.windows[0] := by
  unfold State.placeWindow
  (repeat' split) <;> first | rfl | exact s.putWindow_zero _ _ h

/-- Check 1 of R3 refuses index 0. -/
theorem State.tryWindow_zero (s : State) (a : WindowAsk) : (s.tryWindow a).1.windows[0] = s.windows[0] := by
  unfold State.tryWindow
  split
  · rename_i role i _ hi
    split
    · rename_i sound
      refine s.placeWindow_zero a role fun h0 => ?_
      have index := channelOf_toNat hi
      simp [WindowAsk.sound, ← index, h0] at sound
    · rfl
  · rfl

/-- SET_WINDOW writes no setting but a window, and leaves entry 0 (R2). -/
theorem State.setWindow_steady (s : State) :
    ∃ w : Vector (Option Window) 16, s.setWindow.steady = { s.steady with windows := w } ∧ w[0] = s.windows[0] := by
  unfold State.setWindow
  split
  · exact ⟨_, rfl, rfl⟩
  · refine ⟨((s.setCtl fun c => { c with windowWait := false }).tryWindow s.windowAsk).1.windows, ?_,
      State.tryWindow_zero _ _⟩
    rw [State.complete_steady]
    unfold State.tryWindow State.placeWindow
    (repeat' split) <;> rfl

/-- CLEAR_WINDOW writes no setting but a window, and leaves entry 0 (R2). -/
theorem State.clearWindow_steady (s : State) :
    ∃ w : Vector (Option Window) 16, s.clearWindow.steady = { s.steady with windows := w } ∧ w[0] = s.windows[0] := by
  unfold State.clearWindow
  (repeat' split) <;> rw [State.complete_steady]
  all_goals first | exact ⟨_, rfl, rfl⟩ | exact ⟨_, rfl, s.putWindow_zero _ _ ‹_›⟩

/-- SET_INITIATOR writes no setting but a class. -/
theorem State.setInitiator_steady (s : State) :
    ∃ classes, s.setInitiator.steady = { s.steady with classes := classes } := by
  unfold State.setInitiator
  (repeat' split) <;> exact ⟨_, State.complete_steady _ _ _⟩

theorem State.writeRing_steady (s : State) (size : Nat) : (s.writeRing size).steady = s.steady := by
  unfold State.writeRing
  dsimp only
  split <;> rfl

/-- SET_POLICY writes the policy and the timeout, and no other setting (R177). -/
theorem State.setPolicy_steady (s : State) :
    ∃ timeout localMask noticeMask guard reporting secs, s.setPolicy.steady = { s.steady with
      timeout := timeout, localMask := localMask, noticeMask := noticeMask, guardOnFatal := guard
      reporting := reporting, holdoffSecs := secs } := by
  unfold State.setPolicy
  (repeat' split)
  · exact ⟨_, _, _, _, _, _, State.complete_steady _ _ _⟩
  · exact ⟨_, _, _, _, _, _, State.complete_steady _ _ _⟩
  · exact ⟨_, _, _, _, _, _, (State.complete_steady _ _ _).trans (State.writeRing_steady _ _)⟩

/-- A grant writes the passover count and what has gone downstream, and keeps the count within its range (R17). -/
theorem execDownstreamGrant_steady {s t : State} (h : execDownstreamGrant s = .next t) :
    ∃ passover down, t.steady = { s.steady with passover := passover, down := down } ∧
      (s.bus.passover ≤ Config.passoverTop → passover ≤ Config.passoverTop) := by
  unfold execDownstreamGrant at h
  (repeat' split at h) <;> simp only [done_eq_next, idle_eq_next] at h <;> subst h
  · exact ⟨_, _, by rw [State.settle_steady]; rfl, fun _ => Nat.zero_le _⟩
  · rename_i below
    exact ⟨s.bus.passover + 1, _, by rw [State.settle_steady]; rfl, fun _ => by omega⟩
  · exact ⟨_, _, by rw [State.settle_steady]; rfl, fun _ => Nat.zero_le _⟩
  · exact ⟨_, _, by rw [State.settle_steady]; rfl, fun _ => Nat.zero_le _⟩
  · exact ⟨_, _, rfl, id⟩

theorem execTimeBaseTick_steady {s t : State} (h : execTimeBaseTick s = .next t) :
    ∃ time, t.steady = { s.steady with time := time } := by
  unfold execTimeBaseTick at h
  dsimp only at h
  (repeat' split at h) <;> simp only [done_eq_next, idle_eq_next] at h <;> subst h
  all_goals first | exact ⟨_, rfl⟩ | exact ⟨_, State.settle_steady _⟩

theorem execMeterRefill_steady {s t : State} (h : execMeterRefill s = .next t) :
    ∃ time, t.steady = { s.steady with time := time } := by
  unfold execMeterRefill at h
  split at h <;> simp only [done_eq_next, idle_eq_next] at h <;> subst h
  · exact ⟨_, rfl⟩
  · exact ⟨_, State.settle_steady _⟩

theorem execKeyLifetimeTick_steady {s t : State} (h : execKeyLifetimeTick s = .next t) :
    ∃ time, t.steady = { s.steady with time := time } := by
  unfold execKeyLifetimeTick at h
  dsimp only at h
  split at h <;> simp only [done_eq_next, idle_eq_next] at h <;> subst h
  · exact ⟨_, rfl⟩
  · refine ⟨{ s.time with minutesDue := s.time.minutesDue - 1 }, ?_⟩
    rw [State.settle_steady, foldl_steady _ State.lifetimeTick_steady]
    rfl

theorem execLeavePowerOnReset_steady {f : Fuses} {s t : State} (h : execLeavePowerOnReset f s = .next t) :
    ∃ line both fuses, t.steady = { s.steady with line := line, wrstnToo := both, fuses := fuses } := by
  unfold execLeavePowerOnReset at h
  (repeat' split at h) <;> simp only [done_eq_next, idle_eq_next] at h <;> subst h
  · exact ⟨_, _, _, State.settle_steady _⟩
  · refine ⟨.released, s.wrstnToo, f, ?_⟩
    rw [State.settle_steady, State.readFuses_steady, State.askZeroing_steady]
    rfl
  · exact ⟨_, _, _, rfl⟩

theorem execLeaveWarmReset_steady {s t : State} (h : execLeaveWarmReset s = .next t) :
    ∃ line both, t.steady = { s.steady with line := line, wrstnToo := both } := by
  unfold execLeaveWarmReset at h
  split at h <;> simp only [done_eq_next, idle_eq_next] at h <;> subst h
  · exact ⟨_, _, rfl⟩
  · refine ⟨.released, s.wrstnToo, ?_⟩
    rw [State.settle_steady, State.restartFaults_steady, State.returnComposing_steady, State.askZeroing_steady]
    rfl
  · exact ⟨_, _, State.settle_steady _⟩

/-- A control page command that answers a next state keeps the settings that its effect keeps. -/
theorem command_steady {code : Nat} {s t : State} {f : State → State} (h : command code s f = .next t) :
    t.steady = (f s).steady ∨ t = s := by
  rcases command_next h with ⟨-, rfl⟩ | ⟨-, rfl⟩
  · exact .inl (State.settle_steady _)
  · exact .inr rfl

/-! ## Entry 0 over every command (R2) -/

theorem tablesSound_congr {s t : State} (windows : t.windows[0] = s.windows[0]) (straps : t.straps = s.straps)
    (classes : t.classes[0] = s.classes[0]) (h : s.tablesSound) : t.tablesSound := by
  unfold State.tablesSound
  rw [windows, straps, classes]
  exact h

theorem reset_tablesSound (b : BitVec 28) (s : State) (windows : s.windows = resetWindows b) (straps : s.straps = b)
    (classes : s.classes = resetClasses) : s.tablesSound := by
  refine ⟨?_, ?_⟩
  · simp only [windows, straps, resetWindows_zero]
  · simp only [classes]
    exact resetClasses_get 0

theorem exec_keeps_tablesSound (c : Instr) (s t : State) (hs : s.tablesSound) (h : exec c s = .next t) :
    t.tablesSound := by
  have clear := exec_keeps_initiator_zero c hs.2 h
  have window {w : Vector (Option Window) 16} (same : t.steady = { s.steady with windows := w })
      (zero : w[0] = s.windows[0]) : t.tablesSound := by
    refine ⟨?_, clear⟩
    have windows : t.windows = w := congrArg Steady.windows same
    have straps : t.straps = s.straps := congrArg Steady.straps same
    simp only [windows, straps, zero, hs.1]
  have kept (windows : t.windows = s.windows) (straps : t.straps = s.straps) : t.tablesSound := by
    refine ⟨?_, clear⟩
    simp only [windows, straps, hs.1]
  cases hc : setsSettings c with
  | false =>
    have same := exec_keeps_steady c s hc t h
    exact kept (congrArg Steady.windows same) (congrArg Steady.straps same)
  | true =>
    cases c with
    | powerOnReset b =>
      change done _ = _ at h
      rw [done_eq_next] at h
      exact reset_tablesSound b t (by rw [← h, State.settle_windows]) (by rw [← h, State.settle_straps])
        (by rw [← h, State.settle_classes]; rfl)
    | warmReset =>
      change execWarmReset s = _ at h
      unfold execWarmReset at h
      split at h <;> rw [done_eq_next] at h
      · exact kept (by rw [← h, State.settle_windows]) (by rw [← h, State.settle_straps])
      · exact reset_tablesSound s.straps t (by rw [← h, State.settle_windows]) (by rw [← h, State.settle_straps])
          (by rw [← h, State.settle_classes])
    | leavePowerOnReset f =>
      obtain ⟨_, _, _, same⟩ := execLeavePowerOnReset_steady h
      exact kept (congrArg Steady.windows same) (congrArg Steady.straps same)
    | leaveWarmReset =>
      obtain ⟨_, _, same⟩ := execLeaveWarmReset_steady h
      exact kept (congrArg Steady.windows same) (congrArg Steady.straps same)
    | downstreamGrant =>
      obtain ⟨_, _, same, -⟩ := execDownstreamGrant_steady h
      exact kept (congrArg Steady.windows same) (congrArg Steady.straps same)
    | timeBaseTick =>
      obtain ⟨_, same⟩ := execTimeBaseTick_steady h
      exact kept (congrArg Steady.windows same) (congrArg Steady.straps same)
    | meterRefill =>
      obtain ⟨_, same⟩ := execMeterRefill_steady h
      exact kept (congrArg Steady.windows same) (congrArg Steady.straps same)
    | keyLifetimeTick =>
      obtain ⟨_, same⟩ := execKeyLifetimeTick_steady h
      exact kept (congrArg Steady.windows same) (congrArg Steady.straps same)
    | setWindow =>
      rcases command_steady h with same | rfl
      · obtain ⟨w, written, zero⟩ := s.setWindow_steady
        exact window (same.trans written) zero
      · exact hs
    | clearWindow =>
      rcases command_steady h with same | rfl
      · obtain ⟨w, written, zero⟩ := s.clearWindow_steady
        exact window (same.trans written) zero
      · exact hs
    | setInitiator =>
      rcases command_steady h with same | rfl
      · obtain ⟨_, written⟩ := s.setInitiator_steady
        exact kept (congrArg Steady.windows (same.trans written)) (congrArg Steady.straps (same.trans written))
      · exact hs
    | setPolicy =>
      rcases command_steady h with same | rfl
      · obtain ⟨_, _, _, _, _, _, written⟩ := s.setPolicy_steady
        exact kept (congrArg Steady.windows (same.trans written)) (congrArg Steady.straps (same.trans written))
      · exact hs
    | _ => cases hc

/-- Settles O3: no command but the resets writes entry 0, the straps or the class of initiator 0. -/
theorem entryZeroStaysFixed : Obligations.EntryZeroStaysFixed := fun _ _ hs h =>
  step_keeps (fun _ _ h => h) exec_keeps_tablesSound hs h

/-! ## Settled states and the passover count (R10, R15 to R17) -/

/-- A settling leaves nothing that could be delivered, and no request to place (R10, R15, R16). -/
theorem State.settle_rested (s : State) : s.settle.rested := by
  refine ⟨fun e he => ?_, s.settle_injAsked⟩
  rw [State.settle_transit] at he
  simpa using (List.mem_filter.1 he).2

theorem exec_keeps_passoverSound (c : Instr) (s t : State) (hs : s.passoverSound) (h : exec c s = .next t) :
    t.passoverSound := by
  have kept (same : t.bus.passover = s.bus.passover) : t.passoverSound := by
    unfold State.passoverSound
    rw [same]
    exact hs
  cases hc : setsSettings c with
  | false => exact kept (congrArg Steady.passover (exec_keeps_steady c s hc t h))
  | true =>
    cases c with
    | powerOnReset b =>
      change done _ = _ at h
      rw [done_eq_next] at h
      unfold State.passoverSound
      rw [← h, State.settle_passover]
      exact Nat.zero_le _
    | warmReset =>
      change execWarmReset s = _ at h
      unfold execWarmReset at h
      split at h <;> rw [done_eq_next] at h <;> unfold State.passoverSound <;> rw [← h, State.settle_passover]
      · exact hs
      · exact Nat.zero_le _
    | downstreamGrant =>
      obtain ⟨p, _, same, range⟩ := execDownstreamGrant_steady h
      have count : t.bus.passover = p := congrArg Steady.passover same
      unfold State.passoverSound
      rw [count]
      exact range hs
    | leavePowerOnReset f =>
      obtain ⟨_, _, _, same⟩ := execLeavePowerOnReset_steady h
      exact kept (congrArg Steady.passover same)
    | leaveWarmReset =>
      obtain ⟨_, _, same⟩ := execLeaveWarmReset_steady h
      exact kept (congrArg Steady.passover same)
    | timeBaseTick =>
      obtain ⟨_, same⟩ := execTimeBaseTick_steady h
      exact kept (congrArg Steady.passover same)
    | meterRefill =>
      obtain ⟨_, same⟩ := execMeterRefill_steady h
      exact kept (congrArg Steady.passover same)
    | keyLifetimeTick =>
      obtain ⟨_, same⟩ := execKeyLifetimeTick_steady h
      exact kept (congrArg Steady.passover same)
    | setWindow =>
      rcases command_steady h with same | rfl
      · obtain ⟨_, written, _⟩ := s.setWindow_steady
        exact kept (congrArg Steady.passover (same.trans written))
      · exact hs
    | clearWindow =>
      rcases command_steady h with same | rfl
      · obtain ⟨_, written, _⟩ := s.clearWindow_steady
        exact kept (congrArg Steady.passover (same.trans written))
      · exact hs
    | setInitiator =>
      rcases command_steady h with same | rfl
      · obtain ⟨_, written⟩ := s.setInitiator_steady
        exact kept (congrArg Steady.passover (same.trans written))
      · exact hs
    | setPolicy =>
      rcases command_steady h with same | rfl
      · obtain ⟨_, _, _, _, _, _, written⟩ := s.setPolicy_steady
        exact kept (congrArg Steady.passover (same.trans written))
      · exact hs
    | _ => cases hc

/-! ## The injection queue (R16, R20, R21) -/

theorem orderAsked_nil : orderAsked [] = [] := rfl

/-- Settles O31: the waiting request that finds a free entry takes it, and a stale response idles. -/
theorem queueServesOldestRequest : Obligations.QueueServesOldestRequest := by
  refine ⟨fun s q rest waiting room none_asked => ?_, fun id s _ _ => rfl⟩
  have served : exec .injectionRequestServed s =
      done (({ s with bus := { s.bus with injWaiting := rest } }).enterInj q) := by
    change execInjectionRequestServed s = _
    unfold execInjectionRequestServed
    rw [waiting]
    exact if_pos room
  have placed (u : State) (h : u.bus.injAsked = []) : u.settle.bus = u.deliver.bus := by
    rw [State.settle_bus]
    unfold State.placeAsked State.deliver
    dsimp only
    rw [h, orderAsked_nil]
    simp
  refine ⟨_, served, ?_, ?_, SameUnits.settle ?_⟩
  · rw [placed _ (by simpa [State.enterInj] using none_asked)]
    rfl
  · rw [placed _ (by simpa [State.enterInj] using none_asked)]
    rfl
  · simp [SameUnits, SameFrames, SameKeys, SameMeters, SameFaults, SameNotices, SameControl, State.enterInj]

/-! ## The replay window (R85) -/

/-- What a replay decision that passes a sequence n leaves of the window: n is at or below the new high mark, and every
position passed before is passed or too old. -/
theorem replayDecision_some {k w : KeySlot} {n : Nat} (h : k.replayDecision n = some w) :
    (k.high < n ∧ w.high = n ∧ w.marks = (if 1 ≤ k.high then k.high :: k.marks else k.marks).filter
      fun m => decide (n ≤ m + 64)) ∨
    (n ≤ k.high ∧ w.high = k.high ∧ w.marks = n :: k.marks) := by
  unfold KeySlot.replayDecision at h
  split at h
  · cases h
    exact .inl ⟨‹_›, rfl, rfl⟩
  · split at h
    · cases h
      exact .inr ⟨by omega, rfl, rfl⟩
    · cases h

/-- A replay window is done with a sequence: it is at or below the high mark, and is the mark, marked, or too old. -/
def KeySlot.doneWith (k : KeySlot) (n : Nat) : Prop := n ≤ k.high ∧ ((n = k.high ∧ 1 ≤ k.high) ∨ n ∈ k.marks ∨ n + 64 ≤ k.high)

theorem replayDecision_none_of_doneWith {k : KeySlot} {n : Nat} (h : k.doneWith n) : k.replayDecision n = none := by
  obtain ⟨below, seen⟩ := h
  unfold KeySlot.replayDecision
  rw [if_neg (by omega), if_neg]
  rintro ⟨recent, apart, unmarked⟩
  rcases seen with ⟨high, -⟩ | marked | old
  · exact apart high
  · simp [marked] at unmarked
  · omega

theorem doneWith_of_passed {k w : KeySlot} {n : Nat} (h : k.replayDecision n = some w) : w.doneWith n := by
  rcases replayDecision_some h with ⟨above, high, -⟩ | ⟨below, high, marks⟩
  · exact ⟨high.ge, .inl ⟨high.symm, by omega⟩⟩
  · exact ⟨high ▸ below, .inr (.inl (by simp [marks]))⟩

/-- No later decision brings a sequence back: a mark leaves the window only once it is too old (R85). -/
theorem doneWith_after {k w : KeySlot} {n m : Nat} (hk : k.doneWith n) (h : k.replayDecision m = some w) :
    w.doneWith n := by
  obtain ⟨below, seen⟩ := hk
  rcases replayDecision_some h with ⟨above, high, marks⟩ | ⟨-, high, marks⟩
  · refine ⟨by omega, ?_⟩
    by_cases old : n + 64 ≤ m
    · exact .inr (.inr (by omega))
    · have kept (h : n ∈ if 1 ≤ k.high then k.high :: k.marks else k.marks) : n ∈ w.marks := by
        rw [marks]
        exact List.mem_filter.2 ⟨h, by simpa using (by omega : m ≤ n + 64)⟩
      rcases seen with ⟨atHigh, live⟩ | marked | old
      · exact .inr (.inl (kept (by simp [live, atHigh])))
      · exact .inr (.inl (kept (by split <;> simp [marked])))
      · omega
  · exact ⟨high ▸ below, by
      rw [high, marks]
      rcases seen with h | h | h
      · exact .inl h
      · exact .inr (.inl (List.mem_cons_of_mem _ h))
      · exact .inr (.inr h)⟩

/-- Settles O12: a passed sequence is done with, later judgements keep it so, and such a one is refused. -/
theorem sequencePassesOnce : Obligations.SequencePassesOnce := by
  intro k w n passed l
  have after : (l.foldl (fun v m => (v.replayDecision m).getD v) w).doneWith n := by
    have start := doneWith_of_passed passed
    clear passed
    induction l generalizing w with
    | nil => exact start
    | cons m l ih =>
      have next : ((w.replayDecision m).getD w).doneWith n := by
        cases h : w.replayDecision m with
        | none => exact start
        | some v => exact doneWith_after start h
      exact ih _ next
  exact replayDecision_none_of_doneWith after

end Sys2Proof.Machine
end

section
/-!
SUPPORT. What every operation keeps of the invariants that no operation ever breaks: the ages and sizes of the
collections, the order of the slot records, the ranges of the meters, the channel records, the keys of the fault table and
the offer high marks. `Evolves` says it of two states, and one lemma for each operation carries it on.
-/

namespace Sys2Proof.Machine

-- One theorem at a time: elaborated side by side, each would hold a stack of its own.
set_option Elab.async false

/-! ## The keys of the fault table (R149, R150) -/

/-- The key of fault table entry i, when it is in use. -/
def State.faultKey (s : State) (i : Fin 32) : Option (FaultClass × Option (Fin 16)) :=
  (s.faults.table[i]).map fun e => (e.cls, e.channel)

theorem State.faultKey_eq_some {s : State} {i : Fin 32} {k : FaultClass × Option (Fin 16)} :
    s.faultKey i = some k ↔ ∃ e, s.faults.table[i] = some e ∧ (e.cls, e.channel) = k := by
  simp [State.faultKey]

/-- Soundness of the fault table is a property of its keys. -/
theorem faultsSound_iff (s : State) : s.faultsSound ↔
    (∀ i j k, s.faultKey i = some k → s.faultKey j = some k → i = j) ∧
    (∀ i k, s.faultKey i = some k → k.1.deviceScoped = true → k.2 = none) := by
  constructor
  · rintro ⟨one, device⟩
    refine ⟨fun i j k hi hj => ?_, fun i k hi => ?_⟩
    · obtain ⟨e, he, rfl⟩ := State.faultKey_eq_some.1 hi
      obtain ⟨f, hf, same⟩ := State.faultKey_eq_some.1 hj
      exact one i j e f he hf (congrArg Prod.fst same).symm (congrArg Prod.snd same).symm
    · obtain ⟨e, he, rfl⟩ := State.faultKey_eq_some.1 hi
      exact device i e he
  · rintro ⟨one, device⟩
    refine ⟨fun i j e f he hf cls channel => ?_, fun i e he => ?_⟩
    · exact one i j _ (State.faultKey_eq_some.2 ⟨e, he, rfl⟩)
        (State.faultKey_eq_some.2 ⟨f, hf, by rw [cls, channel]⟩)
    · exact device i _ (State.faultKey_eq_some.2 ⟨e, he, rfl⟩)

/-- A table whose entries keep their keys, or leave, stays sound. -/
theorem faultsSound_of_keys {s t : State} (keys : ∀ i, t.faultKey i = none ∨ t.faultKey i = s.faultKey i)
    (h : s.faultsSound) : t.faultsSound := by
  rw [faultsSound_iff] at h ⊢
  have back {i k} (hi : t.faultKey i = some k) : s.faultKey i = some k := by
    rcases keys i with none | same
    · rw [none] at hi
      cases hi
    · rw [← same, hi]
  exact ⟨fun i j k hi hj => h.1 i j k (back hi) (back hj), fun i k hi => h.2 i k (back hi)⟩

theorem State.faultKey_putFault (s : State) (i j : Fin 32) (e : Option FaultEntry) :
    (s.putFault i e).faultKey j = if j = i then e.map (fun x => (x.cls, x.channel)) else s.faultKey j := by
  unfold State.faultKey State.putFault
  by_cases h : j = i
  · subst h
    simp
  · have apart : i.val ≠ j.val := fun e => h (Fin.ext e.symm)
    rw [if_neg h]
    exact congrArg _ (by simpa using Vector.getElem_set_ne (xs := s.faults.table) (x := e) i.isLt j.isLt apart)

/-- An entry written with a key that no other entry has. -/
theorem faultsSound_putFault {s : State} {i : Fin 32} {e : FaultEntry}
    (fresh : ∀ j, j ≠ i → s.faultKey j ≠ some (e.cls, e.channel)) (device : e.cls.deviceScoped = true → e.channel = none)
    (h : s.faultsSound) : (s.putFault i (some e)).faultsSound := by
  rw [faultsSound_iff] at h ⊢
  simp only [State.faultKey_putFault]
  refine ⟨fun j k key hj hk => ?_, fun j key hj => ?_⟩
  · by_cases ji : j = i <;> by_cases ki : k = i
    · rw [ji, ki]
    · simp only [ji, ki, if_true, if_false, Option.map_some, Option.some.injEq] at hj hk
      exact absurd (hj ▸ hk) (fresh k ki)
    · simp only [ji, ki, if_true, if_false, Option.map_some, Option.some.injEq] at hj hk
      exact absurd (hk ▸ hj) (fresh j ji)
    · simp only [ji, ki, if_false] at hj hk
      exact h.1 j k key hj hk
  · by_cases ji : j = i
    · simp only [ji, if_true, Option.map_some, Option.some.injEq] at hj
      exact hj ▸ device
    · simp only [ji, if_false] at hj
      exact h.2 j key hj

theorem FaultUnit.mem_used {f : FaultUnit} {i : Fin 32} {e : FaultEntry} : (i, e) ∈ f.used ↔ f.table[i] = some e := by
  unfold FaultUnit.used
  simp only [List.mem_filterMap, List.mem_finRange, true_and, Option.map_eq_some_iff, Prod.mk.injEq]
  constructor
  · rintro ⟨_, _, h, rfl, rfl⟩
    exact h
  · exact fun h => ⟨i, e, h, rfl, rfl⟩

theorem FaultUnit.find_some {f : FaultUnit} {cls : FaultClass} {c : Option (Fin 16)} {i : Fin 32} {e : FaultEntry}
    (h : f.find cls c = some (i, e)) : f.table[i] = some e ∧ e.cls = cls ∧ e.channel = c := by
  have key := List.find?_some h
  simp only [FaultEntry.hasKey, Bool.and_eq_true, decide_eq_true_eq] at key
  exact ⟨FaultUnit.mem_used.1 (List.mem_of_find?_eq_some h), key⟩

theorem FaultUnit.find_none {f : FaultUnit} {cls : FaultClass} {c : Option (Fin 16)} (h : f.find cls c = none)
    {i : Fin 32} {e : FaultEntry} (he : f.table[i] = some e) : ¬ (e.cls = cls ∧ e.channel = c) := by
  have key := List.find?_eq_none.1 h (i, e) (FaultUnit.mem_used.2 he)
  simpa [FaultEntry.hasKey] using key

/-! ## Channel records -/

/-- What an event may do beyond the common run of events: debit or set a meter, or tear a channel down. -/
inductive Licence where
  | plain | debits | tears
  deriving DecidableEq

/-- A change of a channel record that keeps it sound, does not lower its offer high mark and, unless the event may tear
channels down, does not disable it. -/
def ChanStep (d : Licence) (x y : Channel) : Prop :=
  (x.sound → y.sound) ∧ x.highMark ≤ y.highMark ∧ (d ≠ .tears → x.state ≠ .disabled → y.state ≠ .disabled)

section ChanStep

variable {d : Licence}

theorem ChanStep.refl (x : Channel) : ChanStep d x x := ⟨id, le_rfl, fun _ => id⟩

theorem ChanStep.trans {x y z : Channel} (h : ChanStep d x y) (g : ChanStep d y z) : ChanStep d x z :=
  ⟨fun hx => g.1 (h.1 hx), h.2.1.trans g.2.1, fun hd hx => g.2.2 hd (h.2.2 hd hx)⟩

theorem chanStep_escalated (x : Channel) : ChanStep d x x.escalated := by
  unfold Channel.escalated
  split
  · refine ⟨fun ⟨_, _, grace⟩ => ⟨?_, ?_, grace⟩, le_rfl, fun _ _ => ?_⟩ <;> simp
  · exact ChanStep.refl x

/-- A promotion needs a NEXT key, which becomes CURRENT (R129). -/
theorem chanStep_promoted {x : Channel} {k : Fin 32} (next : x.next = some k) : ChanStep d x x.promoted := by
  refine ⟨fun ⟨_, disabled, _⟩ => ⟨fun _ => ?_, fun off => ?_, fun none => ?_⟩, le_rfl, fun _ => id⟩
  · simp [Channel.promoted, next]
  · rw [(disabled off).2.2.1] at next
    cases next
  · simp only [Channel.promoted] at none ⊢
    simp [none]

theorem chanStep_torn (x : Channel) {state : ChanState} (h : state ≠ .opened) : ChanStep .tears x (x.torn state) :=
  ⟨fun _ => ⟨fun opened => absurd opened h, fun _ => ⟨rfl, rfl, rfl, rfl⟩, fun _ => rfl⟩, le_rfl,
    fun h => absurd rfl h⟩

/-- A change of a channel record that leaves its state, its keys, its grace timer and its offer high mark. -/
theorem chanStep_of_same {x y : Channel} (state : y.state = x.state) (prev : y.prev = x.prev) (cur : y.cur = x.cur)
    (next : y.next = x.next) (hold : y.hold = none ∨ y.hold = x.hold) (grace : y.grace = x.grace)
    (mark : x.highMark ≤ y.highMark) : ChanStep d x y := by
  refine ⟨fun ⟨opened, disabled, timer⟩ => ⟨?_, fun off => ?_, ?_⟩, mark, fun _ => by rw [state]; exact id⟩
  · rw [state, cur]
    exact opened
  · rw [state] at off
    obtain ⟨hp, hc, hn, hh⟩ := disabled off
    exact ⟨prev.trans hp, cur.trans hc, next.trans hn, hold.elim id (·.trans hh)⟩
  · rw [prev, grace]
    exact timer

end ChanStep

/-! ## The relation -/

/-- What becomes of the invariants from state b to state s, over an event in which at most so many transit table entries
have been taken and, without the licence for it, no meter has been touched. -/
structure Evolves (entries : Nat) (d : Licence) (b s : State) : Prop where
  ages : b.agesSound → s.agesSound
  pool : b.poolSound → s.poolSound
  transit : s.bus.transit.length ≤ b.bus.transit.length + entries
  inj : b.bus.inj.length ≤ 8 → s.bus.inj.length ≤ 8
  misses : b.ks.misses.length ≤ 8 → s.ks.misses.length ≤ 8
  merges : b.merges.length ≤ 32 → s.merges.length ≤ 32
  list : b.notices.list.length ≤ 16 → s.notices.list.length ≤ 16
  queue : b.ctl.queue.length ≤ 8 → s.ctl.queue.length ≤ 8
  meters : b.metersSound → s.metersSound
  sameMeters : d ≠ .debits → SameMeters b s
  chans : ∀ c, ChanStep d (b.chan c) (s.chan c)
  faults : b.faultsSound → s.faultsSound

theorem Evolves.refl {d : Licence} (s : State) : Evolves 0 d s s where
  ages := id
  pool := id
  transit := Nat.le_refl _
  inj := id
  misses := id
  merges := id
  list := id
  queue := id
  meters := id
  sameMeters := fun _ => ⟨rfl, rfl⟩
  chans := fun _ => ChanStep.refl _
  faults := id

/-- One change more, of which only what the change touches needs a word. -/
theorem Evolves.next {n : Nat} {d : Licence} {b s t : State} (h : Evolves n d b s)
    (ages : s.agesSound → t.agesSound := by exact id)
    (pool : s.poolSound → t.poolSound := by exact id)
    (transit : t.bus.transit.length ≤ s.bus.transit.length := by exact Nat.le_refl _)
    (inj : s.bus.inj.length ≤ 8 → t.bus.inj.length ≤ 8 := by exact id)
    (misses : s.ks.misses.length ≤ 8 → t.ks.misses.length ≤ 8 := by exact id)
    (merges : s.merges.length ≤ 32 → t.merges.length ≤ 32 := by exact id)
    (list : s.notices.list.length ≤ 16 → t.notices.list.length ≤ 16 := by exact id)
    (queue : s.ctl.queue.length ≤ 8 → t.ctl.queue.length ≤ 8 := by exact id)
    (meters : SameMeters s t := by exact ⟨rfl, rfl⟩)
    (chans : ∀ c, ChanStep d (s.chan c) (t.chan c) := by exact fun _ => ChanStep.refl _)
    (faults : s.faultsSound → t.faultsSound := by exact id) : Evolves n d b t where
  ages := fun x => ages (h.ages x)
  pool := fun x => pool (h.pool x)
  transit := transit.trans h.transit
  inj := fun x => inj (h.inj x)
  misses := fun x => misses (h.misses x)
  merges := fun x => merges (h.merges x)
  list := fun x => list (h.list x)
  queue := fun x => queue (h.queue x)
  meters := fun x => by
    unfold State.metersSound
    rw [meters.1, meters.2]
    exact h.meters x
  sameMeters := fun x => ⟨meters.1.trans (h.sameMeters x).1, meters.2.trans (h.sameMeters x).2⟩
  chans := fun c => (h.chans c).trans (chans c)
  faults := fun x => faults (h.faults x)

/-! ## Ages, records and sizes -/

theorem agesSound_bus {s t : State} (transit : (t.bus.transit.map (·.id)).Sublist (s.bus.transit.map (·.id)))
    (inj : (t.bus.inj.map (·.id)).Sublist (s.bus.inj.map (·.id))) (stamp : s.stamp ≤ t.stamp) (h : s.agesSound) :
    t.agesSound := by
  obtain ⟨a, below, c, below'⟩ := h
  refine ⟨?_, fun e he => ?_, ?_, fun e he => ?_⟩
  · exact List.pairwise_map.1 ((List.pairwise_map.2 a).sublist transit)
  · obtain ⟨f, hf, id⟩ := List.mem_map.1 (transit.subset (List.mem_map_of_mem he))
    have := below f hf
    omega
  · exact List.pairwise_map.1 ((List.pairwise_map.2 c).sublist inj)
  · obtain ⟨f, hf, id⟩ := List.mem_map.1 (inj.subset (List.mem_map_of_mem he))
    have := below' f hf
    omega

theorem poolSound_of_numbers {s t : State} (h : (t.pool.map (·.1)).Sublist (s.pool.map (·.1))) (hs : s.poolSound) :
    t.poolSound :=
  List.pairwise_map.1 ((List.pairwise_map.2 hs).sublist h)

/-- A plain change, as part of an event with a licence. -/
theorem Evolves.licensed {n : Nat} {d : Licence} {b s : State} (h : Evolves n .plain b s) : Evolves n d b s :=
  { h with
    sameMeters := fun _ => h.sameMeters (by decide)
    chans := fun c => ⟨(h.chans c).1, (h.chans c).2.1, fun _ => (h.chans c).2.2 (by decide)⟩ }

section Ops

variable {n : Nat} {d : Licence} {b s : State}

/-! ## Machine/Operands.lean and Machine/Ops.lean -/

theorem Evolves.setRec {m : Nat} {f : SlotRec → SlotRec} (h : Evolves n d b s) : Evolves n d b (s.setRec m f) :=
  h.next (pool := poolSound_of_numbers (by
    have same : (s.setRec m f).pool.map (·.1) = s.pool.map (·.1) := by
      unfold State.setRec
      rw [List.map_map]
      exact List.map_congr_left fun p _ => by dsimp only [Function.comp]; split <;> rfl
    rw [same]))

theorem Evolves.setChan {c : Fin 16} {f : Channel → Channel} (h : Evolves n d b s)
    (hf : ChanStep d (s.chan c) (f (s.chan c))) : Evolves n d b (s.setChan c f) :=
  h.next (chans := fun e => by
    rw [State.chan_setChan]
    split
    · subst e
      exact hf
    · exact ChanStep.refl _)

theorem Evolves.setKey {k : Fin 32} {f : KeySlot → KeySlot} (h : Evolves n d b s) : Evolves n d b (s.setKey k f) := h.next

theorem Evolves.bump (h : Evolves n d b s) : Evolves n d b s.bump :=
  h.next (ages := agesSound_bus (List.Sublist.refl _) (List.Sublist.refl _) (Nat.le_succ _))

theorem Evolves.setTransit {l : List TransitEntry} (h : Evolves n d b s)
    (hl : (l.map (·.id)).Sublist (s.bus.transit.map (·.id))) : Evolves n d b (s.setTransit l) :=
  h.next (ages := agesSound_bus hl (List.Sublist.refl _) (Nat.le_refl _))
    (transit := by simpa using hl.length_le)

theorem Evolves.setInj {l : List InjEntry} (h : Evolves n d b s)
    (hl : (l.map (·.id)).Sublist (s.bus.inj.map (·.id))) : Evolves n d b (s.setInj l) :=
  h.next (ages := agesSound_bus (List.Sublist.refl _) hl (Nat.le_refl _))
    (inj := fun x => by
      have := hl.length_le
      simp only [List.length_map] at this
      exact this.trans x)

theorem Evolves.respond {r : UpResponse} (h : Evolves n d b s) : Evolves n d b (s.respond r) := h.next

theorem Evolves.answer {x : Transaction} {ok : Bool} (h : Evolves n d b s) : Evolves n d b (s.answer x ok) := h.respond

theorem Evolves.ask {r : InjReq} (h : Evolves n d b s) : Evolves n d b (s.ask r) := h.next

theorem Evolves.askSlot {op : InjOp} {u : Fin 5} {r : SlotRec} {off : Nat} {a : Access} (h : Evolves n d b s) :
    Evolves n d b (s.askSlot op u r off a) := h.ask

theorem Evolves.askPage {op : InjOp} {off : Nat} {a : Access} (h : Evolves n d b s) :
    Evolves n d b (s.askPage op off a) := h.ask

theorem Evolves.freeInj {id : Nat} (h : Evolves n d b s) : Evolves n d b (s.freeInj id) :=
  h.setInj (List.filter_sublist.map _)

theorem Evolves.freeTransit {id : Nat} (h : Evolves n d b s) : Evolves n d b (s.freeTransit id) :=
  h.setTransit (List.filter_sublist.map _)

theorem Evolves.setEntry {id : Nat} {f : TransitEntry → TransitEntry} (h : Evolves n d b s)
    (hf : ∀ e, e.id = id → (f e).id = id) : Evolves n d b (s.setEntry id f) :=
  h.setTransit (by
    have same : (s.bus.transit.map fun e => if e.id == id then f e else e).map (·.id) = s.bus.transit.map (·.id) := by
      rw [List.map_map]
      refine List.map_congr_left fun e _ => ?_
      dsimp only [Function.comp]
      split
      · rename_i he
        have he : e.id = id := by simpa using he
        rw [hf e he, he]
      · rfl
    rw [same])

/-- Entering the transit table takes an entry whose age is the next stamp (R12, R13). -/
theorem Evolves.enter {e : TransitEntry} (h : Evolves 0 d b s) (age : e.id = s.stamp) : Evolves 1 d b (s.enter e) where
  ages := fun x => by
    obtain ⟨rise, below, rise', below'⟩ := h.ages x
    refine ⟨?_, fun f hf => ?_, rise', fun f hf => (below' f hf).trans (Nat.lt_succ_self _)⟩
    · exact List.pairwise_append.2 ⟨rise, List.pairwise_singleton _ _, fun f hf g hg => by
        rw [List.mem_singleton.1 hg, age]
        exact below f hf⟩
    · rcases List.mem_append.1 hf with hf | hf
      · exact (below f hf).trans (Nat.lt_succ_self _)
      · rw [List.mem_singleton.1 hf, age]
        exact Nat.lt_succ_self _
  pool := h.pool
  transit := by
    have := h.transit
    simp only [State.enter, State.bump_bus, State.setTransit_bus, List.length_append, List.length_singleton]
    omega
  inj := h.inj
  misses := h.misses
  merges := h.merges
  list := h.list
  queue := h.queue
  meters := h.meters
  sameMeters := h.sameMeters
  chans := h.chans
  faults := h.faults

theorem Evolves.setCtl {f : ControlUnit → ControlUnit} (h : Evolves n d b s)
    (hf : s.ctl.queue.length ≤ 8 → (f s.ctl).queue.length ≤ 8 := by exact id) : Evolves n d b (s.setCtl f) :=
  h.next (queue := hf)

theorem loseReport_queue (s : State) : s.loseReport.ctl.queue = s.ctl.queue := by
  unfold State.loseReport
  dsimp only
  (repeat' split) <;> rfl

theorem askRecord_queue (s : State) (r : Report) : (s.askRecord r).ctl.queue = s.ctl.queue := by
  unfold State.askRecord
  split <;> rfl

/-- The turns of queued records leave no more of them in the queue (R179). -/
theorem reportTurns_queue_length (l : List Report) (s : State) :
    (State.reportTurns l s).ctl.queue.length ≤ l.length := by
  induction l generalizing s with
  | nil => exact Nat.le_refl _
  | cons r l ih =>
    unfold State.reportTurns
    (repeat' split)
    · exact Nat.le_refl _
    · exact (ih _).trans (Nat.le_succ _)
    · exact (ih _).trans (Nat.le_succ _)

/-- A change of the Control Unit and the requests of the step alone, with this bound on the report queue. -/
theorem Evolves.reports {t : State} (h : Evolves n d b s)
    (only : ∃ ctl asked, t = { s with ctl := ctl, bus := { s.bus with injAsked := asked } })
    (queue : s.ctl.queue.length ≤ 8 → t.ctl.queue.length ≤ 8) : Evolves n d b t := by
  obtain ⟨ctl, asked, rfl⟩ := only
  exact h.next (queue := queue)

theorem Evolves.loseReport (h : Evolves n d b s) : Evolves n d b s.loseReport :=
  h.reports s.loseReport_only (by rw [loseReport_queue]; exact id)

theorem Evolves.reportTurn (h : Evolves n d b s) : Evolves n d b s.reportTurn :=
  h.reports s.reportTurn_only fun x => (reportTurns_queue_length _ _).trans x

theorem Evolves.handReport {r : Report} (h : Evolves n d b s) : Evolves n d b (s.handReport r) := by
  refine h.reports (s.handReport_only r) fun x => ?_
  unfold State.handReport
  split
  · rename_i place
    refine (reportTurns_queue_length _ _).trans ?_
    have : s.ctl.queue.length < 8 := of_decide_eq_true place
    simpa using this
  · rw [loseReport_queue]
    exact x

theorem Evolves.reportFault {e : FaultEntry} (h : Evolves n d b s) : Evolves n d b (s.reportFault e) := by
  unfold State.reportFault
  split
  · exact h.handReport
  · exact h

/-- An entry written over one with its key (R150). -/
theorem Evolves.putFault {i : Fin 32} {e : Option FaultEntry} (h : Evolves n d b s)
    (he : ∀ x, e = some x → s.faultKey i = some (x.cls, x.channel)) : Evolves n d b (s.putFault i e) :=
  h.next (faults := faultsSound_of_keys fun j => by
    rw [State.faultKey_putFault]
    split
    · rename_i same
      subst same
      cases e with
      | none => exact .inl rfl
      | some x => exact .inr (he x rfl).symm
    · exact .inr rfl)

theorem Evolves.bumpUpdates (h : Evolves n d b s) : Evolves n d b s.bumpUpdates := h.next

theorem Evolves.raiseLost {m : Nat} (h : Evolves n d b s) : Evolves n d b (s.raiseLost m) := h.next

theorem Evolves.countIn {o : Occurrence} {i : Fin 32} {e : FaultEntry} (h : Evolves n d b s)
    (he : s.faults.table[i] = some e) : Evolves n d b (s.countIn o i e) := by
  have put : Evolves n d b (s.putFault i (some (e.counted o s.faults.noticeMask s.time.ms s.faults.updates))) :=
    h.putFault fun x hx => by
      cases hx
      exact State.faultKey_eq_some.2 ⟨e, he, rfl⟩
  unfold State.countIn
  dsimp only
  split
  · exact put.bumpUpdates.reportFault
  · exact put.bumpUpdates

/-- An occurrence fills an entry when no other entry has its key (R150, R152). -/
theorem Evolves.fillFault {o : Occurrence} {i : Fin 32} (h : Evolves n d b s)
    (fresh : ∀ j, j ≠ i → s.faultKey j ≠ some (o.cls, o.channel)) (device : o.cls.deviceScoped = true → o.channel = none) :
    Evolves n d b (s.fillFault o i) := by
  have put : Evolves n d b (s.putFault i (some (o.entry s.faults.noticeMask s.time.ms s.faults.updates))) :=
    h.next (faults := faultsSound_putFault fresh device)
  exact put.bumpUpdates.reportFault

theorem Evolves.applyFault {o : Occurrence} (h : Evolves n d b s) (device : o.cls.deviceScoped = true → o.channel = none) :
    Evolves n d b (s.applyFault o) := by
  unfold State.applyFault
  split
  · rename_i found
    exact h.countIn (FaultUnit.find_some found).1
  · rename_i missing
    have fresh (j : Fin 32) : s.faultKey j ≠ some (o.cls, o.channel) := fun hj => by
      obtain ⟨e, he, key⟩ := State.faultKey_eq_some.1 hj
      exact FaultUnit.find_none missing he ⟨congrArg Prod.fst key, congrArg Prod.snd key⟩
    (repeat' split)
    · exact h.fillFault (fun j _ => fresh j) device
    · exact h.raiseLost.fillFault (fun j _ => fresh j) device
    · exact h.raiseLost

theorem scoped_device (o : Occurrence) : o.scoped.cls.deviceScoped = true → o.scoped.channel = none := by
  unfold Occurrence.scoped
  split
  · exact fun _ => rfl
  · exact fun device => absurd device ‹_›

theorem Evolves.recordFault {o : Occurrence} (h : Evolves n d b s) : Evolves n d b (s.recordFault o) := by
  have applied := h.applyFault (scoped_device o)
  unfold State.recordFault State.escalate
  (repeat' split)
  · exact applied.setChan (chanStep_escalated _)
  · exact applied
  · exact applied

theorem Evolves.noticeBlocked {c : Fin 16} {w : Option (Fin 16)} {slot : Option Nat} (h : Evolves n d b s) :
    Evolves n d b (s.noticeBlocked c w slot) := h.recordFault

theorem Evolves.setProto {l : List ProtoEntry} (h : Evolves n d b s)
    (hl : s.notices.list.length ≤ 16 → l.length ≤ 16) : Evolves n d b (s.setProto l) := h.next (list := hl)

theorem Evolves.filterProto {p : ProtoEntry → Bool} (h : Evolves n d b s) :
    Evolves n d b (s.setProto (s.notices.list.filter p)) :=
  h.setProto (List.length_filter_le _ _).trans

theorem Evolves.handProto {e : ProtoEntry} (h : Evolves n d b s) : Evolves n d b (s.handProto e) := by
  unfold State.handProto
  (repeat' split)
  · exact h.setProto (by simp)
  · rename_i room
    refine h.setProto fun _ => ?_
    have : s.notices.list.length < 16 := room
    simpa using this
  · exact h.noticeBlocked

theorem metersSound_setMeter {l : Link} {f : Meter → Meter} (hf : (s.meter l).sound → (f (s.meter l)).sound)
    (h : s.metersSound) : (s.setMeter l f).metersSound := by
  cases l
  · exact ⟨hf h.1, h.2⟩
  · exact ⟨h.1, hf h.2⟩

/-- A meter written, with its ranges kept. -/
theorem Evolves.setMeter {l : Link} {f : Meter → Meter} (h : Evolves n .debits b s)
    (hf : (s.meter l).sound → (f (s.meter l)).sound) : Evolves n .debits b (s.setMeter l f) where
  ages := fun x => by cases l <;> exact h.ages x
  pool := fun x => by cases l <;> exact h.pool x
  transit := by cases l <;> exact h.transit
  inj := by cases l <;> exact h.inj
  misses := by cases l <;> exact h.misses
  merges := by cases l <;> exact h.merges
  list := by cases l <;> exact h.list
  queue := by cases l <;> exact h.queue
  meters := fun x => metersSound_setMeter hf (h.meters x)
  sameMeters := fun x => absurd rfl x
  chans := fun c => by rw [State.setMeter_chan]; exact h.chans c
  faults := fun x => by cases l <;> exact h.faults x

/-- A debit keeps a meter in its ranges, and takes nothing from an UNMETERED one (R110, R111). -/
theorem Meter.debit_sound {m : Meter} (size : Nat) (h : m.sound) : (m.debit size).sound := by
  unfold Meter.debit
  split
  · exact h
  · rename_i metered
    obtain ⟨c, e, cbs, cbs', ebs, ebs', cir, yellow, red, owed, full⟩ := h
    refine ⟨?_, ?_, cbs, cbs', ebs, ebs', cir, yellow, red, min_le_right _ _, fun off => ?_⟩
    · dsimp only
      omega
    · dsimp only
      omega
    · simp only at off
      simp [off] at metered

/-- A refill keeps a meter in its ranges (R107). -/
theorem Meter.refill_sound {m : Meter} (h : m.sound) : m.refill.sound := by
  unfold Meter.refill
  split
  · exact h
  · rename_i metered
    obtain ⟨c, e, cbs, cbs', ebs, ebs', cir, yellow, red, owed, full⟩ := h
    refine ⟨?_, ?_, cbs, cbs', ebs, ebs', cir, yellow, red, (Nat.sub_le _ _).trans owed, fun off => ?_⟩
    · dsimp only
      omega
    · dsimp only
      omega
    · simp only at off
      simp [off] at metered

theorem Evolves.debit {c : Fin 16} {size : Nat} {w : Option (Fin 16)} {slot : Option Nat} {quiet : Bool}
    (h : Evolves n .debits b s) : Evolves n .debits b (s.debit c size w slot quiet) := by
  have paid := h.setMeter (l := (s.chan c).link) (f := (·.debit size)) (Meter.debit_sound size)
  unfold State.debit
  dsimp only
  split
  · exact paid.recordFault
  · exact paid

theorem Evolves.deliver (h : Evolves n d b s) : Evolves n d b s.deliver :=
  h.next (ages := agesSound_bus (List.filter_sublist.map _) (List.Sublist.refl _) (Nat.le_refl _))
    (transit := List.length_filter_le _ _)

theorem Evolves.enterInj {r : InjReq} (h : Evolves n d b s) (room : s.bus.inj.length < 8) :
    Evolves n d b (s.enterInj r) :=
  h.next
    (ages := fun ⟨rise, below, rise', below'⟩ => by
      refine ⟨rise, fun e he => (below e he).trans (Nat.lt_succ_self _), ?_, fun e he => ?_⟩
      · exact List.pairwise_append.2 ⟨rise', List.pairwise_singleton _ _, fun e he f hf => by
          rw [List.mem_singleton.1 hf]
          exact below' e he⟩
      · rcases List.mem_append.1 he with he | he
        · exact (below' e he).trans (Nat.lt_succ_self _)
        · rw [List.mem_singleton.1 he]
          exact Nat.lt_succ_self _)
    (inj := fun _ => by simpa [State.enterInj] using room)

theorem Evolves.placeInj {r : InjReq} (h : Evolves n d b s) : Evolves n d b (s.placeInj r) := by
  unfold State.placeInj
  split
  · rename_i room
    simp only [Bool.and_eq_true, decide_eq_true_eq] at room
    exact h.enterInj room.2
  · exact h.next

/-- A fold of an operation that carries the relation on carries it on. -/
theorem Evolves.foldl {α : Type} {f : State → α → State} (step : ∀ u a, Evolves n d b u → Evolves n d b (f u a))
    (l : List α) (h : Evolves n d b s) : Evolves n d b (l.foldl f s) := by
  induction l generalizing s with
  | nil => exact h
  | cons a l ih => exact ih (step s a h)

theorem Evolves.placeAsked (h : Evolves n d b s) : Evolves n d b s.placeAsked :=
  Evolves.foldl (fun _ _ hu => hu.placeInj) _ (h.next (t := { s with bus := { s.bus with injAsked := [] } }))

theorem Evolves.judgeHoldoff (h : Evolves n d b s) : Evolves n d b s.judgeHoldoff := by
  unfold State.judgeHoldoff
  split
  · exact h.next
  · split
    · exact h.next
    · exact h

theorem Evolves.judgeIrq (h : Evolves n d b s) : Evolves n d b s.judgeIrq := h.next

theorem Evolves.settle (h : Evolves n d b s) : Evolves n d b s.settle := h.deliver.placeAsked.judgeHoldoff.judgeIrq

/-! ## Machine/Frames.lean -/

theorem Evolves.clearValid {m : Nat} (h : Evolves n d b s) : Evolves n d b (s.clearValid m) :=
  (h.setRec (m := m) (f := fun r => { r with valid := false })).next
    (merges := (List.length_filter_le _ _).trans)

theorem Evolves.dropMerges {m : Nat} (h : Evolves n d b s) : Evolves n d b (s.dropMerges m) :=
  h.next (merges := (List.length_filter_le _ _).trans)

theorem Evolves.askMul {r : MulReq} (h : Evolves n d b s) : Evolves n d b (s.askMul r) := h.next

theorem Evolves.askCipher {r : BgReq} (h : Evolves n d b s) : Evolves n d b (s.askCipher r) := h.next

theorem Evolves.fold {m k : Nat} {blk : Block} {whole : Bool} (h : Evolves n d b s) :
    Evolves n d b (s.fold m k blk whole) := by
  unfold State.fold
  split
  · exact h
  split
  · exact h
  split
  · exact h.clearValid
  split
  · exact h.setRec.askMul
  · exact h

theorem Evolves.evictMerge (h : Evolves n d b s) : Evolves n d b s.evictMerge := by
  unfold State.evictMerge
  split
  · exact h
  · exact h.clearValid.recordFault

theorem clearValid_merges_length (s : State) (e : MergeEntry) (rest : List MergeEntry) (h : s.merges = e :: rest) :
    (s.clearValid e.recNo).merges.length ≤ rest.length := by
  have dropped : (s.clearValid e.recNo).merges = rest.filter fun m => m.recNo != e.recNo := by
    unfold State.clearValid
    simp [h]
  rw [dropped]
  exact List.length_filter_le _ _

/-- An eviction makes room for a new merge entry (R60). -/
theorem evictMerge_merges_length {s : State} (full : ¬ s.merges.length < Config.mergeSize)
    (bound : s.merges.length ≤ 32) : s.evictMerge.merges.length < 32 := by
  unfold State.evictMerge
  split
  · rename_i none
    rw [none] at full
    exact absurd (by decide) full
  · rename_i e rest merges
    obtain ⟨_, _, _, _, only, -⟩ := State.recordFault_only (s.clearValid e.recNo)
      (occurrence .mergeEviction ((s.slotRec e.recNo).bind (·.channel)) ((s.slotRec e.recNo).map (·.window))
        ((s.slotRec e.recNo).map (·.slot)) none)
    have dropped := clearValid_merges_length s e rest merges
    have size : rest.length + 1 ≤ 32 := by simpa [merges] using bound
    rw [only]
    exact lt_of_le_of_lt dropped (by omega)

theorem Evolves.newMerge {m k : Nat} {bytes : List (Option Byte)} (h : Evolves n d b s) :
    Evolves n d b (s.newMerge m k bytes) := by
  unfold State.newMerge
  dsimp only
  split
  · rename_i room
    have room : s.merges.length < 32 := room
    exact h.next (merges := fun _ => by simpa using room)
  · rename_i full
    split
    · exact h.evictMerge
    · have evicted := h.evictMerge
      exact { evicted with
        merges := fun x => by
          have room := evictMerge_merges_length full (h.merges x)
          simpa using room }

theorem Evolves.mergeStep {m k : Nat} {bytes : List (Option Byte)} (h : Evolves n d b s) :
    Evolves n d b (s.mergeStep m k bytes) := by
  unfold State.mergeStep
  split
  · exact h
  split
  · exact h
  split
  · exact h.clearValid
  split
  · split
    · exact h.clearValid
    · dsimp only
      split
      · exact (h.next (merges := (List.length_filter_le _ _).trans)).fold
      · exact h.next (merges := by simp)
  · exact h.newMerge

theorem Evolves.blockStep {e : TransitEntry} {k : Nat} (h : Evolves n d b s) : Evolves n d b (s.blockStep e k) := by
  unfold State.blockStep
  dsimp only
  split
  · split
    · exact h
    · (repeat' split)
      · exact h.clearValid
      · exact h.fold
      · exact h.mergeStep
      · exact h
  · exact h

theorem Bus.entry_id {b : Bus} {id : Nat} {e : TransitEntry} (h : b.entry id = some e) : e.id = id := by
  simpa using List.find?_some h

theorem Evolves.serveBeat {w : Waiter} {ks : Block} (h : Evolves n d b s) : Evolves n d b (s.serveBeat w ks) := by
  unfold State.serveBeat
  split
  · exact h
  · rename_i e found
    dsimp only
    split
    · exact h.setEntry fun _ same => same
    · have id := Bus.entry_id found
      split
      · exact h.setEntry fun _ _ => id
      · refine Evolves.blockStep ?_
        exact h.setEntry fun _ _ => id

theorem Evolves.withdrawBeat {w : Waiter} (h : Evolves n d b s) : Evolves n d b (s.withdrawBeat w) :=
  h.setEntry fun e same => by split <;> exact same

theorem Evolves.setMisses {l : List MissEntry} (h : Evolves n d b s)
    (hl : s.ks.misses.length ≤ 8 → l.length ≤ 8) : Evolves n d b (s.setMisses l) := h.next (misses := hl)

theorem Evolves.setOverflow {l : List OverflowBeat} (h : Evolves n d b s) : Evolves n d b (s.setOverflow l) := h.next

theorem Evolves.lookupBeat {o : OverflowBeat} (h : Evolves n d b s) : Evolves n d b (s.lookupBeat o) := by
  unfold State.lookupBeat
  split
  · exact h.serveBeat
  · split
    · exact h.setMisses (by simp)
    · split
      · rename_i room
        have room : s.ks.misses.length < 8 := room
        exact (h.setMisses fun _ => by simpa using room).bump
      · exact h.setOverflow

theorem Evolves.serveOverflowList (l : List OverflowBeat) (h : Evolves n d b s) :
    Evolves n d b (State.serveOverflowList l s) := by
  induction l generalizing s with
  | nil => exact h.setOverflow
  | cons o l ih =>
    unfold State.serveOverflowList
    split
    · exact ih h.lookupBeat
    · exact h.setOverflow

theorem Evolves.serveOverflow (h : Evolves n d b s) : Evolves n d b s.serveOverflow := h.serveOverflowList _

theorem Evolves.lookupBeats {e : TransitEntry} {k : Fin 32} {r : SlotRec} (h : Evolves n d b s) :
    Evolves n d b (s.lookupBeats e k r) :=
  Evolves.foldl (fun u p hu => by
    split
    · exact hu.lookupBeat
    · exact hu) _ h

theorem Evolves.setFinish {m : Nat} {f : Finish → Finish} (h : Evolves n d b s) : Evolves n d b (s.setFinish m f) :=
  h.setRec

theorem Evolves.beginDirect {m : Nat} (h : Evolves n d b s) : Evolves n d b (s.beginDirect m) := by
  unfold State.beginDirect
  (repeat' split)
  · exact h
  · exact h.setFinish.askMul.askCipher
  · exact h

theorem Evolves.beginSweep {m : Nat} (h : Evolves n d b s) : Evolves n d b (s.beginSweep m) := by
  unfold State.beginSweep
  split
  · exact h
  · split
    · dsimp only
      split
      · exact (Evolves.foldl (fun _ _ hu => hu.askSlot) _ h.setRec.setFinish).beginDirect
      · exact Evolves.foldl (fun _ _ hu => hu.askSlot) _ h.setRec.setFinish
    · exact h

theorem Evolves.beginTail {m : Nat} (h : Evolves n d b s) : Evolves n d b (s.beginTail m) := by
  unfold State.beginTail
  (repeat' split)
  · exact h
  · exact h.setFinish.askSlot
  · exact h

theorem Evolves.beginFinish {m : Nat} (h : Evolves n d b s) : Evolves n d b (s.beginFinish m) := by
  unfold State.beginFinish
  (repeat' split)
  · exact h
  · exact h
  · exact h.beginDirect
  · exact h.beginTail
  · exact h.beginSweep

theorem Evolves.askResult {m : Nat} (h : Evolves n d b s) : Evolves n d b (s.askResult m) := by
  unfold State.askResult
  split
  · exact h
  · exact h.askSlot

/-! ## Machine/Store.lean -/

theorem Evolves.withdrawKeystream {k : Fin 32} (h : Evolves n d b s) : Evolves n d b (s.withdrawKeystream k) := by
  unfold State.withdrawKeystream
  dsimp only
  refine (Evolves.foldl (fun _ _ hu => hu.withdrawBeat) _ ?_).serveOverflow
  exact h.next (misses := (List.length_filter_le _ _).trans)

theorem Evolves.zeroise {k : Fin 32} (h : Evolves n d b s) : Evolves n d b (s.zeroise k) := by
  have cleared : Evolves n d b ((s.withdrawKeystream k).setKey k fun _ => KeySlot.zeroised) := h.withdrawKeystream.setKey
  exact cleared.next

theorem Evolves.judgeKey {k : Fin 32} (h : Evolves n d b s) : Evolves n d b (s.judgeKey k) := by
  unfold State.judgeKey
  (repeat' split)
  · exact h
  · exact h
  · exact h.zeroise
  · exact h.setKey
  · exact h.setKey

theorem Evolves.takeRef {k : Fin 32} (h : Evolves n d b s) : Evolves n d b (s.takeRef k) := h.setKey

theorem Evolves.untakeRef {k : Fin 32} (h : Evolves n d b s) : Evolves n d b (s.untakeRef k) := h.setKey

theorem Evolves.dropRef {k : Fin 32} (h : Evolves n d b s) : Evolves n d b (s.dropRef k) := h.untakeRef.judgeKey

theorem Evolves.dropRefOf {k : Option (Fin 32)} (h : Evolves n d b s) : Evolves n d b (s.dropRefOf k) := by
  cases k with
  | none => exact h
  | some k => exact h.dropRef

theorem Evolves.allocate {c : Fin 16} {k : Fin 32} {u : State} (h : Evolves n d b s)
    (allocated : s.allocate c = some (k, u)) : Evolves n d b u := by
  unfold State.allocate at allocated
  split at allocated
  · cases allocated
  · cases allocated
    exact h.next

theorem Evolves.spentCurrent {k : Fin 32} (h : Evolves n d b s) : Evolves n d b (s.spentCurrent k) := by
  unfold State.spentCurrent
  split
  · exact h.handProto.recordFault
  · exact h

theorem Evolves.judgeSpent {k : Fin 32} (h : Evolves n d b s) : Evolves n d b (s.judgeSpent k) := by
  unfold State.judgeSpent
  (repeat' split)
  · exact h.setKey.spentCurrent
  · exact h.setKey
  · exact h

theorem Evolves.judgeSoft {k : Fin 32} (h : Evolves n d b s) : Evolves n d b (s.judgeSoft k) := by
  unfold State.judgeSoft
  (repeat' split)
  · exact h.setKey.handProto
  · exact h
  · exact h

theorem Evolves.judgeMarks {k : Fin 32} (h : Evolves n d b s) : Evolves n d b (s.judgeMarks k) :=
  h.judgeSpent.judgeSoft

theorem Evolves.takeSequence {k : Fin 32} (h : Evolves n d b s) : Evolves n d b (s.takeSequence k) := h.setKey

theorem Evolves.addBytes {k : Fin 32} {size : Nat} (h : Evolves n d b s) : Evolves n d b (s.addBytes k size) :=
  h.setKey.judgeMarks

theorem Evolves.freshen {m : Nat} (h : Evolves n d b s) : Evolves n d b (s.freshen m) := h.setRec

theorem Evolves.failRec {m : Nat} {why : Reason} (h : Evolves n d b s) : Evolves n d b (s.failRec m why) :=
  h.setRec.dropMerges.askResult

theorem Evolves.failOutbound {m : Nat} {why : Reason} (h : Evolves n d b s) : Evolves n d b (s.failOutbound m why) :=
  h.failRec.dropRefOf

/-! ## Machine/Outbound.lean -/

theorem Evolves.admitFrame {m : Nat} {c : Fin 16} {k : Fin 32} (h : Evolves n d b s) :
    Evolves n d b (s.admitFrame m c k) :=
  h.setRec.bump.takeRef.takeSequence.judgeMarks

theorem Evolves.failAdmission {m : Nat} {c : Fin 16} {why : Reason} {i : Fin 16} (h : Evolves n d b s) :
    Evolves n d b (s.failAdmission m c why i) := by
  unfold State.failAdmission
  dsimp only
  split
  · exact h.setRec.askResult.recordFault
  · exact h.setRec.askResult

theorem Evolves.openOutbound {m : Nat} {i : Fin 16} (h : Evolves n d b s) : Evolves n d b (s.openOutbound m i) := by
  unfold State.openOutbound
  (repeat' split)
  · exact h
  · exact h.admitFrame
  · exact h.failAdmission

theorem Evolves.takeClose {m : Nat} (h : Evolves n d b s) : Evolves n d b (s.takeClose m) := by
  unfold State.takeClose
  dsimp only
  (repeat' split)
  · exact h
  · exact h.failOutbound
  · exact h.failOutbound
  · exact h.setRec

theorem Evolves.releaseRec {m : Nat} (h : Evolves n d b s) : Evolves n d b (s.releaseRec m) := h.freshen.dropRefOf

theorem Evolves.outboundRequest {m : Nat} {v : Option Byte} {payload : Bool} (h : Evolves n d b s) :
    Evolves n d b (s.outboundRequest m v payload) := by
  unfold State.outboundRequest
  split
  · split
    · exact h.takeClose
    · exact h
  · split
    · exact h.releaseRec
    · exact h
  · split
    · exact h.releaseRec
    · exact h
  · exact h

theorem Evolves.mirrorEntry {id m off : Nat} (h : Evolves n d b s) : Evolves n d b (s.mirrorEntry id m off) := by
  unfold State.mirrorEntry
  split
  · exact h
  · exact h.setEntry fun e same => by split <;> exact same

theorem Evolves.noteRetouch {m off : Nat} {bytes : List (Option Byte)} (h : Evolves n d b s) :
    Evolves n d b (s.noteRetouch m bytes off) := by
  unfold State.noteRetouch
  split
  · exact h.setRec
  · exact h

theorem Evolves.widen {m : Nat} {s : State} (h : Evolves 0 d b s) : Evolves m d b s :=
  { h with transit := h.transit.trans (Nat.le_add_right _ _) }

theorem Evolves.writeOutbound {x : Transaction} {p : Place} {m : Nat} {bytes : List (Option Byte)}
    (h : Evolves 0 d b s) : Evolves 1 d b (s.writeOutbound x p m bytes) := by
  unfold State.writeOutbound
  dsimp only
  split
  · exact h.setRec.widen
  · split
    · exact h.setRec.answer.widen
    · refine (Evolves.outboundRequest ?_).noteRetouch.mirrorEntry
      split
      · split
        · exact (h.setRec.enter rfl).lookupBeats
        · exact h.setRec.enter rfl
      · exact h.setRec.enter rfl

theorem Evolves.disturb {m : Nat} (h : Evolves n d b s) : Evolves n d b (s.disturb m) := h.setRec

theorem Evolves.disturbedFault {r : SlotRec} {i : Fin 16} (h : Evolves n d b s) : Evolves n d b (s.disturbedFault r i) :=
  h.recordFault

theorem Evolves.dropOutbound {x : Transaction} {p : Place} {m : Nat} {bytes : List (Option Byte)} {r : SlotRec}
    (h : Evolves n d b s) : Evolves n d b (s.dropOutbound x p m bytes r) :=
  h.setRec.answer.disturbedFault

theorem Evolves.outboundWrite {x : Transaction} {p : Place} {m : Nat} {bytes : List (Option Byte)}
    (h : Evolves 0 d b s) : Evolves 1 d b (s.outboundWrite x p m bytes) := by
  unfold State.outboundWrite
  dsimp only
  split
  · exact h.widen
  split
  · exact h.answer.widen
  (repeat' split)
  · exact h.openOutbound.writeOutbound
  · exact h.writeOutbound
  · exact h.disturb.dropOutbound.widen
  · exact h.writeOutbound
  · exact h.dropOutbound.widen
  · exact h.writeOutbound
  · exact h.writeOutbound

theorem Evolves.forwardRead {x : Transaction} {p : Place} {beats : Nat} {r : SlotRec} {treat : Nat → Treat}
    (h : Evolves 0 d b s) : Evolves 1 d b (s.forwardRead x p beats r treat) := by
  unfold State.forwardRead
  dsimp only
  split
  · exact (h.enter rfl).lookupBeats
  · exact h.enter rfl

theorem Evolves.outboundLine {x : Transaction} {p : Place} {m : Nat} (h : Evolves n d b s) :
    Evolves n d b (s.outboundLine x p m) := by
  unfold State.outboundLine
  dsimp only
  (repeat' split)
  · exact h.answer.recordFault
  · exact h.answer.recordFault.failOutbound.disturbedFault
  · exact h.answer.recordFault.disturb.disturbedFault
  · exact h.answer.recordFault

theorem Evolves.outboundTag {m : Nat} {tag : Block} (h : Evolves n d b s) : Evolves n d b (s.outboundTag m tag) := by
  unfold State.outboundTag
  (repeat' split)
  · exact h
  · exact h.failOutbound
  · exact h.setRec.setFinish.askSlot
  · exact h

theorem Evolves.payFrame {r : SlotRec} {len : Nat} {quiet : Bool} (h : Evolves n .debits b s) :
    Evolves n .debits b (s.payFrame r len quiet) := by
  unfold State.payFrame
  dsimp only
  (repeat' split)
  · exact h.addBytes.debit
  · exact h.debit
  · exact h.addBytes
  · exact h

theorem Evolves.frameLanded {m : Nat} (h : Evolves n .debits b s) : Evolves n .debits b (s.frameLanded m) := by
  unfold State.frameLanded
  dsimp only
  (repeat' split)
  · exact h
  · exact h.setRec.payFrame.askResult
  · exact h.setRec.payFrame
  · exact h.payFrame.failOutbound

theorem Evolves.outboundLate {e : TransitEntry} {m : Nat} (h : Evolves n d b s) : Evolves n d b (s.outboundLate e m) := by
  unfold State.outboundLate
  split
  · exact h
  split
  · split
    · exact h.clearValid
    · split
      · exact h.clearValid
      · exact h.clearValid
      · split
        · exact h
        · split
          · exact h.setRec
          · exact h.failOutbound
    · exact h
  · exact h

/-! ## Machine/Renewal.lean -/

theorem Evolves.keyEvent {c : Fin 16} {promoted : Bool} {k : Fin 32} (h : Evolves n d b s) :
    Evolves n d b (s.keyEvent c promoted k) := h.handReport

theorem Evolves.dropRenewRequest {c : Fin 16} (h : Evolves n d b s) : Evolves n d b (s.dropRenewRequest c) :=
  h.filterProto

theorem Evolves.dropConfirmOf {k : Fin 32} (h : Evolves n d b s) : Evolves n d b (s.dropConfirmOf k) := h.filterProto

theorem Evolves.judgePromoted {k : Fin 32} (h : Evolves n d b s) : Evolves n d b (s.judgePromoted k) := by
  unfold State.judgePromoted
  split
  · exact h.spentCurrent.judgeMarks
  · exact h.judgeMarks

theorem Evolves.judgeKeyOf {k : Option (Fin 32)} (h : Evolves n d b s) : Evolves n d b (s.judgeKeyOf k) := by
  cases k with
  | none => exact h
  | some k => exact h.judgeKey

theorem Evolves.promote {c : Fin 16} (h : Evolves n d b s) : Evolves n d b (s.promote c) := by
  unfold State.promote
  split
  · exact h
  · rename_i k next
    exact (h.setChan (chanStep_promoted next)).setKey.judgeKeyOf.keyEvent.dropRenewRequest.judgePromoted

theorem Evolves.unclaim {m : Nat} (h : Evolves n d b s) : Evolves n d b (s.unclaim m) := h.setRec

theorem Evolves.clearHold {c : Fin 16} (h : Evolves n d b s) : Evolves n d b (s.clearHold c) := by
  unfold State.clearHold
  split
  · exact h
  · exact (h.setChan (chanStep_of_same rfl rfl rfl rfl (.inl rfl) rfl le_rfl)).unclaim.dropRef

theorem Evolves.askOffer {c : Fin 16} {work m : Nat} (h : Evolves n d b s) : Evolves n d b (s.askOffer c work m) := by
  unfold State.askOffer
  split
  · exact h
  · exact h.askSlot

theorem Evolves.startLoading {c : Fin 16} (h : Evolves n d b s) : Evolves n d b (s.startLoading c) := by
  unfold State.startLoading
  split
  · exact h
  · exact (h.setChan (chanStep_of_same rfl rfl rfl rfl (.inr rfl) rfl le_rfl)).bump.askOffer

theorem Evolves.offerFault {c : Fin 16} {cls : FaultClass} {m : Nat} (h : Evolves n d b s) :
    Evolves n d b (s.offerFault c cls m) := h.recordFault

theorem Evolves.displaceHold {c : Fin 16} (h : Evolves n d b s) : Evolves n d b (s.displaceHold c) := by
  unfold State.displaceHold
  split
  · exact h
  · exact h.clearHold.offerFault

/-- An offer taken into the hold of a channel that is not DISABLED (R139). -/
theorem Evolves.handOn {c : Fin 16} {m : Nat} {serial : BitVec 32} {gen : Byte} (h : Evolves n d b s)
    (live : (s.chan c).state ≠ .disabled) : Evolves n d b (s.handOn c m serial gen) := by
  have displaced := h.displaceHold (c := c)
  have on : ((s.displaceHold c).chan c).state ≠ .disabled :=
    ((Evolves.refl (d := .plain) s).displaceHold.chans c).2.2 (by decide) live
  unfold State.handOn
  dsimp only
  split
  · exact displaced.offerFault
  · rename_i k u allocated
    have taken := displaced.allocate allocated
    have still : u.chan c = (s.displaceHold c).chan c := by
      unfold State.allocate at allocated
      split at allocated <;> cases allocated
      rfl
    have held : Evolves n d b ((u.setRec m fun r => { r with claimed := true }).setChan c fun x =>
        { x with hold := some ⟨m, serial, gen, k⟩ }) := by
      refine taken.setRec.setChan ⟨fun ⟨opened, disabled, timer⟩ => ⟨opened, fun off => ?_, timer⟩, le_rfl, fun _ => id⟩
      exact absurd (show (u.chan c).state = .disabled from off) (still ▸ on)
    split
    · exact held
    · exact held.startLoading

theorem Evolves.seat {c : Fin 16} {plain : List Block} (h : Evolves n d b s) : Evolves n d b (s.seat c plain) := by
  unfold State.seat
  split
  · exact h
  · rename_i k held
    have role (x : Channel) (hx : x = s.chan c) (cur next : Option (Fin 32))
        (keep : x.cur.isSome = true → cur.isSome = true) : ChanStep d x { x with cur := cur, next := next } := by
      refine ⟨fun ⟨opened, disabled, timer⟩ => ⟨fun on => keep (opened on), fun off => ?_, timer⟩, le_rfl, fun _ => id⟩
      rw [hx] at off disabled
      rw [(disabled off).2.2.2] at held
      cases held
    have seated : ∀ u, Evolves n d b u → Evolves n d b
        ((((((u.setKey k.key fun x => { x.loadOffer plain k.serial with
            seatedAs := some (if (s.chan c).cur.isNone then KeyRole.current else .next) }).setChan c fun x =>
          { x with
            hold := none, loading := none, installBuf := none, cutover := .stopped, cutoverKey := none
            renewal := .installing
            installing := some (k.key, if (s.chan c).cur.isNone then KeyRole.current else .next) }).unclaim k.recNo).untakeRef
          k.key).askCipher ⟨.hashSubkey, .slot k.key, 0⟩)) := fun u hu =>
      (hu.setKey.setChan (chanStep_of_same rfl rfl rfl rfl (.inl rfl) rfl le_rfl)).unclaim.untakeRef.askCipher
    refine seated _ ?_
    split
    · rename_i old _
      split
      · exact ((h.setChan (role _ rfl _ _ fun _ => rfl)).setKey.judgeKey).dropConfirmOf
      · exact ((h.setChan (role _ rfl _ _ id)).judgeKey).dropConfirmOf
    · split
      · exact (h.setChan (role _ rfl _ _ fun _ => rfl)).setKey
      · exact h.setChan (role _ rfl _ _ id)

theorem Evolves.endLoading {c : Fin 16} {plain : List Block} (h : Evolves n d b s) :
    Evolves n d b (s.endLoading c plain) := by
  have kept : Evolves n d b (s.setChan c fun x => { x with installBuf := some plain, loading := none }) :=
    h.setChan (chanStep_of_same rfl rfl rfl rfl (.inr rfl) rfl le_rfl)
  unfold State.endLoading
  split
  · exact h
  · dsimp only
    split
    · exact kept.seat
    · exact kept.clearHold.offerFault

theorem Evolves.endInstall {c : Fin 16} {k : Fin 32} (h : Evolves n d b s) : Evolves n d b (s.endInstall c k) :=
  (h.handProto.setChan (chanStep_of_same rfl rfl rfl rfl (.inr rfl) rfl le_rfl)).keyEvent.startLoading

theorem Evolves.subkeyReturn {k : Fin 32} {x : Block} (h : Evolves n d b s) : Evolves n d b (s.subkeyReturn k x) := by
  unfold State.subkeyReturn
  dsimp only
  (repeat' split)
  · exact h.setKey
  · exact h.setKey.endInstall
  · exact h.setKey.judgeKey

theorem Evolves.confirmTagged {c : Fin 16} {k : Fin 32} (h : Evolves n d b s) : Evolves n d b (s.confirmTagged c k) := by
  rcases s.confirmTagged_cases c k with same | ⟨-, -, -, same⟩ | ⟨-, -, -, same⟩ <;> rw [same]
  · exact h
  · exact h.setChan (chanStep_of_same rfl rfl rfl rfl (.inr rfl) rfl le_rfl)
  · exact h.setChan (chanStep_of_same rfl rfl rfl rfl (.inr rfl) rfl le_rfl)

/-! ## Machine/Inbound.lean -/

theorem Evolves.rejectRec {m : Nat} {why : Reason} (h : Evolves n d b s) : Evolves n d b (s.rejectRec m why) :=
  h.setRec.askResult

theorem Evolves.slotFaultOf {cls : Option FaultClass} {r : SlotRec} (h : Evolves n d b s) :
    Evolves n d b (s.slotFaultOf cls r) := by
  cases cls with
  | none => exact h
  | some cls => exact h.recordFault

theorem Evolves.reject {m : Nat} {why : Reason} {cls : Option FaultClass} (h : Evolves n d b s) :
    Evolves n d b (s.reject m why cls) := by
  unfold State.reject
  split
  · exact h
  · exact h.rejectRec.dropRefOf.slotFaultOf

/-- A consecutive reject count written. -/
theorem Evolves.setRejects {c : Fin 16} {count : Nat} (h : Evolves n d b s) :
    Evolves n d b (s.setChan c fun x => { x with rejects := count }) :=
  h.setChan (chanStep_of_same rfl rfl rfl rfl (.inr rfl) rfl le_rfl)

theorem Evolves.raiseRejects {c : Fin 16} {r : SlotRec} (h : Evolves n d b s) : Evolves n d b (s.raiseRejects c r) := by
  unfold State.raiseRejects
  dsimp only
  split
  · exact h.setRejects.recordFault
  · exact h.setRejects

theorem Evolves.rejectTag {m : Nat} (h : Evolves n d b s) : Evolves n d b (s.rejectTag m) := by
  unfold State.rejectTag
  dsimp only
  (repeat' split)
  · exact h
  · exact h.reject.raiseRejects
  · exact h.reject

theorem Evolves.passRec {m : Nat} (h : Evolves n d b s) : Evolves n d b (s.passRec m) := by
  unfold State.passRec
  dsimp only
  split
  · exact h.setRec.askResult.setRejects
  · exact h.setRec.askResult

theorem Evolves.passData {m : Nat} (h : Evolves n d b s) : Evolves n d b (s.passData m) := by
  unfold State.passData
  dsimp only
  (repeat' split)
  · exact h.passRec
  · exact h.passRec.promote
  · exact h.passRec
  · exact h.passRec

theorem Evolves.passOffer {m : Nat} {c : Fin 16} {what : OfferPass} (h : Evolves n d b s)
    (live : (s.chan c).state ≠ .disabled) : Evolves n d b (s.passOffer m c what) := by
  cases what with
  | fresh serial gen =>
    exact h.passRec.handOn (((Evolves.refl (d := .plain) s).passRec.chans c).2.2 (by decide) live)
  | repeated k => exact h.passRec.handProto

theorem Evolves.decideData {m : Nat} {r : SlotRec} (h : Evolves n d b s) : Evolves n d b (s.decideData m r) := by
  unfold State.decideData
  dsimp only
  (repeat' split)
  · exact h.reject
  · exact h.setKey.passData
  · exact h.setKey.reject
  · exact h.setKey.reject
  · exact h

theorem Evolves.tryCompare {m : Nat} (h : Evolves n d b s) : Evolves n d b (s.tryCompare m) := by
  unfold State.tryCompare
  (repeat' split)
  · exact h
  · exact h.reject
  · exact h.rejectTag
  · exact h.setChan (chanStep_of_same rfl rfl rfl rfl (.inr rfl) rfl le_rfl)
  · exact h
  · exact h.decideData
  · exact h

theorem Evolves.note {m : Nat} {why : Reason} (h : Evolves n d b s) : Evolves n d b (s.note m why) := h.setRec

theorem Evolves.inboundTag {m : Nat} {tag : Block} (h : Evolves n d b s) : Evolves n d b (s.inboundTag m tag) :=
  h.setFinish.tryCompare

theorem Evolves.endRuling {c : Fin 16} (h : Evolves n d b s) : Evolves n d b (s.endRuling c) :=
  h.setChan (chanStep_of_same rfl rfl rfl rfl (.inr rfl) rfl le_rfl)

theorem Evolves.rulingReject {c : Fin 16} {m : Nat} {why : Reason} {cls : FaultClass} (h : Evolves n d b s) :
    Evolves n d b (s.rulingReject c m why cls) := h.endRuling.offerFault.reject

theorem Evolves.rulingPass {c : Fin 16} {m : Nat} {what : OfferPass} (h : Evolves n d b s) :
    Evolves n d b (s.rulingPass c m what) := by
  have same : ((s.endRuling c).chan c).state = (s.chan c).state := by simp [State.endRuling]
  unfold State.rulingPass
  dsimp only
  split
  · exact h.endRuling.reject
  · split
    · exact h.endRuling.reject
    · rename_i guarded
      exact h.endRuling.passOffer (by rw [same, guarded]; decide)
    · rename_i opened
      exact h.endRuling.passOffer (by rw [same, opened]; decide)

theorem Evolves.raiseHighMark {c : Fin 16} {serial : Nat} (h : Evolves n d b s) (up : (s.chan c).highMark ≤ serial) :
    Evolves n d b (s.raiseHighMark c serial) :=
  h.setChan (chanStep_of_same rfl rfl rfl rfl (.inr rfl) rfl up)

theorem Evolves.startRuling {c : Fin 16} {m : Nat} (h : Evolves n d b s) : Evolves n d b (s.startRuling c m) := by
  unfold State.startRuling
  dsimp only
  split
  · exact h.endRuling
  · split
    · exact h.rulingReject
    · split
      · exact (h.setChan (chanStep_of_same rfl rfl rfl rfl (.inr rfl) rfl le_rfl)).bump.askOffer
      · split
        · exact h.rulingReject
        · exact (h.raiseHighMark (by omega)).rulingReject

theorem Evolves.settleRuling {c : Fin 16} {m : Nat} {plain : List Block} (h : Evolves n d b s) :
    Evolves n d b (s.settleRuling c m plain) := by
  unfold State.settleRuling
  dsimp only
  split
  · exact h.endRuling
  · split
    · split
      · exact (h.raiseHighMark (by omega)).rulingPass
      · exact (h.raiseHighMark (by omega)).rulingReject
    · split
      · exact h.rulingPass
      · exact h.rulingReject

theorem Evolves.failRuling {c : Fin 16} {m : Nat} {why : Reason} (h : Evolves n d b s) :
    Evolves n d b (s.failRuling c m why) := h.endRuling.reject

theorem Evolves.chooseKey {m : Nat} {r : SlotRec} (h : Evolves n d b s) : Evolves n d b (s.chooseKey m r) := by
  unfold State.chooseKey
  dsimp only
  (repeat' split)
  · exact h.setRec
  · exact h.setRec
  · exact h.setRec
  · exact h.setRec
  · exact h.setRec.takeRef

theorem Evolves.parseHeader {m off : Nat} {bytes : List (Option Byte)} (h : Evolves n d b s) :
    Evolves n d b (s.parseHeader m bytes off) := by
  unfold State.parseHeader
  dsimp only
  split
  · split
    · exact h.setRec.chooseKey
    · exact h.setRec
  · exact h.setRec

theorem Evolves.arriveHeader {m off : Nat} {bytes : List (Option Byte)} (h : Evolves n d b s) :
    Evolves n d b (s.arriveHeader m bytes off) := by
  unfold State.arriveHeader
  split
  · exact h
  split
  · split
    · exact h.setRec
    · exact h
  · split
    · exact h.parseHeader
    · exact h

theorem Evolves.arriveBlock {m off k : Nat} {bytes : List (Option Byte)} (h : Evolves n d b s) :
    Evolves n d b (s.arriveBlock m bytes off k) := by
  unfold State.arriveBlock
  dsimp only
  (repeat' split)
  · exact h
  · exact h.clearValid
  · exact h
  · exact h
  · exact h.fold
  · exact h
  · exact h.clearValid

theorem Evolves.arrivePayload {m off : Nat} {bytes : List (Option Byte)} (h : Evolves n d b s) :
    Evolves n d b (s.arrivePayload m bytes off) :=
  Evolves.foldl (fun _ _ hu => hu.arriveBlock) _ h

theorem Evolves.arriveWrite {x : Transaction} {p : Place} {m : Nat} {bytes : List (Option Byte)}
    (h : Evolves 0 d b s) : Evolves 1 d b (s.arriveWrite x p m bytes) :=
  h.arriveHeader.arrivePayload.enter rfl

theorem Evolves.inboundLine {x : Transaction} {p : Place} {m : Nat} {bytes : List (Option Byte)}
    (h : Evolves 0 d b s) : Evolves 1 d b (s.inboundLine x p m bytes) := by
  unfold State.inboundLine
  (repeat' split)
  · exact h.widen
  · exact h.setRec.bump.arriveWrite
  · exact h.arriveWrite
  · exact h.answer.note.disturbedFault.widen
  · exact h.answer.recordFault.widen

theorem Evolves.takeCheck {m : Nat} (h : Evolves n d b s) : Evolves n d b (s.takeCheck m) := by
  unfold State.takeCheck
  (repeat' split)
  · exact h
  · exact h.reject
  · exact h.setRec.askSlot

theorem Evolves.inboundRequest {m : Nat} {v : Option Byte} (h : Evolves n d b s) :
    Evolves n d b (s.inboundRequest m v) := by
  unfold State.inboundRequest
  (repeat' split)
  · exact h.takeCheck
  · exact h
  · exact h.releaseRec
  · exact h
  · exact h.releaseRec
  · exact h
  · exact h
  · exact h

theorem Evolves.inboundHeader {x : Transaction} {p : Place} {m : Nat} {bytes : List (Option Byte)}
    (h : Evolves 0 d b s) : Evolves 1 d b (s.inboundHeader x p m bytes) := by
  unfold State.inboundHeader
  dsimp only
  split
  · exact h.answer.widen
  · exact (h.enter rfl).inboundRequest.mirrorEntry

theorem Evolves.inboundPayload {x : Transaction} {p : Place} {m : Nat} (h : Evolves n d b s) :
    Evolves n d b (s.inboundPayload x p m) := by
  unfold State.inboundPayload
  dsimp only
  (repeat' split)
  · exact h.answer.recordFault
  · exact h.answer.recordFault.reject.disturbedFault
  · exact h.answer.recordFault

theorem Evolves.inboundRead {x : Transaction} {p : Place} {m beats : Nat} (h : Evolves 0 d b s) :
    Evolves 1 d b (s.inboundRead x p m beats) := by
  unfold State.inboundRead
  dsimp only
  (repeat' split)
  · exact h.widen
  · exact h.recordFault.answer.widen
  · exact h.recordFault.forwardRead
  · exact h.forwardRead

theorem Evolves.inboundLate {e : TransitEntry} {m : Nat} (h : Evolves n d b s) : Evolves n d b (s.inboundLate e m) := by
  unfold State.inboundLate
  dsimp only
  split
  · split
    · split
      · (repeat' split)
        · exact h.setRec.clearValid
        · exact h.clearValid
        · exact h.setRec
        · exact h
      · (repeat' split)
        · exact h.note.clearValid
        · exact h.clearValid
        · exact h.note.note
        · exact h.note
        · exact h.note
        · exact h
      · exact h
    · exact h
  · exact h

/-! ## Machine/Accept.lean -/

theorem Evolves.refuse {x : Transaction} {cls : FaultClass} {c : Option (Fin 16)} {p : Place} (h : Evolves n d b s) :
    Evolves n d b (s.refuse x cls c p) := h.answer.recordFault

theorem Evolves.noticeHeader {x : Transaction} {p : Place} {m : Nat} {bytes : List (Option Byte)}
    (h : Evolves 0 d b s) : Evolves 1 d b (s.noticeHeader x p m bytes) := by
  unfold State.noticeHeader
  dsimp only
  (repeat' split)
  · exact h.widen
  · exact (h.enter rfl).releaseRec
  · exact h.enter rfl
  · exact h.refuse.widen

theorem Evolves.accept {x : Transaction} (h : Evolves 0 d b s) : Evolves 1 d b (s.accept x) := by
  unfold State.accept
  split
  · exact h.enter rfl
  · rename_i p _
    cases s.routeOf x with
    | untouched | raw | pageWrite => exact h.enter rfl
    | busProtocol | blocked | conflict => exact h.refuse.widen
    | outboundClearWrite => exact h.outboundWrite
    | outboundClearRead =>
      unfold State.acceptAt
      dsimp only
      split
      · exact h.forwardRead
      · exact h.widen
    | outboundLineWrite => exact h.outboundLine.widen
    | inboundLineWrite => exact h.inboundLine
    | inboundClearHeader => exact h.inboundHeader
    | inboundClearPayload => exact h.inboundPayload.widen
    | inboundClearRead => exact h.inboundRead
    | noticeClearHeader => exact h.noticeHeader

/-! ## Machine/Notices.lean -/

theorem Evolves.askNotice {m o : Nat} {k : Fin 32} {blocks : Nat} (h : Evolves n d b s) :
    Evolves n d b (s.askNotice m o k blocks) := by
  unfold State.askNotice
  split
  · exact h
  · exact Evolves.foldl (fun _ _ hu => hu.askCipher) _ h

/-- The composition in flight set or ended. -/
theorem Evolves.setComp {c : Option Composition} (h : Evolves n d b s) :
    Evolves n d b { s with notices := { s.notices with comp := c } } := h.next

theorem Evolves.compose {m : Nat} {plan : NoticePlan} {payload : State → List Byte} (h : Evolves n d b s) :
    Evolves n d b (s.compose m plan payload) :=
  h.setRec.bump.takeRef.takeSequence.setComp.askNotice.judgeMarks

theorem Evolves.startProtocol {m : Nat} (l : List ProtoEntry) (h : Evolves n d b s)
    (shorter : l.length ≤ s.notices.list.length) : Evolves n d b (State.startProtocol m l s) := by
  induction l generalizing s with
  | nil => exact h.setProto fun _ => Nat.zero_le _
  | cons e rest ih =>
    have popped : Evolves n d b (s.setProto rest) := h.setProto ((Nat.le_of_succ_le shorter).trans ·)
    unfold State.startProtocol
    split
    · exact popped.compose
    · refine ih popped.noticeBlocked ?_
      obtain ⟨_, _, _, _, only, -⟩ := (s.setProto rest).noticeBlocked_only e.channel none none
      rw [only]
      exact Nat.le_refl _

/-- Entries of the table go to COMPOSING under their keys (R168). -/
theorem Evolves.markComposing (l : List (Fin 32 × FaultEntry)) (h : Evolves n d b s)
    (keys : ∀ p ∈ l, s.faultKey p.1 = some (p.2.cls, p.2.channel)) : Evolves n d b (s.markComposing l) := by
  induction l generalizing s with
  | nil => exact h
  | cons p l ih =>
    have key := keys p List.mem_cons_self
    refine ih (h.putFault fun x hx => by cases hx; exact key) fun q hq => ?_
    rw [State.faultKey_putFault]
    split
    · rename_i same
      rw [← same, keys q (List.mem_cons_of_mem _ hq)] at key
      exact key.symm
    · exact keys q (List.mem_cons_of_mem _ hq)

/-- The blocked flag written (R171). -/
theorem Evolves.setBlocked {x : Bool} (h : Evolves n d b s) :
    Evolves n d b { s with notices := { s.notices with blocked := x } } := h.next

theorem Evolves.restartHoldoff (h : Evolves n d b s) : Evolves n d b s.restartHoldoff := h.next

theorem mem_insertEntry {p q : Fin 32 × FaultEntry} {l : List (Fin 32 × FaultEntry)} :
    q ∈ insertEntry p l ↔ q = p ∨ q ∈ l := by
  induction l with
  | nil => simp [insertEntry]
  | cons r l ih =>
    unfold insertEntry
    split
    · simp
    · simp [ih, or_left_comm]

theorem mem_orderEntries {q : Fin 32 × FaultEntry} {l : List (Fin 32 × FaultEntry)} : q ∈ orderEntries l ↔ q ∈ l := by
  induction l with
  | nil => simp [orderEntries]
  | cons p l ih =>
    change q ∈ insertEntry p (orderEntries l) ↔ _
    rw [mem_insertEntry, ih, List.mem_cons]

/-- A selected entry is one of the table (R168). -/
theorem mem_selectFaults {colour : Colour} {p : Fin 32 × FaultEntry} (h : p ∈ s.selectFaults colour) :
    s.faults.table[p.1] = some p.2 := by
  have ordered := mem_orderEntries.1 (List.mem_of_mem_take h)
  have eligible := (List.mem_filter.1 ordered).1
  exact FaultUnit.mem_used.1 (List.mem_filter.1 eligible).1

theorem Evolves.startFaultNotice {m : Nat} {k : Fin 32} {colour : Colour} (h : Evolves n d b s) :
    Evolves n d b (s.startFaultNotice m k (s.selectFaults colour)) := by
  have marked := h.markComposing (s.selectFaults colour) fun p hp =>
    State.faultKey_eq_some.2 ⟨p.2, mem_selectFaults hp, rfl⟩
  unfold State.startFaultNotice
  exact Evolves.compose (Evolves.setBlocked marked.restartHoldoff)

theorem Evolves.blockNotices (h : Evolves n d b s) : Evolves n d b s.blockNotices := by
  unfold State.blockNotices
  split
  · exact h
  · exact h.setBlocked.noticeBlocked

theorem Evolves.noticeKeystream {o k : Nat} {out : Block} (h : Evolves n d b s) :
    Evolves n d b (s.noticeKeystream o k out) := by
  unfold State.noticeKeystream
  split
  · exact h
  · exact h.setComp.fold

theorem Evolves.judgeNotice (h : Evolves n d b s) : Evolves n d b s.judgeNotice := by
  unfold State.judgeNotice
  (repeat' split)
  · exact h
  · exact h.beginDirect
  · exact h
  · exact h

theorem Evolves.askNoticeLine0 {c : Composition} (h : Evolves n d b s) : Evolves n d b (s.askNoticeLine0 c) := by
  unfold State.askNoticeLine0
  split
  · exact h
  · exact h.askSlot

theorem Evolves.noticeTag {m : Nat} {tag : Block} (h : Evolves n d b s) : Evolves n d b (s.noticeTag m tag) := by
  unfold State.noticeTag
  dsimp only
  (repeat' split)
  · exact h.setFinish.askNoticeLine0
  · exact h.setFinish.askSlot
  · exact h.setFinish

theorem carriedEntry_some {c : Carried} {e : FaultEntry} (h : s.carriedEntry c = some e) :
    s.faults.table[c.number] = some e := by
  unfold State.carriedEntry at h
  split at h
  · rename_i x hx
    split at h <;> cases h
    exact hx
  · cases h

/-- An entry of the table written with its notice fields changed. -/
theorem Evolves.putNotice {i : Fin 32} {e x : FaultEntry} (h : Evolves n d b s) (found : s.faults.table[i] = some e)
    (cls : x.cls = e.cls) (channel : x.channel = e.channel) : Evolves n d b (s.putFault i (some x)) :=
  h.putFault fun y hy => by
    cases hy
    exact State.faultKey_eq_some.2 ⟨e, found, by rw [cls, channel]⟩

theorem Evolves.settleCarried {c : Carried} (h : Evolves n d b s) : Evolves n d b (s.settleCarried c) := by
  unfold State.settleCarried
  split
  · exact h
  · rename_i found
    exact h.putNotice (carriedEntry_some found) rfl rfl

theorem Evolves.returnCarried {c : Carried} (h : Evolves n d b s) : Evolves n d b (s.returnCarried c) := by
  unfold State.returnCarried
  split
  · exact h
  · rename_i found
    exact h.putNotice (carriedEntry_some found) rfl rfl

theorem Evolves.subtractLost {m : Nat} (h : Evolves n d b s) : Evolves n d b (s.subtractLost m) := by
  unfold State.subtractLost
  split
  · exact h.next
  · exact h.next

theorem Evolves.noticeDone {c : Composition} {ch : Fin 16} {kind : Byte} (h : Evolves n d b s) :
    Evolves n d b (s.noticeDone c ch kind) := by
  unfold State.noticeDone
  (repeat' split)
  · exact h.confirmTagged
  · exact (Evolves.foldl (fun _ _ hu => hu.settleCarried) _ h).subtractLost
  · exact h

theorem Evolves.completeComposition {c : Composition} (h : Evolves n .debits b s) :
    Evolves n .debits b (s.completeComposition c) := by
  unfold State.completeComposition
  dsimp only
  (repeat' split)
  · exact h
  · exact h.setComp.setRec.payFrame.handReport.noticeDone
  · exact h.setComp.setRec.payFrame.handReport

theorem Evolves.failComposition {c : Composition} (h : Evolves n d b s) : Evolves n d b (s.failComposition c) := by
  unfold State.failComposition
  dsimp only
  (repeat' split)
  · exact h
  · exact (Evolves.foldl (fun _ _ hu => hu.returnCarried) _ h.setComp.releaseRec).noticeBlocked
  · exact Evolves.foldl (fun _ _ hu => hu.returnCarried) _ h.setComp.releaseRec

/-! ## Machine/Control.lean and Machine/Bus.lean -/

theorem Evolves.judgeFetch (h : Evolves n d b s) : Evolves n d b s.judgeFetch := by
  unfold State.judgeFetch
  split
  · exact h.setCtl.askPage
  · exact h

theorem Evolves.handPage {e : TransitEntry} (h : Evolves n d b s) : Evolves n d b (s.handPage e) := by
  unfold State.handPage
  dsimp only
  split
  · (repeat' split)
    · exact h.setCtl.judgeFetch.setCtl
    · exact h.setCtl
    · exact h.setCtl.judgeFetch
    · exact h
  · exact h

theorem Evolves.completeWrite {e : TransitEntry} (h : Evolves n d b s) : Evolves n d b (s.completeWrite e) :=
  h.freeTransit.respond.handPage

theorem Evolves.judgeCompletion (h : Evolves n d b s) : Evolves n d b s.judgeCompletion := by
  unfold State.judgeCompletion
  split
  · exact h.setCtl.judgeFetch
  · exact h

theorem Evolves.complete {status channel : Byte} (h : Evolves n d b s) : Evolves n d b (s.complete status channel) := by
  unfold State.complete
  dsimp only
  split
  · exact h.setCtl.askPage.handReport
  · exact h.setCtl.askPage.setCtl

theorem Evolves.handSnapshot (l : List FaultEntry) (h : Evolves n d b s) : Evolves n d b (State.handSnapshot l s) := by
  induction l generalizing s with
  | nil => exact h.complete
  | cons e l ih =>
    unfold State.handSnapshot
    split
    · exact ih h.handReport
    · exact h.setCtl

theorem Evolves.readBack {id : Nat} {ok : Bool} {data : List Byte} (h : Evolves n d b s) :
    Evolves n d b (s.readBack id ok data) := h.setEntry fun _ same => same

theorem Evolves.passedMemoryError {e : TransitEntry} (h : Evolves n d b s) : Evolves n d b (s.passedMemoryError e) :=
  h.recordFault

theorem Evolves.lateError {e : TransitEntry} (h : Evolves n d b s) : Evolves n d b (s.lateError e) := by
  unfold State.lateError
  (repeat' split)
  · exact h
  · exact h.outboundLate
  · exact h.inboundLate
  · exact h

theorem Evolves.grantTransit {e : TransitEntry} {passover : Nat} (h : Evolves n d b s) :
    Evolves n d b (s.grantTransit e passover) := by
  have issued : Evolves n d b (s.setEntry e.id fun f => { f with issued := true }) := h.setEntry fun _ same => same
  exact issued.next

theorem Evolves.grantInj {e : InjEntry} (h : Evolves n d b s) : Evolves n d b (s.grantInj e) := by
  have issued : Evolves n d b (s.setInj (s.bus.inj.map fun f =>
      if f.id == e.id then { f with issued := true, timeout := s.bus.timeout, ticks := 0 } else f)) :=
    h.setInj (by
      rw [List.map_map]
      rw [List.map_congr_left (g := (·.id)) fun f _ => by dsimp only [Function.comp]; split <;> rfl])
  exact issued.next

theorem Evolves.failFinish {m o : Nat} {why : Reason} (h : Evolves n d b s) : Evolves n d b (s.failFinish m o why) := by
  unfold State.failFinish
  (repeat' split)
  · exact h
  · exact h.failOutbound
  · exact h.reject
  · exact h

theorem Evolves.failOffer {c : Fin 16} {work : Nat} {why : Reason} (h : Evolves n d b s) :
    Evolves n d b (s.failOffer c work why) := by
  unfold State.failOffer
  (repeat' split)
  · exact h.failRuling
  · exact h.clearHold
  · exact h
  · exact h.clearHold
  · exact h
  · exact h

theorem Evolves.followLost (h : Evolves n d b s) : Evolves n d b s.followLost := by
  unfold State.followLost
  split
  · exact h
  · exact h.setCtl.askPage

theorem Evolves.failOp {op : InjOp} {why : Reason} (h : Evolves n d b s) : Evolves n d b (s.failOp op why) := by
  cases op with
  | tagRead | tailFetch | sweepRead | frameWrite => exact h.failFinish
  | headerResult | resetZero => exact h
  | lostWord => exact h.followLost
  | offerRead => exact h.failOffer
  | noticeLine1 | noticeLine0 =>
    unfold State.failOp
    dsimp only
    split
    · exact h.failComposition
    · exact h
  | fetch => exact h.setCtl (by split <;> exact id)
  | statusWrite => exact h.judgeCompletion
  | reportRecord => exact h.loseReport.reportTurn
  | reportWord => exact h.reportTurn

theorem Evolves.failInjected {e : InjEntry} {cls : FaultClass} {why : Reason} (h : Evolves n d b s) :
    Evolves n d b (s.failInjected e cls why) := h.freeInj.recordFault.failOp

theorem Evolves.advanceRing (h : Evolves n d b s) : Evolves n d b s.advanceRing := by
  unfold State.advanceRing
  split
  · exact h.next
  · exact h.setCtl

theorem Evolves.askReportWord (h : Evolves n d b s) : Evolves n d b s.askReportWord := h.askPage

/-! ## Machine/Cipher.lean -/

theorem Evolves.setCipher {g : Option CipherGrant} (h : Evolves n d b s) : Evolves n d b (s.setCipher g) := h.next

theorem Evolves.grantMiss {m : MissEntry} (h : Evolves n d b s) : Evolves n d b (s.grantMiss m) :=
  (h.setMisses (by simp)).setCipher

theorem Evolves.grantBackground {r : BgReq} (h : Evolves n d b s) : Evolves n d b (s.grantBackground r) :=
  (h.next (t := { s with ks := { s.ks with background := s.ks.background.erase r } })).setCipher

theorem Evolves.cacheInsert {e : CacheEntry} (h : Evolves n d b s) : Evolves n d b (s.cacheInsert e) := h.next

theorem Evolves.completeMiss {m : MissEntry} {out : Block} (h : Evolves n d b s) : Evolves n d b (s.completeMiss m out) :=
  (Evolves.foldl (fun _ _ hu => hu.serveBeat) _
    (h.setMisses (List.length_filter_le _ _).trans).cacheInsert).serveOverflow

/-- The ruling in flight written. -/
theorem Evolves.setRuling {c : Fin 16} {w : Option OfferWork} (h : Evolves n d b s) :
    Evolves n d b (s.setChan c fun x => { x with ruling := w }) :=
  h.setChan (chanStep_of_same rfl rfl rfl rfl (.inr rfl) rfl le_rfl)

/-- The loading in flight written. -/
theorem Evolves.setLoading {c : Fin 16} {w : Option OfferWork} (h : Evolves n d b s) :
    Evolves n d b (s.setChan c fun x => { x with loading := w }) :=
  h.setChan (chanStep_of_same rfl rfl rfl rfl (.inr rfl) rfl le_rfl)

theorem Evolves.rulingBlock {c : Fin 16} {w : OfferWork} {k : Nat} {out : Block} (h : Evolves n d b s) :
    Evolves n d b (s.rulingBlock c w k out) := by
  unfold State.rulingBlock
  dsimp only
  split
  · exact h.setRuling.settleRuling
  · exact h.setRuling

theorem Evolves.loadingBlock {c : Fin 16} {w : OfferWork} {k : Nat} {out : Block} (h : Evolves n d b s) :
    Evolves n d b (s.loadingBlock c w k out) := by
  unfold State.loadingBlock
  dsimp only
  split
  · exact h.setLoading.endLoading
  · exact h.setLoading

theorem Evolves.offerBlock {c : Fin 16} {work k : Nat} {out : Block} (h : Evolves n d b s) :
    Evolves n d b (s.offerBlock c work k out) := by
  unfold State.offerBlock
  (repeat' split)
  · exact h.rulingBlock
  · exact h.loadingBlock
  · exact h
  · exact h.rulingBlock
  · exact h
  · exact h.loadingBlock
  · exact h
  · exact h

theorem Evolves.backgroundResult {use : BgUse} {out : Block} (h : Evolves n d b s) :
    Evolves n d b (s.backgroundResult use out) := by
  cases use with
  | offerPlain => exact h.offerBlock
  | mask =>
    unfold State.backgroundResult State.maskReturn
    dsimp only
    split
    · exact h.setFinish
    · exact h
  | noticeBlock => exact h.noticeKeystream
  | rootSubkey | hashSubkey => exact h

theorem Evolves.judgeSweep {m o : Nat} (h : Evolves n d b s) : Evolves n d b (s.judgeSweep m o) := by
  unfold State.judgeSweep
  (repeat' split)
  · exact h.beginDirect
  · exact h
  · exact h

theorem Evolves.productReturn {r : MulReq} {product : Block} (h : Evolves n d b s) :
    Evolves n d b (s.productReturn r product) := by
  unfold State.productReturn
  split
  · exact h
  split
  · split
    · refine (Evolves.judgeSweep ?_).judgeNotice
      split
      · exact h.setRec
      · exact h
    · unfold State.correctionReturn
      dsimp only
      split
      · exact h
      · exact (h.setRec (m := r.recNo)).setRec.beginDirect
    · exact h.setFinish
  · exact h

theorem Evolves.settleMerges {m len : Nat} (h : Evolves n d b s) : Evolves n d b (s.settleMerges m len) := by
  unfold State.settleMerges
  split
  · exact h.dropMerges.fold
  · exact h.dropMerges

theorem Evolves.decideFinish {m o len : Nat} {stage : FinishStage} (h : Evolves n d b s) :
    Evolves n d b (s.decideFinish m o len stage) := by
  unfold State.decideFinish
  dsimp only
  (repeat' split)
  · exact h.beginFinish
  · exact h.settleMerges.beginFinish
  · exact h.settleMerges.setFinish

theorem Evolves.tailReturn {m o : Nat} {blk : Block} (h : Evolves n d b s) : Evolves n d b (s.tailReturn m o blk) := by
  unfold State.tailReturn
  (repeat' split)
  · exact h
  · exact h.askMul
  · exact h
  · exact h

theorem Evolves.sweepFold {m len k : Nat} {blk : Block} (h : Evolves n d b s) :
    Evolves n d b (s.sweepFold m len k blk) := by
  unfold State.sweepFold
  split
  · exact h.fold
  · exact h.fold

theorem Evolves.sweepReturn {m o first : Nat} {blocks : List Block} (h : Evolves n d b s) :
    Evolves n d b (s.sweepReturn m o first blocks) := by
  unfold State.sweepReturn
  (repeat' split)
  · exact h
  · exact Evolves.foldl (fun _ _ hu => hu.sweepFold) _ h.setFinish
  · exact h
  · exact h

theorem Evolves.handTag {m : Nat} {role : WinRole} {tag : Block} (h : Evolves n d b s) :
    Evolves n d b (s.handTag m role tag) := by
  cases role with
  | outbound => exact h.outboundTag
  | inbound => exact h.inboundTag
  | notice => exact h.noticeTag
  | report | controlPage => exact h

theorem Evolves.frameAnswered {m o : Nat} (h : Evolves n .debits b s) : Evolves n .debits b (s.frameAnswered m o) := by
  unfold State.frameAnswered
  split
  · exact h.frameLanded
  · exact h

theorem Evolves.tagHeld {m o : Nat} {tag : Block} (h : Evolves n d b s) : Evolves n d b (s.tagHeld m o tag) := by
  unfold State.tagHeld
  split
  · exact h.setRec.tryCompare
  · exact h

theorem Evolves.askPlain {c : Fin 16} {work m : Nat} (h : Evolves n d b s) : Evolves n d b (s.askPlain c work m) := by
  unfold State.askPlain
  split
  · exact h
  · exact Evolves.foldl (fun _ _ hu => hu.askCipher) _ h

theorem Evolves.offerData {c : Fin 16} {work : Nat} {blocks : List Block} (h : Evolves n d b s) :
    Evolves n d b (s.offerData c work blocks) := by
  unfold State.offerData
  (repeat' split)
  · exact h.setRuling.askPlain
  · exact h.setLoading.askPlain
  · exact h
  · exact h
  · exact h.setLoading.askPlain
  · exact h
  · exact h

/-! ## Machine/Clock.lean and Machine/Channels.lean -/

theorem Evolves.tickTimers (h : Evolves n d b s) : Evolves n d b s.tickTimers :=
  h.next (chans := fun c => by
    have ticked : s.tickTimers.chan c = { s.chan c with cutover := (s.chan c).cutover.tick, grace := (s.chan c).grace.tick } := by
      simp [State.chan, State.tickTimers]
    rw [ticked]
    refine ⟨fun ⟨opened, disabled, timer⟩ => ⟨opened, disabled, fun none => ?_⟩, le_rfl, fun _ => id⟩
    have stopped := timer none
    simp only at stopped ⊢
    rw [stopped]
    rfl)

theorem Evolves.tickInjected (h : Evolves n d b s) : Evolves n d b s.tickInjected :=
  h.setInj (by
    rw [List.map_map]
    rw [List.map_congr_left (g := (·.id)) fun f _ => by dsimp only [Function.comp]; split <;> rfl])

theorem Evolves.lifetimeTick {k : Fin 32} (h : Evolves n d b s) : Evolves n d b (s.lifetimeTick k) := by
  unfold State.lifetimeTick
  split
  · exact h.setKey.judgeMarks
  · exact h

theorem Evolves.untakeOf {k : Option (Fin 32)} (h : Evolves n d b s) : Evolves n d b (s.untakeOf k).1 := by
  cases k with
  | none => exact h
  | some k => exact h.untakeRef

theorem Evolves.tearSlot {c : Fin 16} {m : Nat} {r : SlotRec} (h : Evolves n d b s) :
    Evolves n d b (s.tearSlot c m r).1 := by
  unfold State.tearSlot
  (repeat' split)
  · exact h.failRec.untakeOf
  · exact h
  · exact h.rejectRec.untakeOf
  · exact h
  · exact h.note
  · exact h
  · exact h

theorem Evolves.tearSlots {c : Fin 16} (l : List (Nat × SlotRec)) (a : State × List (Fin 32)) (h : Evolves n d b a.1) :
    Evolves n d b (State.tearSlots c l a).1 := by
  induction l generalizing a with
  | nil => exact h
  | cons p l ih => exact ih _ h.tearSlot

theorem Evolves.tearHold {c : Fin 16} (h : Evolves n d b s) : Evolves n d b (s.tearHold c).1 := by
  unfold State.tearHold
  split
  · exact h
  · exact h.unclaim.untakeOf

theorem Evolves.teardown {c : Fin 16} {state : ChanState} (h : Evolves n .tears b s) (closed : state ≠ .opened) :
    Evolves n .tears b (s.teardown c state) := by
  have torn : Evolves n .tears b (((s.tearHold c).1.setChan c fun x => x.torn state).setProto
      (s.notices.list.filter fun e => decide (e.channel ≠ c))) :=
    (h.tearHold.setChan (chanStep_torn _ closed)).setProto fun x => by
      have same : ((s.tearHold c).1.setChan c fun x => x.torn state).notices = s.notices := by
        unfold State.tearHold
        split <;> rfl
      rw [same] at x
      exact (List.length_filter_le _ _).trans x
  exact Evolves.foldl (fun _ _ hu => hu.judgeKey) _ (Evolves.tearSlots _ _ torn)

theorem Evolves.onChannel {f : Fin 16 → State → State} (h : Evolves n d b s) (hf : ∀ c, Evolves n d b (f c s)) :
    Evolves n d b (s.onChannel f) := by
  unfold State.onChannel
  split
  · exact hf _
  · exact h.complete

theorem Evolves.setChannel {c : Fin 16} (h : Evolves n d b s) : Evolves n d b (State.setChannel c s) := by
  unfold State.setChannel
  split
  · exact h.complete
  · exact (h.setChan (chanStep_of_same rfl rfl rfl rfl (.inr rfl) rfl le_rfl)).complete

theorem Evolves.setChannelState {c : Fin 16} (h : Evolves n .tears b s) :
    Evolves n .tears b (State.setChannelState c s) := by
  unfold State.setChannelState
  split
  · exact (h.teardown (by decide)).complete
  · refine (h.setChan ⟨fun ⟨_, _, timer⟩ => ⟨?_, ?_, timer⟩, le_rfl, fun hd => absurd rfl hd⟩).complete <;> simp
  · split
    · rename_i keyed
      refine (h.setChan ⟨fun ⟨_, _, timer⟩ => ⟨fun _ => keyed.2, ?_, timer⟩, le_rfl, fun hd => absurd rfl hd⟩).complete
      simp
    · exact h.complete
  · exact h.complete

theorem Evolves.dropKeys {c : Fin 16} (h : Evolves n .tears b s) : Evolves n .tears b (State.dropKeys c s) :=
  (h.teardown (by split <;> decide)).complete

theorem Evolves.requestRenewal {c : Fin 16} (h : Evolves n d b s) : Evolves n d b (State.requestRenewal c s) := by
  unfold State.requestRenewal
  split
  · exact h.handProto.complete
  · exact h.complete

/-- The number that bytes spell fits in them. -/
theorem beNat_lt (l : List Byte) : beNat l < 256 ^ l.length := by
  suffices h : ∀ (l : List Byte) (v : Nat), l.foldl (fun acc b => acc * 256 + b.toNat) v < (v + 1) * 256 ^ l.length by
    simpa [beNat] using h l 0
  intro l
  induction l with
  | nil => simp
  | cons x l ih =>
    intro v
    have byte := x.isLt
    refine (ih _).trans_le ?_
    rw [List.length_cons, pow_succ, Nat.mul_comm (256 ^ l.length), ← Nat.mul_assoc]
    refine Nat.mul_le_mul_right _ ?_
    dsimp only
    omega

/-- A record of SET_METER writes a meter in its ranges (R105, R106). -/
theorem meterOf_sound (s : State) : s.meterOf.sound := by
  have rate : s.argNat 6 8 ≤ 65535 := by
    have bound := beNat_lt ((s.ctl.record.drop 6).take 2)
    have short : ((s.ctl.record.drop 6).take 2).length ≤ 2 := List.length_take_le _ _
    have power : 256 ^ ((s.ctl.record.drop 6).take 2).length ≤ 256 ^ 2 := Nat.pow_le_pow_right (by decide) short
    exact Nat.le_of_lt_succ (bound.trans_le power)
  have burst (v : Nat) : 2048 ≤ clampBurst v ∧ clampBurst v ≤ 1048575 := by
    unfold clampBurst
    omega
  refine ⟨le_rfl, le_rfl, (burst _).1, (burst _).2, (burst _).1, (burst _).2, rate, ?_, ?_, Nat.zero_le _,
    fun _ => ⟨rfl, rfl, rfl⟩⟩
  · exact le_max_left _ _
  · exact max_le (min_le_left _ _) (min_le_left _ _)

theorem Evolves.setMeterCommand (h : Evolves n .debits b s) : Evolves n .debits b s.setMeterCommand := by
  unfold State.setMeterCommand
  split
  · exact h.complete
  · exact (h.setMeter fun _ => meterOf_sound s).complete

/-! ## Machine/Commands.lean -/

theorem poolWithout_sublist (s : State) (i : Fin 16) : (s.poolWithout i).Sublist s.pool := List.filter_sublist

theorem Evolves.putWindow {i : Fin 16} {w : Option Window} {l : List (Nat × SlotRec)} (h : Evolves n d b s)
    (hl : s.poolSound → l.Pairwise fun p q => p.1 < q.1) : Evolves n d b (s.putWindow i w l) := h.next (pool := hl)

/-- The records of a run that was unassigned stand between those below and those above it (R4). -/
theorem assignRun_sound {pool : List (Nat × SlotRec)} {first count : Nat} {role : WinRole} {i : Fin 16}
    (free : lowestRun pool count = some first) (h : pool.Pairwise fun p q => p.1 < q.1) :
    (assignRun pool first count role i).Pairwise fun p q => p.1 < q.1 := by
  have clear := List.find?_some free
  simp only [List.all_eq_true, Bool.or_eq_true, decide_eq_true_eq] at clear
  have low {p} (hp : p ∈ pool.filter fun p => decide (p.1 < first)) : p.1 < first := by
    simpa using (List.mem_filter.1 hp).2
  have high {p} (hp : p ∈ pool.filter fun p => decide (first ≤ p.1)) : first + count ≤ p.1 := by
    obtain ⟨mem, above⟩ := List.mem_filter.1 hp
    have above : first ≤ p.1 := by simpa using above
    rcases clear p mem with below | beyond <;> omega
  have run {p} (hp : p ∈ (List.range count).map fun k => (first + k, SlotRec.fresh role i k)) :
      first ≤ p.1 ∧ p.1 < first + count := by
    obtain ⟨k, hk, rfl⟩ := List.mem_map.1 hp
    have := List.mem_range.1 hk
    constructor <;> dsimp only <;> omega
  unfold assignRun
  rw [List.pairwise_append, List.pairwise_append]
  refine ⟨⟨h.sublist List.filter_sublist, ?_, fun p hp q hq => (low hp).trans_le (run hq).1⟩,
    h.sublist List.filter_sublist, fun p hp q hq => ?_⟩
  · rw [List.pairwise_map]
    exact List.pairwise_lt_range.imp fun hlt => by dsimp only; omega
  · have above := high hq
    rcases List.mem_append.1 hp with hp | hp
    · have := low hp
      omega
    · have := (run hp).2
      omega

theorem Evolves.tryWindow {a : WindowAsk} (h : Evolves n d b s) : Evolves n d b (s.tryWindow a).1 := by
  have kept (i : Fin 16) (x : s.poolSound) : (s.poolWithout i).Pairwise fun p q => p.1 < q.1 :=
    List.Pairwise.sublist (poolWithout_sublist s i) x
  unfold State.tryWindow State.placeWindow
  (repeat' split)
  · exact h
  · exact h
  · exact h
  · exact h
  · rename_i first run
    exact h.putWindow fun x => assignRun_sound run (kept _ x)
  · exact h.putWindow (kept _)
  · exact h
  · exact h

theorem Evolves.setWindow (h : Evolves n d b s) : Evolves n d b s.setWindow := by
  unfold State.setWindow
  split
  · exact h.setCtl
  · exact h.setCtl.tryWindow.complete

theorem Evolves.clearWindow (h : Evolves n d b s) : Evolves n d b s.clearWindow := by
  unfold State.clearWindow
  (repeat' split)
  · exact h.complete
  · exact h.complete
  · exact h.complete
  · exact h.complete
  · exact (h.putWindow fun x => List.Pairwise.sublist (poolWithout_sublist s _) x).complete

theorem Evolves.setInitiator (h : Evolves n d b s) : Evolves n d b s.setInitiator := by
  unfold State.setInitiator
  (repeat' split)
  · exact h.complete
  · exact Evolves.complete (h.next)
  · exact h.complete

theorem Evolves.writeRing {size : Nat} (h : Evolves n d b s) : Evolves n d b (s.writeRing size) := by
  unfold State.writeRing
  dsimp only
  split
  · exact h.setCtl.setCtl.askPage
  · exact h.setCtl

theorem Evolves.writePolicy {c : Fin 16} (h : Evolves n d b s) : Evolves n d b (s.writePolicy c) := h.next

theorem Evolves.setPolicy (h : Evolves n d b s) : Evolves n d b s.setPolicy := by
  unfold State.setPolicy
  (repeat' split)
  · exact h.complete
  · exact h.complete
  · exact h.writePolicy.writeRing.complete

theorem Evolves.discardFaults (h : Evolves n d b s) : Evolves n d b s.discardFaults := by
  unfold State.discardFaults State.clearOne
  (repeat' split)
  · exact h.putFault fun x hx => by cases hx
  · exact h
  · exact h
  · exact h.next (faults := faultsSound_of_keys fun i => .inl (by simp [State.faultKey]))
  · exact h

/-! ## Machine/Resets.lean -/

theorem Evolves.askZeroing (h : Evolves n d b s) : Evolves n d b s.askZeroing := h.askPage

theorem Evolves.deviceFault {cls : FaultClass} (h : Evolves n d b s) : Evolves n d b (s.deviceFault cls) := h.recordFault

theorem Evolves.readFuses (h : Evolves n d b s) : Evolves n d b s.readFuses := by
  unfold State.readFuses
  split
  · exact h.askCipher
  · exact h.deviceFault

theorem Evolves.returnComposing (h : Evolves n d b s) : Evolves n d b s.returnComposing :=
  h.next (faults := faultsSound_of_keys fun i => .inr (by
    have same (e : FaultEntry) : (e.returned.cls, e.returned.channel) = (e.cls, e.channel) := by
      unfold FaultEntry.returned
      split <;> rfl
    simp [State.faultKey, State.returnComposing, Function.comp_def, same]))

theorem Evolves.restartFaults (h : Evolves n d b s) : Evolves n d b s.restartFaults := by
  have advanced : Evolves n d b { s with free := s.free + 1 } := h.next
  unfold State.restartFaults
  (repeat' split)
  · exact h.deviceFault.readFuses
  · exact advanced.readFuses.deviceFault
  · exact advanced.deviceFault.readFuses

end Ops

end Sys2Proof.Machine
end

section
/-!
SUPPORT. Every command but the two reset assertions evolves the state in the sense of `Evolves`, or leaves it unchanged;
the invariants of the meters, the channels, the fault table, the collections and the settled outputs follow.
-/

namespace Sys2Proof.Machine

-- One theorem at a time: elaborated side by side, each would hold a stack of its own.
set_option Elab.async false

/-! ## Outcomes that evolve the state -/

/-- A next state of this outcome is the state itself, or what settling makes of an evolved one; with an entry more in the
transit table only where it has a free place. -/
def Evolving (d : Licence) (s : State) (o : Host.Outcome State Fault Refusal) : Prop :=
  ∀ t, o = .next t → t = s ∨
    ∃ u n, t = u.settle ∧ Evolves n d s u ∧ (n = 0 ∨ n = 1 ∧ s.bus.transit.length < 16)

section Evolving

variable {d : Licence} {s u : State}

theorem Evolving.idle : Evolving d s (idle s) := fun _ h => .inl ((idle_eq_next _ _).1 h).symm

theorem Evolving.fault {f : Fault} : Evolving d s (.fault f) := fun _ h => nomatch h

theorem Evolving.done (h : Evolves 0 d s u) : Evolving d s (done u) := fun _ ht =>
  .inr ⟨u, 0, ((done_eq_next _ _).1 ht).symm, h, .inl rfl⟩

theorem Evolving.licensed {o : Host.Outcome State Fault Refusal} (h : Evolving .plain s o) : Evolving d s o :=
  fun t ht => (h t ht).imp_right fun ⟨u, n, settled, e, room⟩ => ⟨u, n, settled, e.licensed, room⟩

theorem Evolving.command {code : Nat} {f : State → State} (h : Evolves 0 d s (f s)) :
    Evolving d s (command code s f) := by
  unfold Machine.command
  split
  · exact .done h
  · exact .idle

theorem Evolving.answered {id : Nat} {mine : InjOp → Bool} {f : State → State} (h : Evolves 0 d s (f (s.freeInj id))) :
    Evolving d s (answered id mine s f) := by
  unfold Machine.answered
  split
  · split
    · exact .done h
    · exact .idle
  · exact .idle

theorem Evolving.readReturned {id : Nat} {data : List Byte} {mine : InjOp → Bool} {f : InjOp → State → State}
    (h : ∀ op, Evolves 0 d s (f op (s.freeInj id))) : Evolving d s (readReturned id data mine s f) := by
  unfold Machine.readReturned
  split
  · split
    · split
      · exact .done (h _)
      · exact .fault
    · exact .idle
  · exact .idle

/-- The port accepts while the transit table has a free place (R12). -/
theorem transit_lt_of_accepting (h : s.accepting = true) : s.bus.transit.length < 16 := by
  simp only [State.accepting, Bool.and_eq_true, decide_eq_true_eq] at h
  exact h.1.2

theorem Evolving.accepted {x : Transaction} (h : s.accepting = true) : Evolving d s (Machine.done (s.accept x)) :=
  fun _ ht => .inr ⟨_, 1, ((done_eq_next _ _).1 ht).symm, (Evolves.refl s).accept, .inr ⟨rfl, transit_lt_of_accepting h⟩⟩

theorem Evolving.acceptWhen {mine : Bool} {x : Transaction} : Evolving d s (acceptWhen mine x s) := by
  unfold Machine.acceptWhen
  split
  · split
    · rename_i h
      exact .accepted (Bool.and_eq_true_iff.1 h).1
    · exact .idle
  · exact .fault

/-! ## The rows -/

theorem leavePowerOnReset_evolving {f : Fuses} : Evolving d s (execLeavePowerOnReset f s) := by
  unfold execLeavePowerOnReset
  (repeat' split)
  · exact .done (Evolves.refl s).next
  · exact .done (Evolves.refl s).next.askZeroing.readFuses
  · exact .idle

theorem leaveWarmReset_evolving : Evolving d s (execLeaveWarmReset s) := by
  unfold execLeaveWarmReset
  split
  · exact .idle
  · exact .done (Evolves.refl s).next.askZeroing.returnComposing.restartFaults
  · exact .done (Evolves.refl s).next

theorem protocolNoticeStart_evolving : Evolving d s (execProtocolNoticeStart s) := by
  unfold execProtocolNoticeStart
  split
  · rename_i list
    exact .done ((Evolves.refl s).startProtocol _ (list ▸ Nat.le_refl _))
  · exact .idle

theorem faultNoticeStart_evolving : Evolving d s (execFaultNoticeStart s) := by
  unfold execFaultNoticeStart
  dsimp only
  (repeat' split)
  · exact .done (Evolves.refl s).blockNotices
  · exact .idle
  · exact .done (Evolves.refl s).startFaultNotice
  · exact .idle
  · exact .idle

theorem controlPageOtherWrite_evolving {w : PageWrite} : Evolving d s (execControlPageOtherWrite w s) := by
  unfold execControlPageOtherWrite
  (repeat' split)
  · rename_i h
    exact .accepted (Bool.and_eq_true_iff.1 h).1
  · exact .idle
  · exact .fault
  · exact .done (Evolves.refl s).completeWrite
  · exact .idle
  · exact .idle

theorem commandProducerIndexWrite_evolving {id : Nat} : Evolving d s (execCommandProducerIndexWrite id s) := by
  unfold execCommandProducerIndexWrite
  (repeat' split)
  · exact .done (Evolves.refl s).completeWrite
  · exact .idle
  · exact .idle

theorem reportConsumerIndexWrite_evolving {id : Nat} : Evolving d s (execReportConsumerIndexWrite id s) := by
  unfold execReportConsumerIndexWrite
  (repeat' split)
  · exact .done (Evolves.refl s).completeWrite
  · exact .idle
  · exact .idle

theorem snapshotRecordHanded_evolving : Evolving d s (execSnapshotRecordHanded s) := by
  unfold execSnapshotRecordHanded
  (repeat' split)
  · exact .done ((Evolves.refl s).handSnapshot _)
  · exact .idle
  · exact .idle

theorem commandDoneHanded_evolving : Evolving d s (execCommandDoneHanded s) := by
  unfold execCommandDoneHanded
  (repeat' split)
  · exact .done (Evolves.refl s).setCtl.handReport.judgeCompletion
  · exact .idle
  · exact .idle

theorem downstreamGrant_evolving : Evolving d s (execDownstreamGrant s) := by
  unfold execDownstreamGrant
  (repeat' split)
  · exact .done (Evolves.refl s).grantInj
  · exact .done (Evolves.refl s).grantTransit
  · exact .done (Evolves.refl s).grantTransit
  · exact .done (Evolves.refl s).grantInj
  · exact .idle

theorem passedResponse_evolving {id : Nat} {data : List Byte} : Evolving d s (execPassedResponse id data s) := by
  unfold execPassedResponse
  (repeat' split)
  · exact .idle
  · exact .done (Evolves.refl s).readBack
  · exact .done (Evolves.refl s).completeWrite
  · exact .fault

theorem passedErrorResponse_evolving {id : Nat} {data : List Byte} :
    Evolving d s (execPassedErrorResponse id data s) := by
  unfold execPassedErrorResponse
  (repeat' split)
  · exact .idle
  · exact .done (Evolves.refl s).readBack.passedMemoryError
  · exact .done (Evolves.refl s).freeTransit.respond.passedMemoryError.lateError
  · exact .fault

theorem injectionRequestServed_evolving : Evolving d s (execInjectionRequestServed s) := by
  unfold execInjectionRequestServed
  (repeat' split)
  · exact .idle
  · rename_i room
    exact .done ((Evolves.refl s).next.enterInj room)
  · exact .idle

theorem injectedError_evolving {id : Nat} : Evolving d s (execInjectedError id s) := by
  unfold execInjectedError
  split
  · exact .done (Evolves.refl s).failInjected
  · exact .idle

theorem downstreamTimeout_evolving {id : Nat} : Evolving d s (execDownstreamTimeout id s) := by
  unfold execDownstreamTimeout
  (repeat' split)
  · exact .done (Evolves.refl s).failInjected
  · exact .idle
  · exact .idle

theorem commandFetchReturn_evolving {id : Nat} {data : List Byte} : Evolving d s (execCommandFetchReturn id data s) := by
  unfold execCommandFetchReturn
  (repeat' split)
  · refine .done ((Evolves.refl s).freeInj.setCtl fun h => ?_)
    split <;> exact h
  · exact .fault
  · exact .idle
  · exact .idle

theorem cipherGrant_evolving : Evolving d s (execCipherGrant s) := by
  unfold execCipherGrant
  (repeat' split)
  · exact .idle
  · exact .done (Evolves.refl s).grantMiss
  · exact .done (Evolves.refl s).grantBackground
  · exact .idle

theorem keystreamMissComplete_evolving : Evolving d s (execKeystreamMissComplete s) := by
  unfold execKeystreamMissComplete
  (repeat' split)
  · exact .idle
  · exact .done (Evolves.refl s).setCipher
  · exact .done (Evolves.refl s).setCipher.completeMiss
  · exact .done (Evolves.refl s).setCipher
  · exact .idle

theorem backgroundCipherComplete_evolving : Evolving d s (execBackgroundCipherComplete s) := by
  unfold execBackgroundCipherComplete
  (repeat' split)
  · exact .idle
  · exact .done (Evolves.refl s).setCipher
  · exact .done (Evolves.refl s).setCipher.backgroundResult.judgeNotice
  · exact .idle

theorem rootSubkeyComplete_evolving : Evolving d s (execRootSubkeyComplete s) := by
  unfold execRootSubkeyComplete
  (repeat' split)
  · exact .done ((Evolves.refl s).setCipher (g := none)).next
  · exact .idle
  · exact .idle

theorem hashSubkeyReturn_evolving : Evolving d s (execHashSubkeyReturn s) := by
  unfold execHashSubkeyReturn
  (repeat' split)
  · exact .done (Evolves.refl s).setCipher.subkeyReturn
  · exact .done (Evolves.refl s).setCipher
  · exact .idle
  · exact .idle

theorem multiplierGrant_evolving : Evolving d s (execMultiplierGrant s) := by
  unfold execMultiplierGrant
  (repeat' split)
  · exact .idle
  · exact .done (Evolves.refl s).next
  · exact .idle

theorem multiplierProductReturn_evolving : Evolving d s (execMultiplierProductReturn s) := by
  unfold execMultiplierProductReturn
  dsimp only
  (repeat' split)
  · exact .idle
  · exact .done (Evolves.refl s).next
  · exact .done (Evolves.refl s).next.productReturn

theorem finishDecision_evolving {n : Nat} : Evolving d s (execFinishDecision n s) := by
  unfold execFinishDecision
  (repeat' split)
  · exact .idle
  · exact .done (Evolves.refl s).decideFinish
  · exact .idle
  · exact .idle

theorem tailFetchReturn_evolving {id : Nat} {data : List Byte} : Evolving d s (execTailFetchReturn id data s) :=
  .readReturned fun op => by
    split
    · exact (Evolves.refl s).freeInj.tailReturn
    · exact (Evolves.refl s).freeInj

theorem sweepReadReturn_evolving {id : Nat} {data : List Byte} : Evolving d s (execSweepReadReturn id data s) :=
  .readReturned fun op => by
    split
    · exact (Evolves.refl s).freeInj.sweepReturn
    · exact (Evolves.refl s).freeInj

theorem directFinishComplete_evolving {n : Nat} : Evolving d s (execDirectFinishComplete n s) := by
  unfold execDirectFinishComplete
  (repeat' split)
  · exact .idle
  · exact .done (Evolves.refl s).handTag
  · exact .idle

theorem frameWriteAnswered_evolving {id : Nat} : Evolving .debits s (execFrameWriteAnswered id s) := by
  unfold execFrameWriteAnswered
  (repeat' split)
  · exact .done (Evolves.refl s).freeInj.frameAnswered
  · exact .idle
  · exact .idle

theorem tagReadReturn_evolving {id : Nat} {data : List Byte} : Evolving d s (execTagReadReturn id data s) :=
  .readReturned fun op => by
    split
    · exact (Evolves.refl s).freeInj.tagHeld
    · exact (Evolves.refl s).freeInj

theorem noticeLine1WriteAnswered_evolving {id : Nat} : Evolving d s (execNoticeLine1WriteAnswered id s) := by
  unfold execNoticeLine1WriteAnswered
  dsimp only
  (repeat' split)
  · exact .done (Evolves.refl s).freeInj.askNoticeLine0
  · exact .done (Evolves.refl s).freeInj
  · exact .idle
  · exact .idle

theorem noticeCompositionComplete_evolving {id : Nat} : Evolving .debits s (execNoticeCompositionComplete id s) := by
  unfold execNoticeCompositionComplete
  dsimp only
  (repeat' split)
  · exact .done (Evolves.refl s).freeInj.completeComposition
  · exact .done (Evolves.refl s).freeInj
  · exact .idle
  · exact .idle

theorem offerRulingStart_evolving {c : Fin 16} : Evolving d s (execOfferRulingStart c s) := by
  unfold execOfferRulingStart
  split
  · exact .done (Evolves.refl s).startRuling
  · exact .idle

theorem offerPayloadReadReturn_evolving {id : Nat} {data : List Byte} :
    Evolving d s (execOfferPayloadReadReturn id data s) :=
  .readReturned fun op => by
    split
    · exact (Evolves.refl s).freeInj.offerData
    · exact (Evolves.refl s).freeInj

theorem timeBaseTick_evolving : Evolving d s (execTimeBaseTick s) := by
  unfold execTimeBaseTick
  dsimp only
  (repeat' split)
  · exact .idle
  · exact .done (Evolves.refl s).tickInjected.next
  · exact .done (Evolves.refl s).tickInjected.next.tickTimers

/-- A refill keeps the meters in range (R105, R107). -/
theorem meterRefill_evolving : Evolving .debits s (execMeterRefill s) := by
  unfold execMeterRefill
  split
  · exact .idle
  · exact .done { Evolves.refl s with
      meters := fun h => ⟨Meter.refill_sound h.1, Meter.refill_sound h.2⟩
      sameMeters := fun h => absurd rfl h }

theorem cutoverTimerExpiry_evolving {c : Fin 16} : Evolving d s (execCutoverTimerExpiry c s) := by
  unfold execCutoverTimerExpiry
  dsimp only
  have stop : Evolves 0 d s (s.setChan c fun x => { x with cutover := .stopped, cutoverKey := none }) :=
    (Evolves.refl s).setChan (chanStep_of_same rfl rfl rfl rfl (.inr rfl) rfl le_rfl)
  split
  · split
    · exact .done stop.promote
    · exact .done stop
  · exact .idle

theorem graceTimerExpiry_evolving {c : Fin 16} : Evolving d s (execGraceTimerExpiry c s) := by
  unfold execGraceTimerExpiry
  split
  · refine .done (Evolves.judgeKeyOf ((Evolves.refl s).setChan ?_))
    exact ⟨fun ⟨opened, disabled, _⟩ => ⟨opened, fun x => ⟨rfl, (disabled x).2⟩, fun _ => rfl⟩, le_rfl, fun _ x => x⟩
  · exact .idle

theorem holdoffTimerExpiry_evolving : Evolving d s (execHoldoffTimerExpiry s) := by
  unfold execHoldoffTimerExpiry
  split
  · exact .done (Evolves.refl s).next
  · exact .idle

theorem keyLifetimeTick_evolving : Evolving d s (execKeyLifetimeTick s) := by
  unfold execKeyLifetimeTick
  dsimp only
  split
  · exact .idle
  · exact .done ((Evolves.refl s).next.foldl (fun _ _ h => h.lifetimeTick) _)

theorem setWindow_evolving : Evolving d s (execSetWindow s) := .command (Evolves.refl s).setWindow

theorem clearWindow_evolving : Evolving d s (execClearWindow s) := .command (Evolves.refl s).clearWindow

theorem setInitiator_evolving : Evolving d s (execSetInitiator s) := .command (Evolves.refl s).setInitiator

theorem setChannel_evolving : Evolving d s (execSetChannel s) :=
  .command ((Evolves.refl s).onChannel fun _ => (Evolves.refl s).setChannel)

theorem setChannelState_evolving : Evolving .tears s (execSetChannelState s) :=
  .command ((Evolves.refl s).onChannel fun _ => (Evolves.refl s).setChannelState)

theorem dropKeys_evolving : Evolving .tears s (execDropKeys s) :=
  .command ((Evolves.refl s).onChannel fun _ => (Evolves.refl s).dropKeys)

theorem requestRenewal_evolving : Evolving d s (execRequestRenewal s) :=
  .command ((Evolves.refl s).onChannel fun _ => (Evolves.refl s).requestRenewal)

theorem setMeter_evolving : Evolving .debits s (execSetMeter s) := .command (Evolves.refl s).setMeterCommand

theorem setPolicy_evolving : Evolving d s (execSetPolicy s) := .command (Evolves.refl s).setPolicy

theorem clearFaults_evolving : Evolving d s (execClearFaults s) := .command (Evolves.refl s).discardFaults.complete

theorem snapshotFaults_evolving : Evolving d s (execSnapshotFaults s) := .command ((Evolves.refl s).handSnapshot _)

theorem statusWriteAnswered_evolving {id : Nat} : Evolving d s (execStatusWriteAnswered id s) :=
  .answered (Evolves.refl s).freeInj.judgeCompletion

theorem reportRecordWriteAnswered_evolving {id : Nat} : Evolving d s (execReportRecordWriteAnswered id s) :=
  .answered (Evolves.refl s).freeInj.advanceRing.askReportWord

theorem reportProducerWordAnswered_evolving {id : Nat} : Evolving d s (execReportProducerWordAnswered id s) :=
  .answered (Evolves.refl s).freeInj.reportTurn

theorem lostReportCountWriteAnswered_evolving {id : Nat} : Evolving d s (execLostReportCountWriteAnswered id s) :=
  .answered (Evolves.refl s).freeInj.followLost

theorem headerResultWriteAnswered_evolving {id : Nat} : Evolving d s (execHeaderResultWriteAnswered id s) :=
  .answered (Evolves.refl s).freeInj

theorem resetZeroingWriteAnswered_evolving {id : Nat} : Evolving d s (execResetZeroingWriteAnswered id s) :=
  .answered (Evolves.refl s).freeInj

theorem unknownCommand_evolving : Evolving d s (execUnknownCommand s) := by
  unfold execUnknownCommand
  split
  · exact .done (Evolves.refl s).complete
  · exact .idle

end Evolving

/-- What a row may do beyond the common run of events. -/
def licenceOf : Instr → Licence
  | .meterRefill | .setMeter | .frameWriteAnswered _ | .noticeCompositionComplete _ => .debits
  | .setChannelState | .dropKeys => .tears
  | _ => .plain

/-- Every command but the assertion of a reset line evolves the state, or leaves it. -/
theorem exec_evolving (c : Instr) (s : State) (power : ∀ b, c ≠ .powerOnReset b) (warm : c ≠ .warmReset) :
    Evolving (licenceOf c) s (exec c s) := by
  cases c with
  | powerOnReset b => exact absurd rfl (power b)
  | warmReset => exact absurd rfl warm
  | leavePowerOnReset f => exact leavePowerOnReset_evolving
  | leaveWarmReset => exact leaveWarmReset_evolving
  | transactionAccept t | outboundClearWrite t | outboundClearRead t | outboundLineWrite t | inboundLineWrite t
  | inboundClearHeaderWrite t | inboundClearPayloadWrite t | inboundClearRead t | noticeClearHeaderWrite t =>
    exact .acceptWhen
  | controlPageOtherWrite w => exact controlPageOtherWrite_evolving
  | commandProducerIndexWrite i => exact commandProducerIndexWrite_evolving
  | reportConsumerIndexWrite i => exact reportConsumerIndexWrite_evolving
  | downstreamGrant => exact downstreamGrant_evolving
  | passedResponse i data => exact passedResponse_evolving
  | passedErrorResponse i data => exact passedErrorResponse_evolving
  | injectionRequestServed => exact injectionRequestServed_evolving
  | injectedError i => exact injectedError_evolving
  | downstreamTimeout i => exact downstreamTimeout_evolving
  | staleResponse i => exact .idle
  | cipherGrant => exact cipherGrant_evolving
  | keystreamMissComplete => exact keystreamMissComplete_evolving
  | backgroundCipherComplete => exact backgroundCipherComplete_evolving
  | rootSubkeyComplete => exact rootSubkeyComplete_evolving
  | multiplierGrant => exact multiplierGrant_evolving
  | multiplierProductReturn => exact multiplierProductReturn_evolving
  | finishDecision n => exact finishDecision_evolving
  | tailFetchReturn i data => exact tailFetchReturn_evolving
  | sweepReadReturn i data => exact sweepReadReturn_evolving
  | directFinishComplete n => exact directFinishComplete_evolving
  | frameWriteAnswered i => exact frameWriteAnswered_evolving
  | tagReadReturn i data => exact tagReadReturn_evolving
  | offerRulingStart c => exact offerRulingStart_evolving
  | offerPayloadReadReturn i data => exact offerPayloadReadReturn_evolving
  | hashSubkeyReturn => exact hashSubkeyReturn_evolving
  | protocolNoticeStart => exact protocolNoticeStart_evolving
  | faultNoticeStart => exact faultNoticeStart_evolving
  | noticeLine1WriteAnswered i => exact noticeLine1WriteAnswered_evolving
  | noticeCompositionComplete i => exact noticeCompositionComplete_evolving
  | commandFetchReturn i data => exact commandFetchReturn_evolving
  | setWindow => exact setWindow_evolving
  | clearWindow => exact clearWindow_evolving
  | setInitiator => exact setInitiator_evolving
  | setChannel => exact setChannel_evolving
  | setChannelState => exact setChannelState_evolving
  | dropKeys => exact dropKeys_evolving
  | requestRenewal => exact requestRenewal_evolving
  | setMeter => exact setMeter_evolving
  | setPolicy => exact setPolicy_evolving
  | clearFaults => exact clearFaults_evolving
  | snapshotFaults => exact snapshotFaults_evolving
  | snapshotRecordHanded => exact snapshotRecordHanded_evolving
  | unknownCommand => exact unknownCommand_evolving
  | commandDoneHanded => exact commandDoneHanded_evolving
  | statusWriteAnswered i => exact statusWriteAnswered_evolving
  | reportRecordWriteAnswered i => exact reportRecordWriteAnswered_evolving
  | reportProducerWordAnswered i => exact reportProducerWordAnswered_evolving
  | lostReportCountWriteAnswered i => exact lostReportCountWriteAnswered_evolving
  | timeBaseTick => exact timeBaseTick_evolving
  | meterRefill => exact meterRefill_evolving
  | cutoverTimerExpiry c => exact cutoverTimerExpiry_evolving
  | graceTimerExpiry c => exact graceTimerExpiry_evolving
  | holdoffTimerExpiry => exact holdoffTimerExpiry_evolving
  | keyLifetimeTick => exact keyLifetimeTick_evolving
  | headerResultWriteAnswered i => exact headerResultWriteAnswered_evolving
  | resetZeroingWriteAnswered i => exact resetZeroingWriteAnswered_evolving
/-! ## The two reset assertions (R21) -/

/-- What POWER_ON_RESET makes of the state, before it settles. -/
def State.poweredOn (s : State) (b : BitVec 28) : State :=
  { State.reset with
    pending := s.pending
    line := .powerOn
    wrstnToo := s.wrstnHeld
    straps := b
    fuses := s.fuses
    windows := resetWindows b
    bus := Bus.cleared s.bus.up s.bus.down
    stamp := s.stamp
    free := s.free }

/-- What WARM_RESET makes of the state outside power-on reset, before it settles. -/
def State.warmed (s : State) : State :=
  { s with
    line := .warm
    windows := resetWindows s.straps
    classes := resetClasses
    pool := []
    bus := Bus.cleared s.bus.up s.bus.down
    ks := Keystream.cleared
    merges := []
    channels := s.channels.map fun c => Channel.cleared c.highMark
    meterA := Meter.cleared
    meterB := Meter.cleared
    keys := KeyStore.cleared
    faults := s.faults.warm
    notices := NoticeEngine.cleared
    ctl := ControlUnit.cleared }

theorem execPowerOnReset_next {b : BitVec 28} {s t : State} :
    execPowerOnReset b s = .next t ↔ (s.poweredOn b).settle = t := done_eq_next _ _

theorem execWarmReset_next {s t : State} (h : execWarmReset s = .next t) :
    s.line = .powerOn ∧ t = ({ s with wrstnToo := true }).settle ∨ s.line ≠ .powerOn ∧ t = s.warmed.settle := by
  unfold execWarmReset at h
  split at h
  · exact .inl ⟨‹_›, ((done_eq_next _ _).1 h).symm⟩
  · exact .inr ⟨‹_›, ((done_eq_next _ _).1 h).symm⟩

@[simp] theorem poweredOn_chan (s : State) (b : BitVec 28) (c : Fin 16) : (s.poweredOn b).chan c = Channel.cleared 0 :=
  reset_chan c

@[simp] theorem warmed_chan (s : State) (c : Fin 16) : s.warmed.chan c = Channel.cleared (s.chan c).highMark := by
  simp [State.warmed, State.chan]

theorem warmed_faultKey (s : State) (i : Fin 32) : s.warmed.faultKey i = s.faultKey i := rfl

/-- A bus without entries has sound ages. -/
theorem agesSound_of_empty {s : State} (transit : s.bus.transit = []) (inj : s.bus.inj = []) : s.agesSound := by
  simp [State.agesSound, transit, inj]

/-! ## What every step keeps -/

/-- A predicate that both reset assertions establish or keep, and that evolving states keep, is kept by every command. -/
theorem exec_keeps_of_evolves {P : State → Prop} (power : ∀ (s : State) (b : BitVec 28), P (s.poweredOn b))
    (warm : ∀ s, P s → P s.warmed)
    (both : ∀ s, P s → P { s with wrstnToo := true })
    (evolve : ∀ (d : Licence) (n : Nat) (b s : State), Evolves n d b s → (n = 0 ∨ n = 1 ∧ b.bus.transit.length < 16) →
      P b → P s) (c : Instr) (s t : State) (hs : P s) (h : exec c s = .next t) : P t := by
  have settles {u : State} (hu : P u) : P u.settle := evolve .plain 0 u _ (Evolves.refl u).settle (.inl rfl) hu
  by_cases hp : ∃ b, c = .powerOnReset b
  · obtain ⟨b, rfl⟩ := hp
    rw [← execPowerOnReset_next.1 h]
    exact settles (power s b)
  by_cases hw : c = .warmReset
  · subst hw
    rcases execWarmReset_next h with ⟨-, rfl⟩ | ⟨-, rfl⟩
    · exact settles (both s hs)
    · exact settles (warm s hs)
  rcases exec_evolving c s (fun b hb => hp ⟨b, hb⟩) hw t h with rfl | ⟨u, n, rfl, e, room⟩
  · exact hs
  · exact evolve _ n s _ e.settle room hs

/-- Settles O4: every operation keeps the meters or puts them into range. -/
theorem metersStayInRange : Obligations.MetersStayInRange := fun _ _ hs h =>
  step_keeps (P := State.metersSound) (fun _ _ => id)
    (exec_keeps_of_evolves (fun _ _ => ⟨Meter.cleared_sound, Meter.cleared_sound⟩)
      (fun _ _ => ⟨Meter.cleared_sound, Meter.cleared_sound⟩) (fun _ => id) fun _ _ _ _ e _ => e.meters) hs h

/-- Settles O5: every change of a channel record is one of `ChanStep`, which keeps it sound. -/
theorem channelsStaySound : Obligations.ChannelsStaySound := fun _ _ hs h =>
  step_keeps (P := State.channelsSound) (fun _ _ => id)
    (exec_keeps_of_evolves
      (fun s b c => by
        rw [poweredOn_chan]
        exact cleared_sound 0)
      (fun s _ c => by
        rw [warmed_chan]
        exact cleared_sound _)
      (fun _ => id) fun _ _ _ _ e _ hb c => (e.chans c).1 (hb c)) hs h

/-- Settles O6: an occurrence enters a key only where no entry has it. -/
theorem faultKeysStayUnique : Obligations.FaultKeysStayUnique := fun _ _ hs h =>
  step_keeps (P := State.faultsSound) (fun _ _ => id)
    (exec_keeps_of_evolves (fun _ _ => resetStateIsSound.2.2.2.1) (fun _ hs => hs)
      (fun _ => id) fun _ _ _ _ e _ => e.faults) hs h

/-- A command leaves the state as it was, or settles. -/
theorem exec_settles (c : Instr) {s t : State} (h : exec c s = .next t) : t = s ∨ ∃ u, t = State.settle u := by
  by_cases hp : ∃ b, c = .powerOnReset b
  · obtain ⟨b, rfl⟩ := hp
    exact .inr ⟨_, (execPowerOnReset_next.1 h).symm⟩
  by_cases hw : c = .warmReset
  · subst hw
    rcases execWarmReset_next h with ⟨-, rfl⟩ | ⟨-, rfl⟩ <;> exact .inr ⟨_, rfl⟩
  rcases exec_evolving c s (fun b hb => hp ⟨b, hb⟩) hw t h with rfl | ⟨u, -, rfl, -, -⟩
  · exact .inl rfl
  · exact .inr ⟨u, rfl⟩

/-- Settles O7: a step that does anything ends with a settling. -/
theorem everyStepSettles : Obligations.EveryStepSettles := by
  intro s t irq passover rested h
  refine step_keeps (P := fun u => u.irqSound ∧ u.passoverSound ∧ u.rested) (fun _ _ => id) ?_ ⟨irq, passover, rested⟩ h
  rintro c u v ⟨irq, passover, rested⟩ h
  rcases exec_settles c h with rfl | ⟨w, rfl⟩
  · exact ⟨irq, passover, rested⟩
  · exact ⟨w.settle_irqSound, exec_keeps_passoverSound c u _ passover h, w.settle_rested⟩

/-- Settles O8: every entry comes with a new age and only where a place is free. -/
theorem collectionsStaySound : Obligations.CollectionsStaySound := by
  refine ⟨fun _ _ => ?_, fun _ _ => ?_, fun _ _ => ?_⟩
  · refine step_keeps (P := State.agesSound) (fun _ _ => id)
      (exec_keeps_of_evolves (fun _ _ => agesSound_of_empty rfl rfl) (fun _ _ => agesSound_of_empty rfl rfl)
        (fun _ => id) fun _ _ _ _ e _ => e.ages)
  · refine step_keeps (P := State.poolSound) (fun _ _ => id)
      (exec_keeps_of_evolves (fun _ _ => List.Pairwise.nil) (fun _ _ => List.Pairwise.nil) (fun _ => id)
        fun _ _ _ _ e _ => e.pool)
  · refine step_keeps (P := State.sizesSound) (fun _ _ => id)
      (exec_keeps_of_evolves (fun _ _ => ?_) (fun _ _ => ?_) (fun _ => id) ?_)
    · exact ⟨Nat.zero_le _, Nat.zero_le _, Nat.zero_le _, Nat.zero_le _, Nat.zero_le _, Nat.zero_le _⟩
    · exact ⟨Nat.zero_le _, Nat.zero_le _, Nat.zero_le _, Nat.zero_le _, Nat.zero_le _, Nat.zero_le _⟩
    · rintro d n b s e room ⟨transit, inj, misses, merges, list, queue⟩
      have grown := e.transit
      exact ⟨by omega, e.inj inj, e.misses misses, e.merges merges, e.list list, e.queue queue⟩

/-- Settles O11: no change of a channel record lowers its mark, and a warm reset keeps it. -/
theorem offerMarkNeverFalls : Obligations.OfferMarkNeverFalls := by
  intro c s t power h d
  by_cases hw : c = .warmReset
  · subst hw
    rcases execWarmReset_next h with ⟨-, rfl⟩ | ⟨-, rfl⟩ <;> rw [State.settle_chan]
    · exact Nat.le_refl _
    · rw [warmed_chan]
      exact Nat.le_refl _
  · rcases exec_evolving c s power hw t h with rfl | ⟨u, n, rfl, e, -⟩
    · exact Nat.le_refl _
    · rw [State.settle_chan]
      exact (e.chans d).2.1

/-! ## The settings (R2, R6, R8, R17, R20, R155, R182) -/

/-- What O10 says of the settings and the queue of commands, of one command. -/
def SettingsKept (c : Instr) (x y : Steady) : Prop :=
  y.pending = x.pending ∧
  ((∀ b, c ≠ .powerOnReset b) → y.straps = x.straps) ∧
  ((∀ f, c ≠ .leavePowerOnReset f) → y.fuses = x.fuses) ∧
  ((∀ b, c ≠ .powerOnReset b) → c ≠ .warmReset → (∀ f, c ≠ .leavePowerOnReset f) → c ≠ .leaveWarmReset →
    y.line = x.line ∧ y.wrstnToo = x.wrstnToo) ∧
  ((∀ b, c ≠ .powerOnReset b) → c ≠ .timeBaseTick → c ≠ .meterRefill → c ≠ .keyLifetimeTick → y.time = x.time) ∧
  (c ≠ .downstreamGrant → y.down = x.down) ∧
  ((∀ b, c ≠ .powerOnReset b) → c ≠ .warmReset →
    (c ≠ .setWindow → c ≠ .clearWindow → y.windows = x.windows) ∧
    (c ≠ .setInitiator → y.classes = x.classes) ∧
    (c ≠ .downstreamGrant → y.passover = x.passover) ∧
    (c ≠ .setPolicy → y.timeout = x.timeout ∧ y.localMask = x.localMask ∧ y.noticeMask = x.noticeMask ∧
      y.guardOnFatal = x.guardOnFatal ∧ y.reporting = x.reporting ∧ y.holdoffSecs = x.holdoffSecs))

theorem settingsKept_refl (c : Instr) (x : Steady) : SettingsKept c x x := by simp [SettingsKept]

theorem settingsKept_of_command {c : Instr} {code : Nat} {s t : State} {f : State → State}
    (effect : SettingsKept c s.steady (f s).steady) (h : command code s f = .next t) : SettingsKept c s.steady t.steady := by
  rcases command_steady h with same | rfl
  · rw [same]
    exact effect
  · exact settingsKept_refl _ _

theorem exec_settingsKept (c : Instr) (s t : State) (h : exec c s = .next t) : SettingsKept c s.steady t.steady := by
  cases hc : setsSettings c with
  | false =>
    rw [exec_keeps_steady c s hc t h]
    exact settingsKept_refl _ _
  | true =>
    cases c with
    | powerOnReset b =>
      rw [← execPowerOnReset_next.1 h, State.settle_steady]
      simp [SettingsKept, State.poweredOn, State.steady, Bus.cleared]
    | warmReset =>
      rcases execWarmReset_next h with ⟨-, rfl⟩ | ⟨-, rfl⟩ <;> rw [State.settle_steady] <;>
        simp [SettingsKept, State.steady, State.warmed, Bus.cleared]
    | leavePowerOnReset f =>
      obtain ⟨line, both, fuses, same⟩ := execLeavePowerOnReset_steady h
      simp [SettingsKept, same]
    | leaveWarmReset =>
      obtain ⟨line, both, same⟩ := execLeaveWarmReset_steady h
      simp [SettingsKept, same]
    | downstreamGrant =>
      obtain ⟨passover, down, same, -⟩ := execDownstreamGrant_steady h
      simp [SettingsKept, same]
    | setWindow =>
      obtain ⟨w, same, -⟩ := s.setWindow_steady
      exact settingsKept_of_command (by simp [SettingsKept, same]) h
    | clearWindow =>
      obtain ⟨w, same, -⟩ := s.clearWindow_steady
      exact settingsKept_of_command (by simp [SettingsKept, same]) h
    | setInitiator =>
      obtain ⟨classes, same⟩ := s.setInitiator_steady
      exact settingsKept_of_command (by simp [SettingsKept, same]) h
    | setPolicy =>
      obtain ⟨timeout, localMask, noticeMask, guard, reporting, secs, same⟩ := s.setPolicy_steady
      exact settingsKept_of_command (by simp [SettingsKept, same]) h
    | timeBaseTick =>
      obtain ⟨time, same⟩ := execTimeBaseTick_steady h
      simp [SettingsKept, same]
    | meterRefill =>
      obtain ⟨time, same⟩ := execMeterRefill_steady h
      simp [SettingsKept, same]
    | keyLifetimeTick =>
      obtain ⟨time, same⟩ := execKeyLifetimeTick_steady h
      simp [SettingsKept, same]
    | _ => cases hc

/-- The rows without the licence to debit leave the meters (R105, R110). -/
theorem licenceOf_ne_debits {c : Instr} (refill : c ≠ .meterRefill) (set : c ≠ .setMeter)
    (frame : ∀ i, c ≠ .frameWriteAnswered i) (notice : ∀ i, c ≠ .noticeCompositionComplete i) :
    licenceOf c ≠ .debits := by
  intro h
  cases c with
  | meterRefill => exact refill rfl
  | setMeter => exact set rfl
  | frameWriteAnswered i => exact frame i rfl
  | noticeCompositionComplete i => exact notice i rfl
  | _ => cases h

theorem exec_sameMeters (c : Instr) (s t : State) (h : exec c s = .next t) (power : ∀ b, c ≠ .powerOnReset b)
    (warm : c ≠ .warmReset) (free : licenceOf c ≠ .debits) : SameMeters s t := by
  rcases exec_evolving c s power warm t h with rfl | ⟨u, n, rfl, e, -⟩
  · exact ⟨rfl, rfl⟩
  · exact e.settle.sameMeters free

/-- Settles O10: the settings by what each row keeps of `State.steady`, the meters by the rows' licences. -/
theorem settingsHaveTheirCommands : Obligations.SettingsHaveTheirCommands := by
  intro c s t h
  obtain ⟨pending, straps, fuses, lines, time, down, kept⟩ := exec_settingsKept c s t h
  refine ⟨pending, straps, fuses, lines, time, down, fun power warm => ?_⟩
  obtain ⟨windows, classes, passover, policy⟩ := kept power warm
  exact ⟨windows, classes, passover, policy, fun refill set frame notice =>
    exec_sameMeters c s t h power warm (licenceOf_ne_debits refill set frame notice)⟩

end Sys2Proof.Machine
end

section
/-!
SUPPORT. What a settling leaves the same, the handing on of report records as `Handed` states it, and the Fault Unit: the
fault table, the channels and the reports after an occurrence.
-/

namespace Sys2Proof.Machine

-- One theorem at a time: elaborated side by side, each would hold a stack of its own.
set_option Elab.async false

/-! ## What a settling leaves the same -/

section Settling

variable {s u : State}

@[simp] theorem sameFrames_settle : SameFrames s u.settle ↔ SameFrames s u := by simp [SameFrames]

@[simp] theorem sameKeys_settle : SameKeys s u.settle ↔ SameKeys s u := by simp [SameKeys]

@[simp] theorem sameMeters_settle : SameMeters s u.settle ↔ SameMeters s u := by simp [SameMeters]

@[simp] theorem sameFaults_settle : SameFaults s u.settle ↔ SameFaults s u := by simp [SameFaults]

theorem SameNotices.settle (h : SameNotices s u) : SameNotices s u.settle := by
  have hs := u.settle_sameNotices
  unfold SameNotices at hs h ⊢
  rw [hs, h]

theorem SameControl.settle (h : SameControl s u) : SameControl s u.settle := by
  unfold SameControl at h ⊢
  rw [State.settle_ctl, h]

@[simp] theorem otherRecords_settle {n : Nat} : OtherRecords s u.settle n ↔ OtherRecords s u n := by simp [OtherRecords]

@[simp] theorem otherChannels_settle {c : Fin 16} : OtherChannels s u.settle c ↔ OtherChannels s u c := by
  simp [OtherChannels]

@[simp] theorem otherKeys_settle {k : Fin 32} : OtherKeys s u.settle k ↔ OtherKeys s u k := by simp [OtherKeys]

end Settling

/-! ## Report records (R179, R180) -/

/-- Whether an operation is one of the ring's writes: a record's, or the producer word's. -/
def InjOp.ringWrite (op : InjOp) : Bool := decide (op = .reportRecord) || decide (op = .reportWord)

/-- Everything that a statement on report records reads of the bus: whether a ring write is outstanding, and the record
writes that have been requested. -/
def State.records (s : State) : List InjReq := (s.requests ++ s.bus.injAsked).filter fun q => decide (q.op = .reportRecord)

theorem mem_records {s : State} {q : InjReq} :
    q ∈ s.records ↔ q ∈ s.requests ++ s.bus.injAsked ∧ q.op = .reportRecord := by
  simp only [State.records, List.mem_filter, decide_eq_true_eq]

/-- Nothing of what the handing on of report records reads or writes has changed, but perhaps the lost-report count. -/
structure Calm (s t : State) : Prop where
  windows : t.windows = s.windows
  ring : t.ctl.ringSize = s.ctl.ringSize ∧ t.ctl.ringProducer = s.ctl.ringProducer ∧
    t.ctl.ringConsumer = s.ctl.ringConsumer
  queue : t.ctl.queue = s.ctl.queue
  outstanding : t.reportOutstanding = s.reportOutstanding
  records : s.records ⊆ t.records

/-- Nothing of what the handing on of report records reads or writes has changed. -/
structure Quiet (s t : State) : Prop extends Calm s t where
  lost : t.ctl.lost = s.ctl.lost

theorem Calm.refl (s : State) : Calm s s := ⟨rfl, ⟨rfl, rfl, rfl⟩, rfl, rfl, List.Subset.refl _⟩

theorem Quiet.refl (s : State) : Quiet s s := ⟨Calm.refl s, rfl⟩

theorem Calm.trans {s t u : State} (h : Calm s t) (g : Calm t u) : Calm s u where
  windows := g.windows.trans h.windows
  ring := by
    obtain ⟨size, producer, consumer⟩ := h.ring
    obtain ⟨size', producer', consumer'⟩ := g.ring
    exact ⟨size'.trans size, producer'.trans producer, consumer'.trans consumer⟩
  queue := g.queue.trans h.queue
  outstanding := g.outstanding.trans h.outstanding
  records := List.Subset.trans h.records g.records

theorem Quiet.trans {s t u : State} (h : Quiet s t) (g : Quiet t u) : Quiet s u :=
  ⟨h.toCalm.trans g.toCalm, g.lost.trans h.lost⟩

/-- A change outside the Control Unit, the windows and the requests is quiet. -/
theorem quiet_of_same {s t : State} (windows : t.windows = s.windows) (ctl : t.ctl = s.ctl)
    (inj : t.bus.inj = s.bus.inj) (waiting : t.bus.injWaiting = s.bus.injWaiting)
    (asked : t.bus.injAsked = s.bus.injAsked) : Quiet s t where
  windows := windows
  ring := by simp [ctl]
  queue := by rw [ctl]
  outstanding := by simp [State.reportOutstanding, Bus.outstanding, inj, waiting, asked]
  records := by simp [State.records, State.requests, inj, waiting, asked]
  lost := by rw [ctl]

theorem reportOutstanding_ask (s : State) (r : InjReq) :
    (s.ask r).reportOutstanding = (s.reportOutstanding || r.op.ringWrite) := by
  simp [State.reportOutstanding, Bus.outstanding, State.ask, InjOp.ringWrite, Bool.or_assoc]

theorem records_ask (s : State) (r : InjReq) : s.records ⊆ (s.ask r).records := by
  intro q
  simp only [mem_records, State.requests, State.ask, List.mem_append]
  tauto

/-- A request for anything but a write of the ring is quiet. -/
theorem quiet_ask {s : State} {r : InjReq} (h : r.op.ringWrite = false) : Quiet s (s.ask r) where
  windows := rfl
  ring := ⟨rfl, rfl, rfl⟩
  queue := rfl
  outstanding := by rw [reportOutstanding_ask, h, Bool.or_false]
  records := records_ask s r
  lost := rfl

/-- Whether the ring takes records now: live, and not full. -/
def State.ringTakes (s : State) : Bool := s.ringLive && !s.ctl.ringFull

theorem reportWindow_of_same {s t : State} (windows : t.windows = s.windows) : t.reportWindow = s.reportWindow := by
  rw [State.reportWindow, windows, State.reportWindow]

theorem ringTakes_of_same {s t : State} (windows : t.windows = s.windows)
    (ring : t.ctl.ringSize = s.ctl.ringSize ∧ t.ctl.ringProducer = s.ctl.ringProducer ∧
      t.ctl.ringConsumer = s.ctl.ringConsumer) : t.ringTakes = s.ringTakes := by
  obtain ⟨size, producer, consumer⟩ := ring
  simp only [State.ringTakes, State.ringLive, ControlUnit.ringFull, reportWindow_of_same windows, size, producer, consumer]

/-- What the loss of one record does (R180). -/
theorem loseReport_lost (s : State) : s.loseReport.ctl.lost = min (s.ctl.lost + 1) 4294967295 := by
  unfold State.loseReport
  dsimp only
  (repeat' split)
  · rename_i h
    exact h.symm
  · rfl
  · rfl

/-- The loss of one record changes nothing else that the handing on of records reads. -/
theorem loseReport_calm (s : State) : Calm s s.loseReport := by
  unfold State.loseReport
  dsimp only
  (repeat' split)
  · exact Calm.refl s
  · exact ⟨rfl, ⟨rfl, rfl, rfl⟩, rfl, rfl, List.Subset.refl _⟩
  · refine Calm.trans (t := { s with ctl := { s.ctl with lost := _, lostWritten := _ } }) ?_ (quiet_ask rfl).toCalm
    exact ⟨rfl, ⟨rfl, rfl, rfl⟩, rfl, rfl, List.Subset.refl _⟩

/-- What a step has handed on, with what the next record finds: whether a ring write is outstanding, and the queue. -/
structure Hands (s t : State) (l : List Report) : Prop where
  windows : t.windows = s.windows
  ring : t.ctl.ringSize = s.ctl.ringSize ∧ t.ctl.ringProducer = s.ctl.ringProducer ∧
    t.ctl.ringConsumer = s.ctl.ringConsumer
  records : s.records ⊆ t.records
  waiting : s.reportOutstanding = true → s.ctl.queue.length ≤ 8 → t.reportOutstanding = true ∧
    t.ctl.queue = (s.ctl.queue ++ l).take 8 ∧
    t.ctl.lost = if s.ctl.queue.length + l.length ≤ 8 then s.ctl.lost
      else min (s.ctl.lost + (s.ctl.queue.length + l.length - 8)) 4294967295
  taken : ∀ (i : Fin 16) (w : Window), s.reportOutstanding = false → s.ctl.queue = [] → s.ringTakes = true →
    s.reportWindow = some (i, w) →
    (l = [] → t.reportOutstanding = false ∧ t.ctl.queue = [] ∧ t.ctl.lost = s.ctl.lost) ∧
    ∀ q rest, l = q :: rest → t.reportOutstanding = true ∧
      (∃ a ∈ t.records, a.start = w.base.toNat + 32 * s.ctl.ringProducer ∧ a.access = .write (q.bytes.map some)) ∧
      t.ctl.queue = rest.take 8 ∧
      t.ctl.lost = if rest.length ≤ 8 then s.ctl.lost else min (s.ctl.lost + (rest.length - 8)) 4294967295
  dropped : s.reportOutstanding = false → s.ctl.queue = [] → s.ringTakes = false →
    t.reportOutstanding = false ∧ t.ctl.queue = [] ∧
    t.ctl.lost = if l = [] then s.ctl.lost else min (s.ctl.lost + l.length) 4294967295

theorem Hands.refl (s : State) : Hands s s [] where
  windows := rfl
  ring := ⟨rfl, rfl, rfl⟩
  records := List.Subset.refl _
  waiting := fun out short => ⟨out, by simp [List.take_of_length_le short], by simp [short]⟩
  taken := fun _ _ out empty _ _ => ⟨fun _ => ⟨out, empty, rfl⟩, fun _ _ h => nomatch h⟩
  dropped := fun out empty _ => ⟨out, empty, by simp⟩

/-- A quiet change after the records have been handed on. -/
theorem Hands.quiet {s t u : State} {l : List Report} (h : Hands s t l) (g : Quiet t u) : Hands s u l := by
  obtain ⟨size, producer, consumer⟩ := g.ring
  have queue := g.queue
  have lost := g.lost
  obtain ⟨hs, hp, hc⟩ := h.ring
  refine ⟨g.windows.trans h.windows, ⟨size.trans hs, producer.trans hp, consumer.trans hc⟩,
    List.Subset.trans h.records g.records, ?_, ?_, ?_⟩
  · rw [g.outstanding, queue, lost]
    exact h.waiting
  · rw [g.outstanding, queue, lost]
    intro i w out empty takes window
    refine ⟨(h.taken i w out empty takes window).1, fun q rest hl => ?_⟩
    obtain ⟨out', ⟨a, ha, at_⟩, rest'⟩ := (h.taken i w out empty takes window).2 q rest hl
    exact ⟨out', ⟨a, g.records ha, at_⟩, rest'⟩
  · rw [g.outstanding, queue, lost]
    exact h.dropped

/-- The state with this report queue. -/
def State.queued (s : State) (l : List Report) : State := { s with ctl := { s.ctl with queue := l } }

theorem handReport_of_place {s : State} (r : Report) (room : s.ctl.queue.length < 8) :
    s.handReport r = State.reportTurns (s.ctl.queue ++ [r]) (s.queued (s.ctl.queue ++ [r])) :=
  if_pos (decide_eq_true room)

/-- A record finds no place in a full queue (R179). -/
theorem handReport_full {s : State} (r : Report) (full : ¬ s.ctl.queue.length < 8) : s.handReport r = s.loseReport :=
  if_neg fun place => full (of_decide_eq_true place)

theorem reportTurns_waits {s : State} (q : Report) (l : List Report) (out : s.reportOutstanding = true) :
    State.reportTurns (q :: l) s = s.queued (q :: l) := by
  unfold State.reportTurns
  exact if_pos out

theorem reportTurns_one {s : State} (q : Report) (out : s.reportOutstanding = false) :
    State.reportTurns [q] s = (if s.ringTakes then s.askRecord q else s.loseReport).queued [] := by
  unfold State.reportTurns
  rw [if_neg (by simp [out])]
  by_cases h : s.ringTakes
  · rw [if_pos h]
    exact if_pos h
  · rw [if_neg h]
    exact if_neg h

/-- A record waits behind the ring's outstanding write while the queue has a place (R179). -/
theorem handReport_waits {s : State} (r : Report) (out : s.reportOutstanding = true) (room : s.ctl.queue.length < 8) :
    s.handReport r = s.queued (s.ctl.queue ++ [r]) := by
  rw [handReport_of_place r room]
  cases hq : s.ctl.queue ++ [r] with
  | nil => simp at hq
  | cons q l => exact reportTurns_waits (s := s.queued (q :: l)) q l out

/-- With no ring write outstanding and an empty queue, a record has its turn at once (R179). -/
theorem handReport_turn {s : State} (r : Report) (out : s.reportOutstanding = false) (empty : s.ctl.queue = []) :
    s.handReport r = (if s.ringTakes then (s.queued [r]).askRecord r else (s.queued [r]).loseReport).queued [] := by
  rw [handReport_of_place r (by simp [empty]), empty]
  exact reportTurns_one r out

/-- A full queue keeps its records, and one with a place takes the next. -/
theorem take_append_one {l : List Report} (r : Report) :
    (if (l.take 8).length < 8 then l.take 8 ++ [r] else l.take 8) = (l ++ [r]).take 8 := by
  rw [List.length_take]
  by_cases short : l.length < 8
  · rw [if_pos (by omega), List.take_of_length_le (by omega), List.take_of_length_le (by simp; omega)]
  · rw [if_neg (by omega), List.take_append_of_le_length (by omega)]

theorem saturate_one (a n top : Nat) : min (min (a + n) top + 1) top = min (a + (n + 1)) top := by omega

/-- The lost-report count after one record more of a queue of eight. -/
theorem lost_one (a n top : Nat) :
    (if min 8 n < 8 then (if n ≤ 8 then a else min (a + (n - 8)) top)
      else min ((if n ≤ 8 then a else min (a + (n - 8)) top) + 1) top) =
    if n + 1 ≤ 8 then a else min (a + (n + 1 - 8)) top := by
  split <;> split <;> split <;> omega

/-- A record that is handed on while a ring write is outstanding: it joins the queue, or is lost (R179). -/
theorem handReport_outstanding {t : State} (r : Report) (out : t.reportOutstanding = true) :
    (t.handReport r).reportOutstanding = true ∧
    (t.handReport r).ctl.queue = (if t.ctl.queue.length < 8 then t.ctl.queue ++ [r] else t.ctl.queue) ∧
    (t.handReport r).ctl.lost = if t.ctl.queue.length < 8 then t.ctl.lost else min (t.ctl.lost + 1) 4294967295 := by
  by_cases room : t.ctl.queue.length < 8
  · rw [handReport_waits r out room, if_pos room, if_pos room]
    exact ⟨out, rfl, rfl⟩
  · rw [handReport_full r room, if_neg room, if_neg room]
    exact ⟨(loseReport_calm t).outstanding.trans out, (loseReport_calm t).queue, loseReport_lost t⟩

/-- A record that the ring takes at once (R179). -/
theorem handReport_taken {t : State} {i : Fin 16} {w : Window} (r : Report) (out : t.reportOutstanding = false)
    (empty : t.ctl.queue = []) (takes : t.ringTakes = true) (window : t.reportWindow = some (i, w)) :
    (t.handReport r).reportOutstanding = true ∧
    (∃ a ∈ (t.handReport r).records, a.start = w.base.toNat + 32 * t.ctl.ringProducer ∧
      a.access = .write (r.bytes.map some)) ∧
    (t.handReport r).ctl.queue = [] ∧ (t.handReport r).ctl.lost = t.ctl.lost := by
  rw [handReport_turn r out empty, if_pos takes]
  have asked : (t.queued [r]).askRecord r = (t.queued [r]).ask
      ⟨.reportRecord, 4, w.base.toNat + 32 * t.ctl.ringProducer, .write (strobeAll r.bytes), some i, none⟩ := by
    have same : (t.queued [r]).reportWindow = some (i, w) := window
    unfold State.askRecord
    rw [same]
    rfl
  rw [asked]
  refine ⟨(reportOutstanding_ask (t.queued [r]) _).trans (by simp [InjOp.ringWrite]), ?_, rfl, rfl⟩
  exact ⟨_, mem_records.2 ⟨List.mem_append_right _ (List.mem_append_right _ (List.mem_singleton_self _)), rfl⟩, rfl, rfl⟩

/-- A record that no ring takes is lost (R179, R180). -/
theorem handReport_dropped {t : State} (r : Report) (out : t.reportOutstanding = false) (empty : t.ctl.queue = [])
    (takes : t.ringTakes = false) :
    (t.handReport r).reportOutstanding = false ∧ (t.handReport r).ctl.queue = [] ∧
    (t.handReport r).ctl.lost = min (t.ctl.lost + 1) 4294967295 := by
  rw [handReport_turn r out empty, if_neg (by simp [takes])]
  exact ⟨(loseReport_calm (t.queued [r])).outstanding.trans out, rfl, loseReport_lost (t.queued [r])⟩

theorem handReport_windows (t : State) (r : Report) : (t.handReport r).windows = t.windows := by
  obtain ⟨_, _, h⟩ := t.handReport_only r
  rw [h]

theorem handReport_ring (t : State) (r : Report) : (t.handReport r).ctl.ringSize = t.ctl.ringSize ∧
    (t.handReport r).ctl.ringProducer = t.ctl.ringProducer ∧
    (t.handReport r).ctl.ringConsumer = t.ctl.ringConsumer := by
  obtain ⟨_, _, _, _, h⟩ := t.handReport_withReports r
  rw [h]
  exact ⟨rfl, rfl, rfl⟩

/-- No request leaves when a record is handed on. -/
theorem handReport_asks (t : State) (r : Report) : ∃ more, (t.handReport r).requests = t.requests ∧
    (t.handReport r).bus.injAsked = t.bus.injAsked ++ more := by
  obtain ⟨_, _, _, more, h⟩ := t.handReport_withReports r
  rw [h]
  exact ⟨more, rfl, rfl⟩

theorem handReport_records (t : State) (r : Report) : t.records ⊆ (t.handReport r).records := by
  obtain ⟨more, requests, asked⟩ := handReport_asks t r
  intro q
  simp only [mem_records, requests, asked, List.mem_append]
  tauto

/-- One record more. -/
theorem Hands.hand {s t : State} {l : List Report} (h : Hands s t l) (r : Report) : Hands s (t.handReport r) (l ++ [r]) where
  windows := (handReport_windows t r).trans h.windows
  ring := by
    obtain ⟨size, producer, consumer⟩ := h.ring
    obtain ⟨size', producer', consumer'⟩ := handReport_ring t r
    exact ⟨size'.trans size, producer'.trans producer, consumer'.trans consumer⟩
  records := List.Subset.trans h.records (handReport_records t r)
  waiting := fun out short => by
    obtain ⟨out', queue, lost⟩ := h.waiting out short
    obtain ⟨out'', queue', lost'⟩ := handReport_outstanding r out'
    refine ⟨out'', ?_, ?_⟩
    · rw [queue', queue, take_append_one, List.append_assoc]
    · rw [lost', queue, lost, List.length_take, List.length_append, List.length_append]
      exact lost_one _ _ _
  taken := fun i w out empty takes window => by
    refine ⟨fun none => by simp at none, fun q rest split => ?_⟩
    have takes' : t.ringTakes = true := (ringTakes_of_same h.windows h.ring).trans takes
    have window' : t.reportWindow = some (i, w) := (reportWindow_of_same h.windows).trans window
    have producer : t.ctl.ringProducer = s.ctl.ringProducer := h.ring.2.1
    cases l with
    | nil =>
      obtain ⟨out', queue, lost⟩ := (h.taken i w out empty takes window).1 rfl
      obtain ⟨out'', asked, queue', lost'⟩ := handReport_taken r out' queue takes' window'
      cases split
      exact ⟨out'', producer ▸ asked, queue', by rw [lost', lost]; rfl⟩
    | cons p l =>
      rw [List.cons_append] at split
      obtain ⟨rfl, rfl⟩ := List.cons.inj split
      obtain ⟨out', ⟨a, ha, place⟩, queue, lost⟩ := (h.taken i w out empty takes window).2 p l rfl
      obtain ⟨out'', queue', lost'⟩ := handReport_outstanding r out'
      refine ⟨out'', ⟨a, handReport_records t r ha, place⟩, ?_, ?_⟩
      · rw [queue', queue, take_append_one]
      · rw [lost', queue, lost, List.length_take, List.length_append]
        exact lost_one _ _ _
  dropped := fun out empty takes => by
    obtain ⟨out', queue, lost⟩ := h.dropped out empty takes
    obtain ⟨out'', queue', lost'⟩ := handReport_dropped r out' queue ((ringTakes_of_same h.windows h.ring).trans takes)
    refine ⟨out'', queue', ?_⟩
    rw [lost', lost, if_neg (List.append_ne_nil_of_right_ne_nil l (List.cons_ne_nil r [])), List.length_append]
    cases l with
    | nil => rfl
    | cons p l =>
      rw [if_neg (List.cons_ne_nil p l)]
      exact saturate_one _ _ _

/-- What `Hands` says of a step, as the statements put it. -/
theorem Hands.handed {s t : State} {l : List Report} (h : Hands s t l) : Handed s t l := by
  refine ⟨fun out short => (h.waiting out short).2, fun q rest i w out empty split live room window => ?_,
    fun out empty none => ?_⟩
  · have takes : s.ringTakes = true := by simp [State.ringTakes, live, ControlUnit.ringFull, room]
    obtain ⟨-, ⟨a, ha, start, access⟩, queue, lost⟩ := (h.taken i w out empty takes window).2 q rest split
    exact ⟨⟨a, (mem_records.1 ha).1, (mem_records.1 ha).2, start, access⟩, queue, lost⟩
  · have takes : s.ringTakes = false := by
      simp only [State.ringTakes, ControlUnit.ringFull, Bool.and_eq_false_imp, Bool.not_eq_false', decide_eq_true_eq]
      exact fun live => none.resolve_left (by simp [live])
    exact (h.dropped out empty takes).2

/-- A settling places requests and changes nothing that `Handed` reads. -/
theorem Handed.settle {s t : State} {l : List Report} (h : Handed s t l) : Handed s t.settle l := by
  have ctl := t.settle_ctl
  obtain ⟨waits, writes, drops⟩ := h
  refine ⟨?_, ?_, ?_⟩
  · rw [ctl]
    exact waits
  · rw [ctl]
    intro q rest i w out empty split live room window
    obtain ⟨⟨a, ha, written⟩, queued⟩ := writes q rest i w out empty split live room window
    refine ⟨⟨a, ?_, written⟩, queued⟩
    rw [State.settle_injAsked, List.append_nil, State.mem_requests_settle]
    exact List.mem_append.1 ha
  · rw [ctl]
    exact drops

/-! ## What an occurrence makes of the Fault Unit (R150 to R153) -/

/-- An entry written, under the next number of the update order. -/
def FaultUnit.put (f : FaultUnit) (i : Fin 32) (e : FaultEntry) : FaultUnit :=
  { f with table := f.table.set i (some e), updates := f.updates + 1 }

/-- The lost total raised (R154). -/
def FaultUnit.lose (f : FaultUnit) (n : Nat) : FaultUnit := { f with lost := min (f.lost + n) Config.top32 }

/-- The Fault Unit after an occurrence with its scope settled, and the entry that was filled or raised in severity. -/
def FaultUnit.taken (f : FaultUnit) (now : Time) (o : Occurrence) : FaultUnit × Option FaultEntry :=
  match f.find o.cls o.channel with
  | some (i, e) =>
    (f.put i (e.counted o f.noticeMask now f.updates),
      if e.severity.code < o.severity.code then some (e.counted o f.noticeMask now f.updates) else none)
  | none =>
    match f.firstFree with
    | some i => (f.put i (o.entry f.noticeMask now f.updates), some (o.entry f.noticeMask now f.updates))
    | none =>
      match stalest (f.candidates o.severity) with
      | some (i, e) =>
        ((f.lose e.delta).put i (o.entry f.noticeMask now f.updates), some (o.entry f.noticeMask now f.updates))
      | none => (f.lose 1, none)

/-- The Fault Unit replaced. -/
def State.withFaults (s : State) (f : FaultUnit) : State := { s with faults := f }

/-- The FAULT record of an entry that was filled or raised, where the local report mask holds its severity (R155). -/
def State.reportTaken (s : State) : Option FaultEntry → State
  | some e => s.reportFault e
  | none => s

theorem applyFault_eq (s : State) (o : Occurrence) :
    s.applyFault o = (s.withFaults (s.faults.taken s.time.ms o).1).reportTaken (s.faults.taken s.time.ms o).2 := by
  unfold State.applyFault FaultUnit.taken
  cases s.faults.find o.cls o.channel with
  | some p =>
    dsimp only
    unfold State.countIn
    dsimp only
    split <;> rfl
  | none =>
    cases s.faults.firstFree with
    | some i => rfl
    | none => cases stalest (s.faults.candidates o.severity) <;> rfl

/-- The FAULT records that an occurrence hands to the Control Unit (R151, R152, R155, R156). -/
def State.faultRecords (s : State) (o : Occurrence) : List Report :=
  match (s.faults.taken s.time.ms o.scoped).2 with
  | some e => if s.faults.localMask.has e.severity then [faultReport s e] else []
  | none => []

theorem taken_localMask (f : FaultUnit) (now : Time) (o : Occurrence) : (f.taken now o).1.localMask = f.localMask := by
  unfold FaultUnit.taken
  (repeat' split) <;> rfl

theorem taken_guard (f : FaultUnit) (now : Time) (o : Occurrence) :
    (f.taken now o).1.guardOnFatal = f.guardOnFatal := by
  unfold FaultUnit.taken
  (repeat' split) <;> rfl

theorem reportFault_faults (s : State) (e : FaultEntry) : (s.reportFault e).faults = s.faults := by
  obtain ⟨_, _, h⟩ := s.reportFault_only e
  rw [h]

theorem reportTaken_only (s : State) (e : Option FaultEntry) :
    ∃ ctl asked, s.reportTaken e = { s with ctl := ctl, bus := { s.bus with injAsked := asked } } := by
  cases e with
  | none => exact ⟨_, _, rfl⟩
  | some e => exact s.reportFault_only e

theorem escalate_faults (s : State) (o : Occurrence) : (s.escalate o).faults = s.faults := by
  unfold State.escalate
  (repeat' split) <;> rfl

/-- The fault table after an occurrence. -/
theorem recordFault_faults (s : State) (o : Occurrence) :
    (s.recordFault o).faults = (s.faults.taken s.time.ms o.scoped).1 := by
  unfold State.recordFault
  rw [escalate_faults, applyFault_eq]
  obtain ⟨_, _, h⟩ := reportTaken_only (s.withFaults (s.faults.taken s.time.ms o.scoped).1)
    (s.faults.taken s.time.ms o.scoped).2
  rw [h]
  rfl

/-- The fault table after an occurrence depends on the Fault Unit and the time alone. -/
theorem recordFault_faults_congr {s t : State} (o : Occurrence) (faults : t.faults = s.faults) (time : t.time = s.time) :
    (t.recordFault o).faults = (s.recordFault o).faults := by
  rw [recordFault_faults, recordFault_faults, faults, time]

theorem applyFault_chan (s : State) (o : Occurrence) (c : Fin 16) : (s.applyFault o).chan c = s.chan c := by
  obtain ⟨_, _, _, h⟩ := s.applyFault_only o
  rw [h]
  rfl

/-- The channels after an occurrence: a FATAL one with a channel guards an OPEN channel while guard-on-fatal is on. -/
theorem recordFault_chan (s : State) (o : Occurrence) (c : Fin 16) : (s.recordFault o).chan c =
    if o.scoped.severity = .fatal ∧ o.scoped.channel = some c ∧ s.faults.guardOnFatal = true then (s.chan c).escalated
    else s.chan c := by
  have guard : (s.applyFault o.scoped).faults.guardOnFatal = s.faults.guardOnFatal := by
    have := recordFault_faults s o
    rw [State.recordFault, escalate_faults] at this
    rw [this, taken_guard]
  unfold State.recordFault State.escalate
  cases hc : o.scoped.channel with
  | none => simp [applyFault_chan]
  | some d =>
    simp only [guard, Bool.and_eq_true, decide_eq_true_eq]
    by_cases fatal : o.scoped.severity = .fatal ∧ s.faults.guardOnFatal = true
    · rw [if_pos fatal, State.chan_setChan]
      by_cases same : c = d
      · subst same
        rw [if_pos rfl, if_pos ⟨fatal.1, rfl, fatal.2⟩, applyFault_chan]
      · rw [if_neg same, if_neg (by simp [Ne.symm same]), applyFault_chan]
    · rw [if_neg fatal, if_neg (by tauto), applyFault_chan]

/-! ## The FAULT records of an occurrence (R155, R156) -/

theorem Hands.reportFault {s t : State} {l : List Report} (h : Hands s t l) (e : FaultEntry) :
    Hands s (t.reportFault e) (l ++ if t.faults.localMask.has e.severity then [faultReport t e] else []) := by
  unfold State.reportFault
  split
  · exact h.hand _
  · rw [List.append_nil]
    exact h

theorem escalate_quiet (s : State) (o : Occurrence) : Quiet s (s.escalate o) := by
  unfold State.escalate
  (repeat' split) <;> exact quiet_of_same rfl rfl rfl rfl rfl

theorem withFaults_quiet (s : State) (f : FaultUnit) : Quiet s (s.withFaults f) := quiet_of_same rfl rfl rfl rfl rfl

/-- An occurrence hands on its FAULT record, and no other. -/
theorem Hands.recordFault {s t : State} {l : List Report} (h : Hands s t l) (o : Occurrence) :
    Hands s (t.recordFault o) (l ++ t.faultRecords o) := by
  refine Hands.quiet ?_ (escalate_quiet _ _)
  have written : Hands s (t.withFaults (t.faults.taken t.time.ms o.scoped).1) l := h.quiet (withFaults_quiet t _)
  have mask : (t.withFaults (t.faults.taken t.time.ms o.scoped).1).faults.localMask = t.faults.localMask :=
    taken_localMask _ _ _
  rw [applyFault_eq, State.faultRecords]
  cases (t.faults.taken t.time.ms o.scoped).2 with
  | none =>
    rw [List.append_nil]
    exact written
  | some e =>
    dsimp only
    rw [← mask]
    exact written.reportFault e

theorem recordFault_handed (s : State) (o : Occurrence) : Handed s (s.recordFault o) (s.faultRecords o) :=
  ((Hands.refl s).recordFault o).handed

/-! ## The cases of an occurrence (R151 to R154) -/

/-- The entry with the key of an occurrence is found: no other has the key (R150). -/
theorem find_eq_some {s : State} (sound : s.faultsSound) {i : Fin 32} {e : FaultEntry} {cls : FaultClass}
    {channel : Option (Fin 16)} (he : s.faults.table[i] = some e) (hc : e.cls = cls) (hd : e.channel = channel) :
    s.faults.find cls channel = some (i, e) := by
  cases h : s.faults.find cls channel with
  | none => exact absurd ⟨hc, hd⟩ (FaultUnit.find_none h he)
  | some p =>
    obtain ⟨j, f⟩ := p
    obtain ⟨hf, cls', channel'⟩ := FaultUnit.find_some h
    obtain rfl := sound.1 i j e f he hf (hc.trans cls'.symm) (hd.trans channel'.symm)
    rw [he] at hf
    cases hf
    rfl

theorem find_eq_none {f : FaultUnit} {cls : FaultClass} {channel : Option (Fin 16)}
    (h : ∀ (j : Fin 32) (e : FaultEntry), f.table[j] = some e → ¬ (e.cls = cls ∧ e.channel = channel)) :
    f.find cls channel = none := by
  cases hf : f.find cls channel with
  | none => rfl
  | some p => exact absurd (FaultUnit.find_some hf).2 (h p.1 p.2 (FaultUnit.find_some hf).1)

/-- The free entry with the lowest number is found. -/
theorem firstFree_eq_some {f : FaultUnit} {i : Fin 32} (free : f.table[i] = none)
    (lowest : ∀ j, j < i → f.table[j] ≠ none) : f.firstFree = some i := by
  unfold FaultUnit.firstFree
  cases h : (List.finRange 32).find? fun i => (f.table[i]).isNone with
  | none => simpa [free] using List.find?_eq_none.1 h i (List.mem_finRange i)
  | some j =>
    have hj : f.table[j] = none := by simpa using List.find?_some h
    have before : ¬ j < i := fun lt => lowest j lt hj
    have after : ¬ i < j := by
      intro lt
      obtain ⟨-, as, bs, split, none⟩ := List.find?_eq_some_iff_append.1 h
      have sorted : (as ++ j :: bs).Pairwise (· < ·) := split ▸ List.pairwise_lt_finRange 32
      have mem : i ∈ as ++ j :: bs := split ▸ List.mem_finRange i
      rcases List.mem_append.1 mem with ha | hb
      · simpa [free] using none i ha
      · rcases List.mem_cons.1 hb with rfl | hb
        · exact absurd lt (lt_irrefl i)
        · have later := (List.pairwise_cons.1 (List.pairwise_append.1 sorted).2.1).1 i hb
          exact absurd (lt.trans later) (lt_irrefl i)
    rw [le_antisymm (not_lt.1 before) (not_lt.1 after)]

theorem firstFree_eq_none {f : FaultUnit} (full : ∀ j : Fin 32, f.table[j] ≠ none) : f.firstFree = none := by
  simp only [FaultUnit.firstFree, List.find?_eq_none, Option.isNone_iff_eq_none]
  exact fun j _ => full j

theorem mem_candidates {f : FaultUnit} {sev : Severity} {i : Fin 32} {e : FaultEntry} : (i, e) ∈ f.candidates sev ↔
    f.table[i] = some e ∧ e.severity.code < sev.code ∧ e.notice ≠ .composing := by
  simp [FaultUnit.candidates, FaultUnit.mem_used]

/-- The least recently updated entry is found among those of a lower severity that no notice carries (R153). -/
theorem stalest_eq_some {f : FaultUnit} {sev : Severity} {i : Fin 32} {e : FaultEntry} (he : f.table[i] = some e)
    (lower : e.severity.code < sev.code) (idle : e.notice ≠ .composing)
    (oldest : ∀ (j : Fin 32) (g : FaultEntry), j ≠ i → f.table[j] = some g → g.severity.code < sev.code →
      g.notice ≠ .composing → e.updated < g.updated) : stalest (f.candidates sev) = some (i, e) := by
  have mem : (i, e) ∈ f.candidates sev := mem_candidates.2 ⟨he, lower, idle⟩
  have least : ∀ q ∈ f.candidates sev, q = (i, e) ∨ e.updated < q.2.updated := by
    rintro ⟨j, g⟩ hq
    obtain ⟨hg, less, idle'⟩ := mem_candidates.1 hq
    by_cases same : j = i
    · subst same
      rw [he] at hg
      cases hg
      exact .inl rfl
    · exact .inr (oldest j g same hg less idle')
  cases h : stalest (f.candidates sev) with
  | none =>
    have none := List.find?_eq_none.1 h _ mem
    simp only [List.all_eq_true, decide_eq_true_eq] at none
    refine absurd (fun q hq => ?_) none
    rcases least q hq with rfl | lt
    · exact Nat.le_refl _
    · exact lt.le
  | some p =>
    have hp := List.find?_some h
    simp only [List.all_eq_true, decide_eq_true_eq] at hp
    rcases least p (List.mem_of_find?_eq_some h) with rfl | lt
    · rfl
    · exact absurd (hp _ mem) (Nat.not_le.2 lt)

theorem stalest_eq_none {f : FaultUnit} {sev : Severity}
    (held : ∀ (j : Fin 32) (e : FaultEntry), f.table[j] = some e → sev.code ≤ e.severity.code ∨ e.notice = .composing) :
    stalest (f.candidates sev) = none := by
  have empty : f.candidates sev = [] := List.eq_nil_iff_forall_not_mem.2 fun ⟨j, e⟩ hj => by
    obtain ⟨he, lower, idle⟩ := mem_candidates.1 hj
    rcases held j e he with h | h
    · exact absurd lower (Nat.not_lt.2 h)
    · exact idle h
  rw [empty]
  rfl

theorem put_self (f : FaultUnit) (i : Fin 32) (e : FaultEntry) : (f.put i e).table[i] = some e := by
  simp [FaultUnit.put]

theorem put_other (f : FaultUnit) {i j : Fin 32} (e : FaultEntry) (h : j ≠ i) : (f.put i e).table[j] = f.table[j] :=
  Vector.getElem_set_ne i.isLt j.isLt fun same => h (Fin.ext same.symm)

/-- The entry that an occurrence fills, in a Fault Unit f that may have lost another's delta first (R152, R153). -/
theorem recordFault_filled {s : State} {o : Occurrence} {i : Fin 32} {f : FaultUnit}
    (taken : s.faults.taken s.time.ms o.scoped =
      (f.put i (o.scoped.entry s.faults.noticeMask s.time.ms s.faults.updates),
        some (o.scoped.entry s.faults.noticeMask s.time.ms s.faults.updates))) :
    (∃ g, (s.recordFault o).faults.table[i] = some g ∧ g.cls = o.scoped.cls ∧ g.severity = o.scoped.severity ∧
      g.channel = o.scoped.channel ∧ g.window = o.scoped.window ∧ g.slot = o.scoped.slot ∧
      g.initiator = o.scoped.initiator ∧ g.count = 1 ∧ g.lastCount = 0 ∧ g.firstTime = s.time.ms ∧
      g.lastTime = s.time.ms ∧ g.late = false ∧
      g.notice = (if o.scoped.quiet = false ∧ s.faults.noticeMask.has o.scoped.severity = true then .pending else .none) ∧
      Handed s (s.recordFault o) (if s.faults.localMask.has o.scoped.severity = true then [faultReport s g] else [])) ∧
    (∀ j, j ≠ i → (s.recordFault o).faults.table[j] = f.table[j]) ∧ (s.recordFault o).faults.lost = f.lost := by
  have handed := recordFault_handed s o
  rw [State.faultRecords, taken] at handed
  rw [recordFault_faults, taken]
  refine ⟨⟨_, put_self f i _, rfl, rfl, rfl, rfl, rfl, rfl, rfl, rfl, rfl, rfl, rfl, ?_, handed⟩,
    fun j h => put_other f _ h, rfl⟩
  simp [Occurrence.entry]

theorem taken_find {f : FaultUnit} {now : Time} {o : Occurrence} {i : Fin 32} {e : FaultEntry}
    (h : f.find o.cls o.channel = some (i, e)) : f.taken now o = (f.put i (e.counted o f.noticeMask now f.updates),
      if e.severity.code < o.severity.code then some (e.counted o f.noticeMask now f.updates) else none) := by
  unfold FaultUnit.taken
  rw [h]

/-- An occurrence is counted in the entry with its key (R151). -/
theorem recordFault_counted {s : State} {o : Occurrence} {i : Fin 32} {e : FaultEntry}
    (h : s.faults.find o.scoped.cls o.scoped.channel = some (i, e)) :
    (s.recordFault o).faults =
        s.faults.put i (e.counted o.scoped s.faults.noticeMask s.time.ms s.faults.updates) ∧
      Handed s (s.recordFault o) (if e.severity.code < o.scoped.severity.code ∧ s.faults.localMask.has
          (e.counted o.scoped s.faults.noticeMask s.time.ms s.faults.updates).severity = true
        then [faultReport s (e.counted o.scoped s.faults.noticeMask s.time.ms s.faults.updates)] else []) := by
  have handed := recordFault_handed s o
  have taken := taken_find (now := s.time.ms) h
  rw [State.faultRecords, taken] at handed
  rw [recordFault_faults, taken]
  refine ⟨rfl, ?_⟩
  by_cases raised : e.severity.code < o.scoped.severity.code
  · simpa only [raised, if_true, true_and] using handed
  · simpa only [raised, if_false, false_and] using handed

/-- The fields of an entry in which an occurrence has been counted (R151). -/
theorem counted_fields (e : FaultEntry) (p : Occurrence) (mask : SevMask) (now : Time) (order : Nat) :
    (e.counted p mask now order).severity = (if e.severity.code < p.severity.code then p.severity else e.severity) ∧
    (p.quiet = true → (e.counted p mask now order).notice = e.notice ∧ (e.counted p mask now order).late = e.late) ∧
    (p.quiet = false → mask.has (e.counted p mask now order).severity = true → e.notice = .none ∨ e.notice = .sent →
      (e.counted p mask now order).notice = .pending) ∧
    (e.notice = .pending ∨ e.notice = .composing → (e.counted p mask now order).notice = e.notice) ∧
    (p.quiet = false → e.notice = .composing → (e.counted p mask now order).late = true) := by
  refine ⟨rfl, fun quiet => ?_, fun quiet masked idle => ?_, fun busy => ?_, fun quiet composing => ?_⟩
  · simp [FaultEntry.counted, quiet]
  · have masked' : mask.has (e.severity.max p.severity) = true := masked
    simp [FaultEntry.counted, quiet, masked', idle]
  · rcases busy with h | h <;> simp [FaultEntry.counted, h]
  · simp [FaultEntry.counted, quiet, composing]

/-- Settles O13: the four cases of `FaultUnit.taken`, with what each hands on, and the escalation. -/
theorem faultUnitTakesOccurrence : Obligations.FaultUnitTakesOccurrence := by
  rintro s o _ sound rfl
  refine ⟨fun i e he cls channel => ?_, fun fresh => ⟨fun i free lowest => ?_, fun full => ⟨?_, fun held => ?_⟩⟩, fun c => ?_⟩
  · obtain ⟨faults, handed⟩ := recordFault_counted (find_eq_some sound he cls channel)
    obtain ⟨severity, quiet, pending, kept, late⟩ :=
      counted_fields e o.scoped s.faults.noticeMask s.time.ms s.faults.updates
    rw [faults]
    exact ⟨_, put_self _ i _, rfl, rfl, rfl, rfl, rfl, rfl, rfl, severity, quiet, pending, kept, late,
      fun j h => put_other _ _ h, rfl, handed⟩
  · refine recordFault_filled (f := s.faults) ?_
    unfold FaultUnit.taken
    rw [find_eq_none fresh, firstFree_eq_some free lowest]
  · intro i e he lower idle oldest
    refine recordFault_filled (f := s.faults.lose (e.count - e.lastCount)) ?_
    unfold FaultUnit.taken
    rw [find_eq_none fresh, firstFree_eq_none full, stalest_eq_some he lower idle oldest]
    rfl
  · have taken : s.faults.taken s.time.ms o.scoped = (s.faults.lose 1, none) := by
      unfold FaultUnit.taken
      rw [find_eq_none fresh, firstFree_eq_none full, stalest_eq_none held]
    have handed := recordFault_handed s o
    rw [State.faultRecords, taken] at handed
    rw [recordFault_faults, taken]
    exact ⟨rfl, rfl, handed⟩
  · rw [recordFault_chan]
    by_cases fatal : o.scoped.severity = .fatal ∧ o.scoped.channel = some c ∧ s.faults.guardOnFatal = true
    · by_cases opened : (s.chan c).state = .opened
      · rw [if_pos fatal, if_pos ⟨fatal.1, fatal.2.1, fatal.2.2, opened⟩, Channel.escalated, if_pos opened]
      · rw [if_pos fatal, if_neg (by tauto), Channel.escalated, if_neg opened]
    · rw [if_neg fatal, if_neg (by tauto)]

end Sys2Proof.Machine
end

section
/-!
SUPPORT. The two resets, their leaving, and the Time Base with its expiries.
-/

namespace Sys2Proof.Machine

-- One theorem at a time: elaborated side by side, each would hold a stack of its own.
set_option Elab.async false

/-! ## What an occurrence leaves alone -/

section Fields

variable (s : State) (o : Occurrence)

@[simp] theorem recordFault_pool : (s.recordFault o).pool = s.pool := by
  obtain ⟨_, _, _, _, h, -⟩ := s.recordFault_only o; rw [h]
@[simp] theorem recordFault_ks : (s.recordFault o).ks = s.ks := by
  obtain ⟨_, _, _, _, h, -⟩ := s.recordFault_only o; rw [h]
@[simp] theorem recordFault_merges : (s.recordFault o).merges = s.merges := by
  obtain ⟨_, _, _, _, h, -⟩ := s.recordFault_only o; rw [h]
@[simp] theorem recordFault_keys : (s.recordFault o).keys = s.keys := by
  obtain ⟨_, _, _, _, h, -⟩ := s.recordFault_only o; rw [h]
@[simp] theorem recordFault_meterA : (s.recordFault o).meterA = s.meterA := by
  obtain ⟨_, _, _, _, h, -⟩ := s.recordFault_only o; rw [h]
@[simp] theorem recordFault_meterB : (s.recordFault o).meterB = s.meterB := by
  obtain ⟨_, _, _, _, h, -⟩ := s.recordFault_only o; rw [h]
@[simp] theorem recordFault_notices : (s.recordFault o).notices = s.notices := by
  obtain ⟨_, _, _, _, h, -⟩ := s.recordFault_only o; rw [h]
@[simp] theorem recordFault_time : (s.recordFault o).time = s.time := by
  obtain ⟨_, _, _, _, h, -⟩ := s.recordFault_only o; rw [h]
@[simp] theorem recordFault_windows : (s.recordFault o).windows = s.windows := by
  obtain ⟨_, _, _, _, h, -⟩ := s.recordFault_only o; rw [h]
@[simp] theorem recordFault_classes : (s.recordFault o).classes = s.classes := by
  obtain ⟨_, _, _, _, h, -⟩ := s.recordFault_only o; rw [h]
@[simp] theorem recordFault_line : (s.recordFault o).line = s.line := by
  obtain ⟨_, _, _, _, h, -⟩ := s.recordFault_only o; rw [h]
@[simp] theorem recordFault_fuses : (s.recordFault o).fuses = s.fuses := by
  obtain ⟨_, _, _, _, h, -⟩ := s.recordFault_only o; rw [h]
@[simp] theorem recordFault_straps : (s.recordFault o).straps = s.straps := by
  obtain ⟨_, _, _, _, h, -⟩ := s.recordFault_only o; rw [h]
@[simp] theorem recordFault_wrstnToo : (s.recordFault o).wrstnToo = s.wrstnToo := by
  obtain ⟨_, _, _, _, h, -⟩ := s.recordFault_only o; rw [h]
@[simp] theorem recordFault_pending : (s.recordFault o).pending = s.pending := by
  obtain ⟨_, _, _, _, h, -⟩ := s.recordFault_only o; rw [h]
@[simp] theorem recordFault_transit : (s.recordFault o).bus.transit = s.bus.transit := by
  obtain ⟨_, _, _, _, h, -⟩ := s.recordFault_only o; rw [h]
@[simp] theorem recordFault_up : (s.recordFault o).bus.up = s.bus.up := by
  obtain ⟨_, _, _, _, h, -⟩ := s.recordFault_only o; rw [h]
@[simp] theorem recordFault_down : (s.recordFault o).bus.down = s.bus.down := by
  obtain ⟨_, _, _, _, h, -⟩ := s.recordFault_only o; rw [h]
@[simp] theorem recordFault_inj : (s.recordFault o).bus.inj = s.bus.inj := by
  obtain ⟨_, _, _, _, h, -⟩ := s.recordFault_only o; rw [h]
@[simp] theorem recordFault_injWaiting : (s.recordFault o).bus.injWaiting = s.bus.injWaiting := by
  obtain ⟨_, _, _, _, h, -⟩ := s.recordFault_only o; rw [h]
@[simp] theorem recordFault_key (k : Fin 32) : (s.recordFault o).key k = s.key k := by
  unfold State.key; rw [recordFault_keys]
@[simp] theorem recordFault_slotRec (n : Nat) : (s.recordFault o).slotRec n = s.slotRec n := by
  unfold State.slotRec; rw [recordFault_pool]
@[simp] theorem recordFault_meter (l : Link) : (s.recordFault o).meter l = s.meter l := by
  cases l
  · exact recordFault_meterA s o
  · exact recordFault_meterB s o
@[simp] theorem recordFault_requests : (s.recordFault o).requests = s.requests := by simp [State.requests]

end Fields

/-- No request of the step is withdrawn when an occurrence is taken. -/
theorem recordFault_asks (s : State) (o : Occurrence) : s.bus.injAsked ⊆ (s.recordFault o).bus.injAsked := by
  have asks (u : State) (r : Report) : u.bus.injAsked ⊆ (u.handReport r).bus.injAsked := by
    obtain ⟨more, -, asked⟩ := handReport_asks u r
    rw [asked]
    exact List.subset_append_left _ _
  have escalated (u : State) : (u.escalate o.scoped).bus = u.bus := by
    unfold State.escalate
    (repeat' split) <;> rfl
  rw [State.recordFault, escalated, applyFault_eq]
  cases (s.faults.taken s.time.ms o.scoped).2 with
  | none => exact List.Subset.refl _
  | some e =>
    dsimp only [State.reportTaken]
    unfold State.reportFault
    split
    · exact asks (s.withFaults (s.faults.taken s.time.ms o.scoped).1) _
    · exact List.Subset.refl _

/-! ## Both resets (R2, R7, R8, R21, R97, R105, R114, R117, R150, R155, R159, R173, R182) -/

/-- A bus without entries and requests has none after a settling. -/
theorem settle_empty {u : State} (transit : u.bus.transit = []) (requests : u.requests = []) (asked : u.bus.injAsked = []) :
    u.settle.bus.transit = [] ∧ u.settle.requests = [] ∧ u.settle.bus.up = u.bus.up := by
  refine ⟨by simp [State.settle_transit, transit], ?_, by simp [State.settle_up, transit]⟩
  rw [List.eq_nil_iff_forall_not_mem]
  intro q
  simp [State.mem_requests_settle, requests, asked]

/-- The holdoff timer is judged on the Notice Engine and the fault table that the step left (R167). -/
theorem State.settle_notices (s : State) : s.settle.notices = s.judgeHoldoff.notices := by
  obtain ⟨i, w, n, h⟩ := State.placeAsked_only s.deliver
  unfold State.settle
  rw [h]
  unfold State.judgeHoldoff State.judgeIrq State.deliver
  (repeat' split) <;> rfl

/-! ## Both resets (R2, R7, R8, R21, R97, R105, R114, R117, R150, R155, R173, R182) -/

theorem resetWindows_get {b : BitVec 28} {i : Fin 16} (h : i ≠ 0) : (resetWindows b)[i] = none := by
  have : (0 : Nat) ≠ i.val := fun e => h (Fin.ext e.symm)
  simp [resetWindows, Vector.getElem_set_ne, this]

/-- Without an entry in the fault table no entry is eligible. -/
theorem eligible_of_empty {f : FaultUnit} (h : ∀ i : Fin 32, f.table[i] = none) : f.eligible = [] := by
  rw [List.eq_nil_iff_forall_not_mem]
  rintro ⟨i, e⟩ he
  have used : (i, e) ∈ f.used := (List.mem_filter.1 he).1
  rw [FaultUnit.mem_used, h i] at used
  cases used

theorem reset_table (i : Fin 32) : State.reset.faults.table[i] = none := by simp [State.reset, FaultUnit.cleared]

theorem wrstnHeld_eq (s : State) :
    s.wrstnHeld = (decide (s.line = .warm) || (decide (s.line = .powerOn) && s.wrstnToo)) := by
  unfold State.wrstnHeld
  cases s.line <;> rfl

@[simp] theorem settle_timeout (s : State) : s.settle.bus.timeout = s.bus.timeout :=
  congrArg Steady.timeout s.settle_steady

/-- Settles O14: a settling finds nothing to place or deliver in the power-on values. -/
theorem powerOnResetValues : Obligations.PowerOnResetValues := by
  intro b s
  obtain ⟨transit, requests, up⟩ := settle_empty (u := s.poweredOn b) rfl rfl rfl
  have idle : (s.poweredOn b).faults.eligible = [] := eligible_of_empty reset_table
  have notices : (s.poweredOn b).settle.notices = NoticeEngine.cleared := by
    rw [State.settle_notices, State.judgeHoldoff, idle]
    rfl
  have ctl : (s.poweredOn b).settle.ctl = ControlUnit.cleared := State.settle_ctl _
  exact ⟨_, execPowerOnReset_next.2 rfl, State.settle_line _, (State.settle_wrstnToo _).trans (wrstnHeld_eq s),
    State.settle_straps _, State.settle_fuses _, State.settle_pending _,
    by rw [State.settle_windows]; exact resetWindows_zero b,
    fun i hi => by rw [State.settle_windows]; exact resetWindows_get hi,
    fun i => by rw [State.settle_classes]; exact resetClasses_get i,
    State.settle_pool _, State.settle_merges _, State.settle_ks _, transit, requests, State.settle_passover _,
    settle_timeout _, up, fun c => (State.settle_chan _ c).trans (poweredOn_chan s b c),
    fun l => (State.settle_meter _ l).trans (by cases l <;> rfl), fun k => (State.settle_key _ k).trans (reset_key k),
    congrArg KeyStore.freeList (State.settle_keys _),
    fun i => by rw [State.settle_faults]; exact reset_table i,
    congrArg FaultUnit.lost (State.settle_faults _), congrArg FaultUnit.localMask (State.settle_faults _),
    congrArg FaultUnit.noticeMask (State.settle_faults _), congrArg FaultUnit.guardOnFatal (State.settle_faults _),
    notices, ctl, congrArg TimeBase.ms (State.settle_time _), congrArg TimeBase.subMs (State.settle_time _),
    congrArg TimeBase.subSec (State.settle_time _)⟩

/-- Settles O15: what the settling finds is the cleared state around what is kept. -/
theorem warmResetKeeps : Obligations.WarmResetKeeps := by
  intro s line
  obtain ⟨transit, requests, up⟩ := settle_empty (u := s.warmed) rfl rfl rfl
  have notices : SameNotices s.warmed s.warmed.settle := s.warmed.settle_sameNotices
  unfold SameNotices at notices
  have ctl : s.warmed.settle.ctl = ControlUnit.cleared := State.settle_ctl _
  have next : exec .warmReset s = .next s.warmed.settle := if_neg line
  exact ⟨_, next, State.settle_line _, State.settle_straps _, State.settle_fuses _, State.settle_pending _,
    by rw [State.settle_windows]; exact resetWindows_zero s.straps,
    fun i hi => by rw [State.settle_windows]; exact resetWindows_get hi,
    fun i => by rw [State.settle_classes]; exact resetClasses_get i,
    State.settle_pool _, State.settle_merges _, State.settle_ks _, transit, requests, State.settle_passover _,
    settle_timeout _, up, fun c => (State.settle_chan _ c).trans (warmed_chan s c),
    fun l => (State.settle_meter _ l).trans (by cases l <;> rfl), fun k => (State.settle_key _ k).trans (reset_key k),
    congrArg KeyStore.freeList (State.settle_keys _), by rw [State.settle_faults]; rfl, by rw [State.settle_faults]; rfl,
    by rw [State.settle_faults]; rfl,     by rw [State.settle_faults]; rfl,
    by rw [State.settle_faults]; rfl, by rw [notices]; rfl, by rw [notices]; rfl, by rw [notices]; rfl, by rw [notices]; rfl, by rw [notices]; rfl, ctl,
    State.settle_time _⟩

/-! ## Leaving a reset (R21, R33, R116, R159, R173) -/

/-- The zeroing write of the control page (R173). -/
def State.zeroingRequest (s : State) : InjReq :=
  ⟨.resetZero, 4, s.pageBase, .write (List.replicate 4 none ++ List.replicate 12 (some 0) ++ List.replicate 4 none ++
    List.replicate 4 (some 0)), some 0, none⟩

theorem askZeroing_eq (s : State) : s.askZeroing = s.ask s.zeroingRequest := rfl

/-- A request of the step has been requested once the step has settled. -/
theorem mem_requests_of_asked {s : State} {q : InjReq} (h : q ∈ s.bus.injAsked) : q ∈ s.settle.requests :=
  s.mem_requests_settle.2 (.inr h)

theorem mem_injAsked_ask (s : State) (q : InjReq) : q ∈ (s.ask q).bus.injAsked :=
  List.mem_append_right _ (List.mem_singleton_self q)

theorem askCipher_ks (s : State) (r : BgReq) :
    (s.askCipher r).ks = { s.ks with background := s.ks.background ++ [r] } := rfl

/-- The fuses PROGRAMMED: the root subkey is asked for (R33, R116). -/
theorem readFuses_programmed {s : State} (h : s.fuses.programmed = true) :
    s.readFuses = s.askCipher ⟨.rootSubkey, .root, 0⟩ := if_pos h

theorem readFuses_blank {s : State} (h : s.fuses.programmed = false) : s.readFuses = s.deviceFault .rootBlank :=
  if_neg (by simp [h])

/-- A device-scoped occurrence guards no channel (R158). -/
theorem deviceFault_channels (s : State) (cls : FaultClass) : (s.deviceFault cls).channels = s.channels := by
  have device : (occurrence cls none none none none).scoped.channel = none := by
    unfold Occurrence.scoped
    split <;> rfl
  unfold State.deviceFault State.recordFault State.escalate
  rw [device]
  obtain ⟨_, _, _, h⟩ := s.applyFault_only (occurrence cls none none none none).scoped
  rw [h]

/-- What every part of a leaving leaves alone; the requests of the step stay (R116, R159). -/
structure Leaving (s t : State) : Prop where
  line : t.line = s.line
  fuses : t.fuses = s.fuses
  pool : t.pool = s.pool
  keys : SameKeys s t
  meters : SameMeters s t
  windows : t.windows = s.windows
  time : t.time = s.time
  asks : s.bus.injAsked ⊆ t.bus.injAsked

theorem Leaving.trans {s t u : State} (h : Leaving s t) (g : Leaving t u) : Leaving s u where
  line := g.line.trans h.line
  fuses := g.fuses.trans h.fuses
  pool := g.pool.trans h.pool
  keys := ⟨g.keys.1.trans h.keys.1, g.keys.2.trans h.keys.2⟩
  meters := ⟨g.meters.1.trans h.meters.1, g.meters.2.trans h.meters.2⟩
  windows := g.windows.trans h.windows
  time := g.time.trans h.time
  asks := List.Subset.trans h.asks g.asks

theorem deviceFault_leaving (s : State) (cls : FaultClass) : Leaving s (s.deviceFault cls) :=
  ⟨recordFault_line s _, recordFault_fuses s _, recordFault_pool s _, ⟨recordFault_keys s _, deviceFault_channels s cls⟩,
    ⟨recordFault_meterA s _, recordFault_meterB s _⟩, recordFault_windows s _, recordFault_time s _, recordFault_asks s _⟩

theorem askCipher_leaving (s : State) (r : BgReq) : Leaving s (s.askCipher r) :=
  ⟨rfl, rfl, rfl, ⟨rfl, rfl⟩, ⟨rfl, rfl⟩, rfl, rfl, List.Subset.refl _⟩

theorem chosen_leaving (s : State) : Leaving s { s with free := s.free + 1 } :=
  ⟨rfl, rfl, rfl, ⟨rfl, rfl⟩, ⟨rfl, rfl⟩, rfl, rfl, List.Subset.refl _⟩

theorem returnComposing_leaving (s : State) : Leaving s s.returnComposing :=
  ⟨rfl, rfl, rfl, ⟨rfl, rfl⟩, ⟨rfl, rfl⟩, rfl, rfl, List.Subset.refl _⟩

theorem readFuses_leaving (s : State) : Leaving s s.readFuses := by
  unfold State.readFuses
  split
  · exact askCipher_leaving s _
  · exact deviceFault_leaving s _

theorem restartFaults_leaving (s : State) : Leaving s s.restartFaults := by
  unfold State.restartFaults
  (repeat' split)
  · exact (deviceFault_leaving s _).trans (readFuses_leaving _)
  · exact ((chosen_leaving s).trans (readFuses_leaving _)).trans (deviceFault_leaving _ _)
  · exact ((chosen_leaving s).trans (deviceFault_leaving _ _)).trans (readFuses_leaving _)

/-- The line released and the zeroing write asked for (R173). -/
def State.releasedWith (s : State) (f : Fuses) : State := ({ s with line := .released, fuses := f }).askZeroing

theorem zeroing_asked (s : State) (f : Fuses) : s.zeroingRequest ∈ (s.releasedWith f).bus.injAsked :=
  mem_injAsked_ask _ _

theorem execLeavePowerOnReset_alone {s : State} (f : Fuses) (line : s.line = .powerOn) (alone : s.wrstnToo = false) :
    exec (.leavePowerOnReset f) s = .next (s.releasedWith f).readFuses.settle := by
  change execLeavePowerOnReset f s = _
  unfold execLeavePowerOnReset
  rw [if_pos line, if_neg (by simp [alone])]
  rfl

theorem execLeaveWarmReset_next {s : State} (line : s.line = .warm) :
    exec .leaveWarmReset s = .next (s.releasedWith s.fuses).returnComposing.restartFaults.settle := by
  change execLeaveWarmReset s = _
  unfold execLeaveWarmReset
  rw [line]
  rfl

/-- What a leaving has done once it settles, whatever the fuses give (R21, R173). -/
theorem left_settled {s u : State} {f : Fuses} (h : Leaving (s.releasedWith f) u) :
    u.settle.line = .released ∧ u.settle.fuses = f ∧
    (∃ q ∈ u.settle.requests, q.op = .resetZero ∧ q.start = s.pageBase ∧ q.access = .write (List.replicate 4 none ++
      List.replicate 12 (some 0) ++ List.replicate 4 none ++ List.replicate 4 (some 0))) ∧
    u.settle.pool = s.pool ∧ SameKeys s u.settle ∧ SameMeters s u.settle ∧ u.settle.windows = s.windows := by
  refine ⟨(State.settle_line u).trans h.line, (State.settle_fuses u).trans h.fuses,
    ⟨s.zeroingRequest, mem_requests_of_asked (h.asks (zeroing_asked s f)), rfl, rfl, rfl⟩,
    (State.settle_pool u).trans h.pool, ?_, ?_, (State.settle_windows u).trans h.windows⟩
  · exact sameKeys_settle.2 h.keys
  · exact sameMeters_settle.2 h.meters

/-- With both lines asserted, a change of the lines and fuses alone (R21). -/
theorem lines_settled {s u : State} (units : SameUnits s u) (bus : u.bus = s.bus) (windows : u.windows = s.windows)
    (classes : u.classes = s.classes) (time : u.time = s.time) :
    (s.rested → u.settle.requests = s.requests) ∧ SameUnits s u.settle ∧ u.settle.windows = s.windows ∧
      u.settle.classes = s.classes ∧ u.settle.time = s.time := by
  refine ⟨fun rested => ?_, units.settle, (State.settle_windows u).trans windows, (State.settle_classes u).trans classes,
    (State.settle_time u).trans time⟩
  have none : orderAsked u.deliver.bus.injAsked = [] := by
    have : u.bus.injAsked = [] := bus ▸ rested.2
    exact (congrArg orderAsked this).trans orderAsked_nil
  unfold State.requests
  rw [State.settle_bus]
  unfold State.placeAsked
  rw [none]
  change u.bus.inj.map (·.req) ++ u.bus.injWaiting = _
  rw [bus]

theorem returnComposing_get (s : State) (i : Fin 32) :
    s.returnComposing.faults.table[i] = (s.faults.table[i]).map FaultEntry.returned := by
  simp [State.returnComposing]

/-- With fuses PROGRAMMED, leaving warm reset asks for the root subkey and takes RESTART alone (R33, R159). -/
theorem restartFaults_programmed {s : State} (h : s.fuses.programmed = true) :
    s.restartFaults = (s.deviceFault .restart).askCipher ⟨.rootSubkey, .root, 0⟩ := by
  unfold State.restartFaults
  rw [if_pos h]
  exact readFuses_programmed (by rw [(deviceFault_leaving s _).fuses, h])

/-- WRSTN asserted or released under PORSTN, and PORSTN released under WRSTN (R21). -/
theorem both_lines {c : Instr} {s : State} {f : Fuses} (line : s.line = .powerOn)
    (which : c = .warmReset ∨ c = .leaveWarmReset ∨ (c = .leavePowerOnReset f ∧ s.wrstnToo = true)) :
    exec c s = .next (State.settle { s with
      line := if c = .leavePowerOnReset f then .warm else .powerOn
      wrstnToo := decide (c = .warmReset)
      fuses := if c = .leavePowerOnReset f then f else s.fuses }) := by
  rcases which with rfl | rfl | ⟨rfl, both⟩
  · change execWarmReset s = _
    unfold execWarmReset
    rw [if_pos line]
    simp [done, ← line]
  · change execLeaveWarmReset s = _
    unfold execLeaveWarmReset
    simp [line, done]
  · change execLeavePowerOnReset f s = _
    unfold execLeavePowerOnReset
    simp [line, both, done]

/-- Settles O16: each leaving is a chain of changes that `Leaving` describes. -/
theorem leavingResets : Obligations.LeavingResets := by
  refine ⟨fun f s line alone => ?_, fun s line => ?_, fun c s f line which => ?_⟩
  · obtain ⟨released, fuses, zero, pool, keys, meters, windows⟩ := left_settled (readFuses_leaving (s.releasedWith f))
    refine ⟨_, execLeavePowerOnReset_alone f line alone, released, fuses, zero, fun programmed => ?_, fun blank => ?_,
      pool, keys, meters, windows⟩
    · rw [State.settle_ks, sameFaults_settle, readFuses_programmed programmed]
      exact ⟨rfl, rfl⟩
    · rw [State.settle_ks, State.settle_faults, readFuses_blank blank]
      exact ⟨recordFault_ks _ _, recordFault_faults_congr _ rfl rfl⟩
  · obtain ⟨released, fuses, zero, pool, keys, meters, windows⟩ := left_settled
      ((returnComposing_leaving (s.releasedWith s.fuses)).trans (restartFaults_leaving _))
    refine ⟨_, execLeaveWarmReset_next line, released, fuses, zero, fun programmed => ?_, fun i e he => ?_,
      pool, keys, meters, windows⟩
    · rw [State.settle_ks, State.settle_faults]
      rw [restartFaults_programmed (s := (s.releasedWith s.fuses).returnComposing) programmed]
      exact ⟨by rw [askCipher_ks, State.deviceFault, recordFault_ks]; rfl, recordFault_faults_congr _ rfl rfl⟩
    · rw [returnComposing_get, he]
      rfl
  · obtain ⟨requests, units, windows, classes, time⟩ := lines_settled (s := s) (u := { s with
      line := if c = .leavePowerOnReset f then .warm else .powerOn
      wrstnToo := decide (c = .warmReset)
      fuses := if c = .leavePowerOnReset f then f else s.fuses })
      ⟨⟨rfl, rfl, rfl⟩, ⟨rfl, rfl⟩, ⟨rfl, rfl⟩, rfl, rfl, rfl⟩ rfl rfl rfl rfl
    refine ⟨_, both_lines line which, ?_, State.settle_line _, State.settle_wrstnToo _, State.settle_fuses _, requests,
      units, windows, classes, time⟩
    unfold State.accepting
    rw [State.settle_line]
    dsimp only
    split <;> rfl

end Sys2Proof.Machine
end

section
/-!
SUPPORT. The Time Base and the refills.
-/

namespace Sys2Proof.Machine

-- One theorem at a time: elaborated side by side, each would hold a stack of its own.
set_option Elab.async false

/-! ## The holdoff timer at the end of a step (R167) -/

/-- At GREEN a notice admits exactly the eligible entries. -/
theorem admits_green {s : State} {i : Fin 32} {e : FaultEntry} : s.admits .green i e ↔ (i, e) ∈ s.faults.eligible := by
  simp [State.admits, FaultUnit.eligible, FaultUnit.mem_used, FaultEntry.eligible]

theorem settle_holdoffJudged (u : State) : HoldoffJudged u.settle u.notices.holdoff := by
  have same (i : Fin 32) (e : FaultEntry) : u.settle.admits .green i e ↔ u.admits .green i e := by
    rw [admits_green, admits_green, State.settle_faults]
  simp only [HoldoffJudged, same, admits_green, State.settle_notices]
  unfold State.judgeHoldoff
  refine ⟨fun none => ?_, fun ⟨i, e, he⟩ => ?_⟩
  · have empty : u.faults.eligible = [] := List.eq_nil_iff_forall_not_mem.2 fun p => none p.1 p.2
    rw [empty]
    rfl
  · have some : u.faults.eligible.isEmpty = false := List.isEmpty_eq_false_iff_exists_mem.2 ⟨_, he⟩
    rw [if_neg (by simp [some])]
    split
    · rfl
    · rfl

/-! ## The Time Base (R182) -/

/-- The state one interval later, before it settles. -/
def State.ticked (s : State) : State :=
  if s.time.quarter < 3 ∨ s.time.secondEnds = false then { s.tickInjected with time := s.time.tick }
  else State.tickTimers { s.tickInjected with time := s.time.tick }

theorem execTimeBaseTick_next {s : State} (h : s.line ≠ .powerOn) :
    exec .timeBaseTick s = .next s.ticked.settle := by
  change execTimeBaseTick s = _
  unfold execTimeBaseTick State.ticked
  rw [if_neg h]
  rfl

theorem ticked_of_second {s : State} (h : s.time.quarter = 3 ∧ s.time.subMs = 999) :
    s.ticked = State.tickTimers { s.tickInjected with time := s.time.tick } := by
  obtain ⟨quarter, ms⟩ := h
  exact if_neg (by simp [quarter, TimeBase.secondEnds, ms])

theorem ticked_of_not_second {s : State} (quarter : s.time.quarter ≤ 3) (ms : s.time.subMs ≤ 999)
    (h : ¬ (s.time.quarter = 3 ∧ s.time.subMs = 999)) : s.ticked = { s.tickInjected with time := s.time.tick } := by
  refine if_pos ?_
  simp only [TimeBase.secondEnds, decide_eq_false_iff_not]
  omega

theorem timeBase_tick_fields (b : TimeBase) (hq : b.quarter ≤ 3) (hm : b.subMs ≤ 999) (hs : b.subSec ≤ 59) :
    b.tick.quarter = (b.quarter + 1) % 4 ∧
    b.tick.ms = (if b.quarter = 3 then b.ms + 1 else b.ms) ∧
    b.tick.subMs = (if b.quarter = 3 then (b.subMs + 1) % 1000 else b.subMs) ∧
    b.tick.subSec = (if b.quarter = 3 ∧ b.subMs = 999 then (b.subSec + 1) % 60 else b.subSec) ∧
    b.tick.refillsDue = (if b.quarter = 3 then b.refillsDue + 1 else b.refillsDue) ∧
    b.tick.minutesDue = (if b.quarter = 3 ∧ b.subMs = 999 ∧ b.subSec = 59 then b.minutesDue + 1 else b.minutesDue) := by
  unfold TimeBase.tick
  by_cases quarter : b.quarter = 3
  · rw [if_neg (by omega)]
    by_cases second : b.subMs = 999
    · by_cases minute : b.subSec = 59
      · simp [TimeBase.secondEnds, TimeBase.minuteEnds, quarter, second, minute]
      · have below : b.subSec + 1 < 60 := by omega
        simp [TimeBase.secondEnds, TimeBase.minuteEnds, quarter, second, minute, Nat.mod_eq_of_lt below,
          show ¬ 59 ≤ b.subSec by omega]
    · have below : b.subMs + 1 < 1000 := by omega
      simp [TimeBase.secondEnds, quarter, second, Nat.mod_eq_of_lt below, show ¬ 999 ≤ b.subMs by omega]
  · have below : b.quarter + 1 < 4 := by omega
    simp [quarter, Nat.mod_eq_of_lt below, show b.quarter < 3 by omega]

theorem ticked_inj (s : State) : s.ticked.bus.inj = s.tickInjected.bus.inj := by
  unfold State.ticked
  split <;> rfl

theorem tickInjected_mem {s : State} {e : InjEntry} (h : e ∈ s.bus.inj) :
    (if e.issued then { e with ticks := e.ticks + 1 } else e) ∈ s.tickInjected.bus.inj :=
  List.mem_map_of_mem (f := fun e : InjEntry => if e.issued then { e with ticks := e.ticks + 1 } else e) h

theorem tickTimers_chan (s : State) (c : Fin 16) : s.tickTimers.chan c =
    { s.chan c with cutover := (s.chan c).cutover.tick, grace := (s.chan c).grace.tick } := by
  simp [State.tickTimers, State.chan]

/-- What the interval does beyond the clock and the injected transactions, and what it leaves alone. -/
theorem ticked_units (s : State) : SameFrames s s.ticked ∧ s.ticked.keys = s.keys ∧ SameMeters s s.ticked ∧
    SameFaults s s.ticked ∧ SameNotices s s.ticked ∧ SameControl s s.ticked ∧ s.ticked.time = s.time.tick := by
  unfold State.ticked
  split <;> exact ⟨⟨rfl, rfl, rfl⟩, rfl, ⟨rfl, rfl⟩, rfl, rfl, rfl, rfl⟩

/-- Settles O58: the clock field by field, the timers at a second, the injected transactions at every interval. -/
theorem timeBaseCounts : Obligations.TimeBaseCounts := by
  intro s line hq hm hs
  obtain ⟨quarter, ms, subMs, subSec, refills, minutes⟩ := timeBase_tick_fields s.time hq hm hs
  obtain ⟨frames, keys, meters, faults, notices, control, time⟩ := ticked_units s
  refine ⟨_, execTimeBaseTick_next line, ?_⟩
  rw [State.settle_time, time]
  refine ⟨quarter, ms, subMs, subSec, refills, minutes, fun c => ?_, fun _ => rfl, rfl, fun e he => ?_, notices.settle,
    ?_, sameFrames_settle.2 frames, (State.settle_keys _).trans keys, sameMeters_settle.2 meters,
    sameFaults_settle.2 faults, control.settle⟩
  · rw [State.settle_chan]
    by_cases second : s.time.quarter = 3 ∧ s.time.subMs = 999
    · rw [if_pos second, ticked_of_second second, tickTimers_chan]
      rfl
    · rw [if_neg second, ticked_of_not_second hq hm second]
      rfl
  · refine ⟨_, State.mem_inj_settle _ ((ticked_inj s).symm ▸ tickInjected_mem he), ?_⟩
    split <;> exact ⟨rfl, rfl, rfl⟩
  · rintro was rfl
    convert settle_holdoffJudged s.ticked using 1
    by_cases second : s.time.quarter = 3 ∧ s.time.subMs = 999
    · rw [ticked_of_second second]
      simp only [second, and_self, if_true]
      rfl
    · rw [ticked_of_not_second hq hm second]
      simp only [second, if_false]
      change _ = s.notices.holdoff
      cases s.notices.holdoff <;> rfl

/-! ## Refills (R107) -/

/-- Settles O59: the credit goes where `Meter.refill` puts it. -/
theorem refillSpendsCredit : Obligations.RefillSpendsCredit := by
  intro s due
  have next : exec .meterRefill s = .next (State.settle { s with
      meterA := s.meterA.refill, meterB := s.meterB.refill
      time := { s.time with refillsDue := s.time.refillsDue - 1 } }) := by
    change execMeterRefill s = _
    exact if_neg (by omega)
  refine ⟨_, next, State.settle_time _, sameFrames_settle.2 ⟨rfl, rfl, rfl⟩, sameKeys_settle.2 ⟨rfl, rfl⟩,
    sameFaults_settle.2 rfl, SameNotices.settle rfl, SameControl.settle rfl, fun l => ?_⟩
  rw [State.settle_meter]
  have refilled : State.meter { s with
      meterA := s.meterA.refill, meterB := s.meterB.refill
      time := { s.time with refillsDue := s.time.refillsDue - 1 } } l = (s.meter l).refill := by cases l <;> rfl
  rw [refilled]
  refine ⟨fun unmetered => ?_, fun metered paid intoC intoE => ?_⟩
  · simp [Meter.refill, unmetered]
  · rintro rfl rfl rfl
    simp [Meter.refill, metered]

end Sys2Proof.Machine
end

section
/-!
SUPPORT. Control page commands: completion, REQUEST_RENEWAL, SET_POLICY, SET_WINDOW, CLEAR_FAULTS, snapshots, and the
answers to the Control Unit's own writes.
-/

namespace Sys2Proof.Machine

-- One theorem at a time: elaborated side by side, each would hold a stack of its own.
set_option Elab.async false

/-! ## Completion (R176) -/

/-- A command that completes from a state with the consumer index, the record and the straps of s has completed. -/
theorem completed_of_record {s u : State} {status : Byte} (channel : Byte) (consumer : u.ctl.consumer = s.ctl.consumer)
    (record : u.ctl.record = s.ctl.record) (straps : u.straps = s.straps) :
    Completed s (u.complete status channel).settle status := by
  have own := completed_of_complete (s := u) (u := u) (status := status) channel rfl rfl
  have arg (i : Nat) : u.arg i = s.arg i := by simp [State.arg, record]
  unfold Completed at own ⊢
  simpa [arg, consumer, State.pageBase, straps] using own

section Complete

variable (u : State) (status channel : Byte)

@[simp] theorem complete_ringSize : (u.complete status channel).ctl.ringSize = u.ctl.ringSize := by
  obtain ⟨_, _, _, _, _, h⟩ := u.complete_only status channel; rw [h]; rfl
@[simp] theorem complete_ringProducer : (u.complete status channel).ctl.ringProducer = u.ctl.ringProducer := by
  obtain ⟨_, _, _, _, _, h⟩ := u.complete_only status channel; rw [h]; rfl
@[simp] theorem complete_ringConsumer : (u.complete status channel).ctl.ringConsumer = u.ctl.ringConsumer := by
  obtain ⟨_, _, _, _, _, h⟩ := u.complete_only status channel; rw [h]; rfl
@[simp] theorem complete_producer : (u.complete status channel).ctl.producer = u.ctl.producer := by
  obtain ⟨_, _, _, _, _, h⟩ := u.complete_only status channel; rw [h]; rfl
@[simp] theorem complete_windowWait : (u.complete status channel).ctl.windowWait = u.ctl.windowWait := by
  obtain ⟨_, _, _, _, _, h⟩ := u.complete_only status channel; rw [h]; rfl
@[simp] theorem complete_timeout : (u.complete status channel).bus.timeout = u.bus.timeout := by
  obtain ⟨_, _, _, _, _, h⟩ := u.complete_only status channel; rw [h]
@[simp] theorem complete_chan (c : Fin 16) : (u.complete status channel).chan c = u.chan c := by
  unfold State.chan; rw [State.complete_channels]
@[simp] theorem complete_key (k : Fin 32) : (u.complete status channel).key k = u.key k := by
  unfold State.key; rw [State.complete_keys]
@[simp] theorem complete_slotRec (n : Nat) : (u.complete status channel).slotRec n = u.slotRec n := by
  unfold State.slotRec; rw [State.complete_pool]

theorem complete_asks : u.bus.injAsked ⊆ (u.complete status channel).bus.injAsked := by
  obtain ⟨_, _, _, _, _, h⟩ := u.complete_only status channel
  rw [h]
  exact List.subset_append_left _ _

end Complete

/-- A completion from a state that differs from s in no block of `SameBlocks` leaves those blocks the same. -/
theorem sameBlocks_complete {s u : State} (status channel : Byte) (frames : SameFrames s u) (keys : SameKeys s u)
    (meters : SameMeters s u) (faults : SameFaults s u) (notices : u.notices = s.notices) :
    SameBlocks s (u.complete status channel).settle := by
  refine ⟨?_, ?_, ?_, ?_, sameNotices_of_complete status channel notices⟩
  · simpa [SameFrames] using frames
  · simpa [SameKeys] using keys
  · simpa [SameMeters] using meters
  · simpa [SameFaults] using faults

/-- What a completion at once, with no effect before it, leaves the same: the refusals (R176). -/
theorem sameBlocks_refused (s : State) (status channel : Byte) : SameBlocks s (s.complete status channel).settle :=
  sameBlocks_complete status channel ⟨rfl, rfl, rfl⟩ ⟨rfl, rfl⟩ ⟨rfl, rfl⟩ rfl rfl

/-! ## REQUEST_RENEWAL (R164, R177) -/

theorem scoped_severity (o : Occurrence) : o.scoped.severity = o.severity := by
  unfold Occurrence.scoped
  split <;> rfl

/-- An occurrence below FATAL guards no channel (R158). -/
theorem recordFault_channels {s : State} {o : Occurrence} (h : o.severity ≠ .fatal) :
    (s.recordFault o).channels = s.channels := by
  have quiet : (s.applyFault o.scoped).escalate o.scoped = s.applyFault o.scoped := by
    unfold State.escalate
    split
    · rw [scoped_severity, if_neg (by simp [h])]
    · rfl
  obtain ⟨_, _, _, applied⟩ := s.applyFault_only o.scoped
  rw [State.recordFault, quiet, applied]

/-- The list after an entry is handed to it: in the place of one like it, at the end, or, the list full, as it was. -/
def handedList (l : List ProtoEntry) (e : ProtoEntry) : List ProtoEntry :=
  if l.any (·.like e) then l.map fun f => if f.like e then e else f
  else if l.length < 16 then l ++ [e] else l

theorem noticeBlocked_sameStores (s : State) (c : Fin 16) (w : Option (Fin 16)) (n : Option Nat) :
    (s.noticeBlocked c w n).notices = s.notices ∧ (s.noticeBlocked c w n).channels = s.channels :=
  ⟨recordFault_notices s _, recordFault_channels (by simp [occurrence, FaultClass.severity])⟩

/-- The three cases of an entry handed to the protocol notice list (R164). -/
theorem handProto_cases (s : State) (e : ProtoEntry) :
    (s.notices.list.any (·.like e) = true ∧
      s.handProto e = s.setProto (s.notices.list.map fun f => if f.like e then e else f)) ∨
    (s.notices.list.any (·.like e) = false ∧ s.notices.list.length < 16 ∧
      s.handProto e = s.setProto (s.notices.list ++ [e])) ∨
    (s.notices.list.any (·.like e) = false ∧ ¬ s.notices.list.length < 16 ∧
      s.handProto e = s.noticeBlocked e.channel none none) := by
  unfold State.handProto
  by_cases like : s.notices.list.any (·.like e) = true
  · exact .inl ⟨like, if_pos like⟩
  · rw [if_neg like]
    have none := Bool.eq_false_iff.2 like
    by_cases room : s.notices.list.length < 16
    · exact .inr (.inl ⟨none, room, if_pos room⟩)
    · exact .inr (.inr ⟨none, room, if_neg room⟩)

theorem handProto_notices (s : State) (e : ProtoEntry) :
    (s.handProto e).notices = { s.notices with list := handedList s.notices.list e } := by
  unfold handedList
  rcases handProto_cases s e with ⟨like, h⟩ | ⟨none, room, h⟩ | ⟨none, full, h⟩ <;> rw [h]
  · rw [if_pos like]
    rfl
  · rw [if_neg (by simp [none]), if_pos room]
    rfl
  · rw [if_neg (by simp [none]), if_neg full, (noticeBlocked_sameStores s _ _ _).1]

/-- An entry that finds a place changes no fault entry (R164). -/
theorem handProto_sameFaults {s : State} {e : ProtoEntry}
    (place : s.notices.list.any (·.like e) = true ∨ s.notices.list.length < 16) : (s.handProto e).faults = s.faults := by
  rcases handProto_cases s e with ⟨-, h⟩ | ⟨-, -, h⟩ | ⟨none, full, -⟩
  · rw [h]
    rfl
  · rw [h]
    rfl
  · exact absurd place (by simp [none, full])

theorem handProto_channels (s : State) (e : ProtoEntry) : (s.handProto e).channels = s.channels := by
  rcases handProto_cases s e with ⟨-, h⟩ | ⟨-, -, h⟩ | ⟨-, -, h⟩ <;> rw [h]
  · rfl
  · rfl
  · exact (noticeBlocked_sameStores s _ _ _).2

/-- What a handed entry leaves alone, and what it cannot change of the Control Unit (R164). -/
theorem handProto_kept (s : State) (e : ProtoEntry) : SameFrames s (s.handProto e) ∧ SameKeys s (s.handProto e) ∧
    SameMeters s (s.handProto e) ∧ (s.handProto e).straps = s.straps ∧ (s.handProto e).windows = s.windows ∧
    (s.handProto e).time = s.time := by
  obtain ⟨_, _, _, _, _, h, -⟩ := s.handProto_only e
  have channels := handProto_channels s e
  refine ⟨?_, ⟨?_, channels⟩, ?_, ?_, ?_, ?_⟩ <;> rw [h]
  · exact ⟨rfl, rfl, rfl⟩
  · exact ⟨rfl, rfl⟩

/-- The Control Unit but for its report queue and lost-report counts (R179, R180). -/
def SameCommand (s t : State) : Prop :=
  t.ctl.consumer = s.ctl.consumer ∧ t.ctl.record = s.ctl.record ∧ t.ctl.state = s.ctl.state ∧
    t.ctl.snapshot = s.ctl.snapshot ∧ t.ctl.doneWaiting = s.ctl.doneWaiting ∧ t.ctl.windowWait = s.ctl.windowWait ∧
    SameRing s t

theorem SameCommand.refl (s : State) : SameCommand s s := ⟨rfl, rfl, rfl, rfl, rfl, rfl, rfl, rfl, rfl, rfl⟩

theorem handReport_sameCommand (s : State) (r : Report) : SameCommand s (s.handReport r) := by
  obtain ⟨_, _, _, _, h⟩ := s.handReport_withReports r
  rw [h]
  exact ⟨rfl, rfl, rfl, rfl, rfl, rfl, rfl, rfl, rfl, rfl⟩

theorem recordFault_sameCommand (s : State) (o : Occurrence) : SameCommand s (s.recordFault o) := by
  have escalated (u : State) : (u.escalate o.scoped).ctl = u.ctl := by
    unfold State.escalate
    (repeat' split) <;> rfl
  unfold SameCommand SameRing
  rw [State.recordFault, escalated, applyFault_eq]
  cases (s.faults.taken s.time.ms o.scoped).2 with
  | none => exact SameCommand.refl s
  | some e =>
    dsimp only [State.reportTaken]
    unfold State.reportFault
    split
    · exact handReport_sameCommand (s.withFaults (s.faults.taken s.time.ms o.scoped).1) _
    · exact SameCommand.refl s

theorem handProto_sameCommand (s : State) (e : ProtoEntry) : SameCommand s (s.handProto e) := by
  rcases handProto_cases s e with ⟨-, h⟩ | ⟨-, -, h⟩ | ⟨-, -, h⟩ <;> rw [h]
  · exact SameCommand.refl s
  · exact SameCommand.refl s
  · exact recordFault_sameCommand s _

theorem sameRing_of_complete_ring {s u : State} (status channel : Byte) (ring : SameRing s u) :
    SameRing s (u.complete status channel).settle := by
  have own := sameRing_of_complete (s := u) (u := u) status channel rfl
  obtain ⟨producer, size, ringProducer, ringConsumer⟩ := ring
  obtain ⟨producer', size', ringProducer', ringConsumer'⟩ := own
  exact ⟨producer'.trans producer, size'.trans size, ringProducer'.trans ringProducer, ringConsumer'.trans ringConsumer⟩

theorem like_renew {c : Fin 16} {why : RenewReason} {e : ProtoEntry} :
    e.like ⟨c, .renewRequest why⟩ = true ↔ ∃ w, e = ⟨c, .renewRequest w⟩ := by
  obtain ⟨d, kind⟩ := e
  cases kind <;> simp [ProtoEntry.like, ProtoKind.same]

theorem onChannel_requestRenewal {s : State} {c : Fin 16} (index : (s.arg 2).toNat = c.val) (cur : (s.chan c).cur ≠ none) :
    s.onChannel State.requestRenewal =
      (s.handProto ⟨c, .renewRequest .requested⟩).complete statusOk (s.arg 2) := by
  rw [onChannel_of_index _ index]
  exact if_pos (Option.isSome_iff_ne_none.2 cur)

theorem exec_requestRenewal {s : State} (h : s.executes 0x07 = true) :
    exec .requestRenewal s = .next (s.onChannel State.requestRenewal).settle := by
  change command 0x07 s (fun s => s.onChannel State.requestRenewal) = _
  exact if_pos h

/-- In every case the command completes from what a handed entry can make of the state. -/
theorem requestRenewal_frame (s : State) :
    let t := (s.onChannel State.requestRenewal).settle
    SameFrames s t ∧ SameKeys s t ∧ SameMeters s t ∧ SameRing s t := by
  have shape : ∃ u status, s.onChannel State.requestRenewal = State.complete u status (s.arg 2) ∧ SameFrames s u ∧
      SameKeys s u ∧ SameMeters s u ∧ SameRing s u := by
    unfold State.onChannel State.requestRenewal
    (repeat' split)
    · obtain ⟨frames, keys, meters, -⟩ := handProto_kept s ⟨‹_›, .renewRequest .requested⟩
      obtain ⟨-, -, -, -, -, -, ring⟩ := handProto_sameCommand s ⟨‹_›, .renewRequest .requested⟩
      exact ⟨_, _, rfl, frames, keys, meters, ring⟩
    · exact ⟨s, _, rfl, ⟨rfl, rfl, rfl⟩, ⟨rfl, rfl⟩, ⟨rfl, rfl⟩, (SameCommand.refl s).2.2.2.2.2.2⟩
    · exact ⟨s, _, rfl, ⟨rfl, rfl, rfl⟩, ⟨rfl, rfl⟩, ⟨rfl, rfl⟩, (SameCommand.refl s).2.2.2.2.2.2⟩
  obtain ⟨u, status, h, frames, keys, meters, ring⟩ := shape
  rw [h]
  exact ⟨by simpa [SameFrames] using frames, by simpa [SameKeys] using keys, by simpa [SameMeters] using meters,
    sameRing_of_complete_ring _ _ ring⟩

/-- Settles O52: the refusals, and the three cases of a handed entry. -/
theorem renewalIsRequested : Obligations.RenewalIsRequested := by
  intro s hs
  obtain ⟨frames, keys, meters, ring⟩ := requestRenewal_frame s
  refine ⟨_, exec_requestRenewal hs, frames, keys, meters, ring, fun above => ?_, fun c index => ⟨fun none => ?_, fun cur => ?_⟩⟩
  · rw [onChannel_above _ above]
    exact ⟨completed_of_complete _ rfl rfl, sameBlocks_refused s _ _⟩
  · have refused : s.onChannel State.requestRenewal = s.complete statusNoKey (s.arg 2) := by
      rw [onChannel_of_index _ index]
      exact if_neg (by simp [none])
    rw [refused]
    exact ⟨completed_of_complete _ rfl rfl, sameBlocks_refused s _ _⟩
  · rw [onChannel_requestRenewal index cur]
    obtain ⟨consumer, record, -⟩ := handProto_sameCommand s ⟨c, .renewRequest .requested⟩
    obtain ⟨-, -, -, straps, -⟩ := handProto_kept s ⟨c, .renewRequest .requested⟩
    have list : ((s.handProto ⟨c, .renewRequest .requested⟩).complete statusOk (s.arg 2)).settle.notices.list =
        handedList s.notices.list ⟨c, .renewRequest .requested⟩ := by
      have same := sameNotices_of_complete (u := s.handProto ⟨c, .renewRequest .requested⟩) statusOk (s.arg 2) rfl
      unfold SameNotices at same
      rw [same, handProto_notices]
    have faults : ((s.handProto ⟨c, .renewRequest .requested⟩).complete statusOk (s.arg 2)).settle.faults =
        (s.handProto ⟨c, .renewRequest .requested⟩).faults := by simp
    have absent (none : ∀ e ∈ s.notices.list, ∀ why, e ≠ ⟨c, .renewRequest why⟩) :
        s.notices.list.any (·.like ⟨c, .renewRequest .requested⟩) = false := by
      rw [List.any_eq_false]
      exact fun e he like => by
        obtain ⟨why, h⟩ := like_renew.1 like
        exact none e he why h
    unfold SameFaults
    rw [list, faults]
    refine ⟨completed_of_record _ consumer record straps, fun none room => ?_, fun before after why split others => ?_,
      fun none full => ?_⟩
    · refine ⟨?_, handProto_sameFaults (.inr room)⟩
      rw [handedList, if_neg (by simp [absent none]), if_pos room]
    · have like : s.notices.list.any (·.like ⟨c, .renewRequest .requested⟩) = true := by
        rw [split, List.any_eq_true]
        exact ⟨⟨c, .renewRequest why⟩, by simp, like_renew.2 ⟨why, rfl⟩⟩
      refine ⟨?_, handProto_sameFaults (.inl like)⟩
      have kept {e : ProtoEntry} (he : e ∈ before ++ after) :
          (if e.like ⟨c, .renewRequest .requested⟩ then ⟨c, .renewRequest .requested⟩ else e) = e :=
        if_neg fun h => by
          obtain ⟨w, hw⟩ := like_renew.1 h
          exact others e he w hw
      rw [handedList, if_pos like, split, List.map_append, List.map_cons,
        if_pos (like_renew.2 ⟨why, rfl⟩),
        List.map_congr_left fun e he => kept (List.mem_append_left after he),
        List.map_congr_left fun e he => kept (List.mem_append_right before he), List.map_id', List.map_id']
    · refine ⟨?_, ?_⟩
      · rw [handedList, if_neg (by simp [absent none]), if_neg (by omega)]
      · rcases handProto_cases s ⟨c, .renewRequest .requested⟩ with ⟨like, -⟩ | ⟨-, room, -⟩ | ⟨-, -, h⟩
        · rw [absent none] at like
          cases like
        · omega
        · rw [h]
          rfl

end Sys2Proof.Machine
end

section
/-!
SUPPORT. SET_POLICY, the ends of COMPLETING, and the answers to the Control Unit's own writes.
-/

namespace Sys2Proof.Machine

-- One theorem at a time: elaborated side by side, each would hold a stack of its own.
set_option Elab.async false

/-! ## SET_POLICY (R155, R167, R171, R177) -/

theorem exec_setPolicy {s : State} (h : s.executes 0x09 = true) : exec .setPolicy s = .next s.setPolicy.settle := by
  change command 0x09 s State.setPolicy = _
  exact if_pos h

/-- The REPORT window that the table search finds stands in the table. -/
theorem reportWindow_some {s : State} {i : Fin 16} {w : Window} (h : s.reportWindow = some (i, w)) :
    s.windows[i] = some w ∧ w.role = .report := by
  unfold State.reportWindow at h
  obtain ⟨j, -, hj⟩ := List.exists_of_findSome?_eq_some h
  cases hw : s.windows[j] with
  | none => rw [hw] at hj; cases hj
  | some v =>
    rw [hw] at hj
    dsimp only at hj
    split at hj
    · cases hj
      exact ⟨hw, ‹_›⟩
    · cases hj

theorem reportWindow_none {s : State} (h : s.reportWindow = none) {i : Fin 16} {w : Window} (hw : s.windows[i] = some w) :
    w.role ≠ .report := by
  intro report
  have := List.findSome?_eq_none_iff.1 h i (List.mem_finRange i)
  rw [hw] at this
  simp [report] at this

/-- A ring size other than 0 that no REPORT window counts is refused. -/
theorem ringRefused_of_none {s : State} {size : Nat} (h0 : size ≠ 0)
    (h : ∀ (i : Fin 16) (w : Window), s.windows[i] = some w → w.role = .report → w.count ≠ size) :
    s.ringRefused size = true := by
  unfold State.ringRefused
  cases hw : s.reportWindow with
  | none => simp [h0]
  | some p =>
    obtain ⟨i, w⟩ := p
    obtain ⟨hi, role⟩ := reportWindow_some hw
    simp [h0, h i w hi role]

/-- Size 0, and the count of the one REPORT window, are taken. -/
theorem ringRefused_of_count {s : State} {size : Nat}
    (h : size = 0 ∨ ∃ (i : Fin 16) (w : Window), s.windows[i] = some w ∧ w.role = .report ∧ w.count = size ∧
      ∀ (j : Fin 16) (v : Window), s.windows[j] = some v → v.role = .report → j = i) :
    s.ringRefused size = false := by
  rcases h with rfl | ⟨i, w, hi, role, rfl, one⟩
  · simp [State.ringRefused]
  · unfold State.ringRefused
    cases hw : s.reportWindow with
    | none => exact absurd role (reportWindow_none hw hi)
    | some p =>
      obtain ⟨j, v⟩ := p
      obtain ⟨hj, role'⟩ := reportWindow_some hw
      obtain rfl := one j v hj role'
      rw [hi] at hj
      cases hj
      simp

theorem setPolicy_refused {s : State} (h : 15 < (s.arg 2).toNat ∨ 1 < (s.arg 5).toNat ∨ s.ringRefused (s.argNat 8 10) = true) :
    s.setPolicy = s.complete statusBadArgument (s.arg 2) := by
  unfold State.setPolicy
  by_cases above : 15 < (s.arg 2).toNat
  · rw [channelOf_above above]
  · split
    · rfl
    · exact if_pos (h.resolve_left above)

theorem setPolicy_accepted {s : State} {c : Fin 16} (index : (s.arg 2).toNat = c.val) (guard : (s.arg 5).toNat ≤ 1)
    (ring : s.ringRefused (s.argNat 8 10) = false) :
    s.setPolicy = ((s.writePolicy c).writeRing (s.argNat 8 10)).complete statusOk (s.arg 2) := by
  unfold State.setPolicy
  rw [index, channelOf_val]
  exact if_neg (by simp [ring]; omega)

/-- The state with this report ring size. -/
def State.sized (s : State) (size : Nat) : State := s.setCtl fun c => { c with ringSize := size }

/-- Whether a ring size written starts the indices again (R177). -/
def State.ringRestarts (s : State) (size : Nat) : Bool :=
  ((s.sized size).ringLive && !s.ringLive) || decide (size ≠ s.ctl.ringSize)

theorem writeRing_restarts {s : State} {size : Nat} (h : s.ringRestarts size = true) :
    s.writeRing size = ((s.sized size).setCtl fun c => { c with ringProducer := 0, ringConsumer := 0 }).askPage
      .reportWord 8 (wordAccess 0) := if_pos h

theorem writeRing_goesOn {s : State} {size : Nat} (h : s.ringRestarts size = false) : s.writeRing size = s.sized size :=
  have no : ¬ s.ringRestarts size = true := by simp [h]
  if_neg no

/-- What writing the ring size leaves alone. -/
theorem writeRing_only (s : State) (size : Nat) : ∃ producer consumer asked, s.writeRing size = { s with
    ctl := { s.ctl with ringSize := size, ringProducer := producer, ringConsumer := consumer }
    bus := { s.bus with injAsked := asked } } := by
  cases h : s.ringRestarts size with
  | true => exact ⟨0, 0, _, writeRing_restarts h⟩
  | false => exact ⟨s.ctl.ringProducer, s.ctl.ringConsumer, _, writeRing_goesOn h⟩

theorem ringLive_of_same {s t : State} (windows : t.windows = s.windows) (size : t.ctl.ringSize = s.ctl.ringSize) :
    t.ringLive = s.ringLive := by
  simp only [State.ringLive, reportWindow_of_same windows, size]

/-- The state with the policy and the ring size of an accepted record. -/
def State.policied (s : State) (c : Fin 16) : State := (s.writePolicy c).writeRing (s.argNat 8 10)

theorem policied_fields (s : State) (c : Fin 16) : SameFrames s (s.policied c) ∧ SameKeys s (s.policied c) ∧
    SameMeters s (s.policied c) ∧ (s.policied c).faults = (s.writePolicy c).faults ∧
    (s.policied c).notices = (s.writePolicy c).notices ∧ (s.policied c).bus.timeout = (s.arg 7).toNat ∧
    (s.policied c).ctl.ringSize = s.argNat 8 10 ∧ (s.policied c).windows = s.windows ∧
    (s.policied c).straps = s.straps ∧ (s.policied c).ctl.consumer = s.ctl.consumer ∧
    (s.policied c).ctl.record = s.ctl.record := by
  unfold State.policied
  obtain ⟨_, _, _, h⟩ := writeRing_only (s.writePolicy c) (s.argNat 8 10)
  rw [h]
  exact ⟨⟨rfl, rfl, rfl⟩, ⟨rfl, rfl⟩, ⟨rfl, rfl⟩, rfl, rfl, rfl, rfl, rfl, rfl, rfl, rfl⟩

/-- The command's effect in every case, before it settles: all but the policy fields and the ring is as it was. -/
theorem setPolicy_frame (s : State) : SameFrames s s.setPolicy ∧ SameKeys s s.setPolicy ∧ SameMeters s s.setPolicy ∧
    s.setPolicy.faults.table = s.faults.table ∧ s.setPolicy.faults.lost = s.faults.lost ∧
    s.setPolicy.notices.list = s.notices.list ∧ s.setPolicy.notices.comp = s.notices.comp := by
  have shape : ∃ u status, s.setPolicy = State.complete u status (s.arg 2) ∧ (u = s ∨ ∃ c, u = s.policied c) := by
    unfold State.setPolicy
    (repeat' split) <;> first | exact ⟨_, _, rfl, .inl rfl⟩ | exact ⟨_, _, rfl, .inr ⟨_, rfl⟩⟩
  obtain ⟨u, status, h, rfl | ⟨c, rfl⟩⟩ := shape
  · rw [h]
    simp [SameFrames, SameKeys, SameMeters]
  · obtain ⟨frames, keys, meters, faults, notices, -⟩ := policied_fields s c
    rw [h, State.complete_faults, State.complete_notices, faults, notices]
    exact ⟨by simpa [SameFrames] using frames, by simpa [SameKeys] using keys, by simpa [SameMeters] using meters,
      rfl, rfl, rfl, rfl⟩

/-- The ring's indices and the write of the producer word once the policy is in force (R177). -/
theorem policied_ring (s : State) (c : Fin 16) :
    (s.argNat 8 10 ≠ s.ctl.ringSize ∨ (s.ringLive = false ∧ (s.policied c).ringLive = true) →
      (s.policied c).ctl.ringProducer = 0 ∧ (s.policied c).ctl.ringConsumer = 0 ∧
      (⟨.reportWord, 4, s.pageBase + 8, wordAccess 0, some 0, none⟩ : InjReq) ∈ (s.policied c).bus.injAsked) ∧
    (s.argNat 8 10 = s.ctl.ringSize → (s.ringLive = true ∨ (s.policied c).ringLive = false) →
      (s.policied c).ctl.ringProducer = s.ctl.ringProducer ∧ (s.policied c).ctl.ringConsumer = s.ctl.ringConsumer) := by
  obtain ⟨-, -, -, -, -, -, size, windows, -⟩ := policied_fields s c
  have live : ((s.writePolicy c).sized (s.argNat 8 10)).ringLive = (s.policied c).ringLive :=
    ringLive_of_same (t := (s.writePolicy c).sized (s.argNat 8 10)) (s := s.policied c) windows.symm size.symm
  have before : (s.writePolicy c).ringLive = s.ringLive := ringLive_of_same rfl rfl
  refine ⟨fun restart => ?_, fun same goes => ?_⟩
  · have h : (s.writePolicy c).ringRestarts (s.argNat 8 10) = true := by
      unfold State.ringRestarts
      rw [live, before]
      rcases restart with changed | ⟨dead, alive⟩
      · have : s.argNat 8 10 ≠ (s.writePolicy c).ctl.ringSize := changed
        simp [this]
      · simp [dead, alive]
    unfold State.policied
    rw [writeRing_restarts h]
    exact ⟨rfl, rfl, mem_injAsked_ask _ _⟩
  · have h : (s.writePolicy c).ringRestarts (s.argNat 8 10) = false := by
      unfold State.ringRestarts
      rw [live, before]
      have : s.argNat 8 10 = (s.writePolicy c).ctl.ringSize := same
      rcases goes with alive | dead
      · simp [alive, ← this]
      · simp [dead, ← this]
    unfold State.policied
    rw [writeRing_goesOn h]
    exact ⟨rfl, rfl⟩

/-- Settles O54: the frame of every case, the refusals, and the accepted case with and without a restart of the ring. -/
theorem setPolicyWritesFields : Obligations.SetPolicyWritesFields := by
  intro s hs
  obtain ⟨frames, keys, meters, table, lost, list, comp⟩ := setPolicy_frame s
  have notices := s.setPolicy.settle_sameNotices
  unfold SameNotices at notices
  refine ⟨_, exec_setPolicy hs, sameFrames_settle.2 frames, sameKeys_settle.2 keys, sameMeters_settle.2 meters,
    by rw [State.settle_faults, table], by rw [State.settle_faults, lost], by rw [notices]; exact list,
    by rw [notices]; exact comp, fun bad => ?_, fun c index guard count => ?_⟩
  · have refused : s.setPolicy = s.complete statusBadArgument (s.arg 2) := by
      refine setPolicy_refused (bad.imp_right (Or.imp_right fun ⟨h0, counts⟩ => ringRefused_of_none h0 counts))
    rw [refused]
    obtain ⟨-, -, -, faults, same⟩ := sameBlocks_refused s statusBadArgument (s.arg 2)
    exact ⟨completed_of_complete _ rfl rfl, faults, same, sameRing_of_complete _ _ rfl, by simp⟩
  · obtain ⟨-, -, -, sameF, sameN, timeout, size, windows, straps, consumer, record⟩ := policied_fields s c
    obtain ⟨restarts, goesOn⟩ := policied_ring s c
    rw [show s.setPolicy = (s.policied c).complete statusOk (s.arg 2) from
      setPolicy_accepted index guard (ringRefused_of_count count)] at notices ⊢
    have live : ((s.policied c).complete statusOk (s.arg 2)).settle.ringLive = (s.policied c).ringLive :=
      ringLive_of_same (by simp) (by rw [State.settle_ctl]; simp)
    rw [State.complete_notices, sameN] at notices
    rw [live, notices, State.settle_faults, State.complete_faults, sameF, settle_timeout, complete_timeout, timeout,
      State.settle_ctl]
    dsimp only
    rw [complete_ringSize, complete_ringProducer, complete_ringConsumer, size]
    refine ⟨completed_of_record _ consumer record straps, rfl, rfl, rfl, rfl, rfl, rfl,
      decide_eq_decide.2 (byte_eq_one_iff _), rfl, fun restart => ?_, goesOn⟩
    obtain ⟨producer, read, asked⟩ := restarts restart
    exact ⟨producer, read, _, mem_requests_of_asked (complete_asks _ _ _ asked), rfl, rfl, rfl⟩

/-! ## The end of COMPLETING (R175, R176) -/

/-- What a step reads of the requests of one kind. -/
theorem outstanding_ask (s : State) (r : InjReq) (p : InjOp → Bool) :
    (s.ask r).bus.outstanding p = (s.bus.outstanding p || p r.op) := by
  simp [Bus.outstanding, State.ask, Bool.or_assoc]

section Outstanding

variable {p : InjOp → Bool} (record : p .reportRecord = false) (lost : p .lostWord = false)

include lost in
theorem loseReport_outstanding (s : State) : s.loseReport.bus.outstanding p = s.bus.outstanding p := by
  unfold State.loseReport
  dsimp only
  (repeat' split)
  · rfl
  · rfl
  · refine (outstanding_ask _ _ p).trans ?_
    rw [lost, Bool.or_false]

include record in
theorem askRecord_outstanding (s : State) (r : Report) : (s.askRecord r).bus.outstanding p = s.bus.outstanding p := by
  unfold State.askRecord
  split
  · exact (outstanding_ask _ _ p).trans (by rw [record, Bool.or_false])
  · rfl

include record lost in
theorem reportTurns_outstanding (l : List Report) (s : State) :
    (State.reportTurns l s).bus.outstanding p = s.bus.outstanding p := by
  induction l generalizing s with
  | nil => rfl
  | cons r l ih =>
    unfold State.reportTurns
    (repeat' split)
    · rfl
    · rw [ih, askRecord_outstanding record]
    · rw [ih, loseReport_outstanding lost]

include record lost in
/-- Handing on a report record asks for ring and lost-report writes alone. -/
theorem handReport_outstanding_other (s : State) (r : Report) :
    (s.handReport r).bus.outstanding p = s.bus.outstanding p := by
  unfold State.handReport
  split
  · exact reportTurns_outstanding record lost _ { s with ctl := { s.ctl with queue := s.ctl.queue ++ [r] } }
  · exact loseReport_outstanding lost s

end Outstanding

theorem exec_unknownCommand {s : State} (state : s.ctl.state = .executing) (snapshot : s.ctl.snapshot = none)
    (code : (s.arg 0).toNat = 0 ∨ 11 < (s.arg 0).toNat) :
    exec .unknownCommand s = .next (s.complete statusUnknown 0xFF).settle := by
  change execUnknownCommand s = _
  refine if_pos ?_
  simp [state, snapshot, code]

/-- With no answer and no record owed, the unit fetches a pending record or is IDLE (R175, R176). -/
theorem judgeCompletion_ends {s : State} (state : s.ctl.state = .completing) (handed : s.ctl.doneWaiting = none)
    (answered : s.bus.outstanding (fun op => decide (op = .statusWrite)) = false) :
    s.judgeCompletion.ctl =
      { s.ctl with state := if s.ctl.producer = s.ctl.consumer then .idle else .fetching } := by
  unfold State.judgeCompletion
  rw [if_pos ⟨state, handed, answered⟩]
  unfold State.judgeFetch
  by_cases none : s.ctl.producer = s.ctl.consumer
  · rw [if_neg (by simp [State.setCtl, ControlUnit.recordsPending, none]), if_pos none]
    rfl
  · rw [if_pos ⟨rfl, decide_eq_true none⟩, if_neg none]
    rfl

theorem judgeCompletion_waits {s : State}
    (owed : s.ctl.doneWaiting ≠ none ∨ s.bus.outstanding (fun op => decide (op = .statusWrite)) = true) :
    s.judgeCompletion = s := by
  unfold State.judgeCompletion
  refine if_neg fun ⟨_, handed, answered⟩ => ?_
  rcases owed with h | h
  · exact h handed
  · rw [answered] at h
    cases h

/-- The judgement of a completion changes the command state and asks for a fetch, nothing else (R175, R176). -/
theorem judgeCompletion_only (s : State) : ∃ state asked, s.judgeCompletion =
    { s with ctl := { s.ctl with state := state }, bus := { s.bus with injAsked := asked } } := by
  unfold State.judgeCompletion State.judgeFetch
  (repeat' split) <;> exact ⟨_, _, rfl⟩

/-- What the Control Unit's own changes leave the same, once the step settles. -/
theorem sameBlocks_of_control {s u : State} (h : ∃ ctl bus free, u = { s with ctl := ctl, bus := bus, free := free }) :
    SameBlocks s u.settle := by
  obtain ⟨ctl, bus, free, rfl⟩ := h
  exact ⟨sameFrames_settle.2 ⟨rfl, rfl, rfl⟩, sameKeys_settle.2 ⟨rfl, rfl⟩, sameMeters_settle.2 ⟨rfl, rfl⟩,
    sameFaults_settle.2 rfl, SameNotices.settle rfl⟩

theorem sameRing_settle {s u : State} : SameRing s u.settle ↔ SameRing s u := by simp [SameRing, State.settle_ctl]

/-- A waiting COMMAND_DONE record handed on (R176). -/
def State.handDone (s : State) (q : Report) : State := (s.setCtl fun c => { c with doneWaiting := none }).handReport q

theorem handDone_fields (s : State) (q : Report) : (s.handDone q).ctl.consumer = s.ctl.consumer ∧
    (s.handDone q).ctl.state = s.ctl.state ∧ (s.handDone q).ctl.doneWaiting = none ∧ SameRing s (s.handDone q) ∧
    (s.handDone q).bus.outstanding (fun op => decide (op = .statusWrite)) =
      s.bus.outstanding (fun op => decide (op = .statusWrite)) ∧
    ∃ ctl asked, s.handDone q = { s with ctl := ctl, bus := { s.bus with injAsked := asked } } := by
  obtain ⟨consumer, -, state, -, handed, -, ring⟩ :=
    handReport_sameCommand (s.setCtl fun c => { c with doneWaiting := none }) q
  obtain ⟨ctl, asked, hand⟩ := (s.setCtl fun c => { c with doneWaiting := none }).handReport_only q
  exact ⟨consumer, state, handed, ring, handReport_outstanding_other rfl rfl _ q, ctl, asked, hand⟩

/-- Settles O56: the completion of a code that names no command, and the two events that end COMPLETING. -/
theorem commandsComplete : Obligations.CommandsComplete := by
  refine ⟨fun s state snapshot code => ?_, fun s q waiting room state => ?_, fun id s e issued op state answered => ?_⟩
  · exact ⟨_, exec_unknownCommand state snapshot code, completed_of_complete _ rfl rfl, sameBlocks_refused s _ _,
      sameRing_of_complete _ _ rfl⟩
  · have next : exec .commandDoneHanded s =
        .next (s.handDone q).judgeCompletion.settle := by
      change execCommandDoneHanded s = _
      unfold execCommandDoneHanded
      rw [waiting]
      exact if_pos (decide_eq_true room)
    obtain ⟨consumer, state', handed, ring, owed, ctl', asked, hand⟩ := handDone_fields s q
    have producer := ring.1
    obtain ⟨judged, _, only⟩ := judgeCompletion_only (s.handDone q)
    have ctl := State.settle_ctl (s.handDone q).judgeCompletion
    refine ⟨_, next, ?_, ?_, sameBlocks_of_control ⟨_, _, s.free, by rw [only, hand]⟩, sameRing_settle.2 ?_,
      fun out => ?_, fun ended => ?_⟩
    · rw [ctl, only]
      exact handed
    · rw [ctl, only]
      exact consumer
    · rw [only]
      exact ring
    · rw [ctl, judgeCompletion_waits (.inr (owed.trans out))]
      exact state'.trans state
    · rw [ctl, judgeCompletion_ends (state'.trans state) handed (owed.trans ended), producer, consumer]
  · have next : exec (.statusWriteAnswered id) s = .next ((s.freeInj id).judgeCompletion).settle := by
      change execStatusWriteAnswered id s = _
      unfold execStatusWriteAnswered Machine.answered
      rw [issued]
      exact if_pos (decide_eq_true op)
    obtain ⟨judged, _, only⟩ := judgeCompletion_only (s.freeInj id)
    have ctl := State.settle_ctl (s.freeInj id).judgeCompletion
    refine ⟨_, next, sameBlocks_of_control ⟨_, _, s.free, by rw [only]; rfl⟩, sameRing_settle.2 ?_, fun waits => ?_,
      fun none => ?_⟩
    · rw [only]
      exact ⟨rfl, rfl, rfl, rfl⟩
    · rw [judgeCompletion_waits (s := s.freeInj id) (.inl waits)]
      exact SameControl.settle rfl
    · rw [ctl, judgeCompletion_ends (s := s.freeInj id) state none answered]
      exact ⟨rfl, rfl⟩

/-! ## The answers to the part's own writes (R24, R173, R179, R180) -/

/-- A settling enters requests under new ages only. -/
theorem mem_inj_of_settle {s : State} {f : InjEntry} (h : f ∈ s.settle.bus.inj) : f ∈ s.bus.inj ∨ s.stamp ≤ f.id := by
  rw [State.settle_bus] at h
  unfold State.placeAsked at h
  suffices grows : ∀ (l : List InjReq) (u : State), s.stamp ≤ u.stamp → (∀ i ∈ u.bus.inj, i ∈ s.bus.inj ∨ s.stamp ≤ i.id) →
      ∀ i ∈ (l.foldl State.placeInj u).bus.inj, i ∈ s.bus.inj ∨ s.stamp ≤ i.id from
    grows _ { s.deliver with bus := { s.deliver.bus with injAsked := [] } } (Nat.le_refl _) (fun i hi => .inl hi) f h
  intro l
  induction l with
  | nil => exact fun u _ hu => hu
  | cons r l ih =>
    intro u stamp hu
    rw [List.foldl_cons]
    unfold State.placeInj
    split
    · refine ih _ (Nat.le_succ_of_le stamp) fun i hi => ?_
      rcases List.mem_append.1 hi with old | new
      · exact hu i old
      · rw [List.mem_singleton.1 new]
        exact .inr stamp
    · exact ih _ stamp hu

theorem freeInj_sameUnits (s : State) (id : Nat) : SameUnits s (s.freeInj id) :=
  ⟨⟨rfl, rfl, rfl⟩, ⟨rfl, rfl⟩, ⟨rfl, rfl⟩, rfl, rfl, rfl⟩

/-- The entry that has been answered is not in the queue again: its age is none of the new ones (R13). -/
theorem freed_absent {s : State} {id : Nat} {e : InjEntry} (ages : s.agesSound) (issued : s.issuedInj id = some e) :
    ∀ f ∈ (s.freeInj id).settle.bus.inj, f.id ≠ id := by
  have mem : e ∈ s.bus.inj ∧ e.id = id := by
    unfold State.issuedInj Bus.injEntry at issued
    split at issued
    · rename_i x found
      split at issued
      · cases issued
        exact ⟨List.mem_of_find?_eq_some found, by simpa using List.find?_some found⟩
      · cases issued
    · cases issued
  intro f hf same
  rcases mem_inj_of_settle hf with kept | new
  · have := (List.mem_filter.1 kept).2
    simp [same] at this
  · have below := ages.2.2.2 e mem.1
    have : s.stamp ≤ f.id := new
    rw [mem.2] at below
    omega

theorem exec_answered {id : Nat} {s : State} {e : InjEntry} {mine : InjOp → Bool} {f : State → State}
    (issued : s.issuedInj id = some e) (op : mine e.req.op = true) :
    answered id mine s f = .next (f (s.freeInj id)).settle := by
  unfold answered
  rw [issued]
  exact if_pos op

theorem exec_reportRecordWriteAnswered {id : Nat} {s : State} {e : InjEntry} (issued : s.issuedInj id = some e)
    (op : e.req.op = .reportRecord) : exec (.reportRecordWriteAnswered id) s = .next ((s.freeInj id).advanceRing.askReportWord).settle := by
  change execReportRecordWriteAnswered id s = _
  unfold execReportRecordWriteAnswered
  exact exec_answered issued (decide_eq_true op)

theorem exec_reportProducerWordAnswered {id : Nat} {s : State} {e : InjEntry} (issued : s.issuedInj id = some e)
    (op : e.req.op = .reportWord) : exec (.reportProducerWordAnswered id) s = .next ((s.freeInj id).reportTurn).settle := by
  change execReportProducerWordAnswered id s = _
  unfold execReportProducerWordAnswered
  exact exec_answered issued (decide_eq_true op)

theorem exec_lostReportCountWriteAnswered {id : Nat} {s : State} {e : InjEntry} (issued : s.issuedInj id = some e)
    (op : e.req.op = .lostWord) : exec (.lostReportCountWriteAnswered id) s = .next ((s.freeInj id).followLost).settle := by
  change execLostReportCountWriteAnswered id s = _
  unfold execLostReportCountWriteAnswered
  exact exec_answered issued (decide_eq_true op)

theorem exec_resetZeroingWriteAnswered {id : Nat} {s : State} {e : InjEntry} (issued : s.issuedInj id = some e)
    (op : e.req.op = .resetZero) : exec (.resetZeroingWriteAnswered id) s = .next (s.freeInj id).settle := by
  change execResetZeroingWriteAnswered id s = _
  unfold execResetZeroingWriteAnswered
  exact exec_answered issued (decide_eq_true op)

theorem exec_headerResultWriteAnswered {id n : Nat} {b : Bool} {s : State} {e : InjEntry}
    (issued : s.issuedInj id = some e) (op : e.req.op = .headerResult n b) :
    exec (.headerResultWriteAnswered id) s = .next (s.freeInj id).settle := by
  change execHeaderResultWriteAnswered id s = _
  unfold execHeaderResultWriteAnswered
  exact exec_answered (f := fun s1 => s1) issued (by rw [op])

/-- The ring's turn at a queue with one record at least: it is written, and the rest waits behind it (R179). -/
theorem reportTurns_writes {s : State} {q : Report} {rest : List Report} {i : Fin 16} {w : Window}
    (out : s.reportOutstanding = false) (takes : s.ringTakes = true) (window : s.reportWindow = some (i, w)) :
    State.reportTurns (q :: rest) s = (s.ask ⟨.reportRecord, 4, w.base.toNat + 32 * s.ctl.ringProducer,
      .write (strobeAll q.bytes), some i, none⟩).queued rest := by
  have asked : s.askRecord q = s.ask ⟨.reportRecord, 4, w.base.toNat + 32 * s.ctl.ringProducer,
      .write (strobeAll q.bytes), some i, none⟩ := by
    unfold State.askRecord
    rw [window]
  unfold State.reportTurns
  rw [if_neg (by simp [out]), if_pos (show (s.ringLive && !s.ctl.ringFull) = true from takes), asked]
  cases rest with
  | nil => rfl
  | cons r rest => exact reportTurns_waits r rest ((reportOutstanding_ask s _).trans (by simp [InjOp.ringWrite]))

/-- The write of a changed lost-report count follows the one answered (R180). -/
theorem followLost_changed {s : State} (h : s.ctl.lost ≠ s.ctl.lostWritten) :
    s.followLost = (s.setCtl fun c => { c with lostWritten := c.lost }).ask
      ⟨.lostWord, 4, s.pageBase + 16, wordAccess s.ctl.lost, some 0, none⟩ := if_neg h

theorem wordAccess_eq (v : Nat) : wordAccess v = .write (List.replicate 4 none ++ (beBytes 4 v).map some) := rfl

/-- Settles O57: each row by what follows the freed entry. -/
theorem injectedWritesAnswered : Obligations.InjectedWritesAnswered := by
  intro id s e ages issued
  refine ⟨fun op size => ?_, fun q rest i w op queue live room out window => ?_, fun op queue => ?_, fun op => ?_,
    fun ⟨n, b, op⟩ => ?_, fun op => ?_⟩
  · have next := exec_reportRecordWriteAnswered issued op
    have advanced : (s.freeInj id).advanceRing =
        (s.freeInj id).setCtl fun c => { c with ringProducer := (c.ringProducer + 1) % c.ringSize } :=
      if_neg (Nat.pos_iff_ne_zero.1 size)
    rw [advanced] at next
    refine ⟨_, next, ?_, ?_, ⟨_, mem_requests_of_asked (mem_injAsked_ask _ _), rfl, rfl, rfl⟩,
      sameBlocks_of_control ⟨_, _, s.free, rfl⟩⟩
    · rw [State.settle_ctl]
      rfl
    · rw [State.settle_ctl]
      rfl
  · have takes : (s.freeInj id).ringTakes = true := by
      have : s.ringTakes = true := by simp [State.ringTakes, live, ControlUnit.ringFull, room]
      exact this
    have next := exec_reportProducerWordAnswered issued op
    have turn : (s.freeInj id).reportTurn = ((s.freeInj id).ask ⟨.reportRecord, 4,
        w.base.toNat + 32 * s.ctl.ringProducer, .write (strobeAll q.bytes), some i, none⟩).queued rest := by
      unfold State.reportTurn
      rw [show (s.freeInj id).ctl.queue = q :: rest from queue]
      exact reportTurns_writes out takes window
    rw [turn] at next
    refine ⟨_, next, ?_, ⟨_, mem_requests_of_asked (mem_injAsked_ask (s.freeInj id) _), rfl, rfl, rfl⟩,
      sameRing_settle.2 ⟨rfl, rfl, rfl, rfl⟩, sameBlocks_of_control ⟨_, _, s.free, rfl⟩⟩
    rw [State.settle_ctl]
    rfl
  · have next := exec_reportProducerWordAnswered issued op
    have turn : (s.freeInj id).reportTurn = s.freeInj id := by
      unfold State.reportTurn
      rw [show (s.freeInj id).ctl.queue = [] from queue]
      unfold State.reportTurns
      rw [← queue]
      rfl
    rw [turn] at next
    exact ⟨_, next, (freeInj_sameUnits s id).settle⟩
  · have next := exec_lostReportCountWriteAnswered issued op
    by_cases changed : s.ctl.lost = s.ctl.lostWritten
    · have follow : (s.freeInj id).followLost = s.freeInj id := if_pos changed
      rw [follow] at next
      obtain ⟨frames, keys, meters, faults, notices, control⟩ := (freeInj_sameUnits s id).settle
      refine ⟨_, next, ⟨frames, keys, meters, faults, notices⟩, ?_,
        fun _ => ⟨frames, keys, meters, faults, notices, control⟩, fun other => absurd changed other⟩
      rw [State.settle_ctl]
      rfl
    · have follow := followLost_changed (s := s.freeInj id) changed
      rw [follow] at next
      refine ⟨_, next, sameBlocks_of_control ⟨_, _, s.free, rfl⟩, ?_, fun same => absurd same changed,
        fun _ => ⟨_, mem_requests_of_asked (mem_injAsked_ask _ _), rfl, rfl, wordAccess_eq _⟩⟩
      rw [State.settle_ctl]
      rfl
  · have next := exec_headerResultWriteAnswered issued op
    exact ⟨_, next, (freeInj_sameUnits s id).settle, freed_absent ages issued⟩
  · have next := exec_resetZeroingWriteAnswered issued op
    exact ⟨_, next, (freeInj_sameUnits s id).settle, freed_absent ages issued⟩

end Sys2Proof.Machine
end

section
/-!
SUPPORT. The engines' grants, the merge queue, and what serving keystream beats leaves alone.
-/

namespace Sys2Proof.Machine

-- One theorem at a time: elaborated side by side, each would hold a stack of its own.
set_option Elab.async false

/-! ## The grants (R48, R49, R117) -/

/-- The first element that passes a test, behind elements that do not. -/
theorem find?_behind {α : Type} {p : α → Bool} {older younger : List α} {x : α} (hx : p x = true)
    (h : ∀ y ∈ older, p y = false) : (older ++ x :: younger).find? p = some x := by
  rw [List.find?_append, List.find?_eq_none.2 (by simpa using h)]
  simp [hx]

/-- That element leaves the list as its first occurrence. -/
theorem erase_behind {α : Type} [BEq α] [LawfulBEq α] {p : α → Bool} {older younger : List α} {x : α} (hx : p x = true)
    (h : ∀ y ∈ older, p y = false) : (older ++ x :: younger).erase x = older ++ younger := by
  have absent : x ∉ older := fun mem => by simp [h x mem] at hx
  rw [List.erase_append_right _ absent, List.erase_cons_head]

theorem nextMiss_none {s : State} (h : ∀ x ∈ s.ks.misses, x.granted = true ∨ (s.key x.key).load ≠ .loaded) :
    s.nextMiss = none := by
  rw [State.nextMiss, List.find?_eq_none]
  intro x hx ready
  simp only [Bool.and_eq_true, Bool.not_eq_true', decide_eq_true_eq] at ready
  rcases h x hx with granted | load
  · rw [granted] at ready
    cases ready.1
  · exact load ready.2

/-- A state that differs from s in the keystream unit alone settles to one that differs in it, the bus, the holdoff timer
and the interrupt. -/
theorem keystream_settled (s : State) (ks : Keystream) :
    (State.settle { s with ks := ks }).ks = ks ∧ (State.settle { s with ks := ks }).pool = s.pool ∧
    SameKeys s (State.settle { s with ks := ks }) ∧ SameMeters s (State.settle { s with ks := ks }) ∧
    SameFaults s (State.settle { s with ks := ks }) ∧ SameNotices s (State.settle { s with ks := ks }) ∧
    SameControl s (State.settle { s with ks := ks }) :=
  ⟨State.settle_ks _, State.settle_pool _, sameKeys_settle.2 ⟨rfl, rfl⟩, sameMeters_settle.2 ⟨rfl, rfl⟩,
    sameFaults_settle.2 rfl, SameNotices.settle rfl, SameControl.settle rfl⟩

/-- Settles O33: each grant by what its search finds. -/
theorem enginesGrantOldest : Obligations.EnginesGrantOldest := by
  refine ⟨fun s older younger m idle split free loaded before => ?_,
    fun s older younger q idle misses split ready before => ?_, fun s older younger q idle split ready before => ?_⟩
  · have next : s.nextMiss = some m := by
      rw [State.nextMiss, split]
      refine find?_behind (by simp [free, loaded]) fun x hx => ?_
      rcases before x hx with granted | load
      · simp [granted]
      · simp [load]
    have run : exec .cipherGrant s = .next (s.grantMiss m).settle := by
      change execCipherGrant s = _
      unfold execCipherGrant
      rw [if_neg (by simp [idle]), next]
      rfl
    obtain ⟨ks, pool, keys, meters, faults, notices, control⟩ := keystream_settled s (s.grantMiss m).ks
    refine ⟨_, run, ?_, ?_, ?_, pool, keys, meters, faults, notices, control⟩ <;> rw [State.settle_ks] <;> rfl
  · have next : s.nextBackground = some q := by
      rw [State.nextBackground, split]
      exact find?_behind ready before
    have run : exec .cipherGrant s = .next (s.grantBackground q).settle := by
      change execCipherGrant s = _
      unfold execCipherGrant
      rw [if_neg (by simp [idle]), nextMiss_none misses, next]
      rfl
    have ks : (s.grantBackground q).ks = { s.ks with
        background := older ++ younger, cipher := some ⟨.background q, q.key, q.input, false⟩ } := by
      unfold State.grantBackground
      rw [split, erase_behind ready before]
      rfl
    obtain ⟨-, pool, keys, meters, faults, notices, control⟩ := keystream_settled s (s.grantBackground q).ks
    exact ⟨_, run, (State.settle_ks _).trans ks, pool, keys, meters, faults, notices, control⟩
  · have next : s.ks.mulQueue.find? (fun r => s.keyReady r.key) = some q := by
      rw [split]
      exact find?_behind ready before
    have run : exec .multiplierGrant s = .next (State.settle { s with
        ks := { s.ks with mulQueue := s.ks.mulQueue.erase q, mulBusy := some (q, false) } }) := by
      change execMultiplierGrant s = _
      unfold execMultiplierGrant
      rw [if_neg (by simp [idle]), next]
      rfl
    have left : s.ks.mulQueue.erase q = older ++ younger := by
      rw [split]
      exact erase_behind (p := fun r => s.keyReady r.key) ready before
    rw [left] at run
    exact ⟨_, run, keystream_settled s _⟩

/-! ## Serving keystream beats (R43 to R46, R58 to R60) -/

/-- A record whose accumulator's books alone have changed: the valid flag and the folded blocks (R36). -/
def BooksOnly (x y : SlotRec) : Prop :=
  ∃ valid folded whole, y = { x with valid := valid, folded := folded, whole := whole }

theorem BooksOnly.refl (x : SlotRec) : BooksOnly x x := ⟨_, _, _, rfl⟩

theorem BooksOnly.trans {x y z : SlotRec} (h : BooksOnly x y) (g : BooksOnly y z) : BooksOnly x z := by
  obtain ⟨_, _, _, rfl⟩ := h
  obtain ⟨_, _, _, rfl⟩ := g
  exact ⟨_, _, _, rfl⟩

/-- Two pools with the same numbers in the same order, each record in this relation to the one before (1.2). -/
def PoolRel (R : SlotRec → SlotRec → Prop) (l m : List (Nat × SlotRec)) : Prop :=
  List.Forall₂ (fun p q => p.1 = q.1 ∧ R p.2 q.2) l m

section PoolRel

variable {R : SlotRec → SlotRec → Prop} {l m k : List (Nat × SlotRec)}

theorem PoolRel.refl (h : ∀ x, R x x) (l : List (Nat × SlotRec)) : PoolRel R l l :=
  List.forall₂_same.2 fun p _ => ⟨rfl, h p.2⟩

theorem PoolRel.trans (step : ∀ x y z, R x y → R y z → R x z) (h : PoolRel R l m) (g : PoolRel R m k) : PoolRel R l k := by
  unfold PoolRel at *
  induction h generalizing k with
  | nil => exact g
  | cons first _ ih =>
    cases g with
    | cons first' rest =>
      exact .cons ⟨first.1.trans first'.1, step _ _ _ first.2 first'.2⟩ (ih rest)

theorem PoolRel.map {f : Nat × SlotRec → SlotRec} (h : ∀ p ∈ l, R p.2 (f p)) :
    PoolRel R l (l.map fun p => (p.1, f p)) := by
  induction l with
  | nil => exact .nil
  | cons p l ih =>
    exact .cons ⟨rfl, h p (List.mem_cons_self ..)⟩ (ih fun q hq => h q (List.mem_cons_of_mem _ hq))

theorem PoolRel.lookup_some (h : PoolRel R l m) {n : Nat} {x : SlotRec} (hx : l.lookup n = some x) :
    ∃ y, m.lookup n = some y ∧ R x y := by
  unfold PoolRel at h
  induction h with
  | nil => cases hx
  | @cons p q _ _ first _ ih =>
    rw [List.lookup_cons] at hx ⊢
    rw [← first.1]
    split at hx
    · cases hx
      exact ⟨q.2, rfl, first.2⟩
    · exact ih hx

theorem PoolRel.lookup_none (h : PoolRel R l m) {n : Nat} (hn : l.lookup n = none) : m.lookup n = none := by
  unfold PoolRel at h
  induction h with
  | nil => rfl
  | @cons p q _ _ first _ ih =>
    rw [List.lookup_cons] at hn ⊢
    rw [← first.1]
    split at hn
    · cases hn
    · exact ih hn

/-- A test that the relation does not change holds as often in both pools. -/
theorem PoolRel.countP {p : SlotRec → Bool} (h : PoolRel R l m) (same : ∀ x y, R x y → p y = p x) :
    m.countP (fun q => p q.2) = l.countP fun q => p q.2 := by
  unfold PoolRel at h
  induction h with
  | nil => rfl
  | cons first _ ih => rw [List.countP_cons, List.countP_cons, ih, same _ _ first.2]

end PoolRel

/-- The report records that a change hands to the Control Unit are FAULT records. -/
def FaultReports (s t : State) : Prop :=
  ∃ l : List Report, (∀ a ∈ l, ∃ e, a.body = .fault e) ∧ ∀ (u : State) (m : List Report), Hands u s m → Hands u t (m ++ l)

theorem faultReports_of_quiet {s t : State} (h : Quiet s t) : FaultReports s t :=
  ⟨[], by simp, fun _ _ hands => by simpa using hands.quiet h⟩

theorem FaultReports.trans {s t u : State} (h : FaultReports s t) (g : FaultReports t u) : FaultReports s u := by
  obtain ⟨l, hl, hands⟩ := h
  obtain ⟨m, hm, hands'⟩ := g
  refine ⟨l ++ m, fun a ha => (List.mem_append.1 ha).elim (hl a) (hm a), fun v n hv => ?_⟩
  rw [← List.append_assoc]
  exact hands' v _ (hands v n hv)

theorem faultReports_recordFault (s : State) (o : Occurrence) : FaultReports s (s.recordFault o) := by
  refine ⟨s.faultRecords o, fun a ha => ?_, fun _ _ h => h.recordFault o⟩
  unfold State.faultRecords at ha
  split at ha
  · split at ha
    · cases List.mem_singleton.1 ha
      exact ⟨_, rfl⟩
    · cases ha
  · cases ha

/-- What every operation on slot records, keystream and key slots leaves alone: the channels, the meters, the Notice
Engine, the settings, the command in execution and the requests. -/
structure Framed (s t : State) : Prop where
  channels : t.channels = s.channels
  meters : SameMeters s t
  notices : t.notices = s.notices
  windows : t.windows = s.windows
  straps : t.straps = s.straps
  time : t.time = s.time
  fuses : t.fuses = s.fuses
  control : SameCommand s t
  bus : t.bus.inj = s.bus.inj ∧ t.bus.injWaiting = s.bus.injWaiting ∧ t.bus.up = s.bus.up ∧ t.bus.down = s.bus.down ∧
    t.bus.transit.map (·.id) = s.bus.transit.map (·.id)
  asks : s.bus.injAsked ⊆ t.bus.injAsked
  reports : FaultReports s t

/-- What an operation on keystream and key slots leaves alone: of slot records it changes the accumulator's books alone. -/
structure Kept (s t : State) : Prop extends Framed s t where
  rootSubkey : t.ks.rootSubkey = s.ks.rootSubkey
  pool : PoolRel BooksOnly s.pool t.pool
  still : ∀ (n : Nat) (x : SlotRec), s.slotRec n = some x → x.valid = false → t.slotRec n = some x

/-- What the serving of keystream beats, with the folds, merges and evictions it leads to, leaves alone besides. -/
structure Served (s t : State) : Prop extends Kept s t where
  store : t.keys = s.keys
  cache : t.ks.cache = s.ks.cache ∧ t.ks.pointer = s.ks.pointer
  engines : t.ks.cipher = s.ks.cipher ∧ t.ks.background = s.ks.background ∧ t.ks.mulBusy = s.ks.mulBusy
  products : s.ks.mulQueue <+: t.ks.mulQueue

theorem SameCommand.trans {s t u : State} (h : SameCommand s t) (g : SameCommand t u) : SameCommand s u := by
  obtain ⟨a, b, c, d, e, f, i, j, k, l⟩ := h
  obtain ⟨a', b', c', d', e', f', i', j', k', l'⟩ := g
  exact ⟨a'.trans a, b'.trans b, c'.trans c, d'.trans d, e'.trans e, f'.trans f, i'.trans i, j'.trans j, k'.trans k,
    l'.trans l⟩

theorem Framed.trans {s t u : State} (h : Framed s t) (g : Framed t u) : Framed s u where
  channels := g.channels.trans h.channels
  meters := ⟨g.meters.1.trans h.meters.1, g.meters.2.trans h.meters.2⟩
  notices := g.notices.trans h.notices
  windows := g.windows.trans h.windows
  straps := g.straps.trans h.straps
  time := g.time.trans h.time
  fuses := g.fuses.trans h.fuses
  control := h.control.trans g.control
  bus := by
    obtain ⟨a, b, c, d, e⟩ := h.bus
    obtain ⟨a', b', c', d', e'⟩ := g.bus
    exact ⟨a'.trans a, b'.trans b, c'.trans c, d'.trans d, e'.trans e⟩
  asks := List.Subset.trans h.asks g.asks
  reports := h.reports.trans g.reports

theorem Kept.trans {s t u : State} (h : Kept s t) (g : Kept t u) : Kept s u where
  toFramed := h.toFramed.trans g.toFramed
  rootSubkey := g.rootSubkey.trans h.rootSubkey
  pool := h.pool.trans (fun _ _ _ => BooksOnly.trans) g.pool
  still := fun n x hx hv => g.still n x (h.still n x hx hv) hv

theorem Kept.records {s t : State} (h : Kept s t) {n : Nat} {x : SlotRec} (hx : s.slotRec n = some x) :
    ∃ y, t.slotRec n = some y ∧ BooksOnly x y := h.pool.lookup_some hx

theorem Kept.absent {s t : State} (h : Kept s t) {n : Nat} (hn : s.slotRec n = none) : t.slotRec n = none :=
  h.pool.lookup_none hn

theorem Framed.chan {s t : State} (h : Framed s t) (c : Fin 16) : t.chan c = s.chan c := by
  unfold State.chan
  rw [h.channels]

theorem Served.keys {s t : State} (h : Served s t) : SameKeys s t := ⟨h.store, h.channels⟩

theorem Served.trans {s t u : State} (h : Served s t) (g : Served t u) : Served s u where
  toKept := h.toKept.trans g.toKept
  store := g.store.trans h.store
  cache := ⟨g.cache.1.trans h.cache.1, g.cache.2.trans h.cache.2⟩
  engines := by
    obtain ⟨a, b, c⟩ := h.engines
    obtain ⟨a', b', c'⟩ := g.engines
    exact ⟨a'.trans a, b'.trans b, c'.trans c⟩
  products := h.products.trans g.products

/-- A change of the keystream, of the key slots, of the merge queue, of the transit table's entries in place and of the
stamp. -/
theorem kept_of_only {s t : State} (h : ∃ ks keys merges transit stamp, t = { s with
      ks := ks, keys := keys, merges := merges, bus := { s.bus with transit := transit }, stamp := stamp } ∧
      ks.rootSubkey = s.ks.rootSubkey ∧ transit.map (·.id) = s.bus.transit.map (·.id)) : Kept s t := by
  obtain ⟨ks, keys, merges, transit, stamp, rfl, root, ids⟩ := h
  exact ⟨⟨rfl, ⟨rfl, rfl⟩, rfl, rfl, rfl, rfl, rfl, SameCommand.refl s, ⟨rfl, rfl, rfl, rfl, ids⟩, List.Subset.refl _,
    faultReports_of_quiet (quiet_of_same rfl rfl rfl rfl rfl)⟩, root, PoolRel.refl BooksOnly.refl _, fun _ _ h _ => h⟩

theorem Kept.refl (s : State) : Kept s s := kept_of_only ⟨_, _, _, _, _, rfl, rfl, rfl⟩

/-- A change of the miss file, the overflow list, the multiplier's queue's tail, the merge queue, the transit table's
entries in place and the stamp. -/
theorem served_of_only {s t : State} (h : ∃ misses overflow more merges transit stamp, t = { s with
      ks := { s.ks with misses := misses, overflow := overflow, mulQueue := s.ks.mulQueue ++ more }
      merges := merges, bus := { s.bus with transit := transit }, stamp := stamp } ∧
      transit.map (·.id) = s.bus.transit.map (·.id)) : Served s t := by
  obtain ⟨misses, overflow, more, merges, transit, stamp, rfl, ids⟩ := h
  exact ⟨kept_of_only ⟨_, _, _, _, _, rfl, rfl, ids⟩, rfl, ⟨rfl, rfl⟩, ⟨rfl, rfl, rfl⟩, List.prefix_append _ _⟩

theorem Served.refl (s : State) : Served s s := served_of_only ⟨_, _, [], _, _, _, by rw [List.append_nil], rfl⟩

/-- The books of one record changed, whose valid flag is set, or cleared and nothing else. -/
theorem served_setRec {s : State} {n : Nat} {f : SlotRec → SlotRec} (h : ∀ x, BooksOnly x (f x))
    (g : ∀ x, s.slotRec n = some x → x.valid = false → f x = x) : Served s (s.setRec n f) where
  channels := rfl
  meters := ⟨rfl, rfl⟩
  notices := rfl
  windows := rfl
  straps := rfl
  time := rfl
  fuses := rfl
  control := SameCommand.refl s
  bus := ⟨rfl, rfl, rfl, rfl, rfl⟩
  asks := List.Subset.refl _
  rootSubkey := rfl
  pool := by
    have same : (s.setRec n f).pool = s.pool.map fun p => (p.1, if p.1 == n then f p.2 else p.2) := by
      unfold State.setRec
      refine List.map_congr_left fun p _ => ?_
      split <;> rfl
    rw [same]
    refine PoolRel.map fun p _ => ?_
    split
    · exact h p.2
    · exact BooksOnly.refl p.2
  still := fun m x hx hv => by
    rw [State.slotRec_setRec]
    split
    · rename_i same
      rw [hx, Option.map_some, g x (same ▸ hx) hv]
    · exact hx
  reports := faultReports_of_quiet (quiet_of_same rfl rfl rfl rfl rfl)
  store := rfl
  cache := ⟨rfl, rfl⟩
  engines := ⟨rfl, rfl, rfl⟩
  products := List.prefix_rfl

theorem served_withMerges (s : State) (l : List MergeEntry) : Served s { s with merges := l } :=
  served_of_only ⟨_, _, [], l, _, _, by rw [List.append_nil], rfl⟩

theorem served_clearValid (s : State) (n : Nat) : Served s (s.clearValid n) :=
  (served_setRec (f := fun r => { r with valid := false }) (fun _ => ⟨_, _, _, rfl⟩)
    fun x _ hv => by rw [← hv]).trans (served_withMerges _ _)

theorem served_askMul (s : State) (r : MulReq) : Served s (s.askMul r) :=
  served_of_only ⟨_, _, [r], _, _, _, rfl, rfl⟩

theorem served_fold (s : State) (n b : Nat) (blk : Block) (whole : Bool) : Served s (s.fold n b blk whole) := by
  unfold State.fold
  split
  · exact Served.refl s
  next r hr =>
  split
  · exact Served.refl s
  next valid =>
  split
  · exact served_clearValid s n
  split
  · refine (served_setRec (fun _ => ⟨_, _, _, rfl⟩) fun x hx hv => ?_).trans (served_askMul _ _)
    rw [hr] at hx
    cases hx
    exact absurd hv (by simpa using valid)
  · exact Served.refl s

/-- An occurrence below FATAL, among what the serving of beats leads to (R60). -/
theorem served_recordFault {s : State} {o : Occurrence} (h : o.severity ≠ .fatal) : Served s (s.recordFault o) where
  channels := recordFault_channels h
  meters := ⟨recordFault_meterA s o, recordFault_meterB s o⟩
  notices := recordFault_notices s o
  windows := recordFault_windows s o
  straps := recordFault_straps s o
  time := recordFault_time s o
  fuses := recordFault_fuses s o
  control := recordFault_sameCommand s o
  bus := by simp
  asks := recordFault_asks s o
  rootSubkey := by simp
  pool := by rw [recordFault_pool]; exact PoolRel.refl BooksOnly.refl _
  still := fun n x hx _ => by rw [recordFault_slotRec]; exact hx
  reports := faultReports_recordFault s o
  store := recordFault_keys s o
  cache := by simp
  engines := by simp
  products := by simp

theorem served_evictMerge (s : State) : Served s s.evictMerge := by
  unfold State.evictMerge
  split
  · exact Served.refl s
  · exact (served_clearValid s _).trans (served_recordFault (by simp [occurrence, FaultClass.severity]))

theorem served_newMerge (s : State) (n b : Nat) (bytes : List (Option Byte)) : Served s (s.newMerge n b bytes) := by
  unfold State.newMerge
  dsimp only
  (repeat' split)
  · exact served_withMerges s _
  · exact served_evictMerge s
  · exact (served_evictMerge s).trans (served_withMerges _ _)

theorem served_mergeStep (s : State) (n b : Nat) (bytes : List (Option Byte)) : Served s (s.mergeStep n b bytes) := by
  unfold State.mergeStep
  dsimp only
  (repeat' split)
  · exact Served.refl s
  · exact Served.refl s
  · exact served_clearValid s n
  · exact served_clearValid s n
  · exact (served_withMerges s _).trans (served_fold _ n b _ true)
  · exact served_withMerges s _
  · exact served_newMerge s n b bytes

theorem served_blockStep (s : State) (e : TransitEntry) (b : Nat) : Served s (s.blockStep e b) := by
  unfold State.blockStep
  dsimp only
  (repeat' split)
  · exact Served.refl s
  · exact served_clearValid s _
  · exact served_fold s _ b _ true
  · exact served_mergeStep s _ b _
  · exact Served.refl s
  · exact Served.refl s

theorem served_setEntry {s : State} {id : Nat} {f : TransitEntry → TransitEntry}
    (h : ∀ e ∈ s.bus.transit, e.id = id → (f e).id = e.id) : Served s (s.setEntry id f) := by
  refine served_of_only ⟨_, _, [], _, s.bus.transit.map fun e => if e.id == id then f e else e, _,
    by rw [List.append_nil]; rfl, ?_⟩
  rw [List.map_map]
  refine List.map_congr_left fun e he => ?_
  by_cases same : e.id = id
  · simp only [Function.comp, same, beq_self_eq_true, if_true]
    rw [h e he same, same]
  · simp only [Function.comp, beq_iff_eq, if_neg same]

theorem served_serveBeat (s : State) (w : Waiter) (ks : Block) : Served s (s.serveBeat w ks) := by
  unfold State.serveBeat
  dsimp only
  split
  · exact Served.refl s
  · rename_i e found
    have same := Bus.entry_id found
    (repeat' split)
    · exact served_setEntry fun _ _ _ => rfl
    · exact served_setEntry fun _ _ h => same.trans h.symm
    · refine Served.trans ?_ (served_blockStep _ _ _)
      exact served_setEntry fun _ _ h => same.trans h.symm

theorem served_setMisses (s : State) (l : List MissEntry) : Served s (s.setMisses l) :=
  served_of_only ⟨l, _, [], _, _, _, by rw [List.append_nil]; rfl, rfl⟩

theorem served_setOverflow (s : State) (l : List OverflowBeat) : Served s (s.setOverflow l) :=
  served_of_only ⟨_, l, [], _, _, _, by rw [List.append_nil]; rfl, rfl⟩

theorem served_bump (s : State) : Served s s.bump :=
  served_of_only ⟨_, _, [], _, _, s.stamp + 1, by rw [List.append_nil]; rfl, rfl⟩

theorem served_lookupBeat (s : State) (o : OverflowBeat) : Served s (s.lookupBeat o) := by
  unfold State.lookupBeat
  (repeat' split)
  · exact served_serveBeat s _ _
  · exact served_setMisses s _
  · exact (served_setMisses s _).trans (served_bump _)
  · exact served_setOverflow s _

theorem served_serveOverflowList (l : List OverflowBeat) (s : State) : Served s (State.serveOverflowList l s) := by
  induction l generalizing s with
  | nil => exact served_setOverflow s []
  | cons o rest ih =>
    unfold State.serveOverflowList
    split
    · exact (served_lookupBeat s o).trans (ih _)
    · exact served_setOverflow s _

theorem served_serveOverflow (s : State) : Served s s.serveOverflow := served_serveOverflowList _ s

theorem served_foldl {α : Type} {f : State → α → State} (step : ∀ u a, Served u (f u a)) (l : List α) (s : State) :
    Served s (l.foldl f s) := by
  induction l generalizing s with
  | nil => exact Served.refl s
  | cons a l ih => exact (step s a).trans (ih _)

theorem served_lookupBeats (s : State) (e : TransitEntry) (k : Fin 32) (r : SlotRec) : Served s (s.lookupBeats e k r) := by
  unfold State.lookupBeats
  refine served_foldl (fun u p => ?_) _ s
  split
  · exact served_lookupBeat u _
  · exact Served.refl u

/-- The keystream in the cache, its entry freed, before its beats are served (R44, R46). -/
def State.missInserted (s : State) (m : MissEntry) (out : Block) : State :=
  (s.setMisses (s.ks.misses.filter fun x => x.id != m.id)).cacheInsert ⟨m.key, m.ctr, out⟩

theorem served_completeMiss (s : State) (m : MissEntry) (out : Block) :
    Served (s.missInserted m out) (s.completeMiss m out) := by
  unfold State.completeMiss
  exact (served_foldl (fun u w => served_serveBeat u w out) _ _).trans (served_serveOverflow _)

/-- Settles O34: the entry written at the pointer stays while the waiting beats are served. -/
theorem missFillsCache : Obligations.MissFillsCache := by
  refine ⟨fun s m g granted job kept found => ?_, fun s id g granted job withdrawn => ?_⟩
  · have run : exec .keystreamMissComplete s = .next ((s.setCipher none).completeMiss m (s.cipherOut g)).settle := by
      change execKeystreamMissComplete s = _
      unfold execKeystreamMissComplete
      rw [granted]
      simp only [job, kept, found]
      rfl
    have served := served_completeMiss (s.setCipher none) m (s.cipherOut g)
    obtain ⟨cache, pointer⟩ := served.cache
    obtain ⟨cipher, background, -⟩ := served.engines
    refine ⟨_, run, ?_, ?_, fun i hi => ?_, ?_, ?_, sameKeys_settle.2 served.keys, sameMeters_settle.2 served.meters⟩ <;>
      rw [State.settle_ks]
    · exact cipher
    · rw [cache]
      exact Vector.getElem_set_self s.ks.pointer.isLt
    · rw [cache]
      exact Vector.getElem_set_ne s.ks.pointer.isLt i.isLt fun same => hi (Fin.ext same.symm)
    · rw [pointer]
      exact Fin.val_add s.ks.pointer 1
    · exact background
  · have run : exec .keystreamMissComplete s = .next (s.setCipher none).settle := by
      change execKeystreamMissComplete s = _
      unfold execKeystreamMissComplete
      rw [granted]
      simp only [job, withdrawn]
      rfl
    exact ⟨_, run, keystream_settled s _⟩

/-! ## The merge queue (R59, R60) -/

theorem setRec_self {s : State} {n : Nat} {r : SlotRec} (f : SlotRec → SlotRec) (h : s.slotRec n = some r) :
    (s.setRec n f).slotRec n = some (f r) := by
  rw [State.slotRec_setRec, if_pos rfl, h]
  rfl

theorem setRec_others (s : State) (n : Nat) (f : SlotRec → SlotRec) : OtherRecords s (s.setRec n f) n :=
  fun m apart => by rw [State.slotRec_setRec, if_neg apart]

theorem clearValid_self {s : State} {n : Nat} {r : SlotRec} (h : s.slotRec n = some r) :
    (s.clearValid n).slotRec n = some { r with valid := false } :=
  setRec_self (fun r => { r with valid := false }) h

theorem clearValid_others (s : State) (n : Nat) : OtherRecords s (s.clearValid n) n :=
  setRec_others s n fun r => { r with valid := false }

theorem fold_asked {s : State} {n b o : Nat} {r : SlotRec} {key : KeyRef} (blk : Block) (whole : Bool)
    (h : s.slotRec n = some r) (opening : r.opening = some o) (hk : r.key = some key) (valid : r.valid = true)
    (fresh : b ∉ r.folded) : s.fold n b blk whole =
      (s.setRec n fun r => { r with folded := b :: r.folded, whole := if whole then b :: r.whole else r.whole }).askMul
        ⟨.fold, n, o, key, blk, b⟩ := by
  unfold State.fold
  rw [h]
  simp only [valid, Bool.not_true, Bool.false_eq_true, if_false, List.contains_iff_mem, fresh, opening, hk]

theorem fold_self {s : State} {n b o : Nat} {r : SlotRec} {key : KeyRef} (blk : Block) (whole : Bool)
    (h : s.slotRec n = some r) (opening : r.opening = some o) (hk : r.key = some key) (valid : r.valid = true)
    (fresh : b ∉ r.folded) : (s.fold n b blk whole).slotRec n =
      some { r with folded := b :: r.folded, whole := if whole then b :: r.whole else r.whole } := by
  rw [fold_asked blk whole h opening hk valid fresh]
  exact setRec_self (fun r => { r with folded := b :: r.folded, whole := if whole then b :: r.whole else r.whole }) h

theorem fold_others (s : State) (n b : Nat) (blk : Block) (whole : Bool) : OtherRecords s (s.fold n b blk whole) n := by
  intro m apart
  unfold State.fold
  split
  · rfl
  · split
    · rfl
    · split
      · exact clearValid_others s n m apart
      · split
        · exact setRec_others s n
            (fun r => { r with folded := b :: r.folded, whole := if whole then b :: r.whole else r.whole }) m apart
        · rfl

section MergeStep

variable {s : State} {n b o : Nat} {bytes : List (Option Byte)} {r : SlotRec} {key : KeyRef}

theorem mergeStep_invalid (h : s.slotRec n = some r) (valid : r.valid = false) : s.mergeStep n b bytes = s := by
  unfold State.mergeStep
  rw [h]
  exact if_pos (by simp [valid])

/-- A block folded before, or a byte held before, spoils the accumulator (R59). -/
theorem mergeStep_spoils (h : s.slotRec n = some r) (valid : r.valid = true)
    (again : b ∈ r.folded ∨ ∃ m, s.mergeOf n b = some m ∧ overlapBytes m.bytes bytes = true) :
    s.mergeStep n b bytes = s.clearValid n := by
  unfold State.mergeStep
  rw [h]
  by_cases folded : b ∈ r.folded
  · simp [valid, folded]
  · obtain ⟨m, found, overlap⟩ := again.resolve_left folded
    simp [valid, folded, found, overlap]

theorem mergeStep_fills {m : MergeEntry} (h : s.slotRec n = some r) (valid : r.valid = true) (fresh : b ∉ r.folded)
    (found : s.mergeOf n b = some m) (apart : overlapBytes m.bytes bytes = false)
    (full : (joinBytes m.bytes bytes).all Option.isSome = true) : s.mergeStep n b bytes =
      State.fold { s with merges := s.merges.filter fun x => !(x.recNo == n && x.block == b) } n b
        (blockOfStrobed (joinBytes m.bytes bytes)) true := by
  unfold State.mergeStep
  rw [h]
  simp only [valid, Bool.not_true, Bool.false_eq_true, if_false, List.contains_iff_mem, fresh, found, apart, full, if_true]

theorem mergeStep_joins {m : MergeEntry} (h : s.slotRec n = some r) (valid : r.valid = true) (fresh : b ∉ r.folded)
    (found : s.mergeOf n b = some m) (apart : overlapBytes m.bytes bytes = false)
    (part : (joinBytes m.bytes bytes).all Option.isSome = false) : s.mergeStep n b bytes =
      { s with merges := s.merges.map fun x =>
          if x.recNo == n && x.block == b then { x with bytes := joinBytes m.bytes bytes } else x } := by
  unfold State.mergeStep
  rw [h]
  simp only [valid, Bool.not_true, Bool.false_eq_true, if_false, List.contains_iff_mem, fresh, found, apart, part]

theorem mergeStep_new (h : s.slotRec n = some r) (valid : r.valid = true) (fresh : b ∉ r.folded)
    (absent : s.mergeOf n b = none) : s.mergeStep n b bytes = s.newMerge n b bytes := by
  unfold State.mergeStep
  rw [h]
  simp only [valid, Bool.not_true, Bool.false_eq_true, if_false, List.contains_iff_mem, fresh, absent]

end MergeStep

/-- An entry changed in place is found as it stands after the change. -/
theorem find?_map_in_place {α : Type} {p : α → Bool} {f : α → α} {l : List α} {m : α} (h : l.find? p = some m)
    (kept : p (f m) = true) : (l.map fun x => if p x then f x else x).find? p = some (f m) := by
  induction l with
  | nil => cases h
  | cons x l ih =>
    rw [List.map_cons]
    by_cases hx : p x = true
    · rw [List.find?_cons_of_pos hx] at h
      cases h
      rw [if_pos hx, List.find?_cons_of_pos kept]
    · rw [List.find?_cons_of_neg hx] at h
      rw [if_neg hx, List.find?_cons_of_neg hx]
      exact ih h

/-- The eviction of the oldest entry (R60). -/
theorem evictMerge_cons {s : State} {m : MergeEntry} {rest : List MergeEntry} {x : SlotRec} (h : s.merges = m :: rest)
    (hx : s.slotRec m.recNo = some x) : s.evictMerge = (s.clearValid m.recNo).recordFault
      ⟨.mergeEviction, .correctable, x.channel, some x.window, some x.slot, none, false⟩ := by
  unfold State.evictMerge
  rw [h]
  simp only [hx]
  rfl

theorem clearValid_merges {s : State} {m : MergeEntry} {rest : List MergeEntry} (h : s.merges = m :: rest) :
    (s.clearValid m.recNo).merges = rest.filter fun y => y.recNo != m.recNo := by
  change s.merges.filter (fun y => y.recNo != m.recNo) = _
  rw [h, List.filter_cons_of_neg (by simp)]

/-- Settles O35: the cases of a merge step in the order of R59. -/
theorem partialBlocksMerge : Obligations.PartialBlocksMerge := by
  rintro s t n b o bytes r key h opening hk rfl
  have served := served_mergeStep s n b bytes
  refine ⟨served.keys, served.meters, fun invalid => mergeStep_invalid h invalid, fun valid again => ?_,
    fun m valid fresh found apart => ?_, fun valid fresh absent room => ?_,
    fun m rest x valid fresh absent full split hx => ?_⟩
  · rw [mergeStep_spoils h valid again]
    exact ⟨clearValid_self h, clearValid_others s n, rfl, rfl, rfl⟩
  · cases full : (joinBytes m.bytes bytes).all Option.isSome with
    | true =>
      have folded := fold_asked (s := { s with merges := s.merges.filter fun x => !(x.recNo == n && x.block == b) })
        (blockOfStrobed (joinBytes m.bytes bytes)) true h opening hk valid fresh
      rw [mergeStep_fills h valid fresh found apart full]
      refine ⟨by rw [folded]; rfl, fold_others _ n b _ true, fun _ => ⟨?_, by rw [folded]; rfl, by rw [folded]; rfl⟩,
        fun no => absurd no (by simp)⟩
      exact fold_self _ true h opening hk valid fresh
    | false =>
      rw [mergeStep_joins h valid fresh found apart full]
      refine ⟨rfl, fun _ _ => rfl, fun no => absurd no (by simp), fun _ => ⟨h, rfl, ?_, List.length_map _⟩⟩
      have kept := List.find?_some found
      exact find?_map_in_place (f := fun x => { x with bytes := joinBytes m.bytes bytes }) found kept
  · rw [mergeStep_new h valid fresh absent]
    exact if_pos room
  · have full' : ¬ s.merges.length < Config.mergeSize := Nat.not_lt.2 full
    have head : s.merges.head?.map (·.recNo) = some m.recNo := by rw [split]; rfl
    have evicted : s.mergeStep n b bytes = if m.recNo = n then s.evictMerge
        else { s.evictMerge with merges := s.evictMerge.merges ++ [⟨n, b, bytes⟩] } := by
      rw [mergeStep_new h valid fresh absent, State.newMerge, if_neg full', head]
      simp only [Option.some.injEq]
    have records : ∀ k, (s.mergeStep n b bytes).slotRec k = (s.clearValid m.recNo).slotRec k := by
      intro k
      rw [evicted, ← recordFault_slotRec (s.clearValid m.recNo)
        ⟨.mergeEviction, .correctable, x.channel, some x.window, some x.slot, none, false⟩ k, ← evictMerge_cons split hx]
      split <;> rfl
    have same : (s.mergeStep n b bytes).ks = s.ks ∧ (s.mergeStep n b bytes).faults = s.evictMerge.faults := by
      rw [evicted, evictMerge_cons split hx]
      split
      · exact ⟨recordFault_ks _ _, rfl⟩
      · exact ⟨recordFault_ks _ _, rfl⟩
    refine ⟨?_, fun k apart => ?_, same.1, ?_, ?_⟩
    · rw [records, clearValid_self hx]
    · rw [records, clearValid_others s m.recNo k apart]
    · rw [same.2, evictMerge_cons split hx]
      exact recordFault_faults_congr _ rfl rfl
    · rw [evicted, evictMerge_cons split hx]
      split
      · rw [recordFault_merges, clearValid_merges split, List.append_nil]
      · dsimp only
        rw [recordFault_merges, clearValid_merges split]

end Sys2Proof.Machine
end

section
/-!
SUPPORT. The commands on the fault table: what CLEAR_FAULTS discards, and the handing on of a snapshot's records.
-/

namespace Sys2Proof.Machine

-- One theorem at a time: elaborated side by side, each would hold a stack of its own.
set_option Elab.async false

/-! ## CLEAR_FAULTS (R160) -/

theorem classOfCode_code (a : FaultClass) : classOfCode a.code = some a := by cases a <;> decide

theorem classOfCode_some {v : Byte} {a : FaultClass} (h : classOfCode v = some a) : a.code = v := by
  have := List.find?_some h
  exact eq_of_beq this

/-- A channel byte names its key's channel, and no other (R160). -/
theorem keyChannel_chanByte (c : Option (Fin 16)) : keyChannel (chanByte c) = some c := by
  cases c with
  | none => rfl
  | some c => revert c; decide

theorem keyChannel_some {v : Byte} {c : Option (Fin 16)} (h : keyChannel v = some c) : chanByte c = v := by
  unfold keyChannel at h
  split at h
  · cases h
    simp [chanByte, *]
  · split at h
    · rename_i d hd
      cases h
      unfold channelOf at hd
      split at hd
      · cases hd
        exact BitVec.eq_of_toNat_eq (by simp [chanByte])
      · cases hd
    · cases h

theorem discardFaults_one {s : State} (scope : (s.arg 2).toNat = 0) : s.discardFaults =
    match classOfCode (s.arg 3), keyChannel (s.arg 4) with
    | some cls, some channel => s.clearOne cls channel
    | _, _ => s := by
  unfold State.discardFaults
  rw [scope]
  rfl

theorem discardFaults_all {s : State} (scope : (s.arg 2).toNat = 1) : s.discardFaults =
    { s with faults := { s.faults with table := Vector.replicate 32 none, lost := 0 } } := by
  unfold State.discardFaults
  rw [scope]
  rfl

theorem discardFaults_none {s : State} (scope : 1 < (s.arg 2).toNat) : s.discardFaults = s := by
  unfold State.discardFaults
  split <;> first | rfl | omega

/-- Of the fault table, nothing but the named entry is discarded (R160). -/
theorem clearOne_get {s : State} (sound : s.faultsSound) (cls : FaultClass) (c : Option (Fin 16)) (i : Fin 32) :
    (∀ e, s.faults.table[i] = some e → e.cls = cls → e.channel = c → (s.clearOne cls c).faults.table[i] = none) ∧
    ((∀ e, s.faults.table[i] = some e → ¬ (e.cls = cls ∧ e.channel = c)) →
      (s.clearOne cls c).faults.table[i] = s.faults.table[i]) := by
  unfold State.clearOne
  split
  · rename_i j e found
    obtain ⟨he, hcls, hc⟩ := FaultUnit.find_some found
    have put : (s.putFault j none).faults.table[i] = if j = i then none else s.faults.table[i] := by
      simp [State.putFault, Vector.getElem_set, Fin.ext_iff]
    rw [put]
    refine ⟨fun f hf hcls' hc' => if_pos ?_, fun other => if_neg ?_⟩
    · exact sound.1 j i e f he hf (hcls.trans hcls'.symm) (hc.trans hc'.symm)
    · rintro rfl
      exact other e he ⟨hcls, hc⟩
  · rename_i absent
    exact ⟨fun f hf hcls hc => absurd ⟨hcls, hc⟩ (FaultUnit.find_none absent hf), fun _ => rfl⟩

theorem clearOne_lost (s : State) (cls : FaultClass) (c : Option (Fin 16)) :
    (s.clearOne cls c).faults.lost = s.faults.lost := by
  unfold State.clearOne
  split <;> rfl

/-- CLEAR_FAULTS discards in the Fault Unit alone. -/
theorem discardFaults_only (s : State) : ∃ f, s.discardFaults = s.withFaults f := by
  unfold State.discardFaults State.clearOne
  split
  · split
    · split
      · exact ⟨_, rfl⟩
      · exact ⟨s.faults, rfl⟩
    · exact ⟨s.faults, rfl⟩
  · exact ⟨_, rfl⟩
  · exact ⟨s.faults, rfl⟩

theorem exec_clearFaults {s : State} (h : s.executes 0x0A = true) :
    exec .clearFaults s = .next (s.discardFaults.complete statusOk s.clearChannel).settle := by
  change command 0x0A s (fun s => s.discardFaults.complete statusOk s.clearChannel) = _
  exact if_pos h

/-! ## The records of a snapshot (R161, R178) -/

/-- The SNAPSHOT records of an image, each with the time it is handed on. -/
def State.images (s : State) (l : List FaultEntry) : List Report := l.map fun e => snapshotRecord e s.time.ms

/-- Records handed on in order. -/
def State.handAll (s : State) (l : List Report) : State := l.foldl State.handReport s

theorem handAll_append (s : State) (l m : List Report) : s.handAll (l ++ m) = (s.handAll l).handAll m :=
  List.foldl_append

theorem handAll_cons (s : State) (q : Report) (l : List Report) : s.handAll (q :: l) = (s.handReport q).handAll l := rfl

theorem handAll_hands (s : State) (l : List Report) : Hands s (s.handAll l) l := by
  induction l using List.reverseRecOn with
  | nil => exact Hands.refl s
  | append_singleton l q ih =>
    rw [handAll_append]
    exact ih.hand q

theorem handAll_withReports (s : State) (l : List Report) :
    ∃ lost written queue more, s.handAll l = s.withReports lost written queue more := by
  induction l generalizing s with
  | nil => exact ⟨s.ctl.lost, s.ctl.lostWritten, s.ctl.queue, [], s.withReports_none s.ctl.queue⟩
  | cons q l ih =>
    obtain ⟨_, _, _, m, h⟩ := s.handReport_withReports q
    obtain ⟨x, w, queue, m', h'⟩ := ih (s.handReport q)
    exact ⟨x, w, queue, m ++ m', by rw [handAll_cons, h', h, State.withReports_withReports]⟩

theorem handAll_sameCommand (s : State) (l : List Report) : SameCommand s (s.handAll l) := by
  obtain ⟨_, _, _, _, h⟩ := handAll_withReports s l
  rw [h]
  exact SameCommand.refl s

theorem images_hand (s : State) (q : Report) (l : List FaultEntry) : (s.handReport q).images l = s.images l := by
  obtain ⟨_, _, _, _, h⟩ := s.handReport_withReports q
  unfold State.images
  rw [h]
  rfl

/-- The rest of an image kept for later (R178). -/
def State.imageKept (s : State) (l : List FaultEntry) : State := s.setCtl fun c => { c with snapshot := some l }

theorem handSnapshot_place {s : State} (e : FaultEntry) (l : List FaultEntry) (room : s.ctl.queue.length < 8) :
    State.handSnapshot (e :: l) s = State.handSnapshot l (s.handReport (snapshotRecord e s.time.ms)) :=
  if_pos (decide_eq_true room)

theorem handSnapshot_full {s : State} {l : List FaultEntry} (some : l ≠ []) (full : 8 ≤ s.ctl.queue.length) :
    State.handSnapshot l s = s.imageKept l := by
  cases l with
  | nil => exact absurd rfl some
  | cons e l => exact if_neg (by simp [State.reportPlace, Config.reportQueueSize, Nat.not_lt.2 full])

/-- The records of an image before the first that finds no place are handed on (R178). -/
theorem handSnapshot_split (l : List FaultEntry) (s : State) : ∃ a b, l = a ++ b ∧
    (b = [] ∧ State.handSnapshot l s = (s.handAll (s.images a)).complete statusOk 0xFF ∨
      b ≠ [] ∧ State.handSnapshot l s = (s.handAll (s.images a)).imageKept b ∧
        8 ≤ (s.handAll (s.images a)).ctl.queue.length) ∧
    ∀ a' e, a = a' ++ [e] → (s.handAll (s.images a')).ctl.queue.length < 8 := by
  induction l generalizing s with
  | nil => exact ⟨[], [], rfl, .inl ⟨rfl, rfl⟩, fun a' e h => by simp at h⟩
  | cons e l ih =>
    by_cases room : s.ctl.queue.length < 8
    · obtain ⟨a, b, hl, ends, placed⟩ := ih (s.handReport (snapshotRecord e s.time.ms))
      have first (a : List FaultEntry) : s.handAll (s.images (e :: a)) =
          (s.handReport (snapshotRecord e s.time.ms)).handAll ((s.handReport (snapshotRecord e s.time.ms)).images a) := by
        rw [images_hand]
        rfl
      refine ⟨e :: a, b, by rw [hl]; rfl, ?_, fun a' x h => ?_⟩
      · rw [first, handSnapshot_place e l room]
        exact ends
      · cases a' with
        | nil => exact room
        | cons y a' =>
          obtain ⟨rfl, last⟩ : e = y ∧ a = a' ++ [x] := List.cons.inj h
          rw [first]
          exact placed a' x last
    · exact ⟨[], e :: l, rfl, .inr ⟨by simp, handSnapshot_full (by simp) (by omega), by simpa [State.handAll, State.images] using room⟩,
        fun a' e h => by simp at h⟩

theorem images_length (s : State) (l : List FaultEntry) : (s.images l).length = l.length := List.length_map _

/-- Behind an outstanding ring write, the image's records fill the queue's places (R178, R179). -/
theorem handSnapshot_waits {s : State} (l : List FaultEntry) (out : s.reportOutstanding = true)
    (short : s.ctl.queue.length ≤ 8) :
    (s.ctl.queue.length + l.length ≤ 8 →
      State.handSnapshot l s = (s.handAll (s.images l)).complete statusOk 0xFF ∧
      (s.handAll (s.images l)).ctl.queue = s.ctl.queue ++ s.images l) ∧
    (8 < s.ctl.queue.length + l.length →
      State.handSnapshot l s = (s.handAll (s.images (l.take (8 - s.ctl.queue.length)))).imageKept
        (l.drop (8 - s.ctl.queue.length)) ∧
      (s.handAll (s.images (l.take (8 - s.ctl.queue.length)))).ctl.queue =
        s.ctl.queue ++ (s.images l).take (8 - s.ctl.queue.length)) := by
  have queue (a : List FaultEntry) : (s.handAll (s.images a)).ctl.queue = (s.ctl.queue ++ s.images a).take 8 :=
    ((handAll_hands s (s.images a)).waiting out short).2.1
  obtain ⟨a, b, rfl, ends, placed⟩ := handSnapshot_split l s
  have atMost : s.ctl.queue.length + a.length ≤ 8 := by
    rcases List.eq_nil_or_concat a with rfl | ⟨a', e, rfl⟩
    · simpa using short
    · have := placed a' e List.concat_eq_append
      rw [queue, List.length_take, List.length_append, images_length] at this
      simp only [List.concat_eq_append, List.length_append, List.length_singleton]
      omega
  have placedQueue : (s.handAll (s.images a)).ctl.queue = s.ctl.queue ++ s.images a := by
    rw [queue, List.take_of_length_le (by rw [List.length_append, images_length]; exact atMost)]
  rcases ends with ⟨rfl, done⟩ | ⟨rest, kept, full⟩
  · rw [List.append_nil] at done ⊢
    exact ⟨fun _ => ⟨done, placedQueue⟩, fun many => absurd atMost (by omega)⟩
  · rw [placedQueue, List.length_append, images_length] at full
    have more : 0 < b.length := List.length_pos_iff.2 rest
    have count : 8 - s.ctl.queue.length = a.length := by omega
    refine ⟨fun few => ?_, fun _ => ?_⟩
    · rw [List.length_append] at few
      omega
    · rw [count, List.take_left, List.drop_left]
      refine ⟨kept, placedQueue.trans ?_⟩
      simp only [State.images, List.map_append]
      rw [List.take_left' (List.length_map _)]

/-- With a ring that takes nothing and an empty queue, every record of the image is lost (R179, R180). -/
theorem handSnapshot_dropped {s : State} (l : List FaultEntry) (out : s.reportOutstanding = false)
    (empty : s.ctl.queue = []) (takes : s.ringTakes = false) :
    State.handSnapshot l s = (s.handAll (s.images l)).complete statusOk 0xFF ∧
      (s.handAll (s.images l)).reportOutstanding = false ∧ (s.handAll (s.images l)).ctl.queue = [] ∧
      (s.handAll (s.images l)).ctl.lost = if l = [] then s.ctl.lost else min (s.ctl.lost + l.length) 4294967295 := by
  have dropped (a : List FaultEntry) := (handAll_hands s (s.images a)).dropped out empty takes
  obtain ⟨a, b, rfl, ⟨rfl, done⟩ | ⟨-, -, full⟩, -⟩ := handSnapshot_split l s
  · rw [List.append_nil] at done ⊢
    obtain ⟨out', queue, lost⟩ := dropped a
    refine ⟨done, out', queue, lost.trans ?_⟩
    rw [images_length]
    simp [State.images]
  · rw [(dropped a).2.1] at full
    exact absurd full (by simp)

/-! ## A completion's record behind the others (R176, R179) -/

/-- A completion before its COMMAND_DONE record: nothing that the handing on of records reads has changed. -/
def State.statusGiven (s : State) (status : Byte) : State :=
  (s.setCtl fun _ => s.completedCtl status).ask (s.statusRequest status)

theorem statusGiven_quiet (s : State) (status : Byte) : Quiet s (s.statusGiven status) :=
  Quiet.trans (t := s.setCtl fun _ => s.completedCtl status)
    ⟨⟨rfl, ⟨rfl, rfl, rfl⟩, rfl, rfl, List.Subset.refl _⟩, rfl⟩ (quiet_ask rfl)

theorem complete_eq (s : State) (status channel : Byte) : s.complete status channel =
    if s.ctl.queue.length < 8 then
      (s.statusGiven status).handReport ⟨.commandDone (s.arg 1) (s.arg 0) status, channel, none, none, s.time.ms⟩
    else (s.statusGiven status).setCtl fun c => { c with
      doneWaiting := some ⟨.commandDone (s.arg 1) (s.arg 0) status, channel, none, none, s.time.ms⟩ } := by
  by_cases room : s.ctl.queue.length < 8
  · rw [if_pos room]
    exact if_pos (decide_eq_true room)
  · rw [if_neg room]
    exact if_neg (fun place => room (of_decide_eq_true place))

theorem complete_snapshot (s : State) (status channel : Byte) : (s.complete status channel).ctl.snapshot = none := by
  obtain ⟨_, _, _, _, _, h⟩ := s.complete_only status channel
  rw [h]
  rfl

theorem complete_records (s : State) (status channel : Byte) : s.records ⊆ (s.complete status channel).records := by
  rw [complete_eq]
  split
  · exact List.Subset.trans (statusGiven_quiet s status).records (handReport_records _ _)
  · exact (statusGiven_quiet s status).records

theorem complete_queue_prefix {s : State} (status channel : Byte) (out : s.reportOutstanding = true) :
    s.ctl.queue <+: (s.complete status channel).ctl.queue := by
  have quiet := statusGiven_quiet s status
  rw [complete_eq]
  split
  next room =>
    rw [handReport_waits _ (quiet.outstanding.trans out) (by rw [quiet.queue]; exact room)]
    exact (List.prefix_append _ _).trans (by rw [← quiet.queue]; exact List.prefix_refl _)
  · exact quiet.queue ▸ List.prefix_refl _

theorem complete_dropped {s : State} (status channel : Byte) (out : s.reportOutstanding = false)
    (empty : s.ctl.queue = []) (takes : s.ringTakes = false) :
    (s.complete status channel).ctl.queue = [] ∧
      (s.complete status channel).ctl.lost = min (s.ctl.lost + 1) 4294967295 := by
  have quiet := statusGiven_quiet s status
  rw [complete_eq, if_pos (by simp [empty])]
  obtain ⟨-, queue, lost⟩ := handReport_dropped
    ⟨.commandDone (s.arg 1) (s.arg 0) status, channel, none, none, s.time.ms⟩ (quiet.outstanding.trans out)
    (quiet.queue.trans empty)
    ((ringTakes_of_same quiet.windows quiet.ring).trans takes)
  exact ⟨queue, lost.trans (by rw [quiet.lost])⟩

/-! ## The rows -/

theorem exec_snapshotFaults {s : State} (h : s.executes 0x0B = true) :
    exec .snapshotFaults s = .next (State.handSnapshot (s.faults.used.map (·.2)) s).settle := by
  change command 0x0B s (fun s => State.handSnapshot (s.faults.used.map (·.2)) s) = _
  exact if_pos h

theorem exec_snapshotRecordHanded {s : State} {l : List FaultEntry} (image : s.ctl.snapshot = some l)
    (room : s.ctl.queue.length < 8) : exec .snapshotRecordHanded s = .next (State.handSnapshot l s).settle := by
  change execSnapshotRecordHanded s = _
  unfold execSnapshotRecordHanded
  rw [image]
  exact if_pos (decide_eq_true room)

section Settled

variable {s : State} {l : List FaultEntry}

/-- The command of a snapshot completes when every record of these has been handed on (R178). -/
theorem snapshot_completed (h : State.handSnapshot l s = (s.handAll (s.images l)).complete statusOk 0xFF) :
    Completed s (State.handSnapshot l s).settle 0 := by
  obtain ⟨consumer, record, -⟩ := handAll_sameCommand s (s.images l)
  obtain ⟨_, _, _, _, same⟩ := handAll_withReports s (s.images l)
  rw [h]
  exact completed_of_record 0xFF consumer record (by rw [same]; rfl)

/-- The handing on of a snapshot changes the Control Unit's report records and the bus alone. -/
theorem snapshot_frame (l : List FaultEntry) (s : State) :
    SameBlocks s (State.handSnapshot l s).settle ∧ SameRing s (State.handSnapshot l s).settle := by
  obtain ⟨a, _, _, ends, -⟩ := handSnapshot_split l s
  obtain ⟨_, _, _, _, same⟩ := handAll_withReports s (s.images a)
  rcases ends with ⟨-, h⟩ | ⟨-, h, -⟩ <;> rw [h, same]
  · exact ⟨sameBlocks_complete _ _ ⟨rfl, rfl, rfl⟩ ⟨rfl, rfl⟩ ⟨rfl, rfl⟩ rfl rfl,
      sameRing_of_complete_ring _ _ ⟨rfl, rfl, rfl, rfl⟩⟩
  · exact ⟨sameBlocks_of_control ⟨_, _, _, rfl⟩, sameRing_settle.2 ⟨rfl, rfl, rfl, rfl⟩⟩

/-- A snapshot whose records wait in part keeps the command in execution (R178). -/
theorem snapshot_kept {a b : List FaultEntry} (executing : s.ctl.state = .executing)
    (h : State.handSnapshot l s = (s.handAll (s.images a)).imageKept b) :
    (State.handSnapshot l s).settle.ctl.state = .executing ∧
      (State.handSnapshot l s).settle.ctl.consumer = s.ctl.consumer ∧
      (State.handSnapshot l s).settle.ctl.snapshot = some b ∧
      (State.handSnapshot l s).settle.ctl.queue = (s.handAll (s.images a)).ctl.queue := by
  obtain ⟨consumer, -, state, -⟩ := handAll_sameCommand s (s.images a)
  rw [h, State.settle_ctl]
  exact ⟨state.trans executing, consumer, rfl, rfl⟩

/-- Either end of the handing on of a snapshot (R178). -/
theorem snapshot_ends (l : List FaultEntry) (executing : s.ctl.state = .executing) :
    (Completed s (State.handSnapshot l s).settle 0 ∧ (State.handSnapshot l s).settle.ctl.snapshot = none) ∨
      ((State.handSnapshot l s).settle.ctl.state = .executing ∧ 8 ≤ (State.handSnapshot l s).settle.ctl.queue.length ∧
        (State.handSnapshot l s).settle.ctl.consumer = s.ctl.consumer ∧
        ∃ m, m ≠ [] ∧ (State.handSnapshot l s).settle.ctl.snapshot = some m ∧ m <:+ l) := by
  obtain ⟨a, b, rfl, ⟨rfl, h⟩ | ⟨rest, h, full⟩, -⟩ := handSnapshot_split l s
  · rw [List.append_nil] at h ⊢
    refine .inl ⟨snapshot_completed h, ?_⟩
    rw [h, State.settle_ctl]
    exact complete_snapshot _ _ _
  · obtain ⟨state, consumer, snapshot, queue⟩ := snapshot_kept executing h
    exact .inr ⟨state, queue ▸ full, consumer, b, rest, snapshot, List.suffix_append a b⟩

/-- The handing on of a snapshot while one of the ring's writes is outstanding (R178, R179). -/
theorem snapshot_waits (executing : s.ctl.state = .executing) (out : s.reportOutstanding = true)
    (short : s.ctl.queue.length ≤ 8) :
    (s.ctl.queue.length + l.length ≤ 8 → Completed s (State.handSnapshot l s).settle 0 ∧
      s.ctl.queue ++ s.images l <+: (State.handSnapshot l s).settle.ctl.queue) ∧
    (8 < s.ctl.queue.length + l.length → (State.handSnapshot l s).settle.ctl.state = .executing ∧
      (State.handSnapshot l s).settle.ctl.queue = s.ctl.queue ++ (s.images l).take (8 - s.ctl.queue.length) ∧
      (State.handSnapshot l s).settle.ctl.snapshot = some (l.drop (8 - s.ctl.queue.length))) := by
  obtain ⟨all, part⟩ := handSnapshot_waits l out short
  refine ⟨fun few => ?_, fun many => ?_⟩
  · obtain ⟨h, queue⟩ := all few
    refine ⟨snapshot_completed h, ?_⟩
    rw [h, State.settle_ctl, ← queue]
    exact complete_queue_prefix _ _ ((handAll_hands s (s.images l)).waiting out short).1
  · obtain ⟨h, queue⟩ := part many
    obtain ⟨state, -, snapshot, queue'⟩ := snapshot_kept executing h
    exact ⟨state, queue'.trans queue, snapshot⟩

theorem handSnapshot_records (l : List FaultEntry) (s : State) : s.records ⊆ (State.handSnapshot l s).records := by
  obtain ⟨a, _, _, ends, -⟩ := handSnapshot_split l s
  have handed := (handAll_hands s (s.images a)).records
  rcases ends with ⟨-, h⟩ | ⟨-, h, -⟩ <;> rw [h]
  · exact List.Subset.trans handed (complete_records _ _ _)
  · exact handed

end Settled

/-- A completion seen from a state with the same consumer index, record and straps. -/
theorem Completed.of_same {s u t : State} {status : Byte} (h : Completed u t status)
    (consumer : u.ctl.consumer = s.ctl.consumer) (record : u.ctl.record = s.ctl.record) (straps : u.straps = s.straps) :
    Completed s t status := by
  have arg (i : Nat) : u.arg i = s.arg i := by simp [State.arg, record]
  unfold Completed at h ⊢
  simpa [arg, consumer, State.pageBase, straps] using h

/-- Settles O55: CLEAR_FAULTS by its scope, and the records of a snapshot by the queue and the ring. -/
theorem faultCommands : Obligations.FaultCommands := by
  refine ⟨fun s sound h => ?_, fun s c l recs row hrecs => ?_⟩
  · obtain ⟨f, only⟩ := discardFaults_only s
    refine ⟨_, exec_clearFaults h, ?_⟩
    have faults : (s.discardFaults.complete statusOk s.clearChannel).settle.faults = s.discardFaults.faults := by simp
    rw [faults]
    refine ⟨?_, ?_, ?_, ?_, ?_, ?_, fun scope => ?_, fun scope => ?_, fun scope => ?_⟩
    · rw [only]
      exact completed_of_record _ rfl rfl rfl
    · simp [SameFrames, only, State.withFaults]
    · simp [SameKeys, only, State.withFaults]
    · simp [SameMeters, only, State.withFaults]
    · rw [only]
      exact sameNotices_of_complete _ _ rfl
    · rw [only]
      exact sameRing_of_complete_ring _ _ ⟨rfl, rfl, rfl, rfl⟩
    · rw [discardFaults_one scope]
      cases hcls : classOfCode (s.arg 3) with
      | none =>
        refine ⟨rfl, fun i => ⟨fun e _ code => ?_, fun _ => rfl⟩⟩
        rw [← code, classOfCode_code] at hcls
        cases hcls
      | some cls =>
        cases hchan : keyChannel (s.arg 4) with
        | none =>
          refine ⟨rfl, fun i => ⟨fun e _ _ chan => ?_, fun _ => rfl⟩⟩
          rw [← chan, keyChannel_chanByte] at hchan
          cases hchan
        | some c =>
          refine ⟨clearOne_lost s cls c, fun i => ⟨fun e he code chan => ?_, fun other => ?_⟩⟩
          · rw [← code, classOfCode_code] at hcls
            rw [← chan, keyChannel_chanByte] at hchan
            exact (clearOne_get sound cls c i).1 e he (Option.some.inj hcls) (Option.some.inj hchan)
          · refine (clearOne_get sound cls c i).2 fun e he same => other e he ?_
            obtain ⟨rfl, rfl⟩ := same
            exact ⟨classOfCode_some hcls, keyChannel_some hchan⟩
    · rw [discardFaults_all scope]
      exact ⟨rfl, fun i => by simp⟩
    · rw [discardFaults_none scope]
      simp [SameFaults]
  · have hrecs' : recs = s.images l := hrecs
    have executing : s.ctl.state = .executing := by
      rcases row with ⟨-, h, -⟩ | ⟨-, h, -⟩
      · simp only [State.executes, Bool.and_eq_true, decide_eq_true_eq] at h
        exact h.1.1
      · exact h
    have next : exec c s = .next (State.handSnapshot l s).settle := by
      rcases row with ⟨rfl, h, rfl⟩ | ⟨rfl, -, image, room⟩
      · exact exec_snapshotFaults h
      · exact exec_snapshotRecordHanded image room
    obtain ⟨blocks, ring⟩ := snapshot_frame l s
    refine ⟨_, next, blocks, ring, snapshot_ends l executing, ?_, fun full some => ?_, ?_, ?_, ?_⟩
    · rintro rfl
      exact snapshot_completed rfl
    · have kept : State.handSnapshot l s = (s.handAll (s.images [])).imageKept l := handSnapshot_full some full
      obtain ⟨state, -, snapshot, queue⟩ := snapshot_kept executing kept
      exact ⟨snapshot, queue, state⟩
    · rw [hrecs']
      exact snapshot_waits executing
    · intro q rest i w empty cons out live room window
      obtain ⟨e, m, rfl⟩ : ∃ e m, l = e :: m := by
        cases l with
        | nil => rw [hrecs'] at cons; cases cons
        | cons e m => exact ⟨e, m, rfl⟩
      obtain ⟨rfl, rfl⟩ := List.cons.inj (cons.symm.trans hrecs')
      have takes : s.ringTakes = true := by simp [State.ringTakes, live, ControlUnit.ringFull, room]
      obtain ⟨out', ⟨a, asked, at_⟩, empty', -⟩ := handReport_taken (snapshotRecord e s.time.ms) out empty takes window
      rw [handSnapshot_place e m (by simp [empty])]
      obtain ⟨consumer, record, state, -⟩ := handReport_sameCommand s (snapshotRecord e s.time.ms)
      have behind := snapshot_waits (l := m) (state.trans executing) out' (by simp [empty'])
      rw [images_hand, empty'] at behind
      obtain ⟨all, part⟩ := behind
      simp only [List.length_nil, Nat.zero_add, List.nil_append, Nat.sub_zero] at all part
      have straps : (s.handReport (snapshotRecord e s.time.ms)).straps = s.straps := by
        obtain ⟨_, _, _, _, h⟩ := s.handReport_withReports (snapshotRecord e s.time.ms)
        rw [h]
        rfl
      have length : (List.map (fun e => snapshotRecord e s.time.ms) m).length = m.length := List.length_map _
      refine ⟨⟨a, ?_, ?_, at_⟩, fun few => ?_, fun many => ?_⟩
      · rw [State.mem_requests_settle]
        exact List.mem_append.1 (mem_records.1 (handSnapshot_records m _ asked)).1
      · exact (mem_records.1 asked).2
      · obtain ⟨completed, queue⟩ := all (length ▸ few)
        exact ⟨completed.of_same consumer record straps, queue⟩
      · exact part (length ▸ many)
    · intro empty out dead
      have takes : s.ringTakes = false := by simp [State.ringTakes, dead]
      obtain ⟨done, out', queue, lost⟩ := handSnapshot_dropped l out empty takes
      obtain ⟨ringSame, ringRest⟩ := (handAll_hands s (s.images l)).ring
      have takes' : (s.handAll (s.images l)).ringTakes = false :=
        (ringTakes_of_same (handAll_hands s (s.images l)).windows ⟨ringSame, ringRest⟩).trans takes
      obtain ⟨queue', lost'⟩ := complete_dropped statusOk 0xFF out' queue takes'
      refine ⟨snapshot_completed done, ?_, ?_⟩ <;> rw [done, State.settle_ctl]
      · exact queue'
      · refine lost'.trans ?_
        rw [lost]
        split
        next nothing => simp [nothing]
        next => exact saturate_one _ _ _

end Sys2Proof.Machine
end

section
/-!
SUPPORT. SET_WINDOW: its checks in the order of R3, the run of slot records that it assigns, and what it leaves alone.
-/

namespace Sys2Proof.Machine

-- One theorem at a time: elaborated side by side, each would hold a stack of its own.
set_option Elab.async false

/-! ## The pool of slot records (R4) -/

/-- No run of unassigned records is left (R4). -/
theorem lowestRun_none {pool : List (Nat × SlotRec)} {count : Nat}
    (full : ∀ f, f + count ≤ 512 → ∃ p ∈ pool, f ≤ p.1 ∧ p.1 < f + count) : lowestRun pool count = none := by
  refine List.find?_eq_none.2 fun f hf => ?_
  obtain ⟨p, hp, low, high⟩ := full f (by simp [Config.poolSize] at hf; omega)
  simp only [List.all_eq_true, Bool.or_eq_true, decide_eq_true_eq, not_forall]
  exact ⟨p, hp, by omega⟩

/-- The lowest run of unassigned records is found (R4). -/
theorem lowestRun_some {pool : List (Nat × SlotRec)} {count f : Nat} (fits : f + count ≤ 512)
    (unassigned : ∀ p ∈ pool, p.1 < f ∨ f + count ≤ p.1)
    (lowest : ∀ g, g < f → ∃ p ∈ pool, g ≤ p.1 ∧ p.1 < g + count) : lowestRun pool count = some f := by
  refine List.find?_range_eq_some.2 ⟨?_, by simp [Config.poolSize]; omega, fun g hg => ?_⟩
  · simpa only [List.all_eq_true, Bool.or_eq_true, decide_eq_true_eq] using unassigned
  · obtain ⟨p, hp, low, high⟩ := lowest g hg
    simp only [Bool.not_eq_true', List.all_eq_false, Bool.or_eq_true, decide_eq_true_eq]
    exact ⟨p, hp, by omega⟩

/-- A key looked up behind entries with other keys. -/
theorem lookup_append_right {α : Type} {l m : List (Nat × α)} {n : Nat} (h : ∀ p ∈ l, p.1 ≠ n) :
    (l ++ m).lookup n = m.lookup n := by
  induction l with
  | nil => rfl
  | cons p l ih =>
    rw [List.cons_append, List.lookup_cons, beq_false_of_ne (h p (List.mem_cons_self ..)).symm]
    exact ih fun q hq => h q (List.mem_cons_of_mem _ hq)

theorem lookup_numbered {α : Type} (g : Nat → α) (f k : Nat) {count : Nat} (hk : k < count) (rest : List (Nat × α)) :
    (((List.range count).map fun k => (f + k, g k)) ++ rest).lookup (f + k) = some (g k) := by
  have split : List.range count = List.range k ++ k :: List.map (· + (k + 1)) (List.range (count - (k + 1))) := by
    conv_lhs => rw [show count = (k + 1) + (count - (k + 1)) by omega, List.range_add, List.range_succ]
    simp [Nat.add_comm]
  rw [split, List.map_append, List.append_assoc, lookup_append_right]
  · simp
  · simp only [List.mem_map, List.mem_range, forall_exists_index, and_imp]
    rintro p j hj rfl
    simp only [ne_eq]
    omega

/-- The assigned records are fresh ones for the window's slots (R4, R7). -/
theorem assignRun_lookup (pool : List (Nat × SlotRec)) (f : Nat) {count k : Nat} (hk : k < count) (role : WinRole)
    (i : Fin 16) : (assignRun pool f count role i).lookup (f + k) = some (SlotRec.fresh role i k) := by
  unfold assignRun
  rw [List.append_assoc, lookup_append_right]
  · exact lookup_numbered (fun k => SlotRec.fresh role i k) f k hk _
  · intro p hp
    simp only [List.mem_filter, decide_eq_true_eq] at hp
    omega

/-! ## The checks of R3 -/

theorem tryWindow_unsound {s : State} {a : WindowAsk} (h : ∀ role, a.role = some role → a.sound role = false) :
    s.tryWindow a = (s, statusBadArgument) := by
  unfold State.tryWindow
  split
  next role i hrole _ => rw [h role hrole]; rfl
  next => rfl

theorem tryWindow_sound {s : State} {a : WindowAsk} {role : WinRole} {i : Fin 16} (hrole : a.role = some role)
    (index : a.index = i.val) (sound : a.sound role = true) : s.tryWindow a = s.placeWindow a role i := by
  unfold State.tryWindow
  rw [hrole, index, channelOf_val]
  exact if_pos sound

/-- SET_WINDOW's checks and effect change the window table and the pool alone. -/
theorem tryWindow_only (s : State) (a : WindowAsk) :
    ∃ windows pool, (s.tryWindow a).1 = { s with windows := windows, pool := pool } := by
  unfold State.tryWindow State.placeWindow
  (repeat' split) <;> exact ⟨_, _, rfl⟩

/-- A role with a count that its range allows is not the control page's (R1). -/
theorem WindowAsk.sound_role {a : WindowAsk} {role : WinRole} (h : a.sound role = true) : role ≠ .controlPage := by
  rintro rfl
  simp [WindowAsk.sound, countAllowed] at h

theorem WindowAsk.run_of_role {a : WindowAsk} {role : WinRole} (h : a.role = some role) : a.run = runOf role a.count := by
  unfold WindowAsk.run
  rw [h]

theorem hasSlots_of_role {role : WinRole} (report : role ≠ .report) (page : role ≠ .controlPage) : role.hasSlots = true := by
  cases role <;> first | rfl | contradiction

section Place

variable {s : State} {a : WindowAsk} {role : WinRole} {i : Fin 16}

/-- The state while SET_WINDOW is taken: the upstream port is not held any more (R3). -/
def State.windowTaken (s : State) : State := s.setCtl fun c => { c with windowWait := false }

theorem setWindow_busy (h : s.runBusy s.windowAsk = true) :
    s.setWindow = s.setCtl fun c => { c with windowWait := true } := if_pos h

theorem setWindow_taken (h : s.runBusy s.windowAsk = false) :
    s.setWindow = (s.windowTaken.tryWindow s.windowAsk).1.complete (s.windowTaken.tryWindow s.windowAsk).2
      s.windowChannel := by
  unfold State.setWindow
  rw [h]
  rfl

theorem recordsOf_any (s : State) (i : Fin 16) : ((s.recordsOf i).any fun p => decide (p.2.state ≠ .free)) =
    s.pool.any fun p => decide (p.2.window = i) && decide (p.2.state ≠ .free) := by
  unfold State.recordsOf
  rw [List.any_filter]

theorem mem_poolWithout {p : Nat × SlotRec} : p ∈ s.poolWithout i ↔ p ∈ s.pool ∧ p.2.window ≠ i := by
  simp [State.poolWithout, List.mem_filter]

end Place

theorem exec_setWindow {s : State} (h : s.executes 0x01 = true) : exec .setWindow s = .next s.setWindow.settle := by
  change command 0x01 s State.setWindow = _
  exact if_pos h

/-- What a SET_WINDOW that does not wait leaves alone. -/
theorem setWindow_frame {s : State} (h : s.runBusy s.windowAsk = false) : s.setWindow.settle.ctl.windowWait = false ∧
    SameKeys s s.setWindow.settle ∧ SameMeters s s.setWindow.settle ∧ SameFaults s s.setWindow.settle ∧
    SameNotices s s.setWindow.settle ∧ SameRing s s.setWindow.settle ∧ s.setWindow.settle.ks = s.ks ∧
    s.setWindow.settle.merges = s.merges := by
  obtain ⟨windows, pool, only⟩ := tryWindow_only s.windowTaken s.windowAsk
  rw [setWindow_taken h, only, State.settle_ctl]
  refine ⟨by simp [State.windowTaken, State.setCtl], ?_, ?_, ?_, sameNotices_of_complete _ _ rfl,
    sameRing_of_complete_ring _ _ ⟨rfl, rfl, rfl, rfl⟩, ?_, ?_⟩ <;>
  simp [SameKeys, SameMeters, SameFaults, State.windowTaken, State.setCtl]

/-- The outcome of a SET_WINDOW that does not wait: its status, the window table and the pool. -/
theorem setWindow_outcome {s u : State} {status : Byte} (h : s.runBusy s.windowAsk = false)
    (tried : s.windowTaken.tryWindow s.windowAsk = (u, status)) : Completed s s.setWindow.settle status ∧
      s.setWindow.settle.windows = u.windows ∧ s.setWindow.settle.pool = u.pool := by
  obtain ⟨windows, pool, only⟩ := tryWindow_only s.windowTaken s.windowAsk
  rw [setWindow_taken h]
  rw [tried] at only ⊢
  dsimp only at only ⊢
  refine ⟨completed_of_record _ ?_ ?_ ?_, by simp, by simp⟩ <;> rw [only] <;> rfl

/-- An accepted SET_WINDOW writes its entry of the window table (R4). -/
theorem putWindow_windows (s : State) (i : Fin 16) (w : Option Window) (pool : List (Nat × SlotRec)) :
    (∀ j, j ≠ i → (s.putWindow i w pool).windows[j] = s.windows[j]) ∧ (s.putWindow i w pool).windows[i] = w := by
  refine ⟨fun j hj => ?_, by simp [State.putWindow]⟩
  simp [State.putWindow, Fin.val_ne_of_ne hj.symm]

/-- Checks 2 to 5 of R3 and the effect of R4, read off the state before SET_WINDOW is taken. -/
theorem placeWindow_taken (s : State) (a : WindowAsk) (role : WinRole) (i : Fin 16) :
    s.windowTaken.placeWindow a role i =
      if (s.otherWindows i).any (fun w => decide (role = w.role) && (decide (role = .notice) || decide (role = .report)))
        then (s.windowTaken, statusBadArgument)
      else if (s.otherWindows i).any (fun w => decide (a.base < w.base.toNat + w.run) &&
          decide (w.base.toNat < a.base + runOf role a.count)) then (s.windowTaken, statusOverlap)
      else if s.pool.any (fun p => decide (p.2.window = i) && decide (p.2.state ≠ .free)) then (s.windowTaken, statusBusy)
      else if role.hasSlots then
        match lowestRun (s.poolWithout i) a.count with
        | none => (s.windowTaken, statusNoRecords)
        | some f => (s.windowTaken.putWindow i (some (a.window role (some f)))
            (assignRun (s.poolWithout i) f a.count role i), statusOk)
      else (s.windowTaken.putWindow i (some (a.window role none)) (s.poolWithout i), statusOk) := by
  unfold State.placeWindow
  rw [recordsOf_any]
  rfl

/-- Settles O47: the wait, check 1, and then the branches of R3 and R4 in order. -/
theorem setWindowChecksAndAssigns : Obligations.SetWindowChecksAndAssigns := by
  refine fun s _ h => ⟨fun busy => ?_, fun idle => ?_⟩
  · refine ⟨_, exec_setWindow h, ?_⟩
    simp only [State.executes, Bool.and_eq_true, decide_eq_true_eq] at h
    rw [setWindow_busy busy, State.settle_ctl]
    exact ⟨rfl, h.1.1, by rw [State.settle_windows]; rfl, sameBlocks_of_control ⟨_, _, _, rfl⟩⟩
  · obtain ⟨wait, keys, meters, faults, notices, ring, ks, merges⟩ := setWindow_frame idle
    refine ⟨_, exec_setWindow h, wait, keys, meters, faults, notices, ring, ks, merges, fun bad => ?_,
      fun role i hrole index sound => ?_⟩
    · exact setWindow_outcome (u := s.windowTaken) idle (tryWindow_unsound bad)
    · have tried := tryWindow_sound (s := s.windowTaken) hrole index sound
      rw [placeWindow_taken] at tried
      rw [WindowAsk.run_of_role hrole]
      split
      next doubled => exact setWindow_outcome (u := s.windowTaken) idle (tried.trans (if_pos doubled))
      next single =>
      replace tried := tried.trans (if_neg single)
      split
      next overlap => exact setWindow_outcome (u := s.windowTaken) idle (tried.trans (if_pos overlap))
      next apart =>
      replace tried := tried.trans (if_neg apart)
      split
      next held => exact setWindow_outcome (u := s.windowTaken) idle (tried.trans (if_pos held))
      next unused =>
      replace tried := tried.trans (if_neg unused)
      split
      next report =>
        subst report
        obtain ⟨completed, windows, pool⟩ := setWindow_outcome idle (tried.trans (if_neg (by decide)))
        obtain ⟨others, own⟩ := putWindow_windows s.windowTaken i (some (s.windowAsk.window .report none))
          (s.poolWithout i)
        rw [windows]
        exact ⟨completed, others, own, pool⟩
      next slots =>
      replace tried := tried.trans (if_pos (hasSlots_of_role slots (WindowAsk.sound_role sound)))
      refine ⟨fun full => ?_, fun f fits unassigned lowest => ?_⟩
      · have nowhere : lowestRun (s.poolWithout i) s.windowAsk.count = none := by
          refine lowestRun_none fun f hf => ?_
          obtain ⟨p, hp, other, rest⟩ := full f hf
          exact ⟨p, mem_poolWithout.2 ⟨hp, other⟩, rest⟩
        rw [nowhere] at tried
        exact setWindow_outcome (u := s.windowTaken) idle tried
      · have found : lowestRun (s.poolWithout i) s.windowAsk.count = some f := by
          refine lowestRun_some fits (fun p hp => unassigned p (mem_poolWithout.1 hp).1 (mem_poolWithout.1 hp).2)
            fun g hg => ?_
          obtain ⟨p, hp, other, rest⟩ := lowest g hg
          exact ⟨p, mem_poolWithout.2 ⟨hp, other⟩, rest⟩
        rw [found] at tried
        obtain ⟨completed, windows, pool⟩ := setWindow_outcome idle tried
        obtain ⟨others, own⟩ := putWindow_windows s.windowTaken i (some (s.windowAsk.window role (some f)))
          (assignRun (s.poolWithout i) f s.windowAsk.count role i)
        rw [windows]
        refine ⟨completed, others, own, fun k hk => ?_⟩
        rw [State.slotRec, pool]
        exact assignRun_lookup _ f hk role i

end Sys2Proof.Machine
end

section
/-!
SUPPORT. The rules of the Key Store's operations: what a key slot is after each, and what each leaves alone; and the
teardown of a channel.
-/

namespace Sys2Proof.Machine

-- One theorem at a time: elaborated side by side, each would hold a stack of its own.
set_option Elab.async false

/-! ## Frames of the record operations -/

/-- A change of the slot records, the keystream, the key slots and the merge queue. -/
theorem framed_of_only {s t : State} (h : ∃ pool ks keys merges, t = { s with
      pool := pool, ks := ks, keys := keys, merges := merges }) : Framed s t := by
  obtain ⟨pool, ks, keys, merges, rfl⟩ := h
  exact ⟨rfl, ⟨rfl, rfl⟩, rfl, rfl, rfl, rfl, rfl, SameCommand.refl s, ⟨rfl, rfl, rfl, rfl, rfl⟩, List.Subset.refl _,
    faultReports_of_quiet (quiet_of_same rfl rfl rfl rfl rfl)⟩

theorem Framed.refl (s : State) : Framed s s := framed_of_only ⟨_, _, _, _, rfl⟩

theorem framed_setRec (s : State) (n : Nat) (f : SlotRec → SlotRec) : Framed s (s.setRec n f) :=
  framed_of_only ⟨_, _, _, _, rfl⟩

theorem framed_setKey (s : State) (k : Fin 32) (f : KeySlot → KeySlot) : Framed s (s.setKey k f) :=
  framed_of_only ⟨_, _, _, _, rfl⟩

theorem framed_ask (s : State) {r : InjReq} (h : r.op.ringWrite = false) : Framed s (s.ask r) :=
  ⟨rfl, ⟨rfl, rfl⟩, rfl, rfl, rfl, rfl, rfl, SameCommand.refl s, ⟨rfl, rfl, rfl, rfl, rfl⟩, List.subset_append_left _ _,
    faultReports_of_quiet (quiet_ask h)⟩

theorem framed_recordFault {s : State} {o : Occurrence} (h : o.severity ≠ .fatal) : Framed s (s.recordFault o) :=
  (served_recordFault h).toFramed

theorem framed_foldl {α : Type} {f : State → α → State} (step : ∀ u a, Framed u (f u a)) (l : List α) (s : State) :
    Framed s (l.foldl f s) := by
  induction l generalizing s with
  | nil => exact Framed.refl s
  | cons a l ih => exact (step s a).trans (ih _)

theorem Framed.slotBase {s t : State} (h : Framed s t) (r : SlotRec) : t.slotBase r = s.slotBase r := by
  unfold State.slotBase
  rw [h.windows]

theorem framed_askResult (s : State) (n : Nat) : Framed s (s.askResult n) := by
  unfold State.askResult
  split
  · exact Framed.refl s
  · exact framed_ask s rfl

theorem framed_failRec (s : State) (n : Nat) (why : Reason) : Framed s (s.failRec n why) :=
  (framed_of_only ⟨_, _, _, _, rfl⟩).trans (framed_askResult _ n)

theorem framed_rejectRec (s : State) (n : Nat) (why : Reason) : Framed s (s.rejectRec n why) :=
  (framed_setRec s n _).trans (framed_askResult _ n)

/-! ## Zeroisation (R47, R118) -/

theorem kept_foldl {α : Type} {f : State → α → State} (step : ∀ u a, Kept u (f u a)) (l : List α) (s : State) :
    Kept s (l.foldl f s) := by
  induction l generalizing s with
  | nil => exact Kept.refl s
  | cons a l ih => exact (step s a).trans (ih _)

theorem served_withdrawBeat (s : State) (w : Waiter) : Served s (s.withdrawBeat w) :=
  served_setEntry fun e _ _ => by cases e.access <;> rfl

/-- The keystream of a key slot withdrawn, before the beats that wait for it are told (R47). -/
def State.keystreamPurged (s : State) (k : Fin 32) : State :=
  { s with ks := { s.ks with
    cache := s.ks.purged k
    misses := s.ks.misses.filter fun m => !decide (m.key = k)
    overflow := s.ks.overflow.filter fun o => !decide (o.key = k)
    background := s.ks.background.filter fun r => !s.withdraws k r
    cipher := s.ks.cipher.map fun g => if s.withdrawsGrant k g then { g with withdrawn := true } else g
    mulQueue := s.ks.mulQueue.filter fun r => !decide (r.key = .slot k)
    mulBusy := s.ks.mulBusy.map fun p => if decide (p.1.key = .slot k) then (p.1, true) else p } }

/-- The beats that wait for keystream of a key slot. -/
def State.waitersOn (s : State) (k : Fin 32) : List Waiter :=
  (s.ks.misses.filter fun m => decide (m.key = k)).flatMap (·.waiters) ++
    (s.ks.overflow.filter fun o => decide (o.key = k)).map (·.who)

theorem withdrawKeystream_eq (s : State) (k : Fin 32) : s.withdrawKeystream k =
    ((s.waitersOn k).foldl State.withdrawBeat (s.keystreamPurged k)).serveOverflow := rfl

theorem served_withdrawKeystream (s : State) (k : Fin 32) : Served (s.keystreamPurged k) (s.withdrawKeystream k) :=
  (served_foldl served_withdrawBeat _ _).trans (served_serveOverflow _)

theorem kept_withdrawKeystream (s : State) (k : Fin 32) : Kept s (s.withdrawKeystream k) :=
  Kept.trans (t := s.keystreamPurged k) (kept_of_only ⟨_, _, _, _, _, rfl, rfl, rfl⟩) (served_withdrawKeystream s k).toKept

theorem withdrawKeystream_keys (s : State) (k : Fin 32) : (s.withdrawKeystream k).keys = s.keys :=
  (served_withdrawKeystream s k).store

theorem kept_setKey (s : State) (k : Fin 32) (f : KeySlot → KeySlot) : Kept s (s.setKey k f) :=
  kept_of_only ⟨_, _, _, _, _, rfl, rfl, rfl⟩

theorem kept_withKeys (s : State) (keys : KeyStore) : Kept s { s with keys := keys } :=
  kept_of_only ⟨_, _, _, _, _, rfl, rfl, rfl⟩

theorem kept_zeroise (s : State) (k : Fin 32) : Kept s (s.zeroise k) :=
  (kept_withdrawKeystream s k).trans ((kept_setKey _ k _).trans (kept_withKeys _ _))

theorem zeroise_key (s : State) (k j : Fin 32) :
    (s.zeroise k).key j = if j = k then KeySlot.zeroised else s.key j := by
  have own : (s.zeroise k).key j = ((s.withdrawKeystream k).setKey k fun _ => KeySlot.zeroised).key j := rfl
  rw [own, State.key_setKey]
  split
  · rfl
  · unfold State.key
    rw [withdrawKeystream_keys]

theorem zeroise_freeList (s : State) (k : Fin 32) : (s.zeroise k).keys.freeList = s.keys.freeList ++ [k] := by
  change (s.withdrawKeystream k).keys.freeList ++ [k] = _
  rw [withdrawKeystream_keys]

/-- With no beat in the overflow list, a zeroisation serves none, and so takes no fault and hands on no record. -/
theorem withdrawKeystream_silent {s : State} {k : Fin 32} (h : s.ks.overflow = []) :
    (s.withdrawKeystream k).faults = s.faults ∧ (s.withdrawKeystream k).ctl = s.ctl ∧
      (s.withdrawKeystream k).ks.overflow = [] := by
  have purged : (s.keystreamPurged k).ks.overflow = [] := by simp [State.keystreamPurged, h]
  have beats (l : List Waiter) (u : State) : (l.foldl State.withdrawBeat u).faults = u.faults ∧
      (l.foldl State.withdrawBeat u).ctl = u.ctl ∧ (l.foldl State.withdrawBeat u).ks = u.ks := by
    induction l generalizing u with
    | nil => exact ⟨rfl, rfl, rfl⟩
    | cons w l ih => exact ih _
  obtain ⟨faults, ctl, ks⟩ := beats (s.waitersOn k) (s.keystreamPurged k)
  rw [withdrawKeystream_eq, State.serveOverflow, ks, purged]
  exact ⟨faults, ctl, rfl⟩

theorem zeroise_silent {s : State} {k : Fin 32} (h : s.ks.overflow = []) :
    (s.zeroise k).faults = s.faults ∧ (s.zeroise k).ctl = s.ctl ∧ (s.zeroise k).ks.overflow = [] :=
  withdrawKeystream_silent (s := s) h

/-! ## References and the judgement of R120 -/

/-- A key slot that is not FREE and has no role, judged (R120). -/
theorem judgeKey_cases {s : State} {k : Fin 32} (used : (s.key k).state ≠ .free) (role : s.keyRole k = none) :
    s.judgeKey k = if (s.key k).refs = 0 then s.zeroise k
      else s.setKey k fun x => { x with state := if s.heldOrInstalling k then .staged else .retiring } := by
  unfold State.judgeKey
  simp only [used, role, if_false, Option.isSome_none, Bool.false_eq_true]
  split
  · rfl
  · split <;> rfl

theorem kept_judgeKey (s : State) (k : Fin 32) : Kept s (s.judgeKey k) := by
  unfold State.judgeKey
  (repeat' split)
  · exact Kept.refl s
  · exact Kept.refl s
  · exact kept_zeroise s k
  · exact kept_setKey s k _
  · exact kept_setKey s k _

theorem judgeKey_others (s : State) (k : Fin 32) : OtherKeys s (s.judgeKey k) k := by
  intro j hj
  unfold State.judgeKey
  (repeat' split)
  · rfl
  · rfl
  · rw [zeroise_key, if_neg hj]
  · rw [State.key_setKey, if_neg hj]
  · rw [State.key_setKey, if_neg hj]

theorem judgeKey_silent {s : State} {k : Fin 32} (h : s.ks.overflow = []) :
    (s.judgeKey k).faults = s.faults ∧ (s.judgeKey k).ctl = s.ctl ∧ (s.judgeKey k).ks.overflow = [] := by
  unfold State.judgeKey
  (repeat' split)
  · exact ⟨rfl, rfl, h⟩
  · exact ⟨rfl, rfl, h⟩
  · exact zeroise_silent h
  · exact ⟨rfl, rfl, h⟩
  · exact ⟨rfl, rfl, h⟩

theorem kept_judgeKeyOf (s : State) (k : Option (Fin 32)) : Kept s (s.judgeKeyOf k) := by
  cases k with
  | none => exact Kept.refl s
  | some k => exact kept_judgeKey s k

theorem kept_dropRef (s : State) (k : Fin 32) : Kept s (s.dropRef k) := (kept_setKey s k _).trans (kept_judgeKey _ k)

theorem kept_dropRefOf (s : State) (k : Option (Fin 32)) : Kept s (s.dropRefOf k) := by
  cases k with
  | none => exact Kept.refl s
  | some k => exact kept_dropRef s k

theorem untakeRef_key (s : State) (k j : Fin 32) :
    (s.untakeRef k).key j = if j = k then { s.key k with refs := (s.key k).refs - 1 } else s.key j :=
  State.key_setKey s k j _

theorem dropRef_others (s : State) (k : Fin 32) : OtherKeys s (s.dropRef k) k := by
  intro j hj
  unfold State.dropRef
  rw [judgeKey_others _ k j hj, untakeRef_key, if_neg hj]

/-- The role of a key slot depends on its owner and on the channels alone (R97). -/
theorem keyRole_congr {s t : State} {k : Fin 32} (owner : (t.key k).owner = (s.key k).owner)
    (channels : t.channels = s.channels) : t.keyRole k = s.keyRole k := by
  unfold State.keyRole State.chan
  rw [owner, channels]

theorem setKey_keyRole (s : State) (k j : Fin 32) {f : KeySlot → KeySlot} (h : ∀ x, (f x).owner = x.owner) :
    (s.setKey k f).keyRole j = s.keyRole j := by
  refine keyRole_congr ?_ rfl
  rw [State.key_setKey]
  split
  · rename_i same
    rw [h, same]
  · rfl

theorem untakeRef_keyRole (s : State) (k j : Fin 32) : (s.untakeRef k).keyRole j = s.keyRole j :=
  setKey_keyRole s k j (f := fun x => { x with refs := x.refs - 1 }) fun _ => rfl

theorem heldOrInstalling_congr {s t : State} {k : Fin 32} (owner : (t.key k).owner = (s.key k).owner)
    (load : (t.key k).load = (s.key k).load) (channels : t.channels = s.channels) :
    t.heldOrInstalling k = s.heldOrInstalling k := by
  unfold State.heldOrInstalling State.chan
  rw [owner, load, channels]

/-- The last reference of a key slot without a role dropped (R118, R119, R120). -/
theorem dropRef_last {s : State} {k : Fin 32} (used : (s.key k).state ≠ .free) (role : s.keyRole k = none)
    (last : (s.key k).refs = 1) : (s.dropRef k).key k = KeySlot.zeroised ∧
      (s.dropRef k).keys.freeList = s.keys.freeList ++ [k] := by
  have role' : (s.untakeRef k).keyRole k = none := (untakeRef_keyRole s k k).trans role
  have key : (s.untakeRef k).key k = { s.key k with refs := (s.key k).refs - 1 } := by rw [untakeRef_key, if_pos rfl]
  unfold State.dropRef
  rw [judgeKey_cases (by rw [key]; exact used) role', if_pos (by rw [key]; simp [last])]
  exact ⟨by rw [zeroise_key, if_pos rfl], zeroise_freeList _ k⟩

/-- A reference of a key slot with a role dropped (R119, R120). -/
theorem dropRef_of_role {s : State} {k : Fin 32} (role : s.keyRole k ≠ none) : s.dropRef k = s.untakeRef k := by
  refine State.judgeKey_kept _ k (.inr ?_)
  rw [untakeRef_keyRole]
  exact Option.isSome_iff_ne_none.2 role

/-! ## The teardown of a channel (R100) -/

theorem framed_untakeOf (s : State) (k : Option (Fin 32)) : Framed s (s.untakeOf k).1 := by
  cases k with
  | none => exact Framed.refl s
  | some k => exact framed_of_only ⟨_, _, _, _, rfl⟩

theorem framed_tearSlot (s : State) (c : Fin 16) (n : Nat) (r : SlotRec) : Framed s (s.tearSlot c n r).1 := by
  unfold State.tearSlot
  (repeat' split)
  · exact (framed_failRec s n _).trans (framed_untakeOf _ _)
  · exact Framed.refl s
  · exact (framed_rejectRec s n _).trans (framed_untakeOf _ _)
  · exact Framed.refl s
  · exact framed_of_only ⟨_, _, _, _, rfl⟩
  · exact Framed.refl s
  · exact Framed.refl s

theorem framed_tearSlots (c : Fin 16) (l : List (Nat × SlotRec)) (a : State × List (Fin 32)) :
    Framed a.1 (State.tearSlots c l a).1 := by
  induction l generalizing a with
  | nil => exact Framed.refl a.1
  | cons p l ih =>
    exact (framed_tearSlot a.1 c p.1 p.2).trans (ih ((a.1.tearSlot c p.1 p.2).1, a.2 ++ (a.1.tearSlot c p.1 p.2).2))

theorem framed_tearHold (s : State) (c : Fin 16) : Framed s (s.tearHold c).1 := by
  unfold State.tearHold
  split
  · exact Framed.refl s
  · exact (framed_of_only ⟨_, _, _, _, rfl⟩ : Framed s (s.unclaim _)).trans (framed_untakeOf _ _)

/-- The channel's record and the protocol notice list after a teardown. -/
def State.channelTorn (s : State) (c : Fin 16) (state : ChanState) : State :=
  (s.setChan c fun x => x.torn state).setProto (s.notices.list.filter fun e => decide (e.channel ≠ c))

/-- The teardown before its slots are torn and its key slots judged. -/
def State.tornBefore (s : State) (c : Fin 16) (state : ChanState) : State := (s.tearHold c).1.channelTorn c state

/-- The teardown's slots, with the key slots to judge (R100 step 5). -/
def State.tornSlots (s : State) (c : Fin 16) (state : ChanState) : State × List (Fin 32) :=
  State.tearSlots c (s.tornBefore c state).pool (s.tornBefore c state, [])

theorem teardown_eq (s : State) (c : Fin 16) (state : ChanState) : s.teardown c state =
    ((s.chan c).roleKeys ++ (s.tearHold c).2 ++ (s.tornSlots c state).2).foldl State.judgeKey (s.tornSlots c state).1 := by
  have list : s.notices.list = (s.tearHold c).1.notices.list := by rw [(framed_tearHold s c).notices]
  unfold State.teardown State.tornSlots State.tornBefore State.channelTorn
  rw [list]

theorem framed_teardown (s : State) (c : Fin 16) (state : ChanState) :
    Framed (s.tornBefore c state) (s.teardown c state) := by
  rw [teardown_eq]
  exact Framed.trans (t := (s.tornSlots c state).1) (framed_tearSlots c _ (s.tornBefore c state, []))
    (kept_foldl kept_judgeKey _ _).toFramed

/-- What a teardown leaves of the channels and the protocol notice list, and what it leaves alone. -/
theorem teardown_fields (s : State) (c : Fin 16) (state : ChanState) :
    (s.teardown c state).chan c = (s.chan c).torn state ∧ OtherChannels s (s.teardown c state) c ∧
      (s.teardown c state).notices =
        { s.notices with list := s.notices.list.filter fun e => decide (e.channel ≠ c) } ∧
      SameMeters s (s.teardown c state) ∧ SameCommand s (s.teardown c state) ∧
      (s.teardown c state).straps = s.straps ∧ (s.teardown c state).windows = s.windows := by
  have before := framed_tearHold s c
  have after := framed_teardown s c state
  have chans (d : Fin 16) : (s.tornBefore c state).chan d = if d = c then (s.chan c).torn state else s.chan d := by
    rw [← before.chan c, ← before.chan d]
    exact State.chan_setChan (s.tearHold c).1 c d fun x => x.torn state
  refine ⟨by rw [after.chan, chans, if_pos rfl], fun d hd => by rw [after.chan, chans, if_neg hd], ?_, ?_, ?_, ?_, ?_⟩
  · rw [after.notices]
    unfold State.tornBefore State.channelTorn State.setProto
    rw [State.setChan_notices, before.notices]
  · exact ⟨after.meters.1.trans before.meters.1, after.meters.2.trans before.meters.2⟩
  · exact before.control.trans after.control
  · exact after.straps.trans before.straps
  · exact after.windows.trans before.windows

/-! ## SET_CHANNEL_STATE (R99) -/

theorem exec_setChannelState {s : State} (h : s.executes 0x05 = true) :
    exec .setChannelState s = .next (s.onChannel State.setChannelState).settle := by
  change command 0x05 s (fun s => s.onChannel State.setChannelState) = _
  exact if_pos h

/-- A command that completes after a teardown (R99, R101). -/
theorem torn_completed (s : State) (c : Fin 16) (state : ChanState) (status channel : Byte) :
    Completed s ((s.teardown c state).complete status channel).settle status ∧
      SameMeters s ((s.teardown c state).complete status channel).settle ∧
      SameRing s ((s.teardown c state).complete status channel).settle ∧
      OtherChannels s ((s.teardown c state).complete status channel).settle c ∧
      ((s.teardown c state).complete status channel).settle.chan c = (s.chan c).torn state ∧
      ((s.teardown c state).complete status channel).settle.notices.list =
        s.notices.list.filter fun e => decide (e.channel ≠ c) := by
  obtain ⟨own, others, notices, meters, ⟨consumer, record, -, -, -, -, ring⟩, straps, -⟩ := teardown_fields s c state
  refine ⟨completed_of_record channel consumer record straps, ?_, sameRing_of_complete_ring status channel ring, ?_, ?_, ?_⟩
  · simpa [SameMeters] using meters
  · intro d hd
    simpa using others d hd
  · simpa using own
  · have same := State.settle_sameNotices ((s.teardown c state).complete status channel)
    rw [same, State.complete_notices, notices]

/-- A command that writes one channel record and completes. -/
theorem setChan_completed (s : State) (c : Fin 16) (f : Channel → Channel) (status channel : Byte) :
    Completed s ((s.setChan c f).complete status channel).settle status ∧
      OtherChannels s ((s.setChan c f).complete status channel).settle c ∧
      ((s.setChan c f).complete status channel).settle.chan c = f (s.chan c) ∧
      SameFrames s ((s.setChan c f).complete status channel).settle ∧
      ((s.setChan c f).complete status channel).settle.keys = s.keys ∧
      SameFaults s ((s.setChan c f).complete status channel).settle ∧
      SameNotices s ((s.setChan c f).complete status channel).settle ∧
      SameMeters s ((s.setChan c f).complete status channel).settle ∧
      SameRing s ((s.setChan c f).complete status channel).settle := by
  refine ⟨completed_of_record channel rfl rfl rfl, fun d hd => ?_, by simp, ?_, by simp, ?_,
    sameNotices_of_complete _ _ rfl, ?_, sameRing_of_complete_ring _ _ ⟨rfl, rfl, rfl, rfl⟩⟩
  · simp [State.chan_setChan, hd]
  · simp [SameFrames]
  · simp [SameFaults]
  · simp [SameMeters]

theorem refused_completed (s : State) (status channel : Byte) : Completed s (s.complete status channel).settle status ∧
    SameBlocks s (s.complete status channel).settle ∧ SameRing s (s.complete status channel).settle :=
  ⟨completed_of_record channel rfl rfl rfl, sameBlocks_refused s status channel,
    sameRing_of_complete_ring _ _ ⟨rfl, rfl, rfl, rfl⟩⟩

/-- Settles O50: the table of R99, a row for each state code. -/
theorem setChannelStateTable : Obligations.SetChannelStateTable := by
  intro s h
  refine ⟨_, exec_setChannelState h, ?_⟩
  rcases Nat.lt_or_ge 15 (s.arg 2).toNat with above | below
  · rw [onChannel_above _ above]
    obtain ⟨completed, blocks, ring⟩ := refused_completed s statusBadArgument (s.arg 2)
    exact ⟨blocks.2.2.1, ring, fun _ => ⟨completed, blocks⟩, fun c index => absurd index (by omega)⟩
  obtain ⟨c, index⟩ : ∃ c : Fin 16, (s.arg 2).toNat = c.val := ⟨⟨(s.arg 2).toNat, by omega⟩, rfl⟩
  have only (d : Fin 16) (hd : (s.arg 2).toNat = d.val) : d = c := Fin.ext (hd.symm.trans index)
  rw [onChannel_of_index _ index]
  unfold State.setChannelState
  split
  next code =>
    obtain ⟨completed, meters, ring, others, own, list⟩ := torn_completed s c .disabled statusOk (s.arg 2)
    refine ⟨meters, ring, by omega, fun d hd => ?_⟩
    rw [only d hd]
    exact ⟨fun _ => ⟨completed, others, own, list⟩, by omega, by omega, by omega⟩
  next code =>
    obtain ⟨completed, others, own, frames, keys, faults, notices, meters, ring⟩ :=
      setChan_completed s c (fun x => { x with state := .guarded }) statusOk (s.arg 2)
    refine ⟨meters, ring, by omega, fun d hd => ?_⟩
    rw [only d hd]
    exact ⟨by omega, fun _ => ⟨completed, others, own, frames, keys, faults, notices⟩, by omega, by omega⟩
  next code =>
    split
    next keyed =>
      obtain ⟨completed, others, own, frames, keys, faults, notices, meters, ring⟩ :=
        setChan_completed s c (fun x => { x with state := .opened }) statusOk (s.arg 2)
      refine ⟨meters, ring, by omega, fun d hd => ?_⟩
      rw [only d hd]
      refine ⟨by omega, by omega, fun _ bare => ?_, fun _ _ _ => ⟨completed, others, own, frames, keys, faults, notices⟩⟩
      exact absurd keyed (by rcases bare with bare | bare <;> simp [bare])
    next bare =>
      obtain ⟨completed, blocks, ring⟩ := refused_completed s statusNoKey (s.arg 2)
      refine ⟨blocks.2.2.1, ring, by omega, fun d hd => ?_⟩
      rw [only d hd]
      refine ⟨by omega, by omega, fun _ _ => ⟨completed, blocks⟩, fun _ state cur => absurd ⟨state, ?_⟩ bare⟩
      exact Option.isSome_iff_ne_none.2 cur
  next zero one two =>
    obtain ⟨completed, blocks, ring⟩ := refused_completed s statusBadArgument (s.arg 2)
    exact ⟨blocks.2.2.1, ring, fun _ => ⟨completed, blocks⟩, fun d _ => ⟨fun code => absurd code zero,
      fun code => absurd code one, fun code => absurd code two, fun code => absurd code two⟩⟩

end Sys2Proof.Machine
end

section
/-!
SUPPORT. The acceptance of a transaction at the upstream port: the row that runs, the entry that is taken or the answer
that is given, and what each leaves alone.
-/

namespace Sys2Proof.Machine

-- One theorem at a time: elaborated side by side, each would hold a stack of its own.
set_option Elab.async false

/-! ## The rows of an acceptance (R9, R10) -/

theorem acceptWhen_run {mine : Bool} {x : Transaction} {s : State} (burst : x.wellFormed = true)
    (accepting : s.accepting = true) (hm : mine = true) : acceptWhen mine x s = .next (s.accept x).settle := by
  unfold acceptWhen
  rw [burst, accepting, hm]
  rfl

theorem accept_at {x : Transaction} {s : State} {p : Place} (place : s.placeOf x = some p) :
    s.accept x = s.acceptAt x p (s.routeOf x) := by
  unfold State.accept
  rw [place]

theorem accept_untouched {x : Transaction} {s : State} (place : s.placeOf x = none) :
    s.accept x = s.enter (s.plainEntry x none) := by
  unfold State.accept
  rw [place]

theorem exec_transactionAccept {x : Transaction} {s : State} (burst : x.wellFormed = true)
    (accepting : s.accepting = true) : exec (.transactionAccept x) s = .next (s.accept x).settle :=
  acceptWhen_run burst accepting rfl

section Reaches

variable {x : Transaction} {s : State} {p : Place} {n : Nat} {r : SlotRec} {route : Route}

/-- A row that accepts the transactions of one route, on a transaction of that route. -/
theorem Reaches.run (h : Reaches s x route p n r) :
    acceptWhen (decide (s.routeOf x = route)) x s = .next (s.acceptAt x p route).settle := by
  obtain ⟨burst, accepting, place, way, -, -⟩ := h
  rw [acceptWhen_run burst accepting (decide_eq_true way), accept_at place, way]

theorem Reaches.recNo (h : Reaches s x route p n r) : p.recNo.getD Config.poolSize = n := by
  obtain ⟨-, -, -, -, number, -⟩ := h
  rw [number]
  rfl

theorem Reaches.slotRec (h : Reaches s x route p n r) : s.slotRec n = some r := h.2.2.2.2.2

end Reaches

/-! ## Answers and entries (R12, R14) -/

theorem answer_eq (s : State) (x : Transaction) (ok : Bool) : s.answer x ok = s.respond (ownAnswer x ok) := rfl

theorem mem_up_settle {s : State} {a : UpResponse} (h : a ∈ s.bus.up) : a ∈ s.settle.bus.up := by
  rw [State.settle_up]
  exact List.mem_append_right _ h

/-- No entry joined the transit table. -/
theorem nothingForwarded_of_ids {s u : State} (h : u.bus.transit.map (·.id) = s.bus.transit.map (·.id)) :
    NothingForwarded s u.settle := by
  intro e he
  rw [State.settle_transit] at he
  have : e.id ∈ s.bus.transit.map (·.id) := h ▸ List.mem_map_of_mem (List.mem_filter.1 he).1
  obtain ⟨f, hf, same⟩ := List.mem_map.1 this
  exact ⟨f, hf, same⟩

/-- An entry that is not ready to leave is still there when the step has settled. -/
theorem mem_transit_settle {u : State} {e : TransitEntry} (h : e ∈ u.bus.transit) (back : e.back = none)
    (stays : e.emptied = false) : e ∈ u.settle.bus.transit := by
  rw [State.settle_transit]
  refine List.mem_filter.2 ⟨h, ?_⟩
  simp [TransitEntry.deliverable, back, stays]

/-- An entry of a write that no beat was given up for does not leave by itself. -/
theorem emptied_of_fills {e : TransitEntry} (h : e.fills = false) : e.emptied = false := by
  unfold TransitEntry.emptied
  cases e.access <;> simp [h]

theorem emptied_of_read {e : TransitEntry} {n : Nat} (h : e.access = .read n) : e.emptied = false := by
  unfold TransitEntry.emptied
  rw [h]

theorem mem_enter (s : State) (e : TransitEntry) : e ∈ (s.enter e).bus.transit :=
  List.mem_append_right _ (List.mem_singleton_self e)

theorem enter_sameUnits (s : State) (e : TransitEntry) : SameUnits s (s.enter e) :=
  ⟨⟨rfl, rfl, rfl⟩, ⟨rfl, rfl⟩, ⟨rfl, rfl⟩, rfl, rfl, rfl⟩

/-! ## Refusals (R9 to R11) -/

/-- A refusal, below FATAL: what it gives, and what it leaves alone. -/
structure Refused (s t : State) (x : Transaction) (o : Occurrence) : Prop where
  nothing : NothingForwarded s t
  answered : ownAnswer x false ∈ t.bus.up
  frames : SameFrames s t
  keys : SameKeys s t
  meters : SameMeters s t
  notices : SameNotices s t
  faults : t.faults = (s.recordFault o).faults

theorem refuse_settled {s : State} (x : Transaction) (cls : FaultClass) (c : Option (Fin 16)) (p : Place)
    (mild : cls.severity ≠ .fatal) : Refused s (s.refuse x cls c p).settle x
      ⟨cls, cls.severity, c, some p.window, p.slot, some x.initiator, false⟩ := by
  have framed := framed_recordFault (s := s.answer x false) (o := occurrence cls c (some p.window) p.slot (some x.initiator))
    mild
  refine ⟨nothingForwarded_of_ids framed.bus.2.2.2.2, mem_up_settle ?_, ?_, ?_, ?_, SameNotices.settle ?_, ?_⟩
  · rw [State.refuse, framed.bus.2.2.1]
    exact List.mem_cons_self ..
  · simp [SameFrames, State.refuse, answer_eq]
  · refine sameKeys_settle.2 ⟨?_, framed.channels⟩
    rw [State.refuse, recordFault_keys]
    rfl
  · exact sameMeters_settle.2 framed.meters
  · rw [SameNotices, State.refuse, recordFault_notices]
    rfl
  · rw [State.settle_faults]
    exact recordFault_faults_congr _ rfl rfl

/-! ## The dispatch of R10 -/

section Dispatch

variable {x : Transaction} {s : State} {p : Place}

theorem routeOf_busProtocol (place : s.placeOf x = some p) (lines : lineOf x.start ≠ lineOf x.last) :
    s.routeOf x = .busProtocol := by
  unfold State.routeOf
  rw [place]
  exact if_pos lines

theorem routeOf_blocked (place : s.placeOf x = some p) (line : lineOf x.start = lineOf x.last)
    (blocked : s.classOf x = .blocked) : s.routeOf x = .blocked := by
  unfold State.routeOf
  rw [place, blocked]
  exact if_neg (not_not.2 line)

theorem routeOf_dispatch (place : s.placeOf x = some p) (line : lineOf x.start = lineOf x.last)
    (blocked : s.classOf x ≠ .blocked) :
    s.routeOf x = dispatchRoute p.role (decide (s.classOf x = .clear)) p.off x.access := by
  unfold State.routeOf
  rw [place]
  dsimp only
  rw [if_neg (not_not.2 line)]
  cases h : s.classOf x with
  | blocked => exact absurd h blocked
  | clear => rfl
  | line => rfl

theorem acceptAt_raw {route : Route} (raw : route = .raw ∨ route = .pageWrite) :
    s.acceptAt x p route = s.enter (s.plainEntry x (some p)) := by
  rcases raw with rfl | rfl <;> rfl

end Dispatch

/-- Settles O17: the classification of R9, in order, and the rows of R10's table without a frame unit. -/
theorem portPassesAndRefuses : Obligations.PortPassesAndRefuses := by
  intro x s burst accepting
  have run := exec_transactionAccept burst accepting
  refine ⟨fun place => ⟨_, run, ?_⟩, fun p place refused => ⟨_, run, ?_⟩, fun p place line => ⟨?_, ?_⟩⟩
  · rw [accept_untouched place]
    refine ⟨⟨_, mem_transit_settle (mem_enter s _) rfl (emptied_of_fills rfl), rfl, rfl, rfl, rfl, rfl, rfl⟩, ?_⟩
    exact (enter_sameUnits s _).settle
  · rw [accept_at place]
    by_cases lines : lineOf x.start = lineOf x.last
    · rw [routeOf_blocked place lines (refused.resolve_left (not_not.2 lines)), if_neg (not_not.2 lines)]
      obtain ⟨nothing, answer, frames, keys, meters, notices, faults⟩ :=
        refuse_settled (s := s) x .blockedInitiator none p (by decide)
      exact ⟨nothing, answer, frames, keys, meters, notices, faults⟩
    · rw [routeOf_busProtocol place lines, if_pos lines]
      obtain ⟨nothing, answer, frames, keys, meters, notices, faults⟩ :=
        refuse_settled (s := s) x .busProtocol none p (by decide)
      exact ⟨nothing, answer, frames, keys, meters, notices, faults⟩
  · intro beats read which
    have blocked : s.classOf x ≠ .blocked := by
      rcases which with ⟨h, -⟩ | ⟨h, -⟩
      · rw [h]
        decide
      · exact h
    have raw : s.routeOf x = .raw := by
      rw [routeOf_dispatch place line blocked, read]
      rcases which with ⟨h, role⟩ | ⟨-, role⟩
      · rw [h]
        rcases role with role | role <;> rw [role] <;> rfl
      · rcases role with role | role | role <;> rw [role] <;> rfl
    refine ⟨_, run, ?_⟩
    rw [accept_at place, raw, acceptAt_raw (.inl rfl)]
    exact ⟨(enter_sameUnits s _).settle, _, mem_transit_settle (mem_enter s _) rfl (emptied_of_fills rfl),
      rfl, rfl, rfl, rfl, rfl, rfl, rfl, rfl, rfl⟩
  · intro bytes write which
    have blocked : s.classOf x ≠ .blocked := by
      rcases which with ⟨-, h⟩ | ⟨-, h⟩ | ⟨-, h, -⟩
      · exact h
      · rw [h]
        decide
      · rw [h]
        decide
    have conflict : s.routeOf x = .conflict := by
      rw [routeOf_dispatch place line blocked, write]
      rcases which with ⟨role, -⟩ | ⟨role | role, h⟩ | ⟨role, h, beyond⟩
      · rw [role]
        rfl
      · rw [role, h]
        rfl
      · rw [role, h]
        rfl
      · rw [role, h]
        exact if_pos beyond
    refine ⟨_, run, ?_⟩
    rw [accept_at place, conflict]
    obtain ⟨nothing, answer, frames, keys, meters, notices, faults⟩ :=
      refuse_settled (s := s) x .conflict (s.placeChannel p) p (by decide)
    exact ⟨nothing, answer, frames, keys, meters, notices, faults⟩

/-! ## The bytes of a write by their slot offset (R29) -/

theorem mapOffsets_getElem? (bytes : List (Option Byte)) (off : Nat) (f : Nat → Option Byte → Option Byte) (i : Nat) :
    (mapOffsets bytes off f)[i]? = (bytes[i]?).map (f (off + i)) := by
  unfold mapOffsets
  rw [List.getElem?_map, List.getElem?_zipIdx]
  cases bytes[i]? <;> simp

theorem mapOffsets_length (bytes : List (Option Byte)) (off : Nat) (f : Nat → Option Byte → Option Byte) :
    (mapOffsets bytes off f).length = bytes.length := by
  unfold mapOffsets
  rw [List.length_map, List.length_zipIdx]

/-- A change of a write's bytes that strobes nothing anew acts on the byte strobed at each slot offset. -/
theorem strobedAt_mapOffsets {f : Nat → Option Byte → Option Byte} (strict : ∀ k, f k none = none)
    (bytes : List (Option Byte)) (off k : Nat) :
    strobedAt (mapOffsets bytes off f) off k = f k (strobedAt bytes off k) := by
  unfold strobedAt
  split
  next le =>
    rw [mapOffsets_getElem?, Nat.add_sub_cancel' le]
    cases bytes[k - off]? with
    | none => exact (strict k).symm
    | some b => rfl
  next => exact (strict k).symm

/-- A write strobes a byte in a run of slot offsets. -/
theorem strobesIn_iff {bytes : List (Option Byte)} {off lo hi : Nat} :
    strobesIn bytes off lo hi = true ↔ ∃ k v, lo ≤ k ∧ k < hi ∧ strobedAt bytes off k = some v := by
  simp only [strobesIn, List.any_eq_true, List.mem_range, Bool.and_eq_true, decide_eq_true_eq, Option.isSome_iff_exists]
  constructor
  · rintro ⟨i, hi', ⟨⟨v, hv⟩, low⟩, high⟩
    exact ⟨off + i, v, low, high, by simp [strobedAt, hv]⟩
  · rintro ⟨k, v, low, high, hv⟩
    unfold strobedAt at hv
    split at hv
    next le =>
      refine ⟨k - off, ?_, ⟨⟨v, hv⟩, by omega⟩, by omega⟩
      by_contra short
      rw [List.getElem?_eq_none (Nat.le_of_not_lt short)] at hv
      cases hv
    next => cases hv

theorem strobesIn_of_strobedAt {bytes : List (Option Byte)} {off lo hi k : Nat} {v : Byte}
    (h : strobedAt bytes off k = some v) (low : lo ≤ k) (high : k < hi) : strobesIn bytes off lo hi = true :=
  strobesIn_iff.2 ⟨k, v, low, high, h⟩

/-- A write that strobes a byte at some slot offset is not empty. -/
theorem not_all_none_of_strobedAt {bytes : List (Option Byte)} {off k : Nat} {v : Byte}
    (h : strobedAt bytes off k = some v) : bytes.all Option.isNone = false := by
  unfold strobedAt at h
  split at h
  next =>
    rw [List.all_eq_false]
    exact ⟨some v, List.mem_of_getElem? (Option.join_eq_some_iff.1 h), by simp⟩
  next => cases h

/-! ## The header write of a notice slot (R163) -/

theorem exec_noticeClearHeaderWrite {x : Transaction} {s : State} {p : Place} {n : Nat} {r : SlotRec}
    (h : Reaches s x .noticeClearHeader p n r) {bytes : List (Option Byte)} (write : x.access = .write bytes) :
    exec (.noticeClearHeaderWrite x) s = .next (s.noticeHeader x p n bytes).settle := by
  have run := h.run
  change execNoticeClearHeaderWrite x s = _
  refine run.trans ?_
  rw [State.acceptAt, h.recNo, write]
  rfl

/-- The bytes of a release that a notice slot forwards (R163). -/
def releasedBytes (bytes : List (Option Byte)) (off : Nat) : List (Option Byte) :=
  mapOffsets bytes off fun k b => if k < 14 then none else if k < 16 then b.map fun _ => 0 else none

theorem noticeHeader_release {x : Transaction} {s : State} {p : Place} {n : Nat} {r : SlotRec}
    {bytes : List (Option Byte)} (h : s.slotRec n = some r) (release : strobedAt bytes p.off 14 = some 0)
    (state : r.state = .tagged ∨ r.state = .free) : s.noticeHeader x p n bytes =
      if r.state = .tagged then
        (s.enter { s.plainEntry x (some p) with access := .write (releasedBytes bytes p.off) }).releaseRec n
      else s.enter { s.plainEntry x (some p) with access := .write (releasedBytes bytes p.off) } := by
  unfold State.noticeHeader
  rw [h]
  exact if_pos (by simp [release, state])

theorem noticeHeader_refused {x : Transaction} {s : State} {p : Place} {n : Nat} {r : SlotRec}
    {bytes : List (Option Byte)} (h : s.slotRec n = some r)
    (bad : strobedAt bytes p.off 14 ≠ some 0 ∨ (r.state ≠ .tagged ∧ r.state ≠ .free)) :
    s.noticeHeader x p n bytes = s.refuse x .conflict r.channel p := by
  unfold State.noticeHeader
  rw [h]
  refine if_neg ?_
  rcases bad with bad | ⟨tagged, free⟩
  · intro release
    exact bad (of_decide_eq_true (Bool.and_eq_true_iff.1 release).1)
  · simp [tagged, free]

/-- Settles O27: a release in FREE, and every other header write. -/
theorem noticeHeaderWrite : Obligations.NoticeHeaderWrite := by
  refine fun x s p n r bytes h write => ⟨fun release free => ?_, fun bad => ?_⟩
  · refine ⟨_, exec_noticeClearHeaderWrite h write, ?_⟩
    rw [noticeHeader_release h.slotRec release (.inr free), if_neg (by simp [free])]
    have bytesAt (k : Nat) := strobedAt_mapOffsets (f := fun k b => if k < 14 then none else if k < 16 then
      b.map (fun _ => (0 : Byte)) else none) (by simp) bytes p.off k
    refine ⟨(enter_sameUnits s _).settle, _, mem_transit_settle (mem_enter s _) rfl (emptied_of_fills rfl), rfl, _, rfl,
      ?_, fun v hv => ?_, fun k hk => ?_⟩
    · exact (bytesAt 14).trans (by simp [release])
    · exact (bytesAt 15).trans (by simp [hv])
    · exact (bytesAt k).trans (by simp [hk])
  · refine ⟨_, exec_noticeClearHeaderWrite h write, ?_⟩
    rw [noticeHeader_refused h.slotRec bad]
    obtain ⟨nothing, answer, frames, keys, meters, notices, faults⟩ :=
      refuse_settled (s := s) x .conflict r.channel p (by decide)
    exact ⟨nothing, answer, frames, keys, meters, notices, faults⟩

end Sys2Proof.Machine
end

section
/-!
SUPPORT. What becomes of a slot record that fails, is rejected, or is released, and of the writes that do it.
-/

namespace Sys2Proof.Machine

-- One theorem at a time: elaborated side by side, each would hold a stack of its own.
set_option Elab.async false

/-! ## Header result writes (R24) -/

/-- A header result write for record n, which serves the slot of r, is among the requests of the step. -/
def Wanted (u : State) (n : Nat) (r : SlotRec) (state : SlotState) (why : Reason) : Prop :=
  ∃ q ∈ u.bus.injAsked, q.op = .headerResult n (decide (r.role = .inbound)) ∧ q.start = u.slotBase r + 8 ∧
    q.access = resultAccess state why

section Wanted

variable {s u : State} {n : Nat} {r x : SlotRec} {state : SlotState} {why : Reason}

theorem Wanted.settle (h : Wanted u n r state why) : ResultAsked u.settle n r state why := by
  obtain ⟨q, asked, op, start, access⟩ := h
  refine ⟨q, mem_requests_of_asked asked, op, start.trans ?_, access⟩
  unfold State.slotBase
  rw [State.settle_windows]

theorem Wanted.framed (h : Wanted s n r state why) (f : Framed s u) : Wanted u n r state why := by
  obtain ⟨q, asked, op, start, access⟩ := h
  exact ⟨q, f.asks asked, op, by rw [f.slotBase]; exact start, access⟩

theorem Wanted.congr (h : Wanted u n x state why) (role : x.role = r.role) (window : x.window = r.window)
    (slot : x.slot = r.slot) : Wanted u n r state why := by
  have base : u.slotBase x = u.slotBase r := by
    unfold State.slotBase
    simp only [window, slot]
  unfold Wanted at h ⊢
  rwa [← role, ← base]

theorem wanted_askResult (h : s.slotRec n = some x) : Wanted (s.askResult n) n x x.state x.reason := by
  unfold State.askResult
  rw [h]
  exact ⟨_, mem_injAsked_ask s _, rfl, rfl, rfl⟩

end Wanted

/-! ## Failed and rejected records (R65, R88) -/

/-- An outbound record that failed with this reason (R65). -/
def SlotRec.failedWith (r : SlotRec) (why : Reason) : SlotRec :=
  { r with
    state := .failed, reason := why, key := none, opening := none, finish := none, frameAsked := false,
    retouched := false }

/-- An inbound record that was rejected with this reason (R88). -/
def SlotRec.rejectedWith (r : SlotRec) (why : Reason) : SlotRec :=
  { r with
    state := .rejected, reason := why, key := none, opening := none, finish := none, tagRead := none, noted := none }

section Fails

variable {s : State} {n : Nat} {r : SlotRec} {why : Reason}

theorem askResult_slotRec (s : State) (n m : Nat) : (s.askResult n).slotRec m = s.slotRec m := by
  unfold State.askResult
  split <;> rfl

theorem failRec_self (h : s.slotRec n = some r) : (s.failRec n why).slotRec n = some (r.failedWith why) := by
  rw [State.failRec, askResult_slotRec]
  exact setRec_self (fun r => r.failedWith why) h

theorem failRec_others (s : State) (n : Nat) (why : Reason) : OtherRecords s (s.failRec n why) n := by
  intro m hm
  rw [State.failRec, askResult_slotRec]
  exact setRec_others s n (fun r => r.failedWith why) m hm

theorem failRec_wanted (h : s.slotRec n = some r) : Wanted (s.failRec n why) n r .failed why := by
  have own : ((s.setRec n fun r => r.failedWith why).dropMerges n).slotRec n = some (r.failedWith why) :=
    setRec_self (fun r => r.failedWith why) h
  exact (wanted_askResult own).congr rfl rfl rfl

theorem rejectRec_self (h : s.slotRec n = some r) : (s.rejectRec n why).slotRec n = some (r.rejectedWith why) := by
  rw [State.rejectRec, askResult_slotRec]
  exact setRec_self (fun r => r.rejectedWith why) h

theorem rejectRec_others (s : State) (n : Nat) (why : Reason) : OtherRecords s (s.rejectRec n why) n := by
  intro m hm
  rw [State.rejectRec, askResult_slotRec]
  exact setRec_others s n (fun r => r.rejectedWith why) m hm

theorem rejectRec_wanted (h : s.slotRec n = some r) : Wanted (s.rejectRec n why) n r .rejected why := by
  have own : (s.setRec n fun r => r.rejectedWith why).slotRec n = some (r.rejectedWith why) :=
    setRec_self (fun r => r.rejectedWith why) h
  exact (wanted_askResult own).congr rfl rfl rfl

theorem failOutbound_eq (h : s.slotRec n = some r) : s.failOutbound n why = (s.failRec n why).dropRefOf r.keySlot := by
  unfold State.failOutbound
  rw [h]
  rfl

theorem framed_failOutbound (s : State) (n : Nat) (why : Reason) : Framed s (s.failOutbound n why) :=
  (framed_failRec s n why).trans (kept_dropRefOf _ _).toFramed

/-- An outbound slot that fails (R65): its record, and its header result write. -/
theorem failOutbound_result (h : s.slotRec n = some r) :
    (∃ q, (s.failOutbound n why).slotRec n = some q ∧ BooksOnly (r.failedWith why) q) ∧
      Wanted (s.failOutbound n why) n r .failed why := by
  rw [failOutbound_eq h]
  have kept := kept_dropRefOf (s.failRec n why) r.keySlot
  exact ⟨kept.records (failRec_self h), (failRec_wanted h).framed kept.toFramed⟩

theorem framed_slotFaultOf (s : State) {cls : Option FaultClass} (mild : ∀ c, cls = some c → c.severity ≠ .fatal)
    (r : SlotRec) : Framed s (s.slotFaultOf cls r) := by
  cases cls with
  | none => exact Framed.refl s
  | some cls => exact framed_recordFault (mild cls rfl)

theorem reject_eq (cls : Option FaultClass) (h : s.slotRec n = some r) :
    s.reject n why cls = ((s.rejectRec n why).dropRefOf r.keySlot).slotFaultOf cls r := by
  unfold State.reject
  rw [h]

theorem framed_reject (s : State) (n : Nat) (why : Reason) {cls : Option FaultClass}
    (mild : ∀ c, cls = some c → c.severity ≠ .fatal) : Framed s (s.reject n why cls) := by
  unfold State.reject
  split
  · exact Framed.refl s
  · exact ((framed_rejectRec s n why).trans (kept_dropRefOf _ _).toFramed).trans (framed_slotFaultOf _ mild _)

theorem slotFaultOf_slotRec (s : State) (cls : Option FaultClass) (r : SlotRec) (n : Nat) :
    (s.slotFaultOf cls r).slotRec n = s.slotRec n := by
  cases cls with
  | none => rfl
  | some cls => exact recordFault_slotRec s _ n

/-- An inbound slot that is rejected (R88): its record, and its header result write. -/
theorem reject_result (h : s.slotRec n = some r) {cls : Option FaultClass}
    (mild : ∀ c, cls = some c → c.severity ≠ .fatal) :
    (∃ q, (s.reject n why cls).slotRec n = some q ∧ BooksOnly (r.rejectedWith why) q) ∧
      Wanted (s.reject n why cls) n r .rejected why := by
  rw [reject_eq cls h]
  have kept := kept_dropRefOf (s.rejectRec n why) r.keySlot
  rw [slotFaultOf_slotRec]
  exact ⟨kept.records (rejectRec_self h),
    (rejectRec_wanted h).framed (kept.toFramed.trans (framed_slotFaultOf _ mild r))⟩

end Fails

theorem verdictFault_mild (why : Reason) : ∀ c, verdictFault why = some c → c.severity ≠ .fatal := by
  intro c h
  unfold verdictFault at h
  split at h <;> cases h <;> decide

/-! ## Writes from the wrong side (R69, R93) -/

theorem exec_outboundLineWrite {x : Transaction} {s : State} {p : Place} {n : Nat} {r : SlotRec}
    (h : Reaches s x .outboundLineWrite p n r) :
    exec (.outboundLineWrite x) s = .next (s.outboundLine x p n).settle := by
  change execOutboundLineWrite x s = _
  refine h.run.trans ?_
  rw [State.acceptAt, h.recNo]

theorem exec_inboundClearPayloadWrite {x : Transaction} {s : State} {p : Place} {n : Nat} {r : SlotRec}
    (h : Reaches s x .inboundClearPayload p n r) :
    exec (.inboundClearPayloadWrite x) s = .next (s.inboundPayload x p n).settle := by
  change execInboundClearPayloadWrite x s = _
  refine h.run.trans ?_
  rw [State.acceptAt, h.recNo]

/-- A write answered ERROR with CONFLICT on this channel (R10, R11). -/
def State.conflictGiven (s : State) (x : Transaction) (p : Place) (c : Option (Fin 16)) : State :=
  (s.answer x false).recordFault (occurrence .conflict c (some p.window) p.slot (some x.initiator))

theorem framed_disturbedFault (s : State) (r : SlotRec) (i : Fin 16) : Framed s (s.disturbedFault r i) :=
  framed_recordFault (by simp [slotFault, occurrence, FaultClass.severity])

/-- Nothing that follows an answer of ERROR forwards the write or changes a meter. -/
theorem answered_settle {s u : State} {x : Transaction} {ok : Bool} (h : Framed (s.answer x ok) u) :
    NothingForwarded s u.settle ∧ ownAnswer x ok ∈ u.settle.bus.up ∧ SameMeters s u.settle := by
  obtain ⟨-, -, up, -, ids⟩ := h.bus
  refine ⟨nothingForwarded_of_ids ids, mem_up_settle ?_, sameMeters_settle.2 h.meters⟩
  rw [up]
  exact List.mem_cons_self ..

section Conflict

variable {s : State} {x : Transaction} {p : Place} {n : Nat} {r : SlotRec} (c : Option (Fin 16))

theorem framed_conflictGiven : Framed (s.answer x false) (s.conflictGiven x p c) :=
  framed_recordFault (by simp [occurrence, FaultClass.severity])

theorem conflictGiven_slotRec (h : s.slotRec n = some r) : (s.conflictGiven x p c).slotRec n = some r := by
  rw [State.conflictGiven, recordFault_slotRec]
  exact h

theorem conflictGiven_refused : Refused s (s.conflictGiven x p c).settle x
    ⟨.conflict, .degraded, c, some p.window, p.slot, some x.initiator, false⟩ :=
  refuse_settled x .conflict c p (by decide)

end Conflict

theorem outboundLine_eq {s : State} {x : Transaction} {p : Place} {n : Nat} {r : SlotRec} (h : s.slotRec n = some r) :
    s.outboundLine x p n =
      match r.state with
      | .filling => ((s.conflictGiven x p ((s.windows[p.window]).bind (·.channel))).failOutbound n .disturbed).disturbedFault
          r x.initiator
      | .tagging => ((s.conflictGiven x p ((s.windows[p.window]).bind (·.channel))).disturb n).disturbedFault r x.initiator
      | _ => s.conflictGiven x p ((s.windows[p.window]).bind (·.channel)) := by
  unfold State.outboundLine
  have own := conflictGiven_slotRec (x := x) (p := p) ((s.windows[p.window]).bind (·.channel)) h
  unfold State.conflictGiven at own ⊢
  dsimp only
  rw [own] <;> rfl

theorem inboundPayload_eq {s : State} {x : Transaction} {p : Place} {n : Nat} {r : SlotRec} (h : s.slotRec n = some r) :
    s.inboundPayload x p n =
      if r.state = .arriving then ((s.conflictGiven x p r.channel).reject n .disturbed none).disturbedFault r x.initiator
      else s.conflictGiven x p r.channel := by
  unfold State.inboundPayload
  have own := conflictGiven_slotRec (x := x) (p := p) r.channel h
  unfold State.conflictGiven at own ⊢
  rw [h]
  dsimp only [Option.bind_some]
  rw [own]

theorem disturbedFault_slotRec (s : State) (r : SlotRec) (i : Fin 16) (n : Nat) :
    (s.disturbedFault r i).slotRec n = s.slotRec n := recordFault_slotRec s _ n

/-- Settles O24: the line side on an outbound slot, the clear side beyond an inbound slot's header. -/
theorem wrongSideWrites : Obligations.WrongSideWrites := by
  refine fun x s p n r => ⟨fun h => ⟨_, exec_outboundLineWrite h, ?_⟩, fun h => ⟨_, exec_inboundClearPayloadWrite h, ?_⟩⟩
  · rw [outboundLine_eq h.slotRec]
    have conflict := framed_conflictGiven (s := s) (x := x) (p := p) ((s.windows[p.window]).bind (·.channel))
    have own := conflictGiven_slotRec (x := x) (p := p) ((s.windows[p.window]).bind (·.channel)) h.slotRec
    split
    next filling =>
      obtain ⟨⟨q, hq, books⟩, wanted⟩ := failOutbound_result (why := .disturbed) own
      have fault := framed_disturbedFault
        ((s.conflictGiven x p ((s.windows[p.window]).bind (·.channel))).failOutbound n .disturbed) r x.initiator
      obtain ⟨nothing, answer, meters⟩ := answered_settle ((conflict.trans (framed_failOutbound _ n _)).trans fault)
      refine ⟨nothing, answer, meters, fun _ => ⟨⟨q, ?_, ?_⟩, (wanted.framed fault).settle⟩, ?_, ?_⟩
      · rw [State.settle_slotRec, disturbedFault_slotRec, hq]
      · obtain ⟨_, _, _, rfl⟩ := books
        exact ⟨rfl, rfl, rfl⟩
      · simp [filling]
      · simp [filling]
    next tagging =>
      have fault := framed_disturbedFault
        ((s.conflictGiven x p ((s.windows[p.window]).bind (·.channel))).disturb n) r x.initiator
      have disturb := framed_setRec (s.conflictGiven x p ((s.windows[p.window]).bind (·.channel))) n
        fun r => { r with reason := .disturbed }
      have all := (conflict.trans disturb).trans fault
      obtain ⟨nothing, answer, meters⟩ := answered_settle all
      refine ⟨nothing, answer, meters, by simp [tagging], fun _ => ⟨?_, ?_, ?_, ?_, ?_⟩, by simp [tagging]⟩
      · rw [State.settle_slotRec, disturbedFault_slotRec]
        exact setRec_self (fun r => { r with reason := .disturbed }) own
      · intro m hm
        rw [State.settle_slotRec, disturbedFault_slotRec]
        refine (setRec_others _ n (fun r => { r with reason := .disturbed }) m hm).trans ?_
        exact recordFault_slotRec (s.answer x false) _ m
      · refine sameKeys_settle.2 ⟨?_, all.channels⟩
        rw [State.disturbedFault, recordFault_keys, State.disturb, State.setRec_keys, State.conflictGiven, recordFault_keys]
        rfl
      · rw [State.settle_ks, State.disturbedFault, recordFault_ks, State.disturb, State.setRec_ks, State.conflictGiven,
          recordFault_ks]
        rfl
      · refine SameNotices.settle ?_
        rw [SameNotices, all.notices]
        rfl
    next filling tagging =>
      obtain ⟨nothing, answer, frames, keys, meters, notices, faults⟩ :=
        conflictGiven_refused (s := s) (x := x) (p := p) ((s.windows[p.window]).bind (·.channel))
      exact ⟨nothing, answer, meters, fun h => absurd h filling, fun h => absurd h tagging,
        fun _ _ => ⟨frames, keys, notices, faults⟩⟩
  · rw [inboundPayload_eq h.slotRec]
    have own := conflictGiven_slotRec (x := x) (p := p) r.channel h.slotRec
    split
    next arriving =>
      have mild : ∀ c, (none : Option FaultClass) = some c → c.severity ≠ .fatal := fun _ no => nomatch no
      obtain ⟨⟨q, hq, books⟩, wanted⟩ := reject_result (why := .disturbed) own mild
      have fault := framed_disturbedFault ((s.conflictGiven x p r.channel).reject n .disturbed none) r x.initiator
      obtain ⟨nothing, answer, meters⟩ := answered_settle
        (((framed_conflictGiven r.channel).trans (framed_reject _ n .disturbed mild)).trans fault)
      refine ⟨nothing, answer, meters, fun _ => ⟨⟨q, ?_, ?_⟩, (wanted.framed fault).settle⟩, fun no => absurd arriving no⟩
      · rw [State.settle_slotRec, disturbedFault_slotRec, hq]
      · obtain ⟨_, _, _, rfl⟩ := books
        exact ⟨rfl, rfl, rfl⟩
    next arriving =>
      obtain ⟨nothing, answer, frames, keys, meters, notices, faults⟩ :=
        conflictGiven_refused (s := s) (x := x) (p := p) r.channel
      exact ⟨nothing, answer, meters, fun h => absurd h arriving, fun _ => ⟨frames, keys, notices, faults⟩⟩

end Sys2Proof.Machine
end

section
/-!
SUPPORT. The writes that carry a state request: a CHECK of an inbound slot, and the releases.
-/

namespace Sys2Proof.Machine

-- One theorem at a time: elaborated side by side, each would hold a stack of its own.
set_option Elab.async false

/-! ## The mirror bytes of an entry (R22, R23) -/

/-- The mirror bytes are filled in the transit table alone. -/
theorem mirrorEntry_only (s : State) (id n off : Nat) : ∃ l, s.mirrorEntry id n off = s.setTransit l ∧
    l.map (·.id) = s.bus.transit.map (·.id) := by
  unfold State.mirrorEntry
  split
  · exact ⟨s.bus.transit, rfl, rfl⟩
  · refine ⟨_, rfl, ?_⟩
    rw [List.map_map]
    refine List.map_congr_left fun e _ => ?_
    dsimp only [Function.comp]
    (repeat' split) <;> rfl

section Mirror

variable (s : State) (id n off : Nat)

@[simp] theorem mirrorEntry_pool : (s.mirrorEntry id n off).pool = s.pool := by
  obtain ⟨_, h, -⟩ := mirrorEntry_only s id n off; rw [h]; rfl
@[simp] theorem mirrorEntry_ks : (s.mirrorEntry id n off).ks = s.ks := by
  obtain ⟨_, h, -⟩ := mirrorEntry_only s id n off; rw [h]; rfl
@[simp] theorem mirrorEntry_merges : (s.mirrorEntry id n off).merges = s.merges := by
  obtain ⟨_, h, -⟩ := mirrorEntry_only s id n off; rw [h]; rfl
@[simp] theorem mirrorEntry_keys : (s.mirrorEntry id n off).keys = s.keys := by
  obtain ⟨_, h, -⟩ := mirrorEntry_only s id n off; rw [h]; rfl
@[simp] theorem mirrorEntry_key (k : Fin 32) : (s.mirrorEntry id n off).key k = s.key k := by
  obtain ⟨_, h, -⟩ := mirrorEntry_only s id n off; rw [h]; rfl
@[simp] theorem mirrorEntry_faults : (s.mirrorEntry id n off).faults = s.faults := by
  obtain ⟨_, h, -⟩ := mirrorEntry_only s id n off; rw [h]; rfl
@[simp] theorem mirrorEntry_slotRec (m : Nat) : (s.mirrorEntry id n off).slotRec m = s.slotRec m := by
  obtain ⟨_, h, -⟩ := mirrorEntry_only s id n off; rw [h]; rfl
@[simp] theorem mirrorEntry_injAsked : (s.mirrorEntry id n off).bus.injAsked = s.bus.injAsked := by
  obtain ⟨_, h, -⟩ := mirrorEntry_only s id n off; rw [h]; rfl

end Mirror

theorem framed_mirrorEntry (s : State) (id n off : Nat) : Framed s (s.mirrorEntry id n off) := by
  obtain ⟨l, h, ids⟩ := mirrorEntry_only s id n off
  rw [h]
  exact (kept_of_only ⟨s.ks, s.keys, s.merges, l, s.stamp, rfl, rfl, ids⟩).toFramed

/-! ## A CHECK (R80 to R82) -/

/-- The early verdict, in the order of R81, as the reason that stands; NONE when none applies. -/
theorem earlyVerdict_eq (s : State) (r : SlotRec) {why : Reason}
    (h : why = (if r.headerSeen = false then .malformed
      else if r.reason = .malformed ∨ r.reason = .memory then r.reason
      else if ∃ c, r.channel = some c ∧ (s.chan c).state = .disabled then .channelDown
      else if r.reason = .noKey then .noKey
      else if r.doomed = true then .replayed
      else .none)) : s.earlyVerdict r = if why = .none then none else some why := by
  have disabled : s.channelDisabled r = true ↔ ∃ c, r.channel = some c ∧ (s.chan c).state = .disabled := by
    unfold State.channelDisabled
    cases r.channel <;> simp
  unfold State.earlyVerdict
  rw [h]
  by_cases seen : r.headerSeen = false
  · simp [seen]
  rw [if_neg (by simpa using seen), if_neg seen]
  by_cases bad : r.reason = .malformed ∨ r.reason = .memory
  · rw [if_pos bad, if_pos bad, if_neg]
    rcases bad with bad | bad <;> simp [bad]
  rw [if_neg bad, if_neg bad]
  by_cases down : s.channelDisabled r = true
  · rw [if_pos down, if_pos (disabled.1 down)]
    rfl
  rw [if_neg down, if_neg fun h => down (disabled.2 h)]
  by_cases noKey : r.reason = .noKey
  · rw [if_pos noKey, if_pos noKey]
    rfl
  rw [if_neg noKey, if_neg noKey]
  by_cases doomed : r.doomed = true
  · rw [if_pos doomed, if_pos doomed]
    rfl
  · rw [if_neg doomed, if_neg doomed]
    rfl

/-- A record whose tag check begins (R81, R82). -/
def SlotRec.checkBegun (r : SlotRec) : SlotRec :=
  { r with state := .checking, finish := some (Finish.begin (r.length.getD 0)), tagRead := none, noted := none }

/-- The tag read of a slot record that a CHECK asks for (R82). -/
def State.tagReadOf (s : State) (n : Nat) (r : SlotRec) : InjReq :=
  ⟨.tagRead n (r.opening.getD 0), 0, s.slotBase r + 16, .read 2, some r.window, some r.slot⟩

theorem takeCheck_early {s : State} {n : Nat} {r : SlotRec} {why : Reason} (h : s.slotRec n = some r)
    (early : s.earlyVerdict r = some why) : s.takeCheck n = s.reject n why (verdictFault why) := by
  unfold State.takeCheck
  rw [h]
  dsimp only
  rw [early]

theorem takeCheck_begins {s : State} {n : Nat} {r : SlotRec} (h : s.slotRec n = some r)
    (late : s.earlyVerdict r = none) :
    s.takeCheck n = (s.setRec n fun x => x.checkBegun).ask (s.tagReadOf n r) := by
  unfold State.takeCheck
  rw [h]
  dsimp only
  rw [late]
  rfl

theorem exec_inboundClearHeaderWrite {x : Transaction} {s : State} {p : Place} {n : Nat} {r : SlotRec}
    (h : Reaches s x .inboundClearHeader p n r) {bytes : List (Option Byte)} (write : x.access = .write bytes) :
    exec (.inboundClearHeaderWrite x) s = .next (s.inboundHeader x p n bytes).settle := by
  change execInboundClearHeaderWrite x s = _
  refine h.run.trans ?_
  rw [State.acceptAt, h.recNo, write]
  rfl

/-- The entry of a clear-side header write to an inbound slot (R80). -/
def State.headerEntry (s : State) (x : Transaction) (p : Place) (bytes : List (Option Byte)) : TransitEntry :=
  { s.plainEntry x (some p) with access := .write (headerBytes bytes p.off) }

theorem inboundHeader_strobed {s : State} {x : Transaction} {p : Place} {n : Nat} {bytes : List (Option Byte)} {v : Byte}
    (request : strobedAt bytes p.off 14 = some v) : s.inboundHeader x p n bytes =
      ((s.enter (s.headerEntry x p bytes)).inboundRequest n (some v)).mirrorEntry s.stamp n p.off := by
  have kept : strobedAt (headerBytes bytes p.off) p.off 14 = some v :=
    (strobedAt_mapOffsets (by simp) bytes p.off 14).trans (by simp [request])
  unfold State.inboundHeader
  dsimp only
  rw [not_all_none_of_strobedAt kept, request]
  rfl

theorem inboundRequest_check {s : State} {n : Nat} {r : SlotRec} (h : s.slotRec n = some r) (state : r.state = .arriving) :
    s.inboundRequest n (some 5) = s.takeCheck n := by
  unfold State.inboundRequest
  rw [h]
  dsimp only
  rw [state]
  rfl

/-- Settles O26: the early verdict of R81, or the beginning of the check. -/
theorem checkSettlesOrBegins : Obligations.CheckSettlesOrBegins := by
  intro x s p n r bytes h write arriving check
  have own : (s.enter (s.headerEntry x p bytes)).slotRec n = some r := h.slotRec
  have step : s.inboundHeader x p n bytes =
      ((s.enter (s.headerEntry x p bytes)).takeCheck n).mirrorEntry s.stamp n p.off := by
    rw [inboundHeader_strobed check, inboundRequest_check own arriving]
  refine ⟨_, exec_inboundClearHeaderWrite h write, ?_⟩
  rw [step]
  have mirror := framed_mirrorEntry ((s.enter (s.headerEntry x p bytes)).takeCheck n) s.stamp n p.off
  cases early : s.earlyVerdict r with
  | some verdict =>
    rw [takeCheck_early own early] at mirror ⊢
    have framed := (framed_reject (s.enter (s.headerEntry x p bytes)) n verdict (verdictFault_mild verdict)).trans mirror
    obtain ⟨⟨q, hq, books⟩, wanted⟩ := reject_result (why := verdict) own (verdictFault_mild verdict)
    refine ⟨sameMeters_settle.2 framed.meters, fun why hwhy => ?_⟩
    rw [earlyVerdict_eq s r hwhy] at early
    split at early
    · cases early
    · cases early
      refine ⟨fun _ => ⟨⟨q, ?_, ?_⟩, (wanted.framed mirror).settle⟩, fun no => by contradiction⟩
      · rw [State.settle_slotRec, mirrorEntry_slotRec, hq]
      · obtain ⟨_, _, _, rfl⟩ := books
        exact ⟨rfl, rfl, rfl⟩
  | none =>
    rw [takeCheck_begins own early]
    refine ⟨?_, fun why hwhy => ⟨fun some => ?_, fun _ => ⟨⟨r.checkBegun, ?_, rfl, rfl, rfl, rfl⟩,
      ⟨s.tagReadOf n r, mem_requests_of_asked ?_, rfl, rfl, rfl⟩, ?_, ?_, ?_, ?_, ?_⟩⟩⟩
    · exact sameMeters_settle.2 (framed_mirrorEntry _ _ n _).meters
    · rw [earlyVerdict_eq s r hwhy, if_neg some] at early
      cases early
    · rw [State.settle_slotRec, mirrorEntry_slotRec]
      exact setRec_self (fun x => x.checkBegun) own
    · rw [mirrorEntry_injAsked]
      exact mem_injAsked_ask _ _
    · intro m hm
      rw [State.settle_slotRec, mirrorEntry_slotRec]
      exact setRec_others (s.enter (s.headerEntry x p bytes)) n (fun x => x.checkBegun) m hm
    · refine sameKeys_settle.2 ⟨by rw [mirrorEntry_keys]; rfl, ?_⟩
      exact (framed_mirrorEntry _ _ n _).channels
    · exact sameFaults_settle.2 (mirrorEntry_faults _ _ n _)
    · refine SameNotices.settle ?_
      rw [SameNotices, (framed_mirrorEntry _ _ n _).notices]
      rfl
    · rw [State.settle_ks, mirrorEntry_ks]
      rfl

/-! ## Releases (R68, R94, R163) -/

section Release

variable {s : State} {n : Nat} {r : SlotRec}

theorem releaseRec_eq (h : s.slotRec n = some r) : s.releaseRec n = (s.freshen n).dropRefOf r.keySlot := by
  unfold State.releaseRec
  rw [h]
  rfl

theorem framed_releaseRec (s : State) (n : Nat) : Framed s (s.releaseRec n) :=
  (framed_setRec s n _).trans (kept_dropRefOf _ _).toFramed

theorem freshen_self (h : s.slotRec n = some r) : (s.freshen n).slotRec n = some (SlotRec.fresh r.role r.window r.slot) :=
  setRec_self (fun r => SlotRec.fresh r.role r.window r.slot) h

/-- A released record has the contents of R7, also where its key slot's keystream is withdrawn. -/
theorem releaseRec_self (h : s.slotRec n = some r) :
    (s.releaseRec n).slotRec n = some (SlotRec.fresh r.role r.window r.slot) := by
  rw [releaseRec_eq h]
  exact (kept_dropRefOf _ _).still n _ (freshen_self h) rfl

theorem releaseRec_unkeyed (h : s.slotRec n = some r) (unkeyed : r.keySlot = none) : s.releaseRec n = s.freshen n := by
  rw [releaseRec_eq h, unkeyed]
  rfl

end Release

/-- What a release says of the state it leaves, beside the slot record (R68, R118, R120). -/
structure Released (s t : State) (n : Nat) (r : SlotRec) : Prop where
  fresh : t.slotRec n = some (SlotRec.fresh r.role r.window r.slot)
  meters : SameMeters s t
  unkeyed : r.keySlot = none → OtherRecords s t n ∧ SameKeys s t ∧ SameFaults s t ∧ SameNotices s t ∧ t.ks = s.ks
  held : ∀ k, r.keySlot = some k → (s.keyRole k).isSome = true →
    t.key k = { s.key k with refs := (s.key k).refs - 1 } ∧ OtherKeys s t k
  last : ∀ k, r.keySlot = some k → s.keyRole k = none → (s.key k).state ≠ .free → (s.key k).refs = 1 →
    t.key k = KeySlot.zeroised ∧ t.keys.freeList = s.keys.freeList ++ [k]

/-- A release taken in a state that has the records, the key slots and the channels of the step's. -/
theorem released {s u t : State} {n : Nat} {r q : SlotRec} (own : u.slotRec n = some q) (role : q.role = r.role)
    (window : q.window = r.window) (slot : q.slot = r.slot) (key : q.keySlot = r.keySlot) (units : SameUnits s { u with
      pool := s.pool }) (others : OtherRecords s u n)
    (after : ∃ pool bus, t = { u.releaseRec n with pool := pool, bus := bus }) (records : ∀ m, t.slotRec m = (u.releaseRec n).slotRec m) :
    Released s t.settle n r := by
  obtain ⟨⟨-, ks, -⟩, ⟨keys, channels⟩, meters, faults, notices, -⟩ := units
  obtain ⟨pool, bus, rfl⟩ := after
  have framed := framed_releaseRec u n
  have roles (k : Fin 32) : u.keyRole k = s.keyRole k := keyRole_congr (by unfold State.key; rw [keys]) channels
  have keyAt (k : Fin 32) : u.key k = s.key k := by
    unfold State.key
    rw [keys]
  refine ⟨?_, ?_, fun unkeyed => ?_, fun k hk role => ?_, fun k hk role used last => ?_⟩
  · rw [State.settle_slotRec, records, releaseRec_self own, role, window, slot]
  · exact sameMeters_settle.2 ⟨framed.meters.1.trans meters.1, framed.meters.2.trans meters.2⟩
  · have freshened := releaseRec_unkeyed own (key.trans unkeyed)
    refine ⟨fun m hm => ?_, sameKeys_settle.2 ⟨?_, framed.channels.trans channels⟩, sameFaults_settle.2 ?_,
      SameNotices.settle ?_, ?_⟩
    · rw [State.settle_slotRec, records, freshened]
      exact (setRec_others u n _ m hm).trans (others m hm)
    · rw [freshened]
      exact keys
    · rw [SameFaults, freshened]
      exact faults
    · rw [SameNotices, freshened]
      exact notices
    · rw [State.settle_ks, freshened]
      exact ks
  · have dropped : u.releaseRec n = (u.freshen n).untakeRef k := by
      rw [releaseRec_eq own, key.trans hk]
      refine dropRef_of_role ?_
      have same : (u.freshen n).keyRole k = u.keyRole k := rfl
      rw [same, roles]
      exact Option.isSome_iff_ne_none.1 role
    have keyOf (j : Fin 32) : (u.releaseRec n).key j = if j = k then { s.key k with refs := (s.key k).refs - 1 } else s.key j := by
      rw [dropped, untakeRef_key]
      have same (j : Fin 32) : (u.freshen n).key j = u.key j := rfl
      simp only [same, keyAt]
    refine ⟨?_, fun j hj => ?_⟩
    · rw [State.settle_key]
      exact (keyOf k).trans (if_pos rfl)
    · rw [State.settle_key]
      exact (keyOf j).trans (if_neg hj)
  · have same : (u.freshen n).keyRole k = u.keyRole k := rfl
    have sameKey : (u.freshen n).key k = u.key k := rfl
    obtain ⟨zeroised, list⟩ := dropRef_last (s := u.freshen n) (k := k) (by rw [sameKey, keyAt]; exact used)
      (by rw [same, roles]; exact role) (by rw [sameKey, keyAt]; exact last)
    have dropped : u.releaseRec n = (u.freshen n).dropRef k := by rw [releaseRec_eq own, key.trans hk]; rfl
    refine ⟨?_, ?_⟩
    · rw [State.settle_key]
      change (u.releaseRec n).key k = _
      rw [dropped]
      exact zeroised
    · rw [State.settle_keys]
      change (u.releaseRec n).keys.freeList = _
      rw [dropped, list]
      change u.keys.freeList ++ [k] = _
      rw [keys]

end Sys2Proof.Machine
end

section
/-!
SUPPORT. The clear-side write to an outbound slot: its captured header bytes, its entry, its state request; the releases of
all three roles, and the opening that fails admission.
-/

namespace Sys2Proof.Machine

-- One theorem at a time: elaborated side by side, each would hold a stack of its own.
set_option Elab.async false

/-! ## The parts of a clear-side write (R51) -/

/-- The slot's record with the header bytes of a write captured (R51 step 2). -/
def State.captured (s : State) (n : Nat) (bytes : List (Option Byte)) (off : Nat) : State :=
  s.setRec n fun r => r.capture bytes off

/-- A write's state request taken, and its mirror bytes filled (R51 steps 3 and 4, R56). -/
def State.finishWrite (s : State) (id n off : Nat) (bytes : List (Option Byte)) : State :=
  ((s.outboundRequest n (strobedAt bytes off 14) (strobesIn bytes off 32 Config.slotBytes)).noteRetouch n bytes
    off).mirrorEntry id n off

/-- The entry of a clear-side write to a record. -/
def State.clearEntry (s : State) (x : Transaction) (p : Place) (bytes : List (Option Byte)) (r : SlotRec) : TransitEntry :=
  let fills := decide (r.state = .filling) && strobesIn bytes p.off 32 Config.slotBytes
  s.outboundEntry x p (judgedBytes bytes p.off fills) r fills

section Parts

variable {s : State} {x : Transaction} {p : Place} {n : Nat} {r : SlotRec} {bytes : List (Option Byte)}

theorem captured_slotRec (h : s.slotRec n = some r) (off : Nat) :
    (s.captured n bytes off).slotRec n = some (r.capture bytes off) :=
  setRec_self (fun r => r.capture bytes off) h

theorem captured_others (s : State) (n : Nat) (bytes : List (Option Byte)) (off m : Nat) (hm : m ≠ n) :
    (s.captured n bytes off).slotRec m = s.slotRec m :=
  setRec_others s n (fun r => r.capture bytes off) m hm

theorem framed_captured (s : State) (n : Nat) (bytes : List (Option Byte)) (off : Nat) :
    Framed s (s.captured n bytes off) :=
  framed_of_only ⟨_, _, _, _, rfl⟩

/-- A write of which nothing is forwarded is answered OKAY. -/
theorem writeOutbound_answered (h : s.slotRec n = some r)
    (empty : (judgedBytes bytes p.off (decide (r.state = .filling) &&
      strobesIn bytes p.off 32 Config.slotBytes)).all Option.isNone = true) :
    s.writeOutbound x p n bytes = (s.captured n bytes p.off).answer x true := by
  have own := captured_slotRec (bytes := bytes) h p.off
  unfold State.captured at own ⊢
  unfold State.writeOutbound
  dsimp only
  rw [own]
  exact if_pos empty

/-- A write without payload to encipher is forwarded as it is. -/
theorem writeOutbound_dry (h : s.slotRec n = some r)
    (dry : (decide (r.state = .filling) && strobesIn bytes p.off 32 Config.slotBytes) = false)
    (some : (judgedBytes bytes p.off false).all Option.isNone = false) : s.writeOutbound x p n bytes =
      ((s.captured n bytes p.off).enter (s.clearEntry x p bytes r)).finishWrite s.stamp n p.off bytes := by
  have own := captured_slotRec (bytes := bytes) h p.off
  have same : (r.capture bytes p.off).state = r.state := rfl
  unfold State.captured at own ⊢
  unfold State.writeOutbound State.clearEntry
  dsimp only
  rw [own]
  dsimp only
  rw [same, dry, some]
  cases (r.capture bytes p.off).keySlot <;> rfl

/-- A payload write in FILLING is forwarded, and its beats ask for keystream under the record's key slot. -/
theorem writeOutbound_fills (h : s.slotRec n = some r) (state : r.state = .filling)
    (payload : strobesIn bytes p.off 32 Config.slotBytes = true)
    (strobed : (judgedBytes bytes p.off true).all Option.isNone = false) : s.writeOutbound x p n bytes =
      (match r.keySlot with
        | some k => ((s.captured n bytes p.off).enter (s.clearEntry x p bytes r)).lookupBeats (s.clearEntry x p bytes r) k
            (r.capture bytes p.off)
        | none => (s.captured n bytes p.off).enter (s.clearEntry x p bytes r)).finishWrite s.stamp n p.off bytes := by
  have own := captured_slotRec (bytes := bytes) h p.off
  have same : (r.capture bytes p.off).state = .filling := state
  have slot : (r.capture bytes p.off).keySlot = r.keySlot := rfl
  unfold State.captured at own ⊢
  unfold State.writeOutbound State.clearEntry State.finishWrite
  dsimp only
  rw [own]
  dsimp only
  rw [same, state, payload, slot]
  rw [show (decide (SlotState.filling = SlotState.filling) && true) = true from rfl, strobed]
  have entry : (s.setRec n fun r => r.capture bytes p.off).outboundEntry x p (judgedBytes bytes p.off true)
      (r.capture bytes p.off) true = s.outboundEntry x p (judgedBytes bytes p.off true) r true := rfl
  rw [entry]
  refine (if_neg Bool.false_ne_true).trans ?_
  cases r.keySlot <;> rfl

/-- A write whose header bytes alone are strobed reaches the record. -/
theorem outboundWrite_eq (h : s.slotRec n = some r) (strobes : strobesIn bytes p.off 32 Config.slotBytes = true ∨
    strobesIn bytes p.off 0 16 = true) : s.outboundWrite x p n bytes =
      match r.state with
      | .free => if opensOutbound bytes p.off then (s.openOutbound n x.initiator).writeOutbound x p n bytes
          else s.writeOutbound x p n bytes
      | .tagging => if strobesIn bytes p.off 32 Config.slotBytes then (s.disturb n).dropOutbound x p n bytes r
          else s.writeOutbound x p n bytes
      | .tagged => if strobesIn bytes p.off 32 Config.slotBytes then s.dropOutbound x p n bytes r
          else s.writeOutbound x p n bytes
      | _ => s.writeOutbound x p n bytes := by
  unfold State.outboundWrite
  rw [h]
  dsimp only
  refine if_neg ?_
  rw [Bool.and_eq_true, Bool.not_eq_true', Bool.not_eq_true']
  rintro ⟨payload, header⟩
  rcases strobes with strobes | strobes
  · exact Bool.false_ne_true (payload.symm.trans strobes)
  · exact Bool.false_ne_true (header.symm.trans strobes)

end Parts

theorem exec_outboundClearWrite {x : Transaction} {s : State} {p : Place} {n : Nat} {r : SlotRec}
    (h : Reaches s x .outboundClearWrite p n r) {bytes : List (Option Byte)} (write : x.access = .write bytes) :
    exec (.outboundClearWrite x) s = .next (s.outboundWrite x p n bytes).settle := by
  change execOutboundClearWrite x s = _
  refine h.run.trans ?_
  rw [State.acceptAt, h.recNo, write]
  rfl

/-- A byte that R51 judges, at each slot offset. -/
theorem strobedAt_judged (bytes : List (Option Byte)) (off k : Nat) (keep : Bool) :
    strobedAt (judgedBytes bytes off keep) off k =
      if k < 16 then strobedAt bytes off k else if k < 32 then none else if keep then strobedAt bytes off k else none :=
  strobedAt_mapOffsets (f := fun k b => if k < 16 then b else if k < 32 then none else if keep then b else none)
    (by intro k; (repeat' split) <;> rfl) bytes off k

/-- The bytes of a write that R51 judges are not all dropped while a header byte is strobed. -/
theorem judged_header {bytes : List (Option Byte)} {off k : Nat} {v : Byte} (low : k < 16)
    (h : strobedAt bytes off k = some v) (keep : Bool) : (judgedBytes bytes off keep).all Option.isNone = false :=
  not_all_none_of_strobedAt ((strobedAt_judged bytes off k keep).trans ((if_pos low).trans h))

/-! ## The retouch mark (R64) -/

/-- A record with a header write remembered in it, when its frame write has been asked for (R64). -/
def SlotRec.remembers (r : SlotRec) (strobes : Bool) : SlotRec :=
  if strobes = true ∧ r.state = .tagging ∧ r.frameAsked = true then { r with retouched := true } else r

theorem SlotRec.remembers_idle {r : SlotRec} (h : r.state ≠ .tagging ∨ r.frameAsked = false) (strobes : Bool) :
    r.remembers strobes = r := by
  unfold SlotRec.remembers
  refine if_neg ?_
  rintro ⟨-, tagging, asked⟩
  rcases h with h | h
  · exact h tagging
  · rw [h] at asked
    cases asked

/-- A remembered header write changes the retouch mark alone. -/
theorem SlotRec.remembers_only (r : SlotRec) (strobes : Bool) : ∃ b, r.remembers strobes = { r with retouched := b } := by
  unfold SlotRec.remembers
  split
  · exact ⟨true, rfl⟩
  · exact ⟨r.retouched, rfl⟩

section Retouch

variable (s : State) (n : Nat) (bytes : List (Option Byte)) (off : Nat)

theorem noteRetouch_only : ∃ pool, s.noteRetouch n bytes off = { s with pool := pool } := by
  unfold State.noteRetouch
  split
  · exact ⟨_, rfl⟩
  · exact ⟨s.pool, rfl⟩

theorem noteRetouch_others (m : Nat) (hm : m ≠ n) : (s.noteRetouch n bytes off).slotRec m = s.slotRec m := by
  unfold State.noteRetouch
  split
  · exact setRec_others s n _ m hm
  · rfl

theorem noteRetouch_self {r : SlotRec} (h : s.slotRec n = some r) :
    (s.noteRetouch n bytes off).slotRec n = some (r.remembers (strobesIn bytes off 14 16)) := by
  unfold State.noteRetouch SlotRec.remembers
  split
  next strobes =>
    rw [setRec_self (fun r => if r.state = .tagging ∧ r.frameAsked = true then { r with retouched := true } else r) h]
    simp [strobes]
  next strobes =>
    rw [h, if_neg]
    simp [strobes]

theorem framed_noteRetouch : Framed s (s.noteRetouch n bytes off) := by
  obtain ⟨pool, h⟩ := noteRetouch_only s n bytes off
  rw [h]
  exact framed_of_only ⟨_, _, _, _, rfl⟩

end Retouch

/-- After the state request a write changes slot record n's retouch mark and its own entry's bytes alone. -/
theorem finishWrite_only (s : State) (id n off : Nat) (bytes : List (Option Byte)) :
    ∃ pool l, s.finishWrite id n off bytes = { s.outboundRequest n (strobedAt bytes off 14)
      (strobesIn bytes off 32 Config.slotBytes) with
        pool := pool
        bus := { (s.outboundRequest n (strobedAt bytes off 14) (strobesIn bytes off 32 Config.slotBytes)).bus with
          transit := l } } := by
  obtain ⟨l, h, -⟩ := mirrorEntry_only ((s.outboundRequest n (strobedAt bytes off 14)
    (strobesIn bytes off 32 Config.slotBytes)).noteRetouch n bytes off) id n off
  obtain ⟨pool, g⟩ := noteRetouch_only (s.outboundRequest n (strobedAt bytes off 14)
    (strobesIn bytes off 32 Config.slotBytes)) n bytes off
  unfold State.finishWrite
  rw [h, g]
  exact ⟨pool, l, rfl⟩

theorem framed_finish (s : State) (id n off : Nat) (bytes : List (Option Byte)) :
    Framed (s.outboundRequest n (strobedAt bytes off 14) (strobesIn bytes off 32 Config.slotBytes))
      (s.finishWrite id n off bytes) :=
  (framed_noteRetouch _ n bytes off).trans (framed_mirrorEntry _ id n off)

theorem finishWrite_others (s : State) (id n off : Nat) (bytes : List (Option Byte)) (m : Nat) (hm : m ≠ n) :
    (s.finishWrite id n off bytes).slotRec m =
      (s.outboundRequest n (strobedAt bytes off 14) (strobesIn bytes off 32 Config.slotBytes)).slotRec m :=
  (mirrorEntry_slotRec _ id n off m).trans (noteRetouch_others _ n bytes off m hm)

theorem finishWrite_self {s : State} (id : Nat) {n off : Nat} {bytes : List (Option Byte)} {r : SlotRec}
    (h : (s.outboundRequest n (strobedAt bytes off 14) (strobesIn bytes off 32 Config.slotBytes)).slotRec n = some r) :
    (s.finishWrite id n off bytes).slotRec n = some (r.remembers (strobesIn bytes off 14 16)) :=
  (mirrorEntry_slotRec _ id n off n).trans (noteRetouch_self _ n bytes off h)

/-- A record without a frame write of its own comes out of the end of a write as its state request left it. -/
theorem finishWrite_records {s : State} (id : Nat) {n off : Nat} {bytes : List (Option Byte)} {r : SlotRec}
    (h : (s.outboundRequest n (strobedAt bytes off 14) (strobesIn bytes off 32 Config.slotBytes)).slotRec n = some r)
    (calm : r.state ≠ .tagging ∨ r.frameAsked = false) (m : Nat) : (s.finishWrite id n off bytes).slotRec m =
      (s.outboundRequest n (strobedAt bytes off 14) (strobesIn bytes off 32 Config.slotBytes)).slotRec m := by
  by_cases hm : m = n
  · rw [hm, finishWrite_self id h, SlotRec.remembers_idle calm, h]
  · exact finishWrite_others s id n off bytes m hm

/-! ## State requests of an outbound slot (R56) -/

section Requests

variable {s : State} {n : Nat} {r : SlotRec}

theorem outboundRequest_release (h : s.slotRec n = some r) (state : r.state = .tagged ∨ r.state = .failed) :
    s.outboundRequest n (some 0) false = s.releaseRec n := by
  unfold State.outboundRequest State.recState
  rw [h]
  rcases state with state | state <;> simp [state]

theorem outboundRequest_close (h : s.slotRec n = some r) (state : r.state = .filling) (payload : Bool) :
    s.outboundRequest n (some 1) payload = s.takeClose n := by
  unfold State.outboundRequest State.recState
  rw [h]
  simp [state]

/-- FILLING takes no request but CLOSE. -/
theorem outboundRequest_filling (h : s.slotRec n = some r) (state : r.state = .filling) {v : Option Byte}
    (close : v ≠ some 1) (payload : Bool) : s.outboundRequest n v payload = s := by
  unfold State.outboundRequest State.recState
  rw [h]
  cases v with
  | none => rfl
  | some v => simpa [state] using fun e => absurd (congrArg some e) close

/-- FAILED takes no request but a header-only release. -/
theorem outboundRequest_failed (h : s.slotRec n = some r) (state : r.state = .failed) {v : Option Byte} {payload : Bool}
    (declined : payload = true ∨ v ≠ some 0) : s.outboundRequest n v payload = s := by
  unfold State.outboundRequest State.recState
  rw [h]
  cases v with
  | none => rfl
  | some v => simpa [state] using fun e p => by simp [e, p] at declined

end Requests

/-! ## Releases -/

/-- Settles O22: a release of an outbound, inbound or notice slot is `Released`, whatever the write around it does to the
transit table. -/
theorem releaseReturnsSlot : Obligations.ReleaseReturnsSlot := by
  intro x s p n r bytes route c h write payload header request which
  suffices ∃ t, exec c s = .next t ∧ Released s t n r by
    obtain ⟨t, run, fresh, meters, unkeyed, held, last⟩ := this
    exact ⟨t, run, fresh, meters, unkeyed, held, last⟩
  rcases which with ⟨rfl, rfl, state⟩ | ⟨rfl, rfl, state⟩ | ⟨rfl, rfl, state⟩
  · refine ⟨_, exec_outboundClearWrite h write, ?_⟩
    have strobes : strobesIn bytes p.off 0 16 = true := strobesIn_of_strobedAt request (by decide) (by decide)
    have direct : s.outboundWrite x p n bytes = s.writeOutbound x p n bytes := by
      rw [outboundWrite_eq h.slotRec (.inr strobes)]
      rcases state with state | state
      · rw [state]
        exact if_neg (Bool.eq_false_iff.1 payload)
      · rw [state]
    have own : ((s.captured n bytes p.off).enter (s.clearEntry x p bytes r)).slotRec n = some (r.capture bytes p.off) :=
      captured_slotRec h.slotRec p.off
    have taken := outboundRequest_release own state
    have step : ((s.captured n bytes p.off).enter (s.clearEntry x p bytes r)).outboundRequest n (strobedAt bytes p.off 14)
        (strobesIn bytes p.off 32 Config.slotBytes) =
          ((s.captured n bytes p.off).enter (s.clearEntry x p bytes r)).releaseRec n := by
      rw [request]
      exact (congrArg _ payload).trans taken
    rw [direct, writeOutbound_dry h.slotRec (by rw [show strobesIn bytes p.off 32 Config.slotBytes = false from payload,
      Bool.and_false]) (judged_header (by decide) request false)]
    obtain ⟨pool, l, after⟩ := finishWrite_only ((s.captured n bytes p.off).enter (s.clearEntry x p bytes r)) s.stamp n
      p.off bytes
    rw [step] at after
    refine released own rfl rfl rfl rfl (enter_sameUnits s (s.clearEntry x p bytes r))
      (captured_others s n bytes p.off) ⟨_, _, after⟩ fun m => ?_
    rw [finishWrite_records (r := SlotRec.fresh r.role r.window r.slot) s.stamp (by rw [step]; exact (releaseRec_self own :))
      (.inr rfl) m, step]
  · refine ⟨_, exec_inboundClearHeaderWrite h write, ?_⟩
    have own : (s.enter (s.headerEntry x p bytes)).slotRec n = some r := h.slotRec
    have taken : (s.enter (s.headerEntry x p bytes)).inboundRequest n (some 0) =
        (s.enter (s.headerEntry x p bytes)).releaseRec n := by
      unfold State.inboundRequest
      rw [own]
      rcases state with state | ⟨state, claimed⟩
      · simp [state]
      · simp [state, claimed]
    rw [inboundHeader_strobed request, taken]
    obtain ⟨l, after, -⟩ := mirrorEntry_only ((s.enter (s.headerEntry x p bytes)).releaseRec n) s.stamp n p.off
    exact released own rfl rfl rfl rfl (enter_sameUnits s _) (fun _ _ => rfl) ⟨_, _, after⟩
      (mirrorEntry_slotRec _ s.stamp n p.off)
  · refine ⟨_, exec_noticeClearHeaderWrite h write, ?_⟩
    rw [noticeHeader_release h.slotRec request (.inl state), if_pos state]
    exact released (u := s.enter _) (q := r) h.slotRec rfl rfl rfl rfl (enter_sameUnits s _) (fun _ _ => rfl)
      ⟨_, _, rfl⟩ fun _ => rfl

end Sys2Proof.Machine
end

section
/-!
SUPPORT. An opening write that fails admission.
-/

namespace Sys2Proof.Machine

-- One theorem at a time: elaborated side by side, each would hold a stack of its own.
set_option Elab.async false

/-! ## A write to a FAILED slot (R67) -/

/-- A write to a FAILED slot that is no release changes, beside the bus, what its header bytes capture alone. -/
theorem writeOutbound_failed {s : State} {x : Transaction} {p : Place} {n : Nat} {r : SlotRec} {bytes : List (Option Byte)}
    (h : s.slotRec n = some r) (state : r.state = .failed)
    (declined : strobesIn bytes p.off 32 2048 = true ∨ strobedAt bytes p.off 14 ≠ some 0) :
    (∃ pool bus stamp, s.writeOutbound x p n bytes = { s with pool := pool, bus := bus, stamp := stamp } ∧
      bus.injAsked = s.bus.injAsked) ∧
      (s.writeOutbound x p n bytes).slotRec n = some (r.capture bytes p.off) ∧
      OtherRecords s (s.writeOutbound x p n bytes) n := by
  have dry : (decide (r.state = .filling) && strobesIn bytes p.off 32 Config.slotBytes) = false := by simp [state]
  cases empty : (judgedBytes bytes p.off false).all Option.isNone with
  | true =>
    rw [writeOutbound_answered h (by rw [dry]; exact empty)]
    exact ⟨⟨_, _, _, rfl, rfl⟩, captured_slotRec h p.off, captured_others s n bytes p.off⟩
  | false =>
    rw [writeOutbound_dry h dry empty]
    have own : ((s.captured n bytes p.off).enter (s.clearEntry x p bytes r)).slotRec n = some (r.capture bytes p.off) :=
      captured_slotRec h p.off
    have idle := outboundRequest_failed (v := strobedAt bytes p.off 14)
      (payload := strobesIn bytes p.off 32 Config.slotBytes) own state declined
    have records := finishWrite_records (bytes := bytes) (off := p.off) (r := r.capture bytes p.off) s.stamp
      (by rw [idle]; exact own) (.inl (by change r.state ≠ _; rw [state]; decide))
    refine ⟨?_, ?_, fun m hm => ?_⟩
    · obtain ⟨pool, l, after⟩ := finishWrite_only ((s.captured n bytes p.off).enter (s.clearEntry x p bytes r)) s.stamp n
        p.off bytes
      rw [after, idle]
      exact ⟨_, _, _, rfl, rfl⟩
    · rw [records, idle, own]
    · rw [records, idle]
      exact captured_others s n bytes p.off m hm

/-! ## Admission (R53, R54) -/

/-- The first check of R53 that fails gives admission's reason. -/
theorem admission_error {s : State} {c : Fin 16} {why : Reason}
    (h : ((s.chan c).state = .disabled ∧ why = .channelDown) ∨ ((s.chan c).state = .guarded ∧ why = .channelGuarded) ∨
      ((s.chan c).state = .opened ∧ (s.chan c).cur = none ∧ why = .noKey) ∨
      (∃ k, (s.chan c).state = .opened ∧ (s.chan c).cur = some k ∧ (s.key k).spent = true ∧ why = .keySpent) ∨
      (∃ k, (s.chan c).state = .opened ∧ (s.chan c).cur = some k ∧ (s.key k).spent = false ∧
        (s.meter (s.chan c).link).admits (s.chan c).priority = false ∧ why = .metered)) :
    s.admission c = .error why := by
  unfold State.admission
  rcases h with ⟨state, rfl⟩ | ⟨state, rfl⟩ | ⟨state, cur, rfl⟩ | ⟨k, state, cur, spent, rfl⟩ |
    ⟨k, state, cur, spent, refused, rfl⟩
  · rw [state]
  · rw [state]
  · simp [state, cur]
  · simp [state, cur, spent]
  · simp [state, cur, spent, refused]

/-- A record whose opening failed (R54). -/
def SlotRec.declined (r : SlotRec) (c : Fin 16) (why : Reason) : SlotRec :=
  { r with state := .failed, channel := some c, reason := why }

/-- A failed opening before its fault is taken (R54). -/
def State.declinedOpening (s : State) (n : Nat) (c : Fin 16) (why : Reason) : State :=
  (s.setRec n fun r => r.declined c why).askResult n

section Declined

variable {s : State} {n : Nat} {r : SlotRec} {c : Fin 16} {why : Reason}

theorem declinedOpening_only (s : State) (n : Nat) (c : Fin 16) (why : Reason) :
    ∃ pool bus, s.declinedOpening n c why = { s with pool := pool, bus := bus } := by
  unfold State.declinedOpening State.askResult
  split <;> exact ⟨_, _, rfl⟩

theorem declinedOpening_self (h : s.slotRec n = some r) :
    (s.declinedOpening n c why).slotRec n = some (r.declined c why) := by
  rw [State.declinedOpening, askResult_slotRec]
  exact setRec_self (fun r => r.declined c why) h

theorem declinedOpening_others (s : State) (n : Nat) (c : Fin 16) (why : Reason) :
    OtherRecords s (s.declinedOpening n c why) n := by
  intro m hm
  rw [State.declinedOpening, askResult_slotRec]
  exact setRec_others s n (fun r => r.declined c why) m hm

theorem declinedOpening_wanted (h : s.slotRec n = some r) :
    Wanted (s.declinedOpening n c why) n r .failed why := by
  have own : (s.setRec n fun r => r.declined c why).slotRec n = some (r.declined c why) :=
    setRec_self (fun r => r.declined c why) h
  exact (wanted_askResult own).congr rfl rfl rfl

/-- A failed opening takes the fault of its reason, if that has one (R54). -/
theorem failAdmission_eq (h : s.slotRec n = some r) (i : Fin 16) : s.failAdmission n c why i =
    (admissionFault why).elim (s.declinedOpening n c why) fun cls =>
      (s.declinedOpening n c why).recordFault (occurrence cls (some c) (some r.window) (some r.slot) (some i)) := by
  have own := declinedOpening_self (c := c) (why := why) h
  unfold State.declinedOpening at own ⊢
  unfold State.failAdmission
  change (match admissionFault why, ((s.setRec n fun r => r.declined c why).askResult n).slotRec n with
    | some cls, some r => ((s.setRec n fun r => r.declined c why).askResult n).recordFault (slotFault cls r (some i))
    | _, _ => (s.setRec n fun r => r.declined c why).askResult n) = _
  rw [own]
  cases admissionFault why <;> rfl

end Declined

theorem admissionFault_mild {why : Reason} {cls : FaultClass} (h : admissionFault why = some cls) :
    cls.severity ≠ .fatal := by
  unfold admissionFault at h
  split at h <;> cases h <;> decide

/-- An opening whose admission fails is failed on its slot's bound channel. -/
theorem openOutbound_failed {s : State} {n : Nat} {r : SlotRec} {c : Fin 16} {why : Reason} (h : s.slotRec n = some r)
    (bound : s.boundChannel r = some c) (refused : s.admission c = .error why) (i : Fin 16) :
    s.openOutbound n i = s.failAdmission n c why i := by
  unfold State.openOutbound
  rw [h]
  dsimp only [Option.bind_some]
  rw [bound]
  dsimp only
  rw [refused]

/-- What a failed opening leaves alone, and its record (R54). -/
theorem failAdmission_keeps {s : State} {n : Nat} {r : SlotRec} (h : s.slotRec n = some r) (c : Fin 16) (why : Reason)
    (i : Fin 16) : Framed s (s.failAdmission n c why i) ∧ (s.failAdmission n c why i).keys = s.keys ∧
      (s.failAdmission n c why i).ks = s.ks ∧ (s.failAdmission n c why i).merges = s.merges ∧
      (s.failAdmission n c why i).slotRec n = some (r.declined c why) ∧
      OtherRecords s (s.failAdmission n c why i) n ∧ Wanted (s.failAdmission n c why i) n r .failed why := by
  have framed : Framed s (s.declinedOpening n c why) := (framed_setRec s n _).trans (framed_askResult _ n)
  obtain ⟨pool, bus, same⟩ := declinedOpening_only s n c why
  have self := declinedOpening_self (c := c) (why := why) h
  have others := declinedOpening_others s n c why
  have wanted := declinedOpening_wanted (c := c) (why := why) h
  have fields : (s.declinedOpening n c why).keys = s.keys ∧ (s.declinedOpening n c why).ks = s.ks ∧
      (s.declinedOpening n c why).merges = s.merges := by
    rw [same]
    exact ⟨rfl, rfl, rfl⟩
  obtain ⟨keys, ks, merges⟩ := fields
  rw [failAdmission_eq h]
  cases fault : admissionFault why with
  | none => exact ⟨framed, keys, ks, merges, self, others, wanted⟩
  | some cls =>
    have taken : Framed (s.declinedOpening n c why) ((s.declinedOpening n c why).recordFault
        (occurrence cls (some c) (some r.window) (some r.slot) (some i))) :=
      framed_recordFault (admissionFault_mild fault)
    refine ⟨framed.trans taken, ?_, ?_, ?_, ?_, fun m hm => ?_, wanted.framed taken⟩
    · exact (recordFault_keys _ _).trans keys
    · exact (recordFault_ks _ _).trans ks
    · exact (recordFault_merges _ _).trans merges
    · exact (recordFault_slotRec _ _ n).trans self
    · exact (recordFault_slotRec _ _ m).trans (others m hm)

/-- The Fault Unit after a failed opening (R54). -/
theorem failAdmission_faults {s : State} {n : Nat} {r : SlotRec} (h : s.slotRec n = some r) (c : Fin 16) (why : Reason)
    (i : Fin 16) : (s.failAdmission n c why i).faults = ((admissionFault why).elim s fun cls =>
      s.recordFault (occurrence cls (some c) (some r.window) (some r.slot) (some i))).faults := by
  obtain ⟨pool, bus, same⟩ := declinedOpening_only s n c why
  rw [failAdmission_eq h, same]
  cases admissionFault why with
  | none => rfl
  | some cls => exact recordFault_faults_congr _ rfl rfl

/-- An opening write to a FREE slot is opened, then written (R51). -/
theorem outboundWrite_opens {s : State} {x : Transaction} {p : Place} {n : Nat} {r : SlotRec} {bytes : List (Option Byte)}
    (h : s.slotRec n = some r) (state : r.state = .free) (opens : opensOutbound bytes p.off = true) :
    s.outboundWrite x p n bytes = (s.openOutbound n x.initiator).writeOutbound x p n bytes := by
  have strobes : strobesIn bytes p.off 32 Config.slotBytes = true ∨ strobesIn bytes p.off 0 16 = true := by
    unfold opensOutbound at opens
    rcases Bool.or_eq_true_iff.1 opens with payload | header
    · exact .inl payload
    · exact .inr (Bool.and_eq_true_iff.1 header).1
  rw [outboundWrite_eq h strobes, state]
  exact if_pos opens

/-- An opening write without payload carries no release (R52). -/
theorem opensOutbound_declines {bytes : List (Option Byte)} {off : Nat} (opens : opensOutbound bytes off = true) :
    strobesIn bytes off 32 2048 = true ∨ strobedAt bytes off 14 ≠ some 0 := by
  unfold opensOutbound at opens
  rcases Bool.or_eq_true_iff.1 opens with payload | header
  · exact .inl payload
  · right
    simpa using (Bool.and_eq_true_iff.1 header).2

/-- Settles O19: the first failing check gives the reason, and the write goes on as one to a FAILED slot. -/
theorem refusedOpening : Obligations.RefusedOpening := by
  intro x s p n r bytes c why h write free opens bound fails
  refine ⟨_, exec_outboundClearWrite h write, ?_⟩
  rw [outboundWrite_opens h.slotRec free opens,
    openOutbound_failed h.slotRec bound (admission_error fails)]
  obtain ⟨framed, keys, ks, merges, self, others, wanted⟩ := failAdmission_keeps h.slotRec c why x.initiator
  have faults := failAdmission_faults h.slotRec c why x.initiator
  obtain ⟨⟨pool, bus, stamp, same, asks⟩, own, rest⟩ :=
    writeOutbound_failed (x := x) self rfl (opensOutbound_declines opens)
  have faultsSame : ((s.failAdmission n c why x.initiator).writeOutbound x p n bytes).faults =
      (s.failAdmission n c why x.initiator).faults := by rw [same]
  refine ⟨⟨_, (State.settle_slotRec _ n).trans own, rfl, rfl, rfl, rfl⟩, ?_, fun m hm => ?_, ?_, ?_, ?_, ?_, ?_,
    fun down => ?_, fun e => ?_, fun e => ?_, fun e => ?_⟩
  · refine Wanted.settle ?_
    obtain ⟨q, asked, op, start, access⟩ := wanted
    refine ⟨q, ?_, op, ?_, access⟩
    · rw [same]
      exact asks ▸ asked
    · rw [start, same]
      rfl
  · rw [State.settle_slotRec, rest m hm, others m hm]
  · rw [same]
    exact sameKeys_settle.2 ⟨keys, framed.channels⟩
  · rw [same]
    exact sameMeters_settle.2 framed.meters
  · rw [same]
    refine SameNotices.settle ?_
    unfold SameNotices
    rw [show ({ s.failAdmission n c why x.initiator with pool := pool, bus := bus, stamp := stamp } : State).notices =
      s.notices from framed.notices]
  · rw [State.settle_ks, same]
    exact ks
  · rw [State.settle_merges, same]
    exact merges
  · refine sameFaults_settle.2 (faultsSame.trans (faults.trans ?_))
    rcases down with rfl | rfl <;> rfl
  all_goals
    subst e
    rw [State.settle_faults, faultsSame, faults]
    rfl

end Sys2Proof.Machine
end

section
/-!
SUPPORT. The judgement of a key's budget (R124, R127, R128, R130): the marks, the flags, the request and the fault.
-/

namespace Sys2Proof.Machine

-- One theorem at a time: elaborated side by side, each would hold a stack of its own.
set_option Elab.async false

/-! ## The marks (R124) -/

theorem spentReached_iff (x : KeySlot) : x.spentReached = true ↔ x.spentMark := by
  unfold KeySlot.spentReached KeySlot.spentMark
  rw [show (4294967296 : Nat) = Config.sequenceEnd from rfl]
  cases limit : x.byteLimit <;> cases life : x.lifetime <;> simp [or_assoc]

theorem softReached_iff (x : KeySlot) (percent : Nat) (why : RenewReason) :
    x.softReached percent = some why ↔ x.softMark percent why := by
  unfold KeySlot.softReached KeySlot.softMark
  by_cases frames : x.frameLimit * percent / 100 ≤ x.frames
  · simp [frames, eq_comm]
  by_cases bytes : ∃ v, x.byteLimit = some v ∧ v * 65536 * percent / 100 ≤ x.bytes
  · obtain ⟨v, limit, reached⟩ := bytes
    simp [frames, limit, reached, eq_comm]
  have missed (v : Nat) (limit : x.byteLimit = some v) : ¬ v * 65536 * percent / 100 ≤ x.bytes :=
    fun reached => bytes ⟨v, limit, reached⟩
  cases life : x.lifetime with
  | none => cases limit : x.byteLimit with
    | none => simp [frames]
    | some v => simp [frames, missed v limit]
  | some l => by_cases minutes : l * percent / 100 ≤ l - x.minutes <;> cases limit : x.byteLimit with
    | none => simp [frames, minutes, eq_comm]
    | some v => simp [frames, missed v limit, minutes, eq_comm]

theorem softens_iff (x : KeySlot) (percent : Nat) (why : RenewReason) : x.softens percent why ↔
    x.asked = false ∧ (x.spentReached && !x.spent) = false ∧ x.softReached percent = some why := by
  unfold KeySlot.softens
  rw [softReached_iff, ← spentReached_iff]
  cases x.spent <;> simp

/-! ## Entries handed to the list (R164) -/

theorem renewHanded_handedList (l : List ProtoEntry) (c : Fin 16) (why : RenewReason) :
    RenewHanded l (handedList l ⟨c, .renewRequest why⟩) c why := by
  have like (f : ProtoEntry) : f.like ⟨c, .renewRequest why⟩ = true ↔ ∃ w, f = ⟨c, .renewRequest w⟩ := by
    obtain ⟨d, kind⟩ := f
    cases kind <;> simp [ProtoEntry.like, ProtoKind.same]
  have any : l.any (·.like ⟨c, .renewRequest why⟩) = true ↔ ∃ w, (⟨c, .renewRequest w⟩ : ProtoEntry) ∈ l := by
    rw [List.any_eq_true]
    constructor
    · rintro ⟨f, hf, h⟩
      obtain ⟨w, rfl⟩ := (like f).1 h
      exact ⟨w, hf⟩
    · rintro ⟨w, hw⟩
      exact ⟨_, hw, (like _).2 ⟨w, rfl⟩⟩
  refine ⟨fun absent => ?_, fun present => ?_⟩
  · unfold handedList
    rw [if_neg fun h => ?_]
    obtain ⟨w, hw⟩ := any.1 h
    exact absent w hw
  · unfold handedList
    rw [if_pos (any.2 present)]
    refine List.map_congr_left fun f _ => ?_
    obtain ⟨d, kind⟩ := f
    cases kind <;> simp [ProtoEntry.like, ProtoKind.same]

/-- A request handed after one of its channel leaves the list as if it had been handed alone. -/
theorem handedList_again (l : List ProtoEntry) (c : Fin 16) (a b : RenewReason) :
    handedList (handedList l ⟨c, .renewRequest a⟩) ⟨c, .renewRequest b⟩ = handedList l ⟨c, .renewRequest b⟩ := by
  have like (f : ProtoEntry) : f.like ⟨c, .renewRequest a⟩ = f.like ⟨c, .renewRequest b⟩ := by
    obtain ⟨d, kind⟩ := f
    cases kind <;> rfl
  have self (w v : RenewReason) : (⟨c, .renewRequest w⟩ : ProtoEntry).like ⟨c, .renewRequest v⟩ = true := by
    simp [ProtoEntry.like, ProtoKind.same]
  by_cases any : l.any (·.like ⟨c, .renewRequest b⟩) = true
  · have replaced : handedList l ⟨c, .renewRequest a⟩ =
        l.map fun f => if f.like ⟨c, .renewRequest b⟩ then ⟨c, .renewRequest a⟩ else f := by
      unfold handedList
      simp only [like]
      exact if_pos any
    have still : (l.map fun f => if f.like ⟨c, .renewRequest b⟩ then (⟨c, .renewRequest a⟩ : ProtoEntry) else f).any
        (·.like ⟨c, .renewRequest b⟩) = true := by
      obtain ⟨f, hf, h⟩ := List.any_eq_true.1 any
      exact List.any_eq_true.2 ⟨_, List.mem_map_of_mem hf, by rw [if_pos h]; exact self a b⟩
    rw [replaced, handedList, if_pos still, List.map_map, handedList, if_pos any]
    refine List.map_congr_left fun f _ => ?_
    dsimp only [Function.comp]
    split
    · rw [if_pos (self a b)]
    · rfl
  · have none : ¬ l.any (·.like ⟨c, .renewRequest a⟩) = true := by simpa only [like] using any
    by_cases room : l.length < 16
    · have first : handedList l ⟨c, .renewRequest a⟩ = l ++ [⟨c, .renewRequest a⟩] := by
        rw [handedList, if_neg none, if_pos room]
      have now : (l ++ [(⟨c, .renewRequest a⟩ : ProtoEntry)]).any (·.like ⟨c, .renewRequest b⟩) = true := by
        rw [List.any_append]
        simp [self]
      rw [first, handedList, if_pos now, List.map_append, handedList, if_neg any, if_pos room]
      congr 1
      · refine (List.map_congr_left fun f hf => if_neg fun h => any ?_).trans l.map_id
        exact List.any_eq_true.2 ⟨f, hf, h⟩
      · simp [self]
    · have first : handedList l ⟨c, .renewRequest a⟩ = l := by
        rw [handedList, if_neg none, if_neg room]
      rw [first]

/-- A request of a channel finds a place in a list that has room or one of the channel's already (R164). -/
def Placeable (l : List ProtoEntry) (c : Fin 16) : Prop :=
  ∀ why, l.any (·.like ⟨c, .renewRequest why⟩) = true ∨ l.length < 16

/-- A request that has found a place leaves one for the channel's next. -/
theorem handedList_placeable {l : List ProtoEntry} {c : Fin 16} (place : Placeable l c) (a : RenewReason) :
    Placeable (handedList l ⟨c, .renewRequest a⟩) c := by
  intro b
  have self : (⟨c, .renewRequest a⟩ : ProtoEntry).like ⟨c, .renewRequest b⟩ = true := by
    simp [ProtoEntry.like, ProtoKind.same]
  refine .inl ?_
  by_cases any : l.any (·.like ⟨c, .renewRequest a⟩) = true
  · rw [handedList, if_pos any]
    obtain ⟨f, hf, h⟩ := List.any_eq_true.1 any
    exact List.any_eq_true.2 ⟨_, List.mem_map_of_mem hf, by rw [if_pos h]; exact self⟩
  · rw [handedList, if_neg any, if_pos ((place a).resolve_left any)]
    exact List.any_eq_true.2 ⟨_, List.mem_append_right _ (List.mem_singleton_self _), self⟩

/-! ## What a judgement leaves alone -/

/-- What the judgement of key slot k's budget leaves alone: it changes the two flags of k, the protocol notice list, the
fault table and the queues of their reports. -/
structure Judging (k : Fin 32) (s t : State) : Prop where
  frames : SameFrames s t
  others : OtherKeys s t k
  flags : t.key k = { s.key k with spent := (t.key k).spent, asked := (t.key k).asked }
  freeList : t.keys.freeList = s.keys.freeList
  channels : t.channels = s.channels
  meters : SameMeters s t
  notices : t.notices = { s.notices with list := t.notices.list }
  windows : t.windows = s.windows
  straps : t.straps = s.straps
  time : t.time = s.time
  fuses : t.fuses = s.fuses
  stamp : t.stamp = s.stamp
  control : SameCommand s t
  bus : t.bus = { s.bus with injAsked := t.bus.injAsked }
  asks : s.bus.injAsked ⊆ t.bus.injAsked
  reports : FaultReports s t

section Judging

variable {k : Fin 32} {s t u : State}

theorem Judging.refl (k : Fin 32) (s : State) : Judging k s s :=
  ⟨⟨rfl, rfl, rfl⟩, fun _ _ => rfl, rfl, rfl, rfl, ⟨rfl, rfl⟩, rfl, rfl, rfl, rfl, rfl, rfl, SameCommand.refl s, rfl,
    List.Subset.refl _, faultReports_of_quiet (quiet_of_same rfl rfl rfl rfl rfl)⟩

theorem Judging.trans (h : Judging k s t) (g : Judging k t u) : Judging k s u where
  frames := ⟨g.frames.1.trans h.frames.1, g.frames.2.1.trans h.frames.2.1, g.frames.2.2.trans h.frames.2.2⟩
  others := fun j hj => (g.others j hj).trans (h.others j hj)
  flags := by
    rw [g.flags, h.flags]
  freeList := g.freeList.trans h.freeList
  channels := g.channels.trans h.channels
  meters := ⟨g.meters.1.trans h.meters.1, g.meters.2.trans h.meters.2⟩
  notices := by
    rw [g.notices, h.notices]
  windows := g.windows.trans h.windows
  straps := g.straps.trans h.straps
  time := g.time.trans h.time
  fuses := g.fuses.trans h.fuses
  stamp := g.stamp.trans h.stamp
  control := h.control.trans g.control
  bus := by
    rw [g.bus, h.bus]
  asks := List.Subset.trans h.asks g.asks
  reports := h.reports.trans g.reports

theorem judging_setFlags (s : State) (k : Fin 32) {f : KeySlot → KeySlot}
    (h : f (s.key k) = { s.key k with spent := (f (s.key k)).spent, asked := (f (s.key k)).asked }) :
    Judging k s (s.setKey k f) :=
  ⟨⟨rfl, rfl, rfl⟩, fun j hj => (State.key_setKey s k j f).trans (if_neg hj), by rw [State.key_setKey_self]; exact h, rfl,
    rfl, ⟨rfl, rfl⟩, rfl, rfl, rfl, rfl, rfl, rfl, SameCommand.refl s, rfl, List.Subset.refl _,
    faultReports_of_quiet (quiet_of_same rfl rfl rfl rfl rfl)⟩

theorem judging_recordFault (k : Fin 32) {o : Occurrence} (mild : o.severity ≠ .fatal) : Judging k s (s.recordFault o) where
  frames := ⟨recordFault_pool s o, recordFault_ks s o, recordFault_merges s o⟩
  others := fun j _ => recordFault_key s o j
  flags := by rw [recordFault_key]
  freeList := by rw [recordFault_keys]
  channels := recordFault_channels mild
  meters := ⟨recordFault_meterA s o, recordFault_meterB s o⟩
  notices := by rw [recordFault_notices]
  windows := recordFault_windows s o
  straps := recordFault_straps s o
  time := recordFault_time s o
  fuses := recordFault_fuses s o
  stamp := by
    obtain ⟨_, _, _, _, h, -⟩ := s.recordFault_only o
    rw [h]
  control := recordFault_sameCommand s o
  bus := by
    obtain ⟨_, _, _, _, h, -⟩ := s.recordFault_only o
    rw [h]
  asks := recordFault_asks s o
  reports := faultReports_recordFault s o

theorem judging_setProto (s : State) (k : Fin 32) (l : List ProtoEntry) : Judging k s (s.setProto l) :=
  ⟨⟨rfl, rfl, rfl⟩, fun _ _ => rfl, rfl, rfl, rfl, ⟨rfl, rfl⟩, rfl, rfl, rfl, rfl, rfl, rfl, SameCommand.refl s, rfl,
    List.Subset.refl _, faultReports_of_quiet (quiet_of_same rfl rfl rfl rfl rfl)⟩

theorem judging_handProto (s : State) (k : Fin 32) (e : ProtoEntry) : Judging k s (s.handProto e) := by
  rcases handProto_cases s e with ⟨-, h⟩ | ⟨-, -, h⟩ | ⟨-, -, h⟩ <;> rw [h]
  · exact judging_setProto s k _
  · exact judging_setProto s k _
  · exact judging_recordFault k (by simp [occurrence, FaultClass.severity])

end Judging

/-! ## What a judgement decides -/

/-- A spent mark is reached for the first time (R127). -/
def KeySlot.newlySpent (x : KeySlot) : Bool := x.spentReached && !x.spent

/-- The SOFT request that a CURRENT key slot makes (R128). -/
def KeySlot.softRequest (x : KeySlot) (percent : Nat) : Option RenewReason :=
  if (x.asked || x.newlySpent) = true then none else x.softReached percent

/-- The judgement of a CURRENT key slot makes the SPENT request (R127, R130). -/
def KeySlot.spendsNow (x : KeySlot) (promoted : Bool) : Bool := x.newlySpent || (x.spent && promoted)

/-- The request that the judgement of a CURRENT key slot leaves in the list (R127, R128, R130). -/
def KeySlot.request (x : KeySlot) (percent : Nat) (promoted : Bool) : Option RenewReason :=
  (x.softRequest percent).or (if x.spendsNow promoted = true then some .spent else none)

section Decides

variable {x : KeySlot} {percent : Nat} {promoted : Bool} {why : RenewReason}

theorem newlySpent_iff : x.newlySpent = true ↔ x.spent = false ∧ x.spentMark := by
  unfold KeySlot.newlySpent
  rw [Bool.and_eq_true, spentReached_iff, Bool.not_eq_true']
  tauto

theorem spendsNow_iff : x.spendsNow promoted = true ↔ x.spends promoted := by
  unfold KeySlot.spendsNow KeySlot.spends
  rw [Bool.or_eq_true, newlySpent_iff, Bool.and_eq_true]

theorem softRequest_iff : x.softRequest percent = some why ↔ x.softens percent why := by
  rw [softens_iff]
  unfold KeySlot.softRequest KeySlot.newlySpent
  cases x.asked <;> cases (x.spentReached && !x.spent) <;> simp

theorem request_iff : x.request percent promoted = some why ↔ x.asks percent promoted why := by
  unfold KeySlot.request KeySlot.asks
  rw [← spendsNow_iff]
  simp only [← softRequest_iff]
  cases x.softRequest percent with
  | some w => simp
  | none => cases x.spendsNow promoted <;> simp [eq_comm]

end Decides

/-- The protocol notice list after a channel's request, if there is one. -/
def requestedList (l : List ProtoEntry) (c : Fin 16) (why : Option RenewReason) : List ProtoEntry :=
  why.elim l fun why => handedList l ⟨c, .renewRequest why⟩

section SoftMarks

variable {s : State} {k : Fin 32} {x : KeySlot} {c : Fin 16} {cur : Bool}

theorem judging_judgeSoft (s : State) (k : Fin 32) : Judging k s (s.judgeSoft k) := by
  unfold State.judgeSoft
  (repeat' split)
  · exact (judging_setFlags s k rfl).trans (judging_handProto _ k _)
  · exact Judging.refl k s
  · exact Judging.refl k s

theorem softPercent_eq (key : s.key k = x) (owner : x.owner = some c) : s.softPercent k = s.percentOf c x := by
  unfold State.softPercent State.percentOf
  rw [key, owner]
  dsimp only [Option.bind_some]
  cases (s.chan c).softOverride <;> rfl

/-- The soft marks judged: the flag, the list, and the fault table when the request finds a place (R128). -/
theorem judgeSoft_values (key : s.key k = x) (owner : x.owner = some c)
    (role : decide (s.keyRole k = some .current) = cur) (settled : x.newlySpent = false) :
    (s.judgeSoft k).key k = { x with asked := x.asked || (cur && (x.softRequest (s.percentOf c x)).isSome) } ∧
      (s.judgeSoft k).notices.list =
        (if cur = true then requestedList s.notices.list c (x.softRequest (s.percentOf c x)) else s.notices.list) ∧
      (Placeable s.notices.list c →
        (s.judgeSoft k).faults = s.faults) := by
  unfold KeySlot.softRequest
  rw [settled, Bool.or_false]
  by_cases current : s.keyRole k = some .current
  case neg =>
    have idle : s.judgeSoft k = s := if_neg fun h => current h.1
    rw [decide_eq_false current] at role
    rw [idle, ← role]
    exact ⟨by simp [key], by simp, fun _ => rfl⟩
  rw [decide_eq_true current] at role
  rw [← role]
  cases asked : x.asked with
  | true =>
    have idle : s.judgeSoft k = s := if_neg fun h => by simp [key, asked] at h
    rw [idle]
    refine ⟨?_, by simp [requestedList], fun _ => rfl⟩
    rw [key]
    cases x
    cases asked
    rfl
  | false =>
    have judged : s.judgeSoft k = match x.softReached (s.percentOf c x) with
        | some why => (s.setKey k fun x => { x with asked := true }).handProto ⟨c, .renewRequest why⟩
        | none => s := by
      unfold State.judgeSoft
      rw [if_pos ⟨current, by rw [key]; exact asked⟩, softPercent_eq key owner, key, owner]
      cases x.softReached (s.percentOf c x) <;> rfl
    rw [judged]
    cases x.softReached (s.percentOf c x) with
    | none =>
      refine ⟨?_, by simp [requestedList], fun _ => rfl⟩
      rw [key]
      cases x
      cases asked
      rfl
    | some why =>
      dsimp only
      refine ⟨?_, ?_, fun place => ?_⟩
      · have kept := (handProto_kept (s.setKey k fun x => { x with asked := true }) ⟨c, .renewRequest why⟩).2.1.1
        unfold State.key
        rw [kept]
        exact (State.key_setKey_self s k _).trans (by rw [key]; rfl)
      · rw [handProto_notices]
        rfl
      · exact handProto_sameFaults (place why)

end SoftMarks

/-! ## The whole judgement -/

/-- What the judgement of key slot k, x of channel c, does in s and leaves in t (R127, R128, R130). -/
structure Budgeted (k : Fin 32) (x : KeySlot) (c : Fin 16) (cur promoted : Bool) (s t : State) : Prop where
  judging : Judging k s t
  key : t.key k = { x with
    spent := x.spent || x.newlySpent
    asked := x.asked || x.newlySpent || (cur && (x.softRequest (s.percentOf c x)).isSome) }
  list : t.notices.list =
    if cur = true then requestedList s.notices.list c (x.request (s.percentOf c x) promoted) else s.notices.list
  faults : Placeable s.notices.list c →
    t.faults = if (cur && x.spendsNow promoted) = true then (s.recordFault (keySpentOn c)).faults else s.faults

section Budgeted

variable {s : State} {k : Fin 32} {x : KeySlot} {c : Fin 16} {cur : Bool}

theorem spentCurrent_eq (owner : (s.key k).owner = some c) :
    s.spentCurrent k = (s.handProto ⟨c, .renewRequest .spent⟩).recordFault (keySpentOn c) := by
  unfold State.spentCurrent
  rw [owner]
  rfl

theorem judging_spent (s : State) (k : Fin 32) (c : Fin 16) :
    Judging k s ((s.handProto ⟨c, .renewRequest .spent⟩).recordFault (keySpentOn c)) :=
  (judging_handProto s k _).trans (judging_recordFault k (by simp [keySpentOn]))

/-- The SPENT request and KEY_SPENT leave the key slot as it is. -/
theorem spent_key (s : State) (k : Fin 32) (c : Fin 16) :
    ((s.handProto ⟨c, .renewRequest .spent⟩).recordFault (keySpentOn c)).key k = s.key k := by
  rw [recordFault_key]
  unfold State.key
  rw [(handProto_kept s ⟨c, .renewRequest .spent⟩).2.1.1]

theorem spent_list (s : State) (c : Fin 16) :
    ((s.handProto ⟨c, .renewRequest .spent⟩).recordFault (keySpentOn c)).notices.list =
      handedList s.notices.list ⟨c, .renewRequest .spent⟩ := by
  rw [recordFault_notices, handProto_notices]

theorem spent_faults {s : State} {c : Fin 16} (place : Placeable s.notices.list c) :
    ((s.handProto ⟨c, .renewRequest .spent⟩).recordFault (keySpentOn c)).faults =
      (s.recordFault (keySpentOn c)).faults :=
  recordFault_faults_congr _ (handProto_sameFaults (place _)) (handProto_kept s _).2.2.2.2.2

theorem judging_spentCurrent (s : State) (k : Fin 32) : Judging k s (s.spentCurrent k) := by
  unfold State.spentCurrent
  split
  · exact judging_spent s k _
  · exact Judging.refl k s

theorem judging_judgeMarks (s : State) (k : Fin 32) : Judging k s (s.judgeMarks k) := by
  refine Judging.trans (t := s.judgeSpent k) ?_ (judging_judgeSoft _ k)
  unfold State.judgeSpent
  dsimp only
  (repeat' split)
  · exact (judging_setFlags s k rfl).trans (judging_spentCurrent _ k)
  · exact judging_setFlags s k rfl
  · exact Judging.refl k s

/-- The marks judged (R127, R128). -/
theorem judgeMarks_budgeted (key : s.key k = x) (owner : x.owner = some c)
    (role : decide (s.keyRole k = some .current) = cur) : Budgeted k x c cur false s (s.judgeMarks k) := by
  have reached : ((s.key k).spentReached && !(s.key k).spent) = x.newlySpent := by rw [key]; rfl
  have asking : s.judgeSpent k = if x.newlySpent = true then
      if s.keyRole k = some .current then (s.setKey k fun x => { x with spent := true, asked := true }).spentCurrent k
      else s.setKey k fun x => { x with spent := true, asked := true } else s := by
    unfold State.judgeSpent
    rw [reached]
  have flags : Judging k s (s.setKey k fun x => { x with spent := true, asked := true }) := judging_setFlags s k rfl
  have flagged : (s.setKey k fun x => { x with spent := true, asked := true }).key k =
      { x with spent := true, asked := true } := by
    rw [State.key_setKey_self, key]
  have quiet (u : State) (h : (u.key k).asked = true) : u.judgeSoft k = u := if_neg fun g => by simp [h] at g
  unfold State.judgeMarks
  rw [asking]
  cases newly : x.newlySpent with
  | true =>
    have soft : x.softRequest (s.percentOf c x) = none := by simp [KeySlot.softRequest, newly]
    have request : x.request (s.percentOf c x) false = some .spent := by
      simp [KeySlot.request, soft, KeySlot.spendsNow, newly]
    rw [if_pos rfl]
    by_cases current : s.keyRole k = some .current
    · rw [decide_eq_true current] at role
      rw [if_pos current, spentCurrent_eq (by rw [flagged]; exact owner),
        quiet _ (by rw [spent_key, flagged])]
      refine ⟨flags.trans (judging_spent _ k c), ?_, ?_, fun place => ?_⟩
      · rw [spent_key, flagged]
        simp [newly]
      · rw [spent_list, ← role, if_pos rfl, request]
        rfl
      · rw [spent_faults (by exact place), ← role, if_pos (by simp [KeySlot.spendsNow, newly])]
        exact recordFault_faults_congr _ rfl rfl
    · rw [decide_eq_false current] at role
      rw [if_neg current, quiet _ (by rw [flagged])]
      refine ⟨flags, ?_, ?_, fun _ => ?_⟩
      · rw [flagged]
        simp [newly]
      · rw [← role]
        rfl
      · rw [← role]
        rfl
  | false =>
    rw [if_neg Bool.false_ne_true]
    obtain ⟨soft, list, faults⟩ := judgeSoft_values key owner role newly
    refine ⟨judging_judgeSoft s k, ?_, ?_, fun place => ?_⟩
    · rw [soft]
      simp [newly]
    · rw [list]
      simp [KeySlot.request, KeySlot.spendsNow, newly]
    · rw [faults place]
      simp [KeySlot.spendsNow, newly]

/-- The new CURRENT key judged (R130). -/
theorem judgePromoted_budgeted (key : s.key k = x) (owner : x.owner = some c)
    (current : s.keyRole k = some .current) : Budgeted k x c true true s (s.judgePromoted k) := by
  have reduce : s.judgePromoted k = if x.spent = true then (s.spentCurrent k).judgeMarks k else s.judgeMarks k := by
    unfold State.judgePromoted
    rw [key]
  rw [reduce]
  cases spent : x.spent with
  | false =>
    rw [if_neg Bool.false_ne_true]
    obtain ⟨judging, flags, list, faults⟩ := judgeMarks_budgeted key owner (decide_eq_true current)
    have same : x.spendsNow true = x.spendsNow false := by simp [KeySlot.spendsNow, spent]
    refine ⟨judging, flags, ?_, ?_⟩
    · rw [list]
      unfold KeySlot.request
      rw [same]
    · rw [same]
      exact faults
  | true =>
    have newly : x.newlySpent = false := by simp [KeySlot.newlySpent, spent]
    have spends : x.spendsNow true = true := by simp [KeySlot.spendsNow, spent]
    rw [if_pos rfl, spentCurrent_eq (by rw [key]; exact owner)]
    have judging := judging_spent s k c
    have own : ((s.handProto ⟨c, .renewRequest .spent⟩).recordFault (keySpentOn c)).key k = x :=
      (spent_key s k c).trans key
    have role : decide (((s.handProto ⟨c, .renewRequest .spent⟩).recordFault (keySpentOn c)).keyRole k =
        some .current) = true := by
      rw [keyRole_congr (by rw [spent_key]) judging.channels]
      exact decide_eq_true current
    obtain ⟨judging', flags, list, faults⟩ := judgeMarks_budgeted own owner role
    have percent : ((s.handProto ⟨c, .renewRequest .spent⟩).recordFault (keySpentOn c)).percentOf c x =
        s.percentOf c x := by
      unfold State.percentOf State.chan
      rw [judging.channels]
    refine ⟨judging.trans judging', ?_, ?_, fun place => ?_⟩
    · rw [flags, percent]
    · rw [list, if_pos rfl, if_pos rfl, percent, spent_list]
      unfold KeySlot.request
      rw [spends]
      cases x.softRequest (s.percentOf c x) with
      | none => simp [KeySlot.spendsNow, newly, requestedList]
      | some why => exact handedList_again _ _ _ _
    · rw [faults (by rw [spent_list]; exact handedList_placeable place .spent), spends,
        if_neg (by simp [KeySlot.spendsNow, newly]), spent_faults place]
      rfl

end Budgeted

/-! ## What the statements say of a judgement -/

section Judged

variable {k : Fin 32} {x : KeySlot} {c : Fin 16} {cur promoted : Bool} {s u v t : State}

theorem percentOf_congr (channels : u.channels = s.channels) (c : Fin 16) (x : KeySlot) :
    u.percentOf c x = s.percentOf c x := by
  unfold State.percentOf State.chan
  rw [channels]

theorem Budgeted.flagsJudged (h : Budgeted k x c cur promoted u v) (channels : u.channels = s.channels)
    (spent : (t.key k).spent = (v.key k).spent) (asked : (t.key k).asked = (v.key k).asked) :
    FlagsJudged s t k x c cur := by
  have key := h.key
  rw [percentOf_congr channels] at key
  have soft : (x.softRequest (s.percentOf c x)).isSome = true ↔ ∃ why, x.softens (s.percentOf c x) why := by
    rw [Option.isSome_iff_exists]
    simp only [softRequest_iff]
  have newly := newlySpent_iff (x := x)
  refine ⟨?_, ?_⟩
  · rw [spent, key]
    dsimp only
    rw [Bool.or_eq_true, newly]
    cases x.spent <;> simp
  · rw [asked, key]
    dsimp only
    rw [Bool.or_eq_true, Bool.or_eq_true, newly, Bool.and_eq_true, soft, or_assoc]

theorem Budgeted.listJudged {l : List ProtoEntry} (h : Budgeted k x c cur promoted u v)
    (channels : u.channels = s.channels) (before : u.notices.list = l) (after : t.notices.list = v.notices.list) :
    ListJudged s t x c cur promoted l := by
  have list := h.list
  rw [percentOf_congr channels, before, ← after] at list
  refine ⟨fun why current asks => ?_, fun none => ?_⟩
  · rw [list, if_pos current, request_iff.2 asks]
    exact renewHanded_handedList l c why
  · rw [list]
    rcases none with other | none
    · rw [if_neg (by simp [other])]
    · cases request : x.request (s.percentOf c x) promoted with
      | none => exact ite_self l
      | some why => exact absurd (request_iff.1 request) (none why)

theorem Budgeted.spentTaken {w : State} (h : Budgeted k x c cur promoted u v) (room : u.notices.list.length < 16)
    (faults : u.faults = s.faults) (time : u.time = s.time) (taken : SpentTaken s w x c cur promoted) :
    v.faults = w.faults := by
  rw [h.faults fun _ => .inr room]
  obtain ⟨spends, none⟩ := taken
  split
  next spent =>
    obtain ⟨current, now⟩ := Bool.and_eq_true_iff.1 spent
    rw [spends current (spendsNow_iff.1 now)]
    exact recordFault_faults_congr _ faults time
  next kept =>
    rw [none, faults]
    cases cur with
    | false => exact .inl rfl
    | true => exact .inr fun spent => kept (spendsNow_iff.2 spent)

end Judged

end Sys2Proof.Machine
end

section
/-!
SUPPORT. The beats of a transit table entry that ask for keystream: what a served or looked-up beat does to its entry, and
where a beat that misses waits (R32, R43, R45, R46).
-/

namespace Sys2Proof.Machine

-- One theorem at a time: elaborated side by side, each would hold a stack of its own.
set_option Elab.async false

/-! ## Folds and merges do not touch the beats -/

/-- The transit table, the miss file, the overflow list and the stamp are the same. -/
def SameBeats (s t : State) : Prop :=
  t.bus.transit = s.bus.transit ∧ t.ks.misses = s.ks.misses ∧ t.ks.overflow = s.ks.overflow ∧ t.stamp = s.stamp

section SameBeats

variable {s t u : State}

theorem SameBeats.refl (s : State) : SameBeats s s := ⟨rfl, rfl, rfl, rfl⟩

theorem SameBeats.trans (h : SameBeats s t) (g : SameBeats t u) : SameBeats s u := by
  obtain ⟨a, b, c, d⟩ := h
  obtain ⟨a', b', c', d'⟩ := g
  exact ⟨a'.trans a, b'.trans b, c'.trans c, d'.trans d⟩

theorem sameBeats_fold (s : State) (n b : Nat) (blk : Block) (whole : Bool) : SameBeats s (s.fold n b blk whole) := by
  unfold State.fold
  (repeat' split) <;> exact ⟨rfl, rfl, rfl, rfl⟩

theorem sameBeats_recordFault (s : State) (o : Occurrence) : SameBeats s (s.recordFault o) := by
  obtain ⟨_, _, _, _, h, -⟩ := s.recordFault_only o
  rw [h]
  exact ⟨rfl, rfl, rfl, rfl⟩

theorem sameBeats_evictMerge (s : State) : SameBeats s s.evictMerge := by
  unfold State.evictMerge
  split
  · exact SameBeats.refl s
  · exact SameBeats.trans (t := s.clearValid _) ⟨rfl, rfl, rfl, rfl⟩ (sameBeats_recordFault _ _)

theorem sameBeats_newMerge (s : State) (n b : Nat) (bytes : List (Option Byte)) : SameBeats s (s.newMerge n b bytes) := by
  have evicted := sameBeats_evictMerge s
  unfold State.newMerge
  dsimp only
  (repeat' split)
  · exact ⟨rfl, rfl, rfl, rfl⟩
  · exact evicted
  · exact evicted

theorem sameBeats_mergeStep (s : State) (n b : Nat) (bytes : List (Option Byte)) :
    SameBeats s (s.mergeStep n b bytes) := by
  unfold State.mergeStep
  (repeat' split)
  · exact SameBeats.refl s
  · exact SameBeats.refl s
  · exact ⟨rfl, rfl, rfl, rfl⟩
  · exact ⟨rfl, rfl, rfl, rfl⟩
  · dsimp only
    split
    · exact sameBeats_fold _ n b _ true
    · exact ⟨rfl, rfl, rfl, rfl⟩
  · exact sameBeats_newMerge s n b bytes

theorem sameBeats_blockStep (s : State) (e : TransitEntry) (b : Nat) : SameBeats s (s.blockStep e b) := by
  unfold State.blockStep
  dsimp only
  (repeat' split)
  · exact SameBeats.refl s
  · exact ⟨rfl, rfl, rfl, rfl⟩
  · exact sameBeats_fold s _ b _ true
  · exact sameBeats_mergeStep s _ b _
  · exact SameBeats.refl s
  · exact SameBeats.refl s

end SameBeats

/-! ## Entries of the transit table -/

theorem entry_setEntry (s : State) (id j : Nat) {f : TransitEntry → TransitEntry} (keeps : ∀ e, e.id = id → (f e).id = id) :
    (s.setEntry id f).bus.entry j = (s.bus.entry j).map fun e => if j = id then f e else e := by
  change (s.bus.transit.map fun e => if e.id == id then f e else e).find? (fun e => e.id == j) = _
  unfold Bus.entry
  induction s.bus.transit with
  | nil => rfl
  | cons e l ih =>
    rw [List.map_cons]
    by_cases here : e.id = id
    · rw [if_pos (by simp [here])]
      by_cases same : j = id
      · rw [List.find?_cons_of_pos (by simp [keeps e here, same]), List.find?_cons_of_pos (by simp [here, same]),
          Option.map_some, if_pos same]
      · rw [List.find?_cons_of_neg (by simp [keeps e here, Ne.symm same]),
          List.find?_cons_of_neg (by simp [here, Ne.symm same]), ih]
    · rw [if_neg (by simp [here])]
      by_cases same : e.id = j
      · rw [List.find?_cons_of_pos (by simp [same]), List.find?_cons_of_pos (by simp [same]), Option.map_some,
          if_neg fun h => here (same.trans h)]
      · rw [List.find?_cons_of_neg (by simp [same]), List.find?_cons_of_neg (by simp [same]), ih]

/-- An entry is the one of its age, where no two share one (R13). -/
theorem entry_of_mem {b : Bus} {e : TransitEntry} (ages : b.transit.Pairwise fun e f => e.id < f.id) (h : e ∈ b.transit) :
    b.entry e.id = some e := by
  unfold Bus.entry
  generalize b.transit = l at ages h
  induction l with
  | nil => cases h
  | cons f l ih =>
    obtain ⟨first, rest⟩ := List.pairwise_cons.1 ages
    rcases List.mem_cons.1 h with rfl | h
    · exact List.find?_cons_of_pos (by simp)
    · rw [List.find?_cons_of_neg (by simpa using (first e h).ne), ih rest h]

theorem mem_of_entry {b : Bus} {e : TransitEntry} {id : Nat} (h : b.entry id = some e) : e ∈ b.transit :=
  List.mem_of_find?_eq_some h

theorem entry_enter {s : State} (ages : s.agesSound) {e : TransitEntry} (id : e.id = s.stamp) :
    (s.enter e).bus.entry e.id = some e := by
  obtain ⟨order, below, -⟩ := ages
  refine entry_of_mem (List.pairwise_append.2 ⟨order, List.pairwise_singleton _ e, ?_⟩)
    (List.mem_append_right _ (List.mem_singleton_self e))
  intro f hf g hg
  rw [List.mem_singleton.1 hg, id]
  exact below f hf

/-! ## What keystream does to an entry -/

/-- An entry, some of whose beats have had keystream: only those beats' states and the values of strobed bytes differ. -/
structure Reshaped (e f : TransitEntry) : Prop where
  rest : f = { e with access := f.access, beatKeys := f.beatKeys }
  keys : f.beatKeys.length = e.beatKeys.length
  read : ∀ beats, e.access = .read beats → f.access = .read beats
  write : ∀ out, e.access = .write out → ∃ kept, f.access = .write kept ∧ kept.map Option.isSome = out.map Option.isSome

/-- Beat i of one entry is as it is of another: its state, and the bytes of the write. -/
def SameBeat (i : Nat) (e f : TransitEntry) : Prop :=
  f.beatKeys[i]? = e.beatKeys[i]? ∧ ∀ out, e.access = .write out → ∃ kept, f.access = .write kept ∧
    ∀ j, j / 8 = i → kept[j]? = out[j]?

theorem Reshaped.refl (e : TransitEntry) : Reshaped e e :=
  ⟨rfl, rfl, fun _ h => h, fun out h => ⟨out, h, rfl⟩⟩

theorem Reshaped.trans {e f g : TransitEntry} (h : Reshaped e f) (k : Reshaped f g) : Reshaped e g where
  rest := by
    rw [k.rest, h.rest]
  keys := k.keys.trans h.keys
  read := fun n hn => k.read n (h.read n hn)
  write := fun out hout => by
    obtain ⟨kept, hkept, same⟩ := h.write out hout
    obtain ⟨later, hlater, same'⟩ := k.write kept hkept
    exact ⟨later, hlater, same'.trans same⟩

theorem SameBeat.refl (i : Nat) (e : TransitEntry) : SameBeat i e e := ⟨rfl, fun out h => ⟨out, h, fun _ _ => rfl⟩⟩

theorem SameBeat.trans {i : Nat} {e f g : TransitEntry} (h : SameBeat i e f) (k : SameBeat i f g) : SameBeat i e g := by
  refine ⟨k.1.trans h.1, fun out hout => ?_⟩
  obtain ⟨kept, hkept, same⟩ := h.2 out hout
  obtain ⟨later, hlater, same'⟩ := k.2 kept hkept
  exact ⟨later, hlater, fun j hj => (same' j hj).trans (same j hj)⟩

theorem encipherBeat_getElem? (bytes : List (Option Byte)) (i : Nat) (ks : BitVec 64) (j : Nat) :
    (encipherBeat bytes i ks)[j]? = (bytes[j]?).map fun b =>
      if j / 8 = i then b.map (· ^^^ (beatBytes ks).getD (j % 8) 0) else b := by
  unfold encipherBeat
  rw [List.getElem?_map, List.getElem?_zipIdx]
  cases bytes[j]? <;> simp

theorem encipherBeat_strobes (bytes : List (Option Byte)) (i : Nat) (ks : BitVec 64) :
    (encipherBeat bytes i ks).map Option.isSome = bytes.map Option.isSome := by
  refine List.ext_getElem? fun j => ?_
  rw [List.getElem?_map, encipherBeat_getElem?, List.getElem?_map, Option.map_map]
  cases bytes[j]? with
  | none => rfl
  | some b =>
    rw [Option.map_some, Option.map_some, Function.comp]
    split <;> cases b <;> rfl

/-- The entry of a beat that takes its half of a keystream block (R46, R58). -/
def TransitEntry.fed (e : TransitEntry) (beat : Nat) (ks : Block) : TransitEntry :=
  match e.access with
  | .read _ => { e with beatKeys := e.beatKeys.set beat (.held (halfOf ks ((e.start / 8 + beat) % 2 == 1))) }
  | .write bytes => { e with
      access := .write (encipherBeat bytes beat (halfOf ks ((e.start / 8 + beat) % 2 == 1)))
      beatKeys := e.beatKeys.set beat .none }

section Fed

variable {e : TransitEntry} {ks : Block}

theorem fed_read {n : Nat} (h : e.access = .read n) (beat : Nat) (ks : Block) : e.fed beat ks =
    { e with beatKeys := e.beatKeys.set beat (.held (halfOf ks ((e.start / 8 + beat) % 2 == 1))) } := by
  unfold TransitEntry.fed
  rw [h]

theorem fed_write {bytes : List (Option Byte)} (h : e.access = .write bytes) (beat : Nat) (ks : Block) : e.fed beat ks =
    { e with access := .write (encipherBeat bytes beat (halfOf ks ((e.start / 8 + beat) % 2 == 1)))
             beatKeys := e.beatKeys.set beat .none } := by
  unfold TransitEntry.fed
  rw [h]

theorem fed_id (e : TransitEntry) (beat : Nat) (ks : Block) : (e.fed beat ks).id = e.id := by
  unfold TransitEntry.fed
  split <;> rfl

theorem reshaped_fed (e : TransitEntry) (beat : Nat) (ks : Block) : Reshaped e (e.fed beat ks) := by
  cases h : e.access with
  | read n =>
    rw [fed_read h]
    exact ⟨rfl, List.length_set, fun _ read => read, fun _ write => absurd (h.symm.trans write) (by simp)⟩
  | write bytes =>
    rw [fed_write h]
    refine ⟨rfl, List.length_set, fun _ read => absurd (h.symm.trans read) (by simp), fun out write => ?_⟩
    cases h.symm.trans write
    exact ⟨_, rfl, encipherBeat_strobes bytes beat _⟩

theorem sameBeat_fed (e : TransitEntry) {beat i : Nat} (ks : Block) (hi : i ≠ beat) : SameBeat i e (e.fed beat ks) := by
  cases h : e.access with
  | read n =>
    rw [fed_read h]
    exact ⟨List.getElem?_set_ne (Ne.symm hi), fun _ write => absurd (h.symm.trans write) (by simp)⟩
  | write bytes =>
    rw [fed_write h]
    refine ⟨List.getElem?_set_ne (Ne.symm hi), fun out write => ⟨_, rfl, fun j hj => ?_⟩⟩
    cases h.symm.trans write
    rw [encipherBeat_getElem?]
    simp [hj, hi]

end Fed

/-! ## Serving a beat (R46) -/

/-- The miss file, the overflow list and the stamp are the same. -/
def SameFile (s t : State) : Prop :=
  t.ks.misses = s.ks.misses ∧ t.ks.overflow = s.ks.overflow ∧ t.stamp = s.stamp

/-- A served beat's entry takes its half of the block; no other entry changes, and the miss file does not. -/
theorem serveBeat_fed {s : State} {w : Waiter} {e : TransitEntry} (h : s.bus.entry w.entry = some e) (ks : Block) :
    (s.serveBeat w ks).bus.entry w.entry = some (e.fed w.beat ks) ∧
      (∀ id, id ≠ w.entry → (s.serveBeat w ks).bus.entry id = s.bus.entry id) ∧ SameFile s (s.serveBeat w ks) := by
  have own : e.id = w.entry := Bus.entry_id h
  suffices ∃ f, (∀ x, x.id = w.entry → (f x).id = w.entry) ∧ f e = e.fed w.beat ks ∧
      SameBeats (s.setEntry w.entry f) (s.serveBeat w ks) by
    obtain ⟨f, keeps, here, transit, misses, overflow, stamp⟩ := this
    have entries (id : Nat) : (s.serveBeat w ks).bus.entry id =
        (s.bus.entry id).map fun x => if id = w.entry then f x else x := by
      rw [← entry_setEntry s w.entry id keeps]
      unfold Bus.entry
      rw [transit]
    refine ⟨?_, fun id other => ?_, misses, overflow, stamp⟩
    · rw [entries, h, Option.map_some, if_pos rfl, here]
    · rw [entries]
      simp [other]
  unfold State.serveBeat
  rw [h]
  dsimp only
  cases access : e.access with
  | read n =>
    exact ⟨fun x => { x with beatKeys := x.beatKeys.set w.beat (.held (halfOf ks ((e.start / 8 + w.beat) % 2 == 1))) },
      fun _ h => h, (fed_read access w.beat ks).symm, SameBeats.refl _⟩
  | write bytes =>
    refine ⟨fun _ => e.fed w.beat ks, fun _ _ => (fed_id e w.beat ks).trans own, rfl, ?_⟩
    rw [fed_write access]
    dsimp only
    split
    · exact SameBeats.refl _
    · exact sameBeats_blockStep _ _ _

/-! ## Looking a beat up (R43, R45) -/

/-- A beat that the cache does not serve changes the miss file, the overflow list and the stamp alone. -/
theorem lookupBeat_missed {s : State} {o : OverflowBeat} (miss : s.ks.cached o.key o.ctr = none) :
    ∃ misses overflow stamp, s.lookupBeat o =
      { s with ks := { s.ks with misses := misses, overflow := overflow }, stamp := stamp } := by
  unfold State.lookupBeat
  rw [miss]
  dsimp only
  (repeat' split) <;> exact ⟨_, _, _, rfl⟩

theorem lookupBeat_hit {s : State} {o : OverflowBeat} {ks : Block} (hit : s.ks.cached o.key o.ctr = some ks) :
    s.lookupBeat o = s.serveBeat o.who ks := by
  unfold State.lookupBeat
  rw [hit]

/-- A beat that misses waits from then on (R45). -/
theorem lookupBeat_awaits {s : State} {o : OverflowBeat} (miss : s.ks.cached o.key o.ctr = none) :
    (s.lookupBeat o).awaits o.who o.key o.ctr := by
  unfold State.lookupBeat
  rw [miss]
  dsimp only
  split
  next any =>
    obtain ⟨m, hm, same⟩ := List.any_eq_true.1 any
    obtain ⟨key, ctr⟩ := Bool.and_eq_true_iff.1 same
    refine .inl ⟨_, List.mem_map_of_mem hm, ?_⟩
    rw [if_pos same]
    exact ⟨of_decide_eq_true key, eq_of_beq ctr, List.mem_append_right _ (List.mem_singleton_self _)⟩
  next =>
    split
    · exact .inl ⟨_, List.mem_append_right _ (List.mem_singleton_self _), rfl, rfl, List.mem_singleton_self _⟩
    next full => exact .inr ⟨List.mem_append_right _ (List.mem_singleton_self _), Nat.not_lt.1 full⟩

theorem awaits_congr {s t : State} {w : Waiter} {k : Fin 32} {ctr : Block} (h : SameFile s t) (waits : s.awaits w k ctr) :
    t.awaits w k ctr := by
  obtain ⟨misses, overflow, -⟩ := h
  unfold State.awaits
  rw [misses, overflow]
  exact waits

/-- A beat that waits goes on waiting while other beats are looked up, entry or none (R45). -/
theorem awaits_lookupBeat {s : State} {w : Waiter} {k : Fin 32} {ctr : Block} (o : OverflowBeat)
    (served : ∀ ks, s.ks.cached o.key o.ctr = some ks → SameFile s (s.serveBeat o.who ks)) (waits : s.awaits w k ctr) :
    (s.lookupBeat o).awaits w k ctr := by
  cases hit : s.ks.cached o.key o.ctr with
  | some ks =>
    rw [lookupBeat_hit hit]
    exact awaits_congr (served ks hit) waits
  | none =>
    unfold State.lookupBeat
    rw [hit]
    dsimp only
    rcases waits with ⟨m, hm, key, ctr, mem⟩ | ⟨mem, full⟩
    · refine .inl ?_
      split
      · refine ⟨_, List.mem_map_of_mem hm, ?_⟩
        split
        · exact ⟨key, ctr, List.mem_append_left _ mem⟩
        · exact ⟨key, ctr, mem⟩
      split
      · exact ⟨m, List.mem_append_left _ hm, key, ctr, mem⟩
      · exact ⟨m, hm, key, ctr, mem⟩
    · refine .inr ?_
      split
      · exact ⟨mem, by rw [show ((s.setMisses _).ks.misses.length) = s.ks.misses.length from List.length_map _]; exact full⟩
      split
      next room => exact absurd room (Nat.not_lt.2 full)
      · exact ⟨List.mem_append_left _ mem, full⟩

/-- What a beat's lookup does to the entry it belongs to, and what it leaves alone. -/
theorem lookupBeat_entry {s : State} {o : OverflowBeat} {e : TransitEntry} (h : s.bus.entry o.who.entry = some e) :
    (∃ f, (s.lookupBeat o).bus.entry o.who.entry = some f ∧ Reshaped e f ∧ (∀ i, i ≠ o.who.beat → SameBeat i e f) ∧
      (∀ ks, s.ks.cached o.key o.ctr = some ks → f = e.fed o.who.beat ks) ∧
      (s.ks.cached o.key o.ctr = none → f = e)) ∧
      (∀ id, id ≠ o.who.entry → (s.lookupBeat o).bus.entry id = s.bus.entry id) ∧
      ∀ w k ctr, s.awaits w k ctr → (s.lookupBeat o).awaits w k ctr := by
  have waits (w : Waiter) (k : Fin 32) (ctr : Block) (h' : s.awaits w k ctr) : (s.lookupBeat o).awaits w k ctr :=
    awaits_lookupBeat o (fun ks _ => (serveBeat_fed h ks).2.2) h'
  cases hit : s.ks.cached o.key o.ctr with
  | some ks =>
    obtain ⟨own, others, -⟩ := serveBeat_fed h ks
    rw [lookupBeat_hit hit] at waits ⊢
    exact ⟨⟨_, own, reshaped_fed e _ ks, fun i hi => sameBeat_fed e ks hi, (by rintro _ ⟨⟩; rfl),
      (by rintro ⟨⟩)⟩, others, waits⟩
  | none =>
    obtain ⟨_, _, _, same⟩ := lookupBeat_missed hit
    refine ⟨⟨e, ?_, Reshaped.refl e, fun i _ => SameBeat.refl i e, (by rintro _ ⟨⟩), fun _ => rfl⟩,
      fun id _ => ?_, waits⟩
    · rw [same]
      exact h
    · rw [same]

/-! ## Looking the beats of an entry up -/

/-- One beat of an entry, looked up where it waits. -/
def State.lookupStep (s : State) (e : TransitEntry) (key : Fin 32) (r : SlotRec) (p : BeatKey × Nat) : State :=
  if p.1 = .waiting then s.lookupBeat ⟨⟨e.id, p.2⟩, key, s.recBlock r (e.beatBlock p.2)⟩ else s

theorem lookupBeats_eq (s : State) (e : TransitEntry) (key : Fin 32) (r : SlotRec) :
    s.lookupBeats e key r = e.beatKeys.zipIdx.foldl (fun st p => st.lookupStep e key r p) s := rfl

section Lookups

variable {e : TransitEntry} {key : Fin 32} {r : SlotRec}

theorem served_lookupStep (s : State) (e : TransitEntry) (key : Fin 32) (r : SlotRec) (p : BeatKey × Nat) :
    Served s (s.lookupStep e key r p) := by
  unfold State.lookupStep
  split
  · exact served_lookupBeat s _
  · exact Served.refl s

/-- How an entry and the beats that wait come out of some lookups of its beats. -/
theorem lookupSteps_entry (l : List (BeatKey × Nat)) {s : State} {f : TransitEntry} (h : s.bus.entry e.id = some f) :
    (∃ g, (l.foldl (fun st p => st.lookupStep e key r p) s).bus.entry e.id = some g ∧ Reshaped f g ∧
      ∀ i, (∀ p ∈ l, p.2 ≠ i) → SameBeat i f g) ∧
      (∀ id, id ≠ e.id → (l.foldl (fun st p => st.lookupStep e key r p) s).bus.entry id = s.bus.entry id) ∧
      ∀ w k ctr, s.awaits w k ctr → (l.foldl (fun st p => st.lookupStep e key r p) s).awaits w k ctr := by
  induction l generalizing s f with
  | nil => exact ⟨⟨f, h, Reshaped.refl f, fun i _ => SameBeat.refl i f⟩, fun _ _ => rfl, fun _ _ _ h => h⟩
  | cons p l ih =>
    rw [List.foldl_cons]
    by_cases waiting : p.1 = .waiting
    · have step : s.lookupStep e key r p = s.lookupBeat ⟨⟨e.id, p.2⟩, key, s.recBlock r (e.beatBlock p.2)⟩ :=
        if_pos waiting
      rw [step]
      obtain ⟨⟨g, own, reshaped, beats, -⟩, others, waits⟩ :=
        lookupBeat_entry (o := ⟨⟨e.id, p.2⟩, key, s.recBlock r (e.beatBlock p.2)⟩) h
      obtain ⟨⟨g', own', reshaped', beats'⟩, others', waits'⟩ := ih own
      refine ⟨⟨g', own', reshaped.trans reshaped', fun i hi => ?_⟩, fun id hid => ?_, fun w k ctr hw => ?_⟩
      · exact (beats i (Ne.symm (hi p (List.mem_cons_self ..)))).trans
          (beats' i fun q hq => hi q (List.mem_cons_of_mem _ hq))
      · exact (others' id hid).trans (others id hid)
      · exact waits' w k ctr (waits w k ctr hw)
    · have step : s.lookupStep e key r p = s := if_neg waiting
      rw [step]
      obtain ⟨⟨g', own', reshaped', beats'⟩, others', waits'⟩ := ih h
      exact ⟨⟨g', own', reshaped', fun i hi => beats' i fun q hq => hi q (List.mem_cons_of_mem _ hq)⟩, others', waits'⟩

theorem fed_sameBeat {f : TransitEntry} {i : Nat} (reshaped : Reshaped e f) (same : SameBeat i e f) (ks : Block) :
    SameBeat i (e.fed i ks) (f.fed i ks) := by
  have start : f.start = e.start := by rw [reshaped.rest]
  cases h : e.access with
  | read n =>
    rw [fed_read h, fed_read (reshaped.read n h), start]
    refine ⟨?_, fun _ write => absurd (h.symm.trans write) (by simp)⟩
    rw [List.getElem?_set, List.getElem?_set, if_pos rfl, if_pos rfl, reshaped.keys]
  | write out =>
    obtain ⟨kept, access, bytes⟩ := same.2 out h
    rw [fed_write h, fed_write access, start]
    refine ⟨?_, fun _ write => ⟨_, rfl, fun j hj => ?_⟩⟩
    · rw [List.getElem?_set, List.getElem?_set, if_pos rfl, if_pos rfl, reshaped.keys]
    · cases write
      rw [encipherBeat_getElem?, encipherBeat_getElem?, bytes j hj]

/-- The beats of an entry, all looked up: the rest is kept, a beat that hits takes its keystream, and one that misses
waits (R43, R45). -/
theorem lookupBeats_entry {s : State} (h : s.bus.entry e.id = some e) (key : Fin 32) (r : SlotRec) :
    ∃ g, (s.lookupBeats e key r).bus.entry e.id = some g ∧ Reshaped e g ∧
      (∀ id, id ≠ e.id → (s.lookupBeats e key r).bus.entry id = s.bus.entry id) ∧
      ∀ i b, e.beatKeys[i]? = some b → (b ≠ .waiting → SameBeat i e g) ∧ (b = .waiting →
        (∀ ks, s.ks.cached key (s.recBlock r (e.beatBlock i)) = some ks → SameBeat i (e.fed i ks) g) ∧
        (s.ks.cached key (s.recBlock r (e.beatBlock i)) = none → SameBeat i e g ∧
          (s.lookupBeats e key r).awaits ⟨e.id, i⟩ key (s.recBlock r (e.beatBlock i)))) := by
  rw [lookupBeats_eq]
  obtain ⟨⟨g, own, reshaped, -⟩, others, -⟩ := lookupSteps_entry (key := key) (r := r) e.beatKeys.zipIdx h
  refine ⟨g, own, reshaped, others, fun i b hb => ?_⟩
  have here : i < e.beatKeys.length := (List.getElem?_eq_some_iff.1 hb).1
  have split : e.beatKeys.zipIdx = e.beatKeys.zipIdx.take i ++ (b, i) :: e.beatKeys.zipIdx.drop (i + 1) := by
    have at' : e.beatKeys.zipIdx[i]'(by simpa using here) = (b, i) := by
      rw [List.getElem_zipIdx, (List.getElem?_eq_some_iff.1 hb).2, Nat.zero_add]
    rw [← at', List.cons_getElem_drop_succ, List.take_append_drop]
  have before : ∀ p ∈ e.beatKeys.zipIdx.take i, p.2 ≠ i := by
    intro p hp
    obtain ⟨j, hj, rfl⟩ := List.mem_take_iff_getElem.1 hp
    rw [List.getElem_zipIdx]
    dsimp only
    omega
  have after : ∀ p ∈ e.beatKeys.zipIdx.drop (i + 1), p.2 ≠ i := by
    intro p hp
    obtain ⟨j, hj, rfl⟩ := List.mem_drop_iff_getElem.1 hp
    rw [List.getElem_zipIdx]
    dsimp only
    omega
  rw [split, List.foldl_append, List.foldl_cons] at own ⊢
  have served := served_foldl (fun u p => served_lookupStep u e key r p) (e.beatKeys.zipIdx.take i) s
  obtain ⟨⟨f, ownf, reshapedf, beatsf⟩, -, -⟩ := lookupSteps_entry (key := key) (r := r) (e.beatKeys.zipIdx.take i) h
  generalize (e.beatKeys.zipIdx.take i).foldl (fun st p => st.lookupStep e key r p) s = u at served ownf own ⊢
  have samef := beatsf i before
  have cached (ctr : Block) : u.ks.cached key ctr = s.ks.cached key ctr := by
    unfold Keystream.cached
    rw [served.cache.1]
  have block : u.recBlock r (e.beatBlock i) = s.recBlock r (e.beatBlock i) := by
    unfold State.recBlock State.shop
    rw [served.fuses]
  have finish {v : State} {x : TransitEntry} (hx : v.bus.entry e.id = some x)
      (hg : ((e.beatKeys.zipIdx.drop (i + 1)).foldl (fun st p => st.lookupStep e key r p) v).bus.entry e.id = some g) :
      SameBeat i x g := by
    obtain ⟨⟨y, own, -, beats⟩, -, -⟩ := lookupSteps_entry (key := key) (r := r) (e.beatKeys.zipIdx.drop (i + 1)) hx
    cases own.symm.trans hg
    exact beats i after
  refine ⟨fun other => ?_, fun waiting => ?_⟩
  · have step : u.lookupStep e key r (b, i) = u := if_neg other
    rw [step] at own
    exact samef.trans (finish ownf own)
  · have step : u.lookupStep e key r (b, i) = u.lookupBeat ⟨⟨e.id, i⟩, key, u.recBlock r (e.beatBlock i)⟩ :=
      if_pos waiting
    rw [step, block] at own ⊢
    obtain ⟨⟨x, ownx, -, -, hit, miss⟩, -, -⟩ :=
      lookupBeat_entry (o := ⟨⟨e.id, i⟩, key, s.recBlock r (e.beatBlock i)⟩) ownf
    refine ⟨fun ks hks => ?_, fun none => ⟨?_, ?_⟩⟩
    · have fed := hit ks ((cached _).trans hks)
      subst fed
      exact (fed_sameBeat reshapedf samef ks).trans (finish ownx own)
    · have same := miss ((cached _).trans none)
      subst same
      exact samef.trans (finish ownx own)
    · refine (lookupSteps_entry (key := key) (r := r) (e.beatKeys.zipIdx.drop (i + 1)) ownx).2.2 _ _ _ ?_
      exact lookupBeat_awaits (o := ⟨⟨e.id, i⟩, key, s.recBlock r (e.beatBlock i)⟩) ((cached _).trans none)

end Lookups

end Sys2Proof.Machine
end

section
/-!
SUPPORT. Clear-side reads: the treatment of each byte, and the keystream of each beat.
-/

namespace Sys2Proof.Machine

-- One theorem at a time: elaborated side by side, each would hold a stack of its own.
set_option Elab.async false

/-! ## The entry of a read (R62, R90) -/

theorem waitingBeats_getElem? {beats i : Nat} (hi : i < beats) (asks : Nat → Bool) :
    (waitingBeats beats asks)[i]? = some (if asks i = true then .waiting else .none) := by
  unfold waitingBeats
  rw [List.getElem?_map, List.getElem?_range hi]
  rfl

theorem waitingBeats_length (beats : Nat) (asks : Nat → Bool) : (waitingBeats beats asks).length = beats := by
  unfold waitingBeats
  rw [List.length_map, List.length_range]

/-- A beat of a read asks for keystream exactly when one of its bytes is to be deciphered. -/
theorem contains_decipher_iff (how : List Treat) (i : Nat) :
    ((how.drop (8 * i)).take 8).contains .decipher = true ↔ ∃ j < 8, how[8 * i + j]? = some .decipher := by
  rw [List.contains_iff_mem, List.mem_iff_getElem?]
  constructor
  · rintro ⟨j, hj⟩
    rw [List.getElem?_take] at hj
    split at hj
    next low => exact ⟨j, low, by rw [← hj, List.getElem?_drop]⟩
    next => cases hj
  · rintro ⟨j, low, hj⟩
    refine ⟨j, ?_⟩
    rw [List.getElem?_take, if_pos low, List.getElem?_drop, hj]

section Read

variable {s : State} {x : Transaction} {p : Place} {beats : Nat} {r : SlotRec} {treat : Nat → Treat}

theorem readEntry_treat {i : Nat} (hi : i < 8 * beats) :
    (s.readEntry x p beats treat).treat[i]? = some (treat (p.off + i)) := by
  change ((List.range (8 * beats)).map fun i => treat (p.off + i))[i]? = _
  rw [List.getElem?_map, List.getElem?_range hi]
  rfl

theorem readEntry_waits {i : Nat} (hi : i < beats)
    (h : ∃ j < 8, (s.readEntry x p beats treat).treat[8 * i + j]? = some .decipher) :
    (s.readEntry x p beats treat).beatKeys[i]? = some .waiting :=
  (waitingBeats_getElem? hi _).trans (congrArg some (if_pos ((contains_decipher_iff _ i).2 h)))

theorem readEntry_idle {i : Nat} (hi : i < beats)
    (h : ∀ j < 8, (s.readEntry x p beats treat).treat[8 * i + j]? ≠ some .decipher) :
    (s.readEntry x p beats treat).beatKeys[i]? = some .none := by
  refine (waitingBeats_getElem? hi _).trans (congrArg some (if_neg fun asks => ?_))
  obtain ⟨j, low, hj⟩ := (contains_decipher_iff _ i).1 asks
  exact h j low hj

/-- A forwarded read: its entry, the treatment of its bytes, and the keystream of its beats (R43, R45, R62, R90). -/
theorem forwardRead_keyed (ages : s.agesSound) (read : x.access = .read beats) :
    ∃ e ∈ (s.forwardRead x p beats r treat).settle.bus.transit, e.id = s.stamp ∧ e.start = x.start ∧
      e.access = .read beats ∧ (∀ i < 8 * beats, e.treat[i]? = some (treat (p.off + i))) ∧
      Keyed s (s.forwardRead x p beats r treat).settle e r beats := by
  have access : (s.readEntry x p beats treat).access = .read beats := read
  have own := entry_enter ages (e := s.readEntry x p beats treat) rfl
  cases key : r.keySlot with
  | none =>
    have forwarded : s.forwardRead x p beats r treat = s.enter (s.readEntry x p beats treat) := by
      unfold State.forwardRead
      rw [key]
    rw [forwarded]
    refine ⟨_, mem_transit_settle (mem_enter s _) rfl (emptied_of_read access), rfl, rfl, access,
      fun i hi => readEntry_treat hi, fun i hi => ⟨readEntry_idle hi, fun k _ hk => ?_⟩⟩
    unfold SlotRec.keySlot at key
    rw [hk] at key
    cases key
  | some k =>
    have forwarded : s.forwardRead x p beats r treat =
        (s.enter (s.readEntry x p beats treat)).lookupBeats (s.readEntry x p beats treat) k r := by
      unfold State.forwardRead
      rw [key]
    obtain ⟨g, here, reshaped, -, beat⟩ := lookupBeats_entry own k r
    have accessed := reshaped.read beats access
    have rest := reshaped.rest
    rw [forwarded]
    have back : g.back = none := by rw [rest]; rfl
    have treated : g.treat = (s.readEntry x p beats treat).treat := by rw [rest]
    have start : g.start = x.start := by rw [rest]; rfl
    have id : g.id = (s.readEntry x p beats treat).id := by rw [rest]
    refine ⟨g, mem_transit_settle (mem_of_entry here) back (emptied_of_read accessed), id, start, accessed,
      fun i hi => ?_, fun i hi => ⟨fun none => ?_, fun k' deciphers hk ctr hctr => ?_⟩⟩
    · rw [treated]
      exact readEntry_treat hi
    · rw [treated] at none
      have asks := readEntry_idle hi none
      exact ((beat i .none asks).1 (by decide)).1.trans asks
    · have same : k' = k := by
        unfold SlotRec.keySlot at key
        rw [hk] at key
        exact Option.some.inj key
      subst same
      rw [treated] at deciphers
      have asks := readEntry_waits hi deciphers
      obtain ⟨hit, miss⟩ := (beat i .waiting asks).2 rfl
      have block : ctr = (s.enter (s.readEntry x p beats treat)).recBlock r
          ((s.readEntry x p beats treat).beatBlock i) := by
        rw [hctr, start]
        rfl
      rw [← block] at hit miss
      refine ⟨fun ks cached => ?_, fun none => ?_⟩
      · rw [(hit ks cached).1, fed_read access, start]
        refine List.getElem?_set_self ?_
        change i < (waitingBeats beats _).length
        rw [waitingBeats_length]
        exact hi
      · obtain ⟨beat', waits⟩ := miss none
        refine ⟨beat'.1.trans asks, ?_⟩
        rw [id]
        unfold State.awaits
        rw [State.settle_ks]
        exact waits

theorem forwardRead_keeps (s : State) (x : Transaction) (p : Place) (beats : Nat) (r : SlotRec) (treat : Nat → Treat) :
    (s.forwardRead x p beats r treat).keys = s.keys ∧ (s.forwardRead x p beats r treat).channels = s.channels ∧
      SameMeters s (s.forwardRead x p beats r treat) := by
  unfold State.forwardRead
  dsimp only
  split
  · have served := served_lookupBeats (s.enter (s.readEntry x p beats treat)) (s.readEntry x p beats treat) ‹_› r
    exact ⟨served.store, served.channels, served.meters⟩
  · exact ⟨rfl, rfl, rfl, rfl⟩

/-- A read without a byte to decipher asks for no keystream. -/
theorem forwardRead_raw (none : ∀ k, treat k ≠ .decipher) :
    s.forwardRead x p beats r treat = s.enter (s.readEntry x p beats treat) := by
  have idle : ∀ q ∈ (s.readEntry x p beats treat).beatKeys.zipIdx, q.1 ≠ .waiting := by
    rintro ⟨b, i⟩ hq
    have at' := List.mk_mem_zipIdx_iff_getElem?.1 hq
    have hi : i < beats := by
      have length := (List.getElem?_eq_some_iff.1 at').1
      change i < (waitingBeats beats _).length at length
      rwa [waitingBeats_length] at length
    rw [readEntry_idle hi fun j low => ?_] at at'
    · cases at'
      simp
    · rw [readEntry_treat (by omega)]
      exact fun h => none _ (Option.some.inj h)
  have steps (u : State) (k : Fin 32) (l : List (BeatKey × Nat)) (h : ∀ q ∈ l, q.1 ≠ .waiting) :
      l.foldl (fun st q => st.lookupStep (s.readEntry x p beats treat) k r q) u = u := by
    induction l with
    | nil => rfl
    | cons q l ih =>
      rw [List.foldl_cons, show u.lookupStep _ k r q = u from if_neg (h q (List.mem_cons_self ..))]
      exact ih fun q hq => h q (List.mem_cons_of_mem _ hq)
  unfold State.forwardRead
  cases r.keySlot with
  | none => rfl
  | some k => exact steps _ k _ idle

end Read

/-! ## The reads of the two roles -/

theorem exec_outboundClearRead {x : Transaction} {s : State} {p : Place} {n : Nat} {r : SlotRec}
    (h : Reaches s x .outboundClearRead p n r) {beats : Nat} (read : x.access = .read beats) :
    exec (.outboundClearRead x) s = .next (s.forwardRead x p beats r (outboundTreat r)).settle := by
  change execOutboundClearRead x s = _
  refine h.run.trans ?_
  rw [State.acceptAt, h.recNo, h.slotRec, read]
  rfl

theorem exec_inboundClearRead {x : Transaction} {s : State} {p : Place} {n : Nat} {r : SlotRec}
    (h : Reaches s x .inboundClearRead p n r) {beats : Nat} (read : x.access = .read beats) :
    exec (.inboundClearRead x) s = .next (s.inboundRead x p n beats).settle := by
  change execInboundClearRead x s = _
  refine h.run.trans ?_
  rw [State.acceptAt, h.recNo, read]
  rfl

/-- The state of a clear-side read of an inbound slot before it is answered or forwarded: GATED_READ taken (R90). -/
def State.gatedRead (s : State) (x : Transaction) (p : Place) (beats : Nat) (r : SlotRec) : State :=
  if (!r.readable && decide (32 < p.off + 8 * beats)) = true then
    s.recordFault (occurrence .gatedRead r.channel (some r.window) (some r.slot) (some x.initiator))
  else s

theorem inboundRead_eq {s : State} {x : Transaction} {p : Place} {n beats : Nat} {r : SlotRec}
    (h : s.slotRec n = some r) : s.inboundRead x p n beats =
      if (!r.readable && decide (32 < p.off + 8 * beats)) = true ∧ 32 ≤ p.off then
        (s.gatedRead x p beats r).answer x true
      else (s.gatedRead x p beats r).forwardRead x p beats r (inboundTreat r) := by
  unfold State.inboundRead State.gatedRead
  rw [h]
  dsimp only
  cases gated : (!r.readable && decide (32 < p.off + 8 * beats)) with
  | true => simp [slotFault]
  | false => simp

theorem gatedRead_cases (s : State) (x : Transaction) (p : Place) (beats : Nat) (r : SlotRec) :
    s.gatedRead x p beats r = s ∨ s.gatedRead x p beats r =
      s.recordFault (occurrence .gatedRead r.channel (some r.window) (some r.slot) (some x.initiator)) := by
  unfold State.gatedRead
  split
  · exact .inr rfl
  · exact .inl rfl

theorem framed_gatedRead (s : State) (x : Transaction) (p : Place) (beats : Nat) (r : SlotRec) :
    Framed s (s.gatedRead x p beats r) := by
  rcases gatedRead_cases s x p beats r with h | h <;> rw [h]
  · exact Framed.refl s
  · exact framed_recordFault (by simp [occurrence, FaultClass.severity])

theorem gatedRead_same (s : State) (x : Transaction) (p : Place) (beats : Nat) (r : SlotRec) :
    (s.gatedRead x p beats r).ks = s.ks ∧ (s.gatedRead x p beats r).keys = s.keys ∧
      SameBeats s (s.gatedRead x p beats r) ∧ (s.gatedRead x p beats r).bus.inj = s.bus.inj := by
  rcases gatedRead_cases s x p beats r with h | h <;> rw [h]
  · exact ⟨rfl, rfl, SameBeats.refl s, rfl⟩
  · exact ⟨recordFault_ks s _, recordFault_keys s _, sameBeats_recordFault s _, recordFault_inj s _⟩

/-- The keystream of a read's beats depends on the store and on the shop identity alone. -/
theorem Keyed.congr {s u t : State} {e : TransitEntry} {r : SlotRec} {beats : Nat} (h : Keyed u t e r beats)
    (ks : u.ks = s.ks) (fuses : u.fuses = s.fuses) : Keyed s t e r beats := by
  have block (b : Nat) : u.recBlock r b = s.recBlock r b := by
    unfold State.recBlock State.shop
    rw [fuses]
  unfold Keyed at h ⊢
  simp only [ks, block] at h
  exact h

theorem outboundTreat_eq (r : SlotRec) (k : Nat) : outboundTreat r k = if k < 32 then .raw
    else if (r.state = .filling ∨ r.state = .tagging ∨ r.state = .tagged) ∧ r.keySlot.isSome = true then .decipher
    else .zero := by
  unfold outboundTreat
  split
  · rfl
  · cases r.state <;> simp

theorem inboundTreat_eq (r : SlotRec) (k : Nat) : inboundTreat r k = if k < 32 then .raw
    else if r.state = .passed ∧ r.kind = some kindData ∧ k < 32 + r.length.getD 0 then .decipher else .zero := by
  unfold inboundTreat SlotRec.readable
  split
  · rfl
  · simp [and_assoc]

/-- Settles O23: the treatment by the record's state, and the keystream by `forwardRead_keyed`. -/
theorem clearReadTreatment : Obligations.ClearReadTreatment := by
  refine fun x s p n beats r ages read => ⟨fun h => ?_, fun h => ?_⟩
  · obtain ⟨keys, channels, meters⟩ := forwardRead_keeps s x p beats r (outboundTreat r)
    obtain ⟨e, mem, id, start, access, treat, keyed⟩ := forwardRead_keyed (p := p) (r := r) (treat := outboundTreat r) ages read
    refine ⟨_, exec_outboundClearRead h read, sameKeys_settle.2 ⟨keys, channels⟩, sameMeters_settle.2 meters, e, mem, id,
      start, access, fun i hi => ?_, keyed⟩
    rw [treat i hi, outboundTreat_eq]
  · have framed := framed_gatedRead s x p beats r
    obtain ⟨ks, keys, ⟨transit, -, -, stamp⟩, inj⟩ := gatedRead_same s x p beats r
    have readable : r.readable = true ↔ r.state = .passed ∧ r.kind = some kindData := by
      simp [SlotRec.readable]
    have unreadable (gated : ¬ (r.state = .passed ∧ r.kind = some kindData)) : r.readable = false :=
      Bool.eq_false_iff.2 fun h => gated (readable.1 h)
    have some' : 0 < beats := by
      have burst := h.1
      unfold Transaction.wellFormed at burst
      simp only [Bool.and_eq_true, decide_eq_true_eq] at burst
      rw [read] at burst
      exact burst.1.1.1
    obtain ⟨keys', channels', meters'⟩ := forwardRead_keeps (s.gatedRead x p beats r) x p beats r (inboundTreat r)
    refine ⟨_, exec_inboundClearRead h read, ?_⟩
    rw [inboundRead_eq h.slotRec]
    refine ⟨?_, ?_, fun gated off => ?_, fun gated off => ?_, fun forwarded => ?_⟩
    · split
      · exact sameKeys_settle.2 ⟨keys, framed.channels⟩
      · exact sameKeys_settle.2 ⟨keys'.trans keys, channels'.trans framed.channels⟩
    · split
      · exact sameMeters_settle.2 framed.meters
      · exact sameMeters_settle.2 ⟨meters'.1.trans framed.meters.1, meters'.2.trans framed.meters.2⟩
    · rw [if_pos ⟨by simpa [unreadable gated] using (by omega : 32 < p.off + 8 * beats), off⟩]
      exact ⟨nothingForwarded_of_ids (congrArg _ transit), mem_up_settle (List.mem_cons_self ..)⟩
    · have taken : s.gatedRead x p beats r =
          s.recordFault (occurrence .gatedRead r.channel (some r.window) (some r.slot) (some x.initiator)) :=
        if_pos (by simpa [unreadable gated] using off)
      have raw : ∀ k, inboundTreat r k ≠ .decipher := by
        intro k
        rw [inboundTreat_eq, if_neg (c := _ ∧ _) fun h => gated ⟨h.1, h.2.1⟩]
        split <;> decide
      rw [State.settle_faults, forwardRead_raw raw, taken]
      split <;> rfl
    · rw [if_neg]
      · have ages' : (s.gatedRead x p beats r).agesSound := by
          unfold State.agesSound at ages ⊢
          rw [transit, inj, stamp]
          exact ages
        obtain ⟨e, mem, id, start, access, treat, keyed⟩ :=
          forwardRead_keyed (p := p) (r := r) (treat := inboundTreat r) ages' read
        refine ⟨e, mem, id.trans stamp, start, access, fun i hi => ?_, keyed.congr ks framed.fuses⟩
        rw [treat i hi, inboundTreat_eq]
      · rintro ⟨gated, off⟩
        rcases forwarded with open' | low
        · rw [readable.2 open'] at gated
          cases gated
        · omega

end Sys2Proof.Machine
end

section
/-!
SUPPORT. A clear-side write to a FILLING slot: an admitted opening, and the CLOSE.
-/

namespace Sys2Proof.Machine

-- One theorem at a time: elaborated side by side, each would hold a stack of its own.
set_option Elab.async false

/-! ## A write taken in FILLING (R51, R57) -/

/-- The beats of an entry looked up under a record's key slot, when the write fills the slot. -/
def State.lookedUp (s : State) (e : TransitEntry) (fills : Bool) (r : SlotRec) : State :=
  match r.keySlot with
  | some k => if fills = true then s.lookupBeats e k r else s
  | none => s

/-- A write to a FILLING slot with its entry in the transit table and its beats looked up. -/
def State.written (s : State) (x : Transaction) (p : Place) (n : Nat) (bytes : List (Option Byte)) (r : SlotRec) : State :=
  ((s.captured n bytes p.off).enter (s.clearEntry x p bytes r)).lookedUp (s.clearEntry x p bytes r)
    (strobesIn bytes p.off 32 Config.slotBytes) (r.capture bytes p.off)

section Written

variable {s : State} {x : Transaction} {p : Place} {n : Nat} {r : SlotRec} {bytes : List (Option Byte)}

theorem lookedUp_dry (s : State) (e : TransitEntry) (r : SlotRec) : s.lookedUp e false r = s := by
  unfold State.lookedUp
  split <;> rfl

theorem written_dry (s : State) (x : Transaction) (n : Nat) (r : SlotRec) (dry : strobesIn bytes p.off 32 2048 = false) :
    s.written x p n bytes r = (s.captured n bytes p.off).enter (s.clearEntry x p bytes r) := by
  unfold State.written
  rw [show strobesIn bytes p.off 32 Config.slotBytes = false from dry]
  exact lookedUp_dry _ _ _

theorem writeOutbound_filling (h : s.slotRec n = some r) (state : r.state = .filling) :
    s.writeOutbound x p n bytes =
      if (judgedBytes bytes p.off (strobesIn bytes p.off 32 Config.slotBytes)).all Option.isNone = true then
        (s.captured n bytes p.off).answer x true
      else (s.written x p n bytes r).finishWrite s.stamp n p.off bytes := by
  have fills : (decide (r.state = .filling) && strobesIn bytes p.off 32 Config.slotBytes) =
      strobesIn bytes p.off 32 Config.slotBytes := by simp [state]
  by_cases empty : (judgedBytes bytes p.off (strobesIn bytes p.off 32 Config.slotBytes)).all Option.isNone = true
  · rw [if_pos empty]
    exact writeOutbound_answered h (by rw [fills]; exact empty)
  rw [if_neg empty]
  have some' := Bool.eq_false_iff.2 empty
  cases payload : strobesIn bytes p.off 32 Config.slotBytes with
  | true =>
    rw [payload] at some'
    unfold State.written State.lookedUp
    rw [writeOutbound_fills h state payload some', payload]
    rfl
  | false =>
    rw [payload] at some' fills
    rw [written_dry s x n r payload]
    exact writeOutbound_dry h (by rw [payload]; exact fills) some'

theorem served_lookedUp (s : State) (e : TransitEntry) (fills : Bool) (r : SlotRec) : Served s (s.lookedUp e fills r) := by
  unfold State.lookedUp
  (repeat' split)
  · exact served_lookupBeats _ _ _ _
  · exact Served.refl _
  · exact Served.refl _

theorem served_written (s : State) (x : Transaction) (p : Place) (n : Nat) (bytes : List (Option Byte)) (r : SlotRec) :
    Served ((s.captured n bytes p.off).enter (s.clearEntry x p bytes r)) (s.written x p n bytes r) :=
  served_lookedUp _ _ _ _

/-- Beats of which none is in the cache change no fault entry when they are looked up. -/
theorem lookupBeats_missed {s : State} {k : Fin 32} (miss : ∀ ctr, s.ks.cached k ctr = none) (e : TransitEntry)
    (r : SlotRec) : (s.lookupBeats e k r).faults = s.faults := by
  rw [lookupBeats_eq]
  generalize e.beatKeys.zipIdx = l
  induction l generalizing s with
  | nil => rfl
  | cons q l ih =>
    rw [List.foldl_cons]
    unfold State.lookupStep
    split
    · obtain ⟨_, _, _, same⟩ := lookupBeat_missed (s := s) (o := ⟨⟨e.id, q.2⟩, k, s.recBlock r (e.beatBlock q.2)⟩)
        (miss _)
      rw [same]
      exact ih miss
    · exact ih miss

theorem written_record (h : s.slotRec n = some r) (x : Transaction) (p : Place) (bytes : List (Option Byte)) :
    ∃ q, (s.written x p n bytes r).slotRec n = some q ∧ BooksOnly (r.capture bytes p.off) q :=
  (served_written s x p n bytes r).records (captured_slotRec h p.off)

theorem written_faults
    (missed : strobesIn bytes p.off 32 2048 = false ∨ ∀ k ctr, r.keySlot = some k → s.ks.cached k ctr = none) :
    (s.written x p n bytes r).faults = s.faults := by
  rcases missed with dry | missed
  · rw [written_dry s x n r dry]
    rfl
  · unfold State.written State.lookedUp
    have slot : (r.capture bytes p.off).keySlot = r.keySlot := rfl
    rw [slot]
    cases key : r.keySlot with
    | none => rfl
    | some k =>
      dsimp only
      split
      · exact lookupBeats_missed (s := (s.captured n bytes p.off).enter (s.clearEntry x p bytes r))
          (fun ctr => missed k ctr key) _ _
      · rfl

/-- A write in FILLING without a CLOSE leaves the stores, and the record but for what its header bytes capture and its
accumulator's books. -/
theorem writeOutbound_open (h : s.slotRec n = some r) (state : r.state = .filling)
    (unclosed : strobedAt bytes p.off 14 ≠ some 1) (x : Transaction) :
    (s.writeOutbound x p n bytes).keys = s.keys ∧ (s.writeOutbound x p n bytes).channels = s.channels ∧
      SameMeters s (s.writeOutbound x p n bytes) ∧ (s.writeOutbound x p n bytes).notices = s.notices ∧
      (∃ q, (s.writeOutbound x p n bytes).slotRec n = some q ∧ BooksOnly (r.capture bytes p.off) q) ∧
      (strobesIn bytes p.off 32 2048 = false ∨ (∀ k ctr, r.keySlot = some k → s.ks.cached k ctr = none) →
        (s.writeOutbound x p n bytes).faults = s.faults) := by
  rw [writeOutbound_filling h state]
  split
  · exact ⟨rfl, rfl, ⟨rfl, rfl⟩, rfl, ⟨_, captured_slotRec h p.off, BooksOnly.refl _⟩, fun _ => rfl⟩
  · obtain ⟨q, own, books⟩ := written_record h x p bytes
    have filling : q.state = .filling := by
      obtain ⟨_, _, _, rfl⟩ := books
      exact state
    have served := served_written s x p n bytes r
    have idle := outboundRequest_filling own filling unclosed (strobesIn bytes p.off 32 Config.slotBytes)
    have framed := framed_finish (s.written x p n bytes r) s.stamp n p.off bytes
    obtain ⟨pool, l, same⟩ := finishWrite_only (s.written x p n bytes r) s.stamp n p.off bytes
    have record := finishWrite_records (r := q) s.stamp (by rw [idle]; exact own) (.inl (by rw [filling]; decide)) n
    rw [idle] at framed same record
    refine ⟨?_, framed.channels.trans served.channels, ?_, framed.notices.trans served.notices, ⟨q, record.trans own,
      books⟩, fun missed => ?_⟩
    · rw [same]
      exact served.store
    · exact ⟨framed.meters.1.trans served.meters.1, framed.meters.2.trans served.meters.2⟩
    · rw [same]
      exact written_faults missed

end Written

/-! ## An admitted opening (R53) -/

/-- A slot record opened, its key slot's reference and sequence taken, before the key is judged (R53, R122). -/
def State.openedFrame (s : State) (n : Nat) (c : Fin 16) (k : Fin 32) : State :=
  ((((s.setRec n fun r => r.opened c k (s.key k) s.stamp).bump).takeRef k).takeSequence k)

/-- A key slot after the opening of a frame (R53, R122). -/
def KeySlot.framed (x : KeySlot) : KeySlot := { x with refs := x.refs + 1, nextSeq := x.nextSeq + 1, frames := x.frames + 1 }

theorem admission_ok {s : State} {c : Fin 16} {k : Fin 32} (h : s.admission c = .ok k) : (s.chan c).cur = some k := by
  unfold State.admission at h
  split at h
  · cases h
  · cases h
  · split at h
    · cases h
    next j cur =>
      split at h
      · cases h
      · split at h
        · cases h
          exact cur
        · cases h

section Opened

variable {s : State} {n : Nat} {r : SlotRec} {c : Fin 16} {k : Fin 32}

theorem openOutbound_admitted (h : s.slotRec n = some r) (bound : s.boundChannel r = some c)
    (admitted : s.admission c = .ok k) (i : Fin 16) : s.openOutbound n i = (s.openedFrame n c k).judgeMarks k := by
  unfold State.openOutbound
  rw [h]
  dsimp only [Option.bind_some]
  rw [bound]
  dsimp only
  rw [admitted]
  rfl

theorem openedFrame_key (s : State) (n : Nat) (c : Fin 16) (k j : Fin 32) :
    (s.openedFrame n c k).key j = if j = k then (s.key k).framed else s.key j := by
  unfold State.openedFrame State.takeSequence State.takeRef
  rw [State.key_setKey, State.key_setKey, State.key_setKey]
  by_cases same : j = k
  · rw [if_pos same, if_pos rfl, if_pos same]
    rfl
  · rw [if_neg same, if_neg same, if_neg same]
    rfl

theorem openedFrame_slotRec (h : s.slotRec n = some r) (c : Fin 16) (k : Fin 32) :
    (s.openedFrame n c k).slotRec n = some (r.opened c k (s.key k) s.stamp) :=
  setRec_self (fun r => r.opened c k (s.key k) s.stamp) h

/-- The CURRENT key of the channel that owns it is judged as such after the opening (R127, R128). -/
theorem openedFrame_budgeted (owner : (s.key k).owner = some c) (cur : (s.chan c).cur = some k) (n : Nat) :
    Budgeted k (s.key k).framed c true false (s.openedFrame n c k) ((s.openedFrame n c k).judgeMarks k) := by
  have key : (s.openedFrame n c k).key k = (s.key k).framed := (openedFrame_key s n c k k).trans (if_pos rfl)
  refine judgeMarks_budgeted key owner (decide_eq_true ?_)
  unfold State.keyRole
  rw [key, show (s.key k).framed.owner = some c from owner]
  exact if_pos cur

end Opened

theorem settle_list (s : State) : s.settle.notices.list = s.notices.list := by
  rw [s.settle_sameNotices]

/-- Settles O18: the opening, the judgement of its key, and then a write in FILLING. -/
theorem admittedOpening : Obligations.AdmittedOpening := by
  intro x s p n r bytes c k h write free opens unclosed bound admitted
  refine ⟨_, exec_outboundClearWrite h write, ?_⟩
  rw [outboundWrite_opens h.slotRec free opens, openOutbound_admitted h.slotRec bound admitted]
  have judging := judging_judgeMarks (s.openedFrame n c k) k
  have own : ((s.openedFrame n c k).judgeMarks k).slotRec n = some (r.opened c k (s.key k) s.stamp) := by
    unfold State.slotRec
    rw [judging.frames.1]
    exact openedFrame_slotRec h.slotRec c k
  obtain ⟨keys, channels, meters, notices, ⟨q, record, books⟩, faults⟩ := writeOutbound_open own rfl unclosed x
  have key (j : Fin 32) : (((s.openedFrame n c k).judgeMarks k).writeOutbound x p n bytes).settle.key j =
      ((s.openedFrame n c k).judgeMarks k).key j := by
    rw [State.settle_key]
    unfold State.key
    rw [keys]
  have flags := judging.flags
  rw [openedFrame_key, if_pos rfl] at flags
  refine ⟨⟨q, (State.settle_slotRec _ n).trans record, ?_⟩, ?_, ?_, ?_, ?_, fun j hj => ?_, ?_, ?_, ?_⟩
  · obtain ⟨_, _, _, rfl⟩ := books
    exact ⟨rfl, rfl, rfl, rfl, rfl, rfl, rfl, rfl⟩
  · rw [key, flags]
    rfl
  · rw [key, flags]
    rfl
  · rw [key, flags]
    rfl
  · rw [key, flags]
    rfl
  · rw [key, judging.others j hj, openedFrame_key, if_neg hj]
  · rw [State.settle_keys, keys, judging.freeList]
    rfl
  · exact sameMeters_settle.2 ⟨meters.1.trans judging.meters.1, meters.2.trans judging.meters.2⟩
  · rintro y rfl owner
    have budgeted := openedFrame_budgeted owner (admission_ok admitted) n
    refine ⟨budgeted.flagsJudged rfl (by rw [key]) (by rw [key]), budgeted.listJudged rfl rfl ?_,
      fun room missed u taken => ?_⟩
    · rw [settle_list, notices]
    · rw [State.settle_faults, faults ?_]
      · exact budgeted.spentTaken (s := s) room rfl rfl taken
      · refine missed.imp_right fun missed j ctr key => ?_
        cases key
        rw [judging.frames.2.1]
        exact missed ctr

end Sys2Proof.Machine
end

section
/-!
SUPPORT. The CLOSE of an outbound slot (R63), also beside payload and in the write that opens it.
-/

namespace Sys2Proof.Machine

-- One theorem at a time: elaborated side by side, each would hold a stack of its own.
set_option Elab.async false

/-! ## The entry of a write (R22, R23) -/

section Entry

variable {s : State} {x : Transaction} {p : Place} {n : Nat} {r : SlotRec} {bytes : List (Option Byte)}

/-- The entry of a write to a FILLING slot, once its beats have been looked up. -/
theorem written_entry (ages : s.agesSound) : ∃ g, (s.written x p n bytes r).bus.entry s.stamp = some g ∧
    Reshaped (s.clearEntry x p bytes r) g := by
  have own := entry_enter (s := s.captured n bytes p.off) ages (e := s.clearEntry x p bytes r) rfl
  unfold State.written State.lookedUp
  split
  next k _ =>
    split
    · obtain ⟨g, here, reshaped, -⟩ := lookupBeats_entry own k (r.capture bytes p.off)
      exact ⟨g, here, reshaped⟩
    · exact ⟨_, own, Reshaped.refl _⟩
  · exact ⟨_, own, Reshaped.refl _⟩

/-- The entry of a write with its mirror bytes filled from the record (R22, R23). -/
theorem mem_mirrorEntry (h : s.slotRec n = some r) {g : TransitEntry} (mem : g ∈ s.bus.transit)
    (access : g.access = .write bytes) (off : Nat) :
    { g with access := .write (mirrorBytes bytes off r) } ∈ (s.mirrorEntry g.id n off).bus.transit := by
  unfold State.mirrorEntry
  rw [h]
  refine List.mem_map.2 ⟨g, mem, ?_⟩
  rw [if_pos (beq_self_eq_true g.id)]
  dsimp only
  rw [access]

theorem strobedAt_mirror (bytes : List (Option Byte)) (off k : Nat) (r : SlotRec) :
    strobedAt (mirrorBytes bytes off r) off k = if k = 14 then (strobedAt bytes off k).map fun _ => r.state.mirror
      else if k = 15 then (strobedAt bytes off k).map fun _ => r.reason.code else strobedAt bytes off k :=
  strobedAt_mapOffsets (f := fun k b => if k = 14 then b.map fun _ => r.state.mirror
    else if k = 15 then b.map fun _ => r.reason.code else b) (by intro k; (repeat' split) <;> rfl) bytes off k

/-- Two byte lists with the same strobes strobe the same slot offsets. -/
theorem strobedAt_isSome {a b : List (Option Byte)} (h : a.map Option.isSome = b.map Option.isSome) (off k : Nat) :
    (strobedAt a off k).isSome = (strobedAt b off k).isSome := by
  have at' (i : Nat) : (a[i]?).map Option.isSome = (b[i]?).map Option.isSome := by
    rw [← List.getElem?_map, ← List.getElem?_map, h]
  unfold strobedAt
  split
  · have here := at' (k - off)
    cases ha : a[k - off]? <;> cases hb : b[k - off]? <;> rw [ha, hb] at here <;> simp_all
  · rfl

/-- A write that strobes a byte stays in the transit table while its strobes do. -/
theorem emptied_of_strobed {g : TransitEntry} {off k : Nat} {v : Byte} (access : g.access = .write bytes)
    (h : strobedAt bytes off k = some v) : g.emptied = false := by
  unfold TransitEntry.emptied
  rw [access]
  dsimp only
  rw [not_all_none_of_strobedAt h, Bool.and_false]

theorem noteRetouch_transit (s : State) (n : Nat) (bytes : List (Option Byte)) (off : Nat) :
    (s.noteRetouch n bytes off).bus = s.bus := by
  obtain ⟨pool, h⟩ := noteRetouch_only s n bytes off
  rw [h]

/-- The entry of a write that strobes a byte carries the mirror bytes of the record as the write leaves it. -/
theorem finishWrite_mirrors {id : Nat} {off k : Nat} {v : Byte} {g : TransitEntry} {kept : List (Option Byte)}
    (h : (s.outboundRequest n (strobedAt bytes off 14) (strobesIn bytes off 32 Config.slotBytes)).slotRec n = some r)
    (transit : (s.outboundRequest n (strobedAt bytes off 14) (strobesIn bytes off 32 Config.slotBytes)).bus.transit =
      s.bus.transit)
    (entry : s.bus.entry id = some g) (back : g.back = none) (access : g.access = .write kept)
    (strobed : strobedAt kept off k = some v) :
    { g with access := .write (mirrorBytes kept off (r.remembers (strobesIn bytes off 14 16))) } ∈
      (s.finishWrite id n off bytes).settle.bus.transit := by
  obtain rfl : g.id = id := Bus.entry_id entry
  have mirrored := mem_mirrorEntry (noteRetouch_self _ n bytes off h) (g := g)
    (by rw [noteRetouch_transit, transit]; exact mem_of_entry entry) access off
  have here : (strobedAt (mirrorBytes kept off (r.remembers (strobesIn bytes off 14 16))) off k).isSome = true := by
    rw [strobedAt_mirror, strobed]
    (repeat' split) <;> rfl
  obtain ⟨w, here⟩ := Option.isSome_iff_exists.1 here
  exact mem_transit_settle mirrored back (emptied_of_strobed rfl here)

end Entry

/-! ## The CLOSE (R63) -/

/-- A record that goes to TAGGING, its finish waiting (R37, R63). -/
def SlotRec.closed (r : SlotRec) : SlotRec :=
  { r with state := .tagging, finish := some (Finish.begin (r.length.getD 0)) }

section Close

variable {s : State} {n : Nat} {r : SlotRec}

theorem takeClose_badKind (h : s.slotRec n = some r) (kind : r.kind ≠ some kindData) :
    s.takeClose n = s.failOutbound n .badKind := by
  unfold State.takeClose
  rw [h]
  exact if_pos kind

theorem takeClose_badLength (h : s.slotRec n = some r) (kind : r.kind = some kindData)
    (length : 2016 < r.length.getD 0) : s.takeClose n = s.failOutbound n .badLength := by
  unfold State.takeClose
  rw [h]
  dsimp only
  rw [if_neg (not_not.2 kind)]
  exact if_pos length

theorem takeClose_tags (h : s.slotRec n = some r) (kind : r.kind = some kindData) (length : r.length.getD 0 ≤ 2016) :
    s.takeClose n = s.setRec n fun x => { x with state := .tagging, finish := some (Finish.begin (r.length.getD 0)) } := by
  unfold State.takeClose
  rw [h]
  dsimp only
  rw [if_neg (not_not.2 kind)]
  exact if_neg (Nat.not_lt.2 length)

theorem failRec_keys (s : State) (n : Nat) (why : Reason) : (s.failRec n why).keys = s.keys ∧
    (s.failRec n why).channels = s.channels := by
  unfold State.failRec State.askResult
  split <;> exact ⟨rfl, rfl⟩

/-- An outbound slot that fails gives the reference of its key back; a key with a role stays (R65, R119). -/
theorem failOutbound_key {k : Fin 32} (h : s.slotRec n = some r) (key : r.keySlot = some k) (why : Reason)
    (role : s.keyRole k ≠ none) (j : Fin 32) : (s.failOutbound n why).key j =
      if j = k then { s.key k with refs := (s.key k).refs - 1 } else s.key j := by
  obtain ⟨keys, channels⟩ := failRec_keys s n why
  have same (i : Fin 32) : (s.failRec n why).key i = s.key i := by
    unfold State.key
    rw [keys]
  rw [failOutbound_eq h, key]
  change ((s.failRec n why).dropRef k).key j = _
  rw [dropRef_of_role (by rw [keyRole_congr (by rw [same]) channels]; exact role), untakeRef_key]
  simp only [same]

end Close

theorem framed_takeClose (s : State) (n : Nat) : Framed s (s.takeClose n) := by
  unfold State.takeClose
  split
  · exact Framed.refl s
  · dsimp only
    split
    · exact framed_failOutbound s n _
    · split
      · exact framed_failOutbound s n _
      · exact framed_setRec s n _

/-- How a step with a CLOSE leaves in t the record r that it met FILLING in u; c is that record with the header bytes of the
write captured (R63). -/
structure Closed (u t : State) (x : Transaction) (p : Place) (n : Nat) (bytes : List (Option Byte)) (r c : SlotRec) :
    Prop where
  meters : SameMeters u t
  list : t.notices.list = u.notices.list
  failed : ∀ why, (why = .badKind ∧ c.kind ≠ some kindData) ∨
      (why = .badLength ∧ c.kind = some kindData ∧ 2016 < c.length.getD 0) →
    (∃ w, t.slotRec n = some w ∧ BooksOnly (c.failedWith why) w) ∧ ResultAsked t n r .failed why ∧
      ∀ k, r.keySlot = some k → u.keyRole k ≠ none →
        ∀ j, t.key j = if j = k then { u.key k with refs := (u.key k).refs - 1 } else u.key j
  tagging : c.kind = some kindData → c.length.getD 0 ≤ 2016 →
    (∃ q b, t.slotRec n = some { q.closed with retouched := b } ∧ BooksOnly c q) ∧
      (∃ e ∈ t.bus.transit, e.id = u.stamp ∧ ∃ b, e.access = .write b ∧ strobedAt b p.off 14 = some 2) ∧
      t.keys = u.keys ∧ t.channels = u.channels ∧ SameNotices u t ∧
      (strobesIn bytes p.off 32 2048 = false →
        OtherRecords u t n ∧ t.ks = u.ks ∧ t.merges = u.merges ∧ t.faults = u.faults)

/-- A CLOSE in a write to a FILLING slot (R51, R56, R63). -/
theorem writeOutbound_closed {u : State} {x : Transaction} {p : Place} {n : Nat} {r : SlotRec}
    {bytes : List (Option Byte)} (ages : u.agesSound) (h : u.slotRec n = some r) (filling : r.state = .filling)
    (close : strobedAt bytes p.off 14 = some 1) :
    Closed u (u.writeOutbound x p n bytes).settle x p n bytes r (r.capture bytes p.off) := by
  have step : u.writeOutbound x p n bytes = (u.written x p n bytes r).finishWrite u.stamp n p.off bytes := by
    rw [writeOutbound_filling h filling, if_neg]
    rw [judged_header (by decide) close]
    exact Bool.false_ne_true
  obtain ⟨q, own, books⟩ := written_record h x p bytes
  have served := served_written u x p n bytes r
  have state : q.state = .filling := by
    obtain ⟨_, _, _, rfl⟩ := books
    exact filling
  have taken : (u.written x p n bytes r).outboundRequest n (strobedAt bytes p.off 14)
      (strobesIn bytes p.off 32 Config.slotBytes) = (u.written x p n bytes r).takeClose n := by
    rw [close]
    exact outboundRequest_close own state _
  have framed := framed_finish (u.written x p n bytes r) u.stamp n p.off bytes
  obtain ⟨pool, l, only⟩ := finishWrite_only (u.written x p n bytes r) u.stamp n p.off bytes
  rw [taken] at framed only
  have all := (served.toFramed.trans (framed_takeClose _ n)).trans framed
  rw [step]
  refine ⟨sameMeters_settle.2 all.meters, ?_, fun why fails => ?_, fun kind length => ?_⟩
  · rw [settle_list, all.notices]
    rfl
  · have fail : (u.written x p n bytes r).takeClose n = (u.written x p n bytes r).failOutbound n why := by
      obtain ⟨_, _, _, same⟩ := books
      rcases fails with ⟨rfl, kind⟩ | ⟨rfl, kind, length⟩
      · exact takeClose_badKind own (by rw [same]; exact kind)
      · exact takeClose_badLength own (by rw [same]; exact kind) (by rw [same]; exact length)
    rw [fail] at taken framed only
    obtain ⟨⟨w, record, failed⟩, wanted⟩ := failOutbound_result (why := why) own
    have state' : w.state = .failed := by
      obtain ⟨_, _, _, rfl⟩ := failed
      rfl
    refine ⟨⟨w, ?_, ?_⟩, ?_, fun k key role j => ?_⟩
    · rw [State.settle_slotRec, finishWrite_records u.stamp (by rw [taken]; exact record) (.inl (by rw [state']; decide)),
        taken, record]
    · obtain ⟨_, _, _, rfl⟩ := books
      obtain ⟨_, _, _, rfl⟩ := failed
      exact ⟨_, _, _, rfl⟩
    · refine (Wanted.congr (wanted.framed framed) ?_ ?_ ?_).settle <;> obtain ⟨_, _, _, rfl⟩ := books <;> rfl
    · have slot : q.keySlot = some k := by
        obtain ⟨_, _, _, rfl⟩ := books
        exact key
      have store : (u.written x p n bytes r).keys = u.keys := served.store
      have same (i : Fin 32) : (u.written x p n bytes r).key i = u.key i := by
        unfold State.key
        rw [store]
      have role' : (u.written x p n bytes r).keyRole k ≠ none := by
        have channels : (u.written x p n bytes r).channels = u.channels := served.channels
        rw [keyRole_congr (by rw [same]) channels]
        exact role
      have key := failOutbound_key own slot why role' j
      rw [State.settle_key]
      have keep : ((u.written x p n bytes r).finishWrite u.stamp n p.off bytes).key j =
          ((u.written x p n bytes r).failOutbound n why).key j := by
        rw [only]
        rfl
      rw [keep, key]
      simp only [same]
  · have tags : (u.written x p n bytes r).takeClose n = (u.written x p n bytes r).setRec n fun x =>
        { x with state := .tagging, finish := some (Finish.begin (q.length.getD 0)) } := by
      obtain ⟨_, _, _, same⟩ := books
      exact takeClose_tags own (by rw [same]; exact kind) (by rw [same]; exact length)
    rw [tags] at taken framed only
    have record : ((u.written x p n bytes r).outboundRequest n (strobedAt bytes p.off 14)
        (strobesIn bytes p.off 32 Config.slotBytes)).slotRec n = some q.closed := by
      rw [taken]
      exact setRec_self (fun x => { x with state := .tagging, finish := some (Finish.begin (q.length.getD 0)) }) own
    obtain ⟨g, entry, reshaped⟩ := written_entry (x := x) (p := p) (n := n) (r := r) (bytes := bytes) ages
    obtain ⟨kept, access, strobes⟩ := reshaped.write _ rfl
    have strobed : (strobedAt kept p.off 14).isSome = true := by
      rw [strobedAt_isSome strobes, strobedAt_judged, if_pos (by decide), close]
      rfl
    obtain ⟨v, strobed⟩ := Option.isSome_iff_exists.1 strobed
    obtain ⟨b, remembers⟩ := q.closed.remembers_only (strobesIn bytes p.off 14 16)
    refine ⟨⟨q, b, ?_, books⟩, ?_, ?_, ?_, ?_, fun dry => ?_⟩
    · rw [State.settle_slotRec, finishWrite_self u.stamp record, remembers]
    · refine ⟨_, finishWrite_mirrors (id := u.stamp) record (by rw [taken]; rfl) entry (by rw [reshaped.rest]; rfl) access
        strobed, (Bus.entry_id entry :), _, rfl, ?_⟩
      rw [strobedAt_mirror, if_pos rfl, strobed, remembers]
      rfl
    · rw [State.settle_keys, only]
      exact served.store
    · rw [State.settle_channels]
      exact all.channels
    · refine SameNotices.settle ?_
      unfold SameNotices
      rw [all.notices]
      rfl
    · have written := written_dry u x n r dry
      refine ⟨fun m hm => ?_, ?_, ?_, ?_⟩
      · rw [State.settle_slotRec, finishWrite_others _ _ _ _ _ _ hm, taken, written]
        exact (setRec_others _ n _ m hm).trans (captured_others u n bytes p.off m hm)
      · rw [State.settle_ks, only, written]
        rfl
      · rw [State.settle_merges, only, written]
        rfl
      · rw [State.settle_faults, only, written]
        rfl

theorem keyRole_of_cur {s : State} {k : Fin 32} {c : Fin 16} (owner : (s.key k).owner = some c)
    (cur : (s.chan c).cur = some k) : s.keyRole k = some .current := by
  unfold State.keyRole
  rw [owner]
  exact if_pos cur

/-- A step that meets the record of r and closes it: what every CLOSE says, whatever opened the record. -/
theorem Closed.settled {s u t : State} {x : Transaction} {p : Place} {n : Nat} {r q w : SlotRec}
    {bytes : List (Option Byte)} (h : Closed u t x p n bytes w (w.capture bytes p.off)) (meters : SameMeters s u)
    (role : w.role = r.role) (window : w.window = r.window) (slot : w.slot = r.slot) (kind : w.kind = r.kind)
    (length : w.length = r.length) (channel : w.channel = q.channel) (key : w.key = q.key) (seq : w.seq = q.seq)
    (gen : w.gen = q.gen) :
    SameMeters s t ∧
      ((r.capture bytes p.off).kind ≠ some kindData →
        (∃ w, t.slotRec n = some w ∧ w.state = .failed ∧ w.reason = .badKind ∧ w.key = none ∧ w.channel = q.channel) ∧
        ResultAsked t n r .failed .badKind) ∧
      ((r.capture bytes p.off).kind = some kindData → 2016 < (r.capture bytes p.off).length.getD 0 →
        (∃ w, t.slotRec n = some w ∧ w.state = .failed ∧ w.reason = .badLength ∧ w.key = none ∧
          w.channel = q.channel) ∧
        ResultAsked t n r .failed .badLength) ∧
      ((r.capture bytes p.off).kind = some kindData → (r.capture bytes p.off).length.getD 0 ≤ 2016 →
        ∃ w, t.slotRec n = some w ∧ w.state = .tagging ∧ w.channel = q.channel ∧ w.key = q.key ∧ w.seq = q.seq ∧
          w.gen = q.gen ∧ w.finish = some ⟨.waiting, (r.capture bytes p.off).length.getD 0, none, none, none⟩) := by
  have kind' : (w.capture bytes p.off).kind = (r.capture bytes p.off).kind :=
    congrArg (Option.or (strobedAt bytes p.off 1)) kind
  have length' : (w.capture bytes p.off).length = (r.capture bytes p.off).length :=
    congrArg (captureLength · _ _) length
  have asked {why : Reason} (g : ResultAsked t n w .failed why) : ResultAsked t n r .failed why := by
    obtain ⟨a, mem, op, start, access⟩ := g
    refine ⟨a, mem, by rw [op, role], start.trans ?_, access⟩
    unfold State.slotBase
    simp only [window, slot]
  rw [← kind', ← length']
  refine ⟨⟨h.meters.1.trans meters.1, h.meters.2.trans meters.2⟩, fun bad => ?_, fun data long => ?_, fun data short => ?_⟩
  · obtain ⟨⟨v, own, _, _, _, rfl⟩, wanted, -⟩ := h.failed .badKind (.inl ⟨rfl, bad⟩)
    exact ⟨⟨_, own, rfl, rfl, rfl, channel⟩, asked wanted⟩
  · obtain ⟨⟨v, own, _, _, _, rfl⟩, wanted, -⟩ := h.failed .badLength (.inr ⟨rfl, data, long⟩)
    exact ⟨⟨_, own, rfl, rfl, rfl, channel⟩, asked wanted⟩
  · obtain ⟨⟨v, b, own, _, _, _, rfl⟩, -⟩ := h.tagging data short
    exact ⟨_, own, rfl, channel, key, seq, gen, rfl⟩

/-- Settles O20: the slot is FILLING when the CLOSE is judged, whether the write found it so or opened it. -/
theorem closeIsJudged : Obligations.CloseIsJudged := by
  intro x s p n r q bytes c k id ages h write close which
  have strobes : strobesIn bytes p.off 0 16 = true := strobesIn_of_strobedAt close (by decide) (by decide)
  rcases which with ⟨filling, rfl, rfl⟩ | ⟨free, bound, admitted, rfl, rfl⟩
  · have direct : s.outboundWrite x p n bytes = s.writeOutbound x p n bytes := by
      rw [outboundWrite_eq h.slotRec (.inr strobes), filling]
    refine ⟨_, exec_outboundClearWrite h write, ?_⟩
    rw [direct]
    have closed := writeOutbound_closed (x := x) ages h.slotRec filling close
    obtain ⟨meters, badKind, badLength, tags⟩ := closed.settled (r := q) (q := q) ⟨rfl, rfl⟩ rfl rfl rfl rfl rfl rfl rfl rfl rfl
    refine ⟨meters, badKind, badLength, fun data short => ?_, fun y _ free => absurd (filling.symm.trans free) (by decide)⟩
    obtain ⟨-, entry, keys, channels, notices, dry⟩ := closed.tagging data short
    refine ⟨tags data short, entry, fun free => absurd (filling.symm.trans free) (by decide), fun _ => ⟨⟨keys, channels⟩, notices⟩,
      fun none => ?_⟩
    obtain ⟨others, ks, merges, faults⟩ := dry none
    exact ⟨others, ks, merges, fun _ => faults⟩
  · have opens : opensOutbound bytes p.off = true := by
      simp [opensOutbound, strobes, close]
    refine ⟨_, exec_outboundClearWrite h write, ?_⟩
    rw [outboundWrite_opens h.slotRec free opens, openOutbound_admitted h.slotRec bound admitted]
    have judging := judging_judgeMarks (s.openedFrame n c k) k
    have own : ((s.openedFrame n c k).judgeMarks k).slotRec n = some (r.opened c k (s.key k) s.stamp) := by
      unfold State.slotRec
      rw [judging.frames.1]
      exact openedFrame_slotRec h.slotRec c k
    have ages' : ((s.openedFrame n c k).judgeMarks k).agesSound := by
      obtain ⟨order, below, order', below'⟩ := ages
      unfold State.agesSound
      rw [judging.bus, judging.stamp]
      exact ⟨order, fun e he => Nat.lt_succ_of_lt (below e he), order', fun e he => Nat.lt_succ_of_lt (below' e he)⟩
    have closed := writeOutbound_closed (x := x) ages' own rfl close
    obtain ⟨meters, badKind, badLength, tags⟩ := closed.settled (s := s) (r := r) (q := { r with
      channel := some c, gen := some (s.key k).gen, seq := some (BitVec.ofNat 32 (s.key k).nextSeq),
      key := some (.slot k) }) judging.meters rfl rfl rfl rfl rfl rfl rfl rfl rfl
    have keyOf (j : Fin 32) (hj : j ≠ k) : ((s.openedFrame n c k).judgeMarks k).key j = s.key j := by
      rw [judging.others j hj, openedFrame_key, if_neg hj]
    have flags := judging.flags
    rw [openedFrame_key, if_pos rfl] at flags
    refine ⟨meters, badKind, badLength, fun data short => ?_, ?_⟩
    · obtain ⟨-, ⟨e, mem, id, b, access, mirror⟩, keys, channels, -, dry⟩ := closed.tagging data short
      have same (j : Fin 32) : (((s.openedFrame n c k).judgeMarks k).writeOutbound x p n bytes).settle.key j =
          ((s.openedFrame n c k).judgeMarks k).key j := by
        unfold State.key
        rw [keys]
      refine ⟨tags data short, ⟨e, mem, id.trans judging.stamp, b, access, mirror⟩, fun _ => ⟨?_, fun j hj => ?_⟩,
        fun filling => absurd (free.symm.trans filling) (by decide), fun none => ?_⟩
      · rw [same, flags]
        rfl
      · rw [same, keyOf j hj]
      · obtain ⟨others, ks, merges, faults⟩ := dry none
        refine ⟨fun m hm => ?_, ks.trans judging.frames.2.1, merges.trans judging.frames.2.2, 
          fun filling => absurd (free.symm.trans filling) (by decide)⟩
        rw [others m hm]
        unfold State.slotRec
        rw [judging.frames.1]
        exact setRec_others s n (fun r => r.opened c k (s.key k) s.stamp) m hm
    · rintro y rfl - owner -
      have cur := admission_ok admitted
      have budgeted := openedFrame_budgeted owner cur n
      have role : ((s.openedFrame n c k).judgeMarks k).keyRole k ≠ none := by
        rw [keyRole_of_cur (c := c) (by rw [flags]; exact owner) (by unfold State.chan; rw [judging.channels]; exact cur)]
        exact Option.some_ne_none _
      have given (bad : (r.capture bytes p.off).kind ≠ some kindData ∨ 2016 < (r.capture bytes p.off).length.getD 0) :
          (((s.openedFrame n c k).judgeMarks k).writeOutbound x p n bytes).settle.key k =
            { ((s.openedFrame n c k).judgeMarks k).key k with
              refs := (((s.openedFrame n c k).judgeMarks k).key k).refs - 1 } := by
        by_cases kind : (r.capture bytes p.off).kind = some kindData
        · have long := bad.resolve_left (not_not.2 kind)
          exact ((closed.failed .badLength (.inr ⟨rfl, kind, long⟩)).2.2 k rfl role k).trans (if_pos rfl)
        · exact ((closed.failed .badKind (.inl ⟨rfl, kind⟩)).2.2 k rfl role k).trans (if_pos rfl)
      obtain ⟨refs, key⟩ : ∃ refs, (((s.openedFrame n c k).judgeMarks k).writeOutbound x p n bytes).settle.key k =
          { ((s.openedFrame n c k).judgeMarks k).key k with refs := refs } := by
        by_cases bad : (r.capture bytes p.off).kind ≠ some kindData ∨ 2016 < (r.capture bytes p.off).length.getD 0
        · exact ⟨_, given bad⟩
        · obtain ⟨kind, short⟩ := not_or.1 bad
          obtain ⟨-, -, keys, -⟩ := closed.tagging (not_not.1 kind) (Nat.not_lt.1 short)
          refine ⟨(((s.openedFrame n c k).judgeMarks k).key k).refs, ?_⟩
          unfold State.key
          rw [keys]
      refine ⟨?_, ?_, fun bad => ?_, budgeted.flagsJudged rfl (by rw [key]) (by rw [key]),
        budgeted.listJudged rfl rfl closed.list⟩
      · rw [key, flags]
        rfl
      · rw [key, flags]
        rfl
      · rw [given bad, flags]
        rfl

end Sys2Proof.Machine
end

section
/-!
SUPPORT. The payload of an outbound slot: what of a clear-side write is left in the transit table.
-/

namespace Sys2Proof.Machine

-- One theorem at a time: elaborated side by side, each would hold a stack of its own.
set_option Elab.async false

/-! ## No operation strobes a byte anew -/

/-- An entry that strobes no byte that another does not, of a run of the same length. -/
def Shrunk (e f : TransitEntry) : Prop :=
  f.id = e.id ∧ ∀ out, f.access = .write out → ∃ was, e.access = .write was ∧ out.length = was.length ∧
    ∀ i : Nat, (was[i]?).join = none → (out[i]?).join = none

/-- Every transit table entry of t is one of s, with no byte strobed anew. -/
def Shrinks (s t : State) : Prop := ∀ f ∈ t.bus.transit, ∃ e ∈ s.bus.transit, Shrunk e f

section Shrinks

variable {s t u : State}

theorem Shrunk.refl (e : TransitEntry) : Shrunk e e := ⟨rfl, fun out h => ⟨out, h, rfl, fun _ h => h⟩⟩

theorem Shrunk.trans {e f g : TransitEntry} (h : Shrunk e f) (k : Shrunk f g) : Shrunk e g := by
  refine ⟨k.1.trans h.1, fun out access => ?_⟩
  obtain ⟨mid, access', length', none'⟩ := k.2 out access
  obtain ⟨was, access, length, none⟩ := h.2 mid access'
  exact ⟨was, access, length'.trans length, fun i dry => none' i (none i dry)⟩

theorem shrinks_of_transit (h : t.bus.transit = s.bus.transit) : Shrinks s t := by
  intro f hf
  rw [h] at hf
  exact ⟨f, hf, Shrunk.refl f⟩

theorem Shrinks.refl (s : State) : Shrinks s s := shrinks_of_transit rfl

theorem Shrinks.trans (h : Shrinks s t) (g : Shrinks t u) : Shrinks s u := by
  intro f hf
  obtain ⟨e, he, shrunk⟩ := g f hf
  obtain ⟨d, hd, shrunk'⟩ := h e he
  exact ⟨d, hd, shrunk'.trans shrunk⟩

theorem shrinks_setEntry (s : State) (id : Nat) {f : TransitEntry → TransitEntry}
    (h : ∀ e ∈ s.bus.transit, e.id = id → ∃ d ∈ s.bus.transit, Shrunk d (f e)) : Shrinks s (s.setEntry id f) := by
  intro g hg
  obtain ⟨e, he, rfl⟩ := List.mem_map.1 hg
  split
  next same => exact h e he (eq_of_beq same)
  next => exact ⟨e, he, Shrunk.refl e⟩

theorem shrinks_settle (s : State) : Shrinks s s.settle := by
  intro f hf
  rw [State.settle_transit] at hf
  exact ⟨f, (List.mem_filter.1 hf).1, Shrunk.refl f⟩

theorem shrinks_foldl {α : Type} {f : State → α → State} (step : ∀ u a, Shrinks u (f u a)) (l : List α) (s : State) :
    Shrinks s (l.foldl f s) := by
  induction l generalizing s with
  | nil => exact Shrinks.refl s
  | cons a l ih => exact (step s a).trans (ih _)

theorem Reshaped.shrunk {e f : TransitEntry} (h : Reshaped e f) : Shrunk e f := by
  refine ⟨by rw [h.rest], fun out access => ?_⟩
  cases was : e.access with
  | read n => exact absurd ((h.read n was).symm.trans access) (by simp)
  | write bytes =>
    obtain ⟨kept, access', strobes⟩ := h.write bytes was
    cases access'.symm.trans access
    refine ⟨bytes, rfl, by simpa using congrArg List.length strobes, fun i dry => ?_⟩
    have same : (out[i]?).map Option.isSome = (bytes[i]?).map Option.isSome := by
      rw [← List.getElem?_map, ← List.getElem?_map, strobes]
    cases was : bytes[i]? <;> cases now : out[i]? <;> simp_all

theorem shrunk_fed (e : TransitEntry) (beat : Nat) (ks : Block) : Shrunk e (e.fed beat ks) :=
  (reshaped_fed e beat ks).shrunk

/-- A change of an entry's beat states alone strobes nothing. -/
theorem shrunk_beatKeys (e : TransitEntry) (keys : List BeatKey) : Shrunk e { e with beatKeys := keys } :=
  ⟨rfl, fun out h => ⟨out, h, rfl, fun _ h => h⟩⟩

theorem shrinks_serveBeat (s : State) (w : Waiter) (ks : Block) : Shrinks s (s.serveBeat w ks) := by
  unfold State.serveBeat
  dsimp only
  split
  · exact Shrinks.refl s
  next e found =>
    have fed : Shrunk e (e.fed w.beat ks) := shrunk_fed e w.beat ks
    split
    · exact shrinks_setEntry s w.entry fun x hx _ => ⟨x, hx, shrunk_beatKeys x _⟩
    next bytes access =>
      rw [fed_write access] at fed
      have set := shrinks_setEntry s w.entry (f := fun _ => { e with
        access := .write (encipherBeat bytes w.beat (halfOf ks ((e.start / 8 + w.beat) % 2 == 1)))
        beatKeys := e.beatKeys.set w.beat .none }) fun _ _ _ => ⟨e, mem_of_entry found, fed⟩
      split
      · exact set
      · exact set.trans (shrinks_of_transit (sameBeats_blockStep _ _ _).1)

theorem shrinks_withdrawBeat (s : State) (w : Waiter) : Shrinks s (s.withdrawBeat w) := by
  refine shrinks_setEntry s w.entry fun e he _ => ⟨e, he, ?_⟩
  split
  · exact shrunk_beatKeys e _
  next bytes access =>
    refine ⟨rfl, fun out h => ⟨bytes, access, ?_, fun i dry => ?_⟩⟩
    · cases h
      simp [dropBeat]
    · cases h
      unfold dropBeat
      rw [List.getElem?_map, List.getElem?_zipIdx]
      cases was : bytes[i]? with
      | none => rfl
      | some b =>
        rw [was] at dry
        dsimp only [Option.map_some]
        split
        · rfl
        · exact dry

theorem shrinks_lookupBeat (s : State) (o : OverflowBeat) : Shrinks s (s.lookupBeat o) := by
  cases hit : s.ks.cached o.key o.ctr with
  | some ks =>
    rw [lookupBeat_hit hit]
    exact shrinks_serveBeat s o.who ks
  | none =>
    obtain ⟨_, _, _, same⟩ := lookupBeat_missed hit
    rw [same]
    exact shrinks_of_transit rfl

theorem shrinks_serveOverflowList (l : List OverflowBeat) (s : State) : Shrinks s (State.serveOverflowList l s) := by
  induction l generalizing s with
  | nil => exact shrinks_of_transit rfl
  | cons o rest ih =>
    unfold State.serveOverflowList
    split
    · exact (shrinks_lookupBeat s o).trans (ih _)
    · exact shrinks_of_transit rfl

theorem shrinks_lookedUp (s : State) (e : TransitEntry) (fills : Bool) (r : SlotRec) : Shrinks s (s.lookedUp e fills r) := by
  unfold State.lookedUp
  (repeat' split)
  · rw [lookupBeats_eq]
    refine shrinks_foldl (fun u p => ?_) _ s
    unfold State.lookupStep
    split
    · exact shrinks_lookupBeat u _
    · exact Shrinks.refl u
  · exact Shrinks.refl s
  · exact Shrinks.refl s

theorem shrinks_dropRefOf (s : State) (k : Option (Fin 32)) : Shrinks s (s.dropRefOf k) := by
  cases k with
  | none => exact Shrinks.refl s
  | some k =>
    refine Shrinks.trans (t := s.untakeRef k) (shrinks_of_transit rfl) ?_
    change Shrinks (s.untakeRef k) ((s.untakeRef k).judgeKey k)
    unfold State.judgeKey
    (repeat' split)
    · exact Shrinks.refl _
    · exact Shrinks.refl _
    · refine Shrinks.trans (t := (s.untakeRef k).withdrawKeystream k) ?_ (shrinks_of_transit rfl)
      rw [withdrawKeystream_eq]
      refine Shrinks.trans (t := (s.untakeRef k).keystreamPurged k) (shrinks_of_transit rfl) ?_
      exact (shrinks_foldl shrinks_withdrawBeat _ _).trans (shrinks_serveOverflowList _ _)
    · exact shrinks_of_transit rfl
    · exact shrinks_of_transit rfl

theorem askResult_transit (s : State) (n : Nat) : (s.askResult n).bus.transit = s.bus.transit := by
  unfold State.askResult
  split <;> rfl

theorem shrinks_failOutbound (s : State) (n : Nat) (why : Reason) : Shrinks s (s.failOutbound n why) :=
  Shrinks.trans (t := s.failRec n why) (shrinks_of_transit (askResult_transit _ n)) (shrinks_dropRefOf _ _)

theorem shrinks_takeClose (s : State) (n : Nat) : Shrinks s (s.takeClose n) := by
  unfold State.takeClose
  split
  · exact Shrinks.refl s
  · dsimp only
    split
    · exact shrinks_failOutbound s n _
    · split
      · exact shrinks_failOutbound s n _
      · exact shrinks_of_transit rfl

theorem shrinks_outboundRequest (s : State) (n : Nat) (v : Option Byte) (payload : Bool) :
    Shrinks s (s.outboundRequest n v payload) := by
  have release : Shrinks s (s.releaseRec n) :=
    Shrinks.trans (t := s.freshen n) (shrinks_of_transit rfl) (shrinks_dropRefOf _ _)
  unfold State.outboundRequest
  (repeat' split)
  · exact shrinks_takeClose s n
  · exact Shrinks.refl s
  · exact release
  · exact Shrinks.refl s
  · exact release
  · exact Shrinks.refl s
  · exact Shrinks.refl s

theorem shrinks_mirrorEntry (s : State) (id n off : Nat) : Shrinks s (s.mirrorEntry id n off) := by
  unfold State.mirrorEntry
  split
  · exact Shrinks.refl s
  next r _ =>
    refine shrinks_setEntry s id fun e he _ => ⟨e, he, ?_⟩
    split
    next bytes access =>
      refine ⟨rfl, fun out h => ⟨bytes, access, ?_, fun i dry => ?_⟩⟩
      · cases h
        exact mapOffsets_length _ _ _
      · cases h
        unfold mirrorBytes
        rw [mapOffsets_getElem?]
        cases was : bytes[i]? with
        | none => rfl
        | some b =>
          rw [was] at dry
          change b = none at dry
          subst dry
          dsimp only [Option.map_some, Option.join_some]
          (repeat' split) <;> rfl
    next => exact Shrunk.refl e

end Shrinks

/-- A byte that an entry does not strobe is not strobed by one that strobes nothing anew. -/
theorem Shrunk.strobedAt {e f : TransitEntry} (h : Shrunk e f) {was out : List (Option Byte)} (before : e.access = .write was)
    (after : f.access = .write out) {off k : Nat} (dry : strobedAt was off k = none) : strobedAt out off k = none := by
  obtain ⟨bytes, access, -, none⟩ := h.2 out after
  cases access.symm.trans before
  unfold Machine.strobedAt at dry ⊢
  split
  next le =>
    rw [if_pos le] at dry
    exact none _ dry
  next => rfl

end Sys2Proof.Machine
end

section
/-!
SUPPORT. The payload of a clear-side write: enciphered, or waiting, or dropped (R51, R57, R66, R67).
-/

namespace Sys2Proof.Machine

-- One theorem at a time: elaborated side by side, each would hold a stack of its own.
set_option Elab.async false

/-! ## What is left of a write in the transit table -/

section Left

variable {s : State} {x : Transaction} {p : Place} {n : Nat} {r : SlotRec} {bytes : List (Option Byte)}

theorem shrinks_finishWrite (s : State) (id n off : Nat) (bytes : List (Option Byte)) :
    Shrinks s (s.finishWrite id n off bytes) :=
  ((shrinks_outboundRequest s n _ _).trans (shrinks_of_transit (by rw [noteRetouch_transit]))).trans
    (shrinks_mirrorEntry _ id n off)

/-- Nothing of a write is left but what R51 judges, in its own entry. -/
theorem shrinks_writeOutbound (h : s.slotRec n = some r) :
    Shrinks (s.enter (s.clearEntry x p bytes r)) (s.writeOutbound x p n bytes) := by
  have answered : Shrinks (s.enter (s.clearEntry x p bytes r)) ((s.captured n bytes p.off).answer x true) :=
    fun f hf => ⟨f, List.mem_append_left _ hf, Shrunk.refl f⟩
  have entered : Shrinks (s.enter (s.clearEntry x p bytes r))
      ((s.captured n bytes p.off).enter (s.clearEntry x p bytes r)) := shrinks_of_transit rfl
  by_cases filling : r.state = .filling
  · rw [writeOutbound_filling h filling]
    split
    · exact answered
    · exact (entered.trans (shrinks_lookedUp _ _ _ _)).trans (shrinks_finishWrite _ _ _ _ _)
  · have dry : (decide (r.state = .filling) && strobesIn bytes p.off 32 Config.slotBytes) = false := by simp [filling]
    cases empty : (judgedBytes bytes p.off false).all Option.isNone with
    | true =>
      rw [writeOutbound_answered h (by rw [dry]; exact empty)]
      exact answered
    | false =>
      rw [writeOutbound_dry h dry empty]
      exact entered.trans (shrinks_finishWrite _ _ _ _ _)

/-- The bytes a write keeps of those it strobes, by whether it fills the slot. -/
theorem clearEntry_access (s : State) (x : Transaction) (p : Place) (bytes : List (Option Byte)) (r : SlotRec) :
    (s.clearEntry x p bytes r).access = .write (judgedBytes bytes p.off
      (decide (r.state = .filling) && strobesIn bytes p.off 32 Config.slotBytes)) := rfl

/-- An entry that a clear-side write leaves and that was not there before is the write's own: of its length, and without
the tag bytes, and without the payload unless the slot is filled (R51). -/
structure Left (off : Nat) (bytes : List (Option Byte)) (keep : Bool) (f : TransitEntry) : Prop where
  length : ∀ out, f.access = .write out → out.length = bytes.length
  dry : ∀ out, f.access = .write out → ∀ k, strobedAt (judgedBytes bytes off keep) off k = none →
    strobedAt out off k = none

theorem left_of_writeOutbound {u : State} (h : u.slotRec n = some r) (below : ∀ e ∈ u.bus.transit, e.id < s.stamp)
    {f : TransitEntry} (hf : f ∈ (u.writeOutbound x p n bytes).settle.bus.transit) (new : s.stamp ≤ f.id) :
    Left p.off bytes (decide (r.state = .filling) && strobesIn bytes p.off 32 Config.slotBytes) f := by
  obtain ⟨e, he, shrunk⟩ := ((shrinks_writeOutbound (x := x) (bytes := bytes) h).trans (shrinks_settle _)) f hf
  rcases List.mem_append.1 he with old | own
  · exact absurd (shrunk.1 ▸ new) (Nat.not_le.2 (below e old))
  · cases List.mem_singleton.1 own
    refine ⟨fun out access => ?_, fun out access k dry => shrunk.strobedAt (clearEntry_access u x p bytes r) access dry⟩
    obtain ⟨was, access', length, -⟩ := shrunk.2 out access
    cases access'.symm.trans (clearEntry_access u x p bytes r)
    exact length.trans (mapOffsets_length _ _ _)

theorem strobedAt_judged_tag (bytes : List (Option Byte)) (off : Nat) (keep : Bool) {k : Nat} (low : 16 ≤ k) (high : k < 32) :
    strobedAt (judgedBytes bytes off keep) off k = none := by
  rw [strobedAt_judged, if_neg (by omega), if_pos high]

theorem strobedAt_judged_dropped (bytes : List (Option Byte)) (off : Nat) {k : Nat} (low : 16 ≤ k) :
    strobedAt (judgedBytes bytes off false) off k = none := by
  rw [strobedAt_judged, if_neg (by omega)]
  split <;> rfl

theorem strobedAt_judged_payload (bytes : List (Option Byte)) (off : Nat) {k : Nat} (low : 32 ≤ k) :
    strobedAt (judgedBytes bytes off true) off k = strobedAt bytes off k := by
  rw [strobedAt_judged, if_neg (by omega), if_neg (by omega), if_pos rfl]

end Left

/-! ## The ways of a clear-side write (R51) -/

/-- The five ways of a clear-side write, by the record it meets. -/
inductive Way (s : State) (x : Transaction) (p : Place) (n : Nat) (bytes : List (Option Byte)) (r : SlotRec) :
    State → Prop where
  | empty (none : strobesIn bytes p.off 32 2048 = false ∧ strobesIn bytes p.off 0 16 = false) : Way s x p n bytes r
      (s.answer x true)
  | direct (state : r.state ≠ .free ∨ opensOutbound bytes p.off = false)
      (kept : strobesIn bytes p.off 32 2048 = false ∨ (r.state ≠ .tagging ∧ r.state ≠ .tagged))
      (some : strobesIn bytes p.off 32 2048 = true ∨ strobesIn bytes p.off 0 16 = true) :
      Way s x p n bytes r (s.writeOutbound x p n bytes)
  | opens (state : r.state = .free) (opens : opensOutbound bytes p.off = true) :
      Way s x p n bytes r ((s.openOutbound n x.initiator).writeOutbound x p n bytes)
  | tagging (state : r.state = .tagging) (payload : strobesIn bytes p.off 32 2048 = true) :
      Way s x p n bytes r ((s.disturb n).dropOutbound x p n bytes r)
  | tagged (state : r.state = .tagged) (payload : strobesIn bytes p.off 32 2048 = true) :
      Way s x p n bytes r (s.dropOutbound x p n bytes r)

theorem outboundWrite_way {s : State} {x : Transaction} {p : Place} {n : Nat} {r : SlotRec} {bytes : List (Option Byte)}
    (h : s.slotRec n = some r) : Way s x p n bytes r (s.outboundWrite x p n bytes) := by
  by_cases some' : strobesIn bytes p.off 32 2048 = true ∨ strobesIn bytes p.off 0 16 = true
  case neg =>
    obtain ⟨payload, header⟩ := not_or.1 some'
    have none := And.intro (Bool.eq_false_iff.2 payload) (Bool.eq_false_iff.2 header)
    have answered : s.outboundWrite x p n bytes = s.answer x true := by
      unfold State.outboundWrite
      rw [h]
      refine if_pos ?_
      rw [show strobesIn bytes p.off 32 Config.slotBytes = false from none.1, none.2]
      rfl
    rw [answered]
    exact .empty none
  have eq := outboundWrite_eq (x := x) h some'
  cases state : r.state <;> rw [state] at eq <;> dsimp only at eq
  case free =>
    by_cases opens : opensOutbound bytes p.off = true
    · rw [eq, if_pos opens]
      exact .opens state opens
    · rw [eq, if_neg opens]
      exact .direct (.inr (Bool.eq_false_iff.2 opens)) (.inr (by rw [state]; decide)) some'
  case tagging =>
    by_cases payload : strobesIn bytes p.off 32 Config.slotBytes = true
    · rw [eq, if_pos payload]
      exact .tagging state payload
    · rw [eq, if_neg payload]
      exact .direct (.inl (by rw [state]; decide)) (.inl (Bool.eq_false_iff.2 payload)) some'
  case tagged =>
    by_cases payload : strobesIn bytes p.off 32 Config.slotBytes = true
    · rw [eq, if_pos payload]
      exact .tagged state payload
    · rw [eq, if_neg payload]
      exact .direct (.inl (by rw [state]; decide)) (.inl (Bool.eq_false_iff.2 payload)) some'
  all_goals
    rw [eq]
    exact .direct (.inl (by rw [state]; decide)) (.inr (by rw [state]; decide)) some'

/-- A FREE slot's record after the first step of a write that opens it: opened, failed, or, its window without a channel,
as it was; the transit table is the same. -/
theorem openOutbound_record {s : State} {n : Nat} {r : SlotRec} (h : s.slotRec n = some r) (free : r.state = .free)
    (i : Fin 16) : (s.openOutbound n i).bus.transit = s.bus.transit ∧ ∃ q, (s.openOutbound n i).slotRec n = some q ∧
      (q.state = .filling → ∃ c k, s.boundChannel r = some c ∧ s.admission c = .ok k) := by
  cases bound : s.boundChannel r with
  | none =>
    have same : s.openOutbound n i = s := by
      unfold State.openOutbound
      rw [h]
      dsimp only [Option.bind_some]
      rw [bound]
    rw [same]
    exact ⟨rfl, r, h, fun filling => absurd (free.symm.trans filling) (by decide)⟩
  | some c =>
    cases admitted : s.admission c with
    | ok k =>
      rw [openOutbound_admitted h bound admitted]
      have judging := judging_judgeMarks (s.openedFrame n c k) k
      refine ⟨by rw [judging.bus]; rfl, r.opened c k (s.key k) s.stamp, ?_, fun _ => ⟨c, k, rfl, admitted⟩⟩
      unfold State.slotRec
      rw [judging.frames.1]
      exact openedFrame_slotRec h c k
    | error why =>
      rw [openOutbound_failed h bound admitted]
      refine ⟨?_, r.declined c why, (failAdmission_keeps h c why i).2.2.2.2.1, fun filling => by cases filling⟩
      rw [failAdmission_eq h]
      have declined : (s.declinedOpening n c why).bus.transit = s.bus.transit := askResult_transit _ n
      cases admissionFault why with
      | none => exact declined
      | some cls => exact (recordFault_transit _ _).trans declined

theorem dropOutbound_transit (s : State) (x : Transaction) (p : Place) (n : Nat) (bytes : List (Option Byte)) (r : SlotRec) :
    (s.dropOutbound x p n bytes r).bus.transit = s.bus.transit := recordFault_transit _ _

/-- What a clear-side write leaves in the transit table, whatever the record it meets (R51, R54, R67). -/
theorem outboundWrite_left {s : State} (ages : s.agesSound) {x : Transaction} {p : Place} {n : Nat} {r : SlotRec}
    {bytes : List (Option Byte)} (h : s.slotRec n = some r) {f : TransitEntry}
    (hf : f ∈ (s.outboundWrite x p n bytes).settle.bus.transit) (new : s.stamp ≤ f.id) :
    ∃ keep, Left p.off bytes keep f ∧ (r.state = .failed ∨ (r.state = .free ∧ opensOutbound bytes p.off = true ∧
      ∃ c, s.boundChannel r = some c ∧ ∀ k, s.admission c ≠ .ok k) → keep = false) := by
  obtain ⟨-, below, -⟩ := ages
  have old {t : State} (transit : t.bus.transit = s.bus.transit) (hf : f ∈ t.settle.bus.transit) : False := by
    obtain ⟨e, he, shrunk⟩ := ((shrinks_of_transit transit).trans (shrinks_settle t)) f hf
    exact Nat.not_le.2 (below e he) (shrunk.1 ▸ new)
  have way := outboundWrite_way (x := x) (p := p) (bytes := bytes) h
  generalize s.outboundWrite x p n bytes = t at way hf
  cases way with
  | empty => exact (old (t := s.answer x true) rfl hf).elim
  | direct state =>
    refine ⟨_, left_of_writeOutbound h below hf new, fun dry => ?_⟩
    have filling : r.state ≠ .filling := by
      rcases dry with failed | ⟨free, -⟩
      · rw [failed]
        decide
      · rw [free]
        decide
    simp [filling]
  | opens free opens =>
    obtain ⟨transit, q, own, admits⟩ := openOutbound_record h free x.initiator
    refine ⟨_, left_of_writeOutbound own (by rw [transit]; exact below) hf new, fun dry => ?_⟩
    have filling : q.state ≠ .filling := by
      intro filling
      obtain ⟨c, k, bound, admitted⟩ := admits filling
      rcases dry with failed | ⟨-, -, d, bound', none⟩
      · rw [free] at failed
        cases failed
      · cases bound.symm.trans bound'
        exact none k admitted
    simp [filling]
  | tagging => exact (old (dropOutbound_transit (s.disturb n) x p n bytes r) hf).elim
  | tagged => exact (old (dropOutbound_transit _ x p n bytes r) hf).elim

/-! ## The beats of a write in FILLING (R32, R43, R45, R57) -/

/-- The strobes a write keeps of its payload are those it has. -/
theorem strobesIn_judged (bytes : List (Option Byte)) (off : Nat) {lo hi : Nat} (low : 32 ≤ lo) :
    strobesIn (judgedBytes bytes off true) off lo hi = strobesIn bytes off lo hi := by
  rw [Bool.eq_iff_iff, strobesIn_iff, strobesIn_iff]
  constructor <;> rintro ⟨k, v, le, lt, at'⟩ <;> refine ⟨k, v, le, lt, ?_⟩
  · rwa [strobedAt_judged_payload bytes off (low.trans le)] at at'
  · rwa [strobedAt_judged_payload bytes off (low.trans le)]

section Fills

variable {s : State} {x : Transaction} {p : Place} {n : Nat} {r : SlotRec} {bytes : List (Option Byte)} {k : Fin 32}

theorem untakeRef_sameBeats (s : State) (k : Fin 32) : SameBeats s (s.untakeRef k) := ⟨rfl, rfl, rfl, rfl⟩

theorem failRec_sameBeats (s : State) (n : Nat) (why : Reason) : SameBeats s (s.failRec n why) := by
  unfold State.failRec State.askResult
  split <;> exact ⟨rfl, rfl, rfl, rfl⟩

/-- A write's state request in FILLING leaves every beat as it is, while the slot's key has a role (R118). -/
theorem outboundRequest_sameBeats (h : s.slotRec n = some r) (filling : r.state = .filling) (key : r.keySlot = some k)
    {v : Option Byte} (role : v = some 1 → s.keyRole k ≠ none) (payload : Bool) :
    SameBeats s (s.outboundRequest n v payload) ∧ ∃ q, (s.outboundRequest n v payload).slotRec n = some q := by
  by_cases close : v = some 1
  case neg =>
    rw [outboundRequest_filling h filling close]
    exact ⟨SameBeats.refl s, r, h⟩
  have fails (why : Reason) : SameBeats s (s.failOutbound n why) ∧ ∃ q, (s.failOutbound n why).slotRec n = some q := by
    obtain ⟨⟨q, own, -⟩, -⟩ := failOutbound_result (why := why) h
    refine ⟨?_, q, own⟩
    obtain ⟨keys, channels⟩ := failRec_keys s n why
    rw [failOutbound_eq h, key]
    change SameBeats s ((s.failRec n why).dropRef k)
    rw [dropRef_of_role (by rw [keyRole_congr (by unfold State.key; rw [keys]) channels]; exact role close)]
    exact (failRec_sameBeats s n why).trans (untakeRef_sameBeats _ k)
  rw [close, outboundRequest_close h filling]
  by_cases kind : r.kind = some kindData
  · by_cases length : r.length.getD 0 ≤ 2016
    · rw [takeClose_tags h kind length]
      exact ⟨⟨rfl, rfl, rfl, rfl⟩, _, setRec_self (fun x => { x with
        state := .tagging, finish := some (Finish.begin (r.length.getD 0)) }) h⟩
    · rw [takeClose_badLength h kind (Nat.not_le.1 length)]
      exact fails _
  · rw [takeClose_badKind h kind]
    exact fails _

/-- The entry of a payload write to a FILLING slot. -/
theorem clearEntry_fills (filling : r.state = .filling) (payload : strobesIn bytes p.off 32 2048 = true) :
    s.clearEntry x p bytes r = s.outboundEntry x p (judgedBytes bytes p.off true) r true := by
  unfold State.clearEntry
  rw [show strobesIn bytes p.off 32 Config.slotBytes = true from payload, filling]
  rfl

theorem written_fills (x : Transaction) (n : Nat) (key : r.key = some (.slot k))
    (payload : strobesIn bytes p.off 32 2048 = true) : s.written x p n bytes r =
      ((s.captured n bytes p.off).enter (s.clearEntry x p bytes r)).lookupBeats (s.clearEntry x p bytes r) k
        (r.capture bytes p.off) := by
  have slot : (r.capture bytes p.off).keySlot = some k := by
    change r.keySlot = _
    unfold SlotRec.keySlot
    rw [key]
  unfold State.written State.lookedUp
  rw [slot]
  exact if_pos payload

/-- A beat that waits before the end of a write waits after it, when the state request leaves the beats as they are. -/
theorem awaits_finishWrite {id off : Nat} {w : Waiter} {ctr : Block}
    (h : SameBeats s (s.outboundRequest n (strobedAt bytes off 14) (strobesIn bytes off 32 Config.slotBytes)))
    (waits : s.awaits w k ctr) : (s.finishWrite id n off bytes).settle.awaits w k ctr := by
  obtain ⟨pool, l, only⟩ := finishWrite_only s id n off bytes
  obtain ⟨-, misses, overflow, -⟩ := h
  unfold State.awaits at waits ⊢
  rw [State.settle_ks, only]
  dsimp only
  rw [misses, overflow]
  exact waits

/-- A payload write to a FILLING slot: its entry, and the keystream of its beats. -/
theorem writeOutbound_keyed (ages : s.agesSound) (h : s.slotRec n = some r) (filling : r.state = .filling)
    (role : r.role = .outbound) (key : r.key = some (.slot k)) (payload : strobesIn bytes p.off 32 2048 = true)
    (closing : strobedAt bytes p.off 14 = some 1 → s.keyRole k ≠ none) (x : Transaction) :
    ∃ e ∈ (s.writeOutbound x p n bytes).settle.bus.transit, e.id = s.stamp ∧ e.start = x.start ∧ e.fills = true ∧
      e.opening = r.opening ∧ ∃ out, e.access = .write out ∧ ∀ i, i < bytes.length / 8 →
        (strobesIn bytes p.off (max 32 (p.off + 8 * i)) (p.off + 8 * i + 8) = false → e.beatKeys[i]? = some .none) ∧
        (strobesIn bytes p.off (max 32 (p.off + 8 * i)) (p.off + 8 * i + 8) = true →
          ∀ ctr, ctr = s.recBlock r (blockAt (x.start % 2048 + 8 * i)) →
          (∀ ks, s.ks.cached k ctr = some ks →
            e.beatKeys[i]? = some .none ∧ ∀ j, j < 8 → 32 ≤ p.off + 8 * i + j →
              strobedAt out p.off (p.off + 8 * i + j) = (strobedAt bytes p.off (p.off + 8 * i + j)).map
                (· ^^^ (beatBytes (halfOf ks ((x.start / 8 + i) % 2 == 1))).getD j 0)) ∧
          (s.ks.cached k ctr = none → e.beatKeys[i]? = some .waiting ∧
            (s.writeOutbound x p n bytes).settle.awaits ⟨s.stamp, i⟩ k ctr)) := by
  have own := entry_enter (s := s.captured n bytes p.off) ages (e := s.clearEntry x p bytes r) rfl
  have access := clearEntry_access s x p bytes r
  have form := clearEntry_fills (s := s) (x := x) (p := p) filling payload
  rw [show (decide (r.state = .filling) && strobesIn bytes p.off 32 Config.slotBytes) = true by
    rw [filling, show strobesIn bytes p.off 32 Config.slotBytes = true from payload]; rfl] at access
  have keys : (s.clearEntry x p bytes r).beatKeys = waitingBeats (bytes.length / 8) fun i =>
      strobesIn bytes p.off (max 32 (p.off + 8 * i)) (p.off + 8 * i + 8) := by
    rw [form]
    unfold State.outboundEntry
    dsimp only
    rw [show (judgedBytes bytes p.off true).length = bytes.length from mapOffsets_length _ _ _]
    exact congrArg _ (funext fun i => strobesIn_judged bytes p.off (le_max_left 32 _))
  obtain ⟨k₀, v₀, low, -, at₀⟩ := strobesIn_iff.1 payload
  have judged : strobedAt (judgedBytes bytes p.off true) p.off k₀ = some v₀ :=
    (strobedAt_judged_payload bytes p.off low).trans at₀
  have step : s.writeOutbound x p n bytes = (s.written x p n bytes r).finishWrite s.stamp n p.off bytes := by
    rw [writeOutbound_filling h filling, if_neg]
    rw [show strobesIn bytes p.off 32 Config.slotBytes = true from payload, not_all_none_of_strobedAt judged]
    exact Bool.false_ne_true
  obtain ⟨g, here, reshaped, -, beats⟩ := lookupBeats_entry own k (r.capture bytes p.off)
  obtain ⟨q, record, books⟩ := written_record h x p bytes
  have served := served_written s x p n bytes r
  have keyRole : (s.written x p n bytes r).keyRole k = s.keyRole k :=
    keyRole_congr (by unfold State.key; rw [served.store]; rfl) served.channels
  obtain ⟨same, q', record'⟩ := outboundRequest_sameBeats (k := k) record (by
      obtain ⟨_, _, _, rfl⟩ := books
      exact filling) (by
      obtain ⟨_, _, _, rfl⟩ := books
      change r.keySlot = _
      unfold SlotRec.keySlot
      rw [key]) (fun close => by rw [keyRole]; exact closing close) (strobesIn bytes p.off 32 Config.slotBytes)
  rw [step]
  rw [written_fills x n key payload] at record' same ⊢
  obtain ⟨kept, access', strobes⟩ := reshaped.write _ access
  have strobed : (strobedAt kept p.off k₀).isSome = true := by
    rw [strobedAt_isSome strobes, judged]
    rfl
  obtain ⟨v, strobed⟩ := Option.isSome_iff_exists.1 strobed
  have mem := finishWrite_mirrors (id := s.stamp) record' same.1 here (by rw [reshaped.rest]; rfl) access' strobed
  have payloadByte (j : Nat) (hj : 32 ≤ j) : strobedAt (mirrorBytes kept p.off (q'.remembers (strobesIn bytes p.off 14 16)))
      p.off j = strobedAt kept p.off j := by
    rw [strobedAt_mirror, if_neg (by omega), if_neg (by omega)]
  have block (i : Nat) : ((s.captured n bytes p.off).enter (s.clearEntry x p bytes r)).recBlock (r.capture bytes p.off)
      ((s.clearEntry x p bytes r).beatBlock i) = s.recBlock r (blockAt (x.start % 2048 + 8 * i)) := by
    unfold State.recBlock
    rw [role, show (r.capture bytes p.off).role = .outbound from role]
    rfl
  refine ⟨_, mem, (Bus.entry_id here :), by rw [reshaped.rest]; rfl, by rw [reshaped.rest, form]; rfl,
    by rw [reshaped.rest, form]; rfl, _, rfl, fun i hi => ?_⟩
  have asks := waitingBeats_getElem? hi fun i => strobesIn bytes p.off (max 32 (p.off + 8 * i)) (p.off + 8 * i + 8)
  rw [← keys] at asks
  dsimp only at asks ⊢
  refine ⟨fun idle => ?_, fun waits ctr hctr => ⟨fun ks hit => ?_, fun miss => ?_⟩⟩
  · rw [idle] at asks
    exact ((beats i .none asks).1 (by decide)).1.trans asks
  all_goals
    rw [waits] at asks
    have beat := (beats i .waiting asks).2 rfl
    rw [block, ← hctr] at beat
  · have fed := beat.1 ks hit
    rw [fed_write access] at fed
    obtain ⟨state, bytesOf⟩ := fed
    obtain ⟨kept', now, at'⟩ := bytesOf _ rfl
    cases access'.symm.trans now
    refine ⟨state.trans (List.getElem?_set_self (List.getElem?_eq_some_iff.1 asks).1), fun j hj low => ?_⟩
    have judgedByte := strobedAt_judged_payload bytes p.off low
    have inBeat : (8 * i + j) / 8 = i := by omega
    have sub : p.off + 8 * i + j - p.off = 8 * i + j := by omega
    rw [payloadByte _ low, ← judgedByte]
    unfold strobedAt
    rw [if_pos (by omega), if_pos (by omega), sub, at' _ inBeat, encipherBeat_getElem?]
    have start : (s.clearEntry x p bytes r).start = x.start := rfl
    rw [start, show (8 * i + j) % 8 = j by omega]
    cases (judgedBytes bytes p.off true)[8 * i + j]? with
    | none => rfl
    | some b => simp [inBeat]
  · obtain ⟨state, waits⟩ := beat.2 miss
    exact ⟨state.1.trans asks, awaits_finishWrite same waits⟩

end Fills

end Sys2Proof.Machine
end

section
/-!
SUPPORT. Clear-side writes to a slot that takes no payload (R54, R66, R67).
-/

namespace Sys2Proof.Machine

-- One theorem at a time: elaborated side by side, each would hold a stack of its own.
set_option Elab.async false

section Refuses

variable {s : State} {x : Transaction} {p : Place} {n : Nat} {r : SlotRec} {bytes : List (Option Byte)}

/-- Without a header byte nothing is left of a write to a slot that takes no payload. -/
theorem judged_empty {off : Nat} (header : strobesIn bytes off 0 16 = false) :
    (judgedBytes bytes off false).all Option.isNone = true := by
  rw [List.all_eq_true]
  intro b hb
  obtain ⟨i, hi⟩ := List.mem_iff_getElem?.1 hb
  unfold judgedBytes at hi
  rw [mapOffsets_getElem?] at hi
  cases at' : bytes[i]? with
  | none =>
    rw [at'] at hi
    cases hi
  | some v =>
    rw [at'] at hi
    dsimp only [Option.map_some] at hi
    cases hi
    split
    next low =>
      cases v with
      | none => rfl
      | some v =>
        have strobed : strobedAt bytes off (off + i) = some v := by
          unfold strobedAt
          rw [if_pos (Nat.le_add_right _ _), Nat.add_sub_cancel_left, at']
          rfl
        rw [strobesIn_of_strobedAt strobed (Nat.zero_le _) low] at header
        cases header
    next =>
      split
      · rfl
      · rfl

/-- A write to a FAILED slot goes its direct way. -/
theorem outboundWrite_failed (h : s.slotRec n = some r) (failed : r.state = .failed)
    (strobes : strobesIn bytes p.off 32 2048 = true ∨ strobesIn bytes p.off 0 16 = true) :
    s.outboundWrite x p n bytes = s.writeOutbound x p n bytes := by
  rw [outboundWrite_eq h strobes, failed]

/-- A write without header bytes to a FAILED slot is answered OKAY, and changes nothing (R67). -/
theorem outboundWrite_failed_payload (h : s.slotRec n = some r) (failed : r.state = .failed)
    (header : strobesIn bytes p.off 0 16 = false) :
    NothingForwarded s (s.outboundWrite x p n bytes).settle ∧
      ownAnswer x true ∈ (s.outboundWrite x p n bytes).settle.bus.up ∧
      SameFaults s (s.outboundWrite x p n bytes).settle ∧ SameKeys s (s.outboundWrite x p n bytes).settle ∧
      ∃ q, (s.outboundWrite x p n bytes).settle.slotRec n = some q ∧ q.state = .failed ∧ q.reason = r.reason := by
  have way := outboundWrite_way (x := x) (p := p) (bytes := bytes) h
  generalize s.outboundWrite x p n bytes = t at way
  cases way with
  | empty =>
    exact ⟨nothingForwarded_of_ids rfl, mem_up_settle (List.mem_cons_self ..), sameFaults_settle.2 rfl,
      sameKeys_settle.2 ⟨rfl, rfl⟩, r, (State.settle_slotRec _ n).trans h, failed, rfl⟩
  | direct =>
    rw [writeOutbound_answered h (by rw [failed]; exact judged_empty header)]
    exact ⟨nothingForwarded_of_ids rfl, mem_up_settle (List.mem_cons_self ..), sameFaults_settle.2 rfl,
      sameKeys_settle.2 ⟨rfl, rfl⟩, _, (State.settle_slotRec _ n).trans (captured_slotRec h p.off), failed, rfl⟩
  | opens free => exact absurd (free.symm.trans failed) (by decide)
  | tagging state => exact absurd (state.symm.trans failed) (by decide)
  | tagged state => exact absurd (state.symm.trans failed) (by decide)

/-- A write with header bytes to a FAILED slot, that is no release: forwarded with the mirror of FAILED and the slot's reason
(R22, R23, R67). -/
theorem outboundWrite_failed_header (ages : s.agesSound) (h : s.slotRec n = some r) (failed : r.state = .failed)
    (declined : strobesIn bytes p.off 32 2048 = true ∨ strobedAt bytes p.off 14 ≠ some 0)
    (header : strobesIn bytes p.off 0 16 = true) :
    SameFaults s (s.outboundWrite x p n bytes).settle ∧ SameKeys s (s.outboundWrite x p n bytes).settle ∧
      (∃ e ∈ (s.outboundWrite x p n bytes).settle.bus.transit, e.id = s.stamp ∧ e.fills = false ∧
        ∃ out, e.access = .write out ∧
          strobedAt out p.off 14 = (strobedAt bytes p.off 14).map (fun _ => 4) ∧
          strobedAt out p.off 15 = (strobedAt bytes p.off 15).map (fun _ => r.reason.code)) ∧
      ∃ q, (s.outboundWrite x p n bytes).settle.slotRec n = some q ∧ q.state = .failed ∧ q.reason = r.reason := by
  obtain ⟨⟨pool, bus, stamp, same, -⟩, record, -⟩ := writeOutbound_failed (x := x) h failed declined
  rw [outboundWrite_failed h failed (.inr header)]
  refine ⟨sameFaults_settle.2 (by rw [same]; rfl), sameKeys_settle.2 (by rw [same]; exact ⟨rfl, rfl⟩), ?_, _,
    (State.settle_slotRec _ n).trans record, failed, rfl⟩
  obtain ⟨k, v, -, low, strobed⟩ := strobesIn_iff.1 header
  have dry : (decide (r.state = .filling) && strobesIn bytes p.off 32 Config.slotBytes) = false := by simp [failed]
  have own : ((s.captured n bytes p.off).enter (s.clearEntry x p bytes r)).slotRec n = some (r.capture bytes p.off) :=
    captured_slotRec h p.off
  have entry := entry_enter (s := s.captured n bytes p.off) ages (e := s.clearEntry x p bytes r) rfl
  have access := clearEntry_access s x p bytes r
  rw [dry] at access
  have idle := outboundRequest_failed (v := strobedAt bytes p.off 14)
    (payload := strobesIn bytes p.off 32 Config.slotBytes) own failed declined
  rw [writeOutbound_dry h dry (judged_header low strobed false)]
  have headerByte (j : Nat) (hj : j < 16) : strobedAt (judgedBytes bytes p.off false) p.off j = strobedAt bytes p.off j := by
    rw [strobedAt_judged, if_pos hj]
  refine ⟨_, finishWrite_mirrors (id := s.stamp) (by rw [idle]; exact own) (by rw [idle]) entry rfl access
    ((headerByte k low).trans strobed), rfl, ?_, _, rfl, ?_, ?_⟩
  · change (decide (r.state = .filling) && strobesIn bytes p.off 32 Config.slotBytes) = false
    exact dry
  all_goals
    rw [SlotRec.remembers_idle (.inl (by change r.state ≠ _; rw [failed]; decide)), strobedAt_mirror]
  · rw [if_pos rfl, headerByte 14 (by decide)]
    rw [show (r.capture bytes p.off).state = .failed from failed]
    rfl
  · rw [if_neg (by decide), if_pos rfl, headerByte 15 (by decide)]
    rfl

/-- A payload write to a TAGGING or TAGGED slot is dropped whole (R66, R67). -/
theorem dropOutbound_settled (h : s.slotRec n = some r) (q : SlotRec) (fault : q.channel = r.channel ∧
    q.window = r.window ∧ q.slot = r.slot) :
    NothingForwarded s (s.dropOutbound x p n bytes q).settle ∧
      ownAnswer x false ∈ (s.dropOutbound x p n bytes q).settle.bus.up ∧
      OtherRecords s (s.dropOutbound x p n bytes q).settle n ∧ SameKeys s (s.dropOutbound x p n bytes q).settle ∧
      (s.dropOutbound x p n bytes q).settle.ks = s.ks ∧ (s.dropOutbound x p n bytes q).settle.merges = s.merges ∧
      SameNotices s (s.dropOutbound x p n bytes q).settle ∧
      (s.dropOutbound x p n bytes q).settle.slotRec n = some (r.capture bytes p.off) ∧
      (s.dropOutbound x p n bytes q).settle.faults = (s.recordFault
        ⟨.disturbed, .degraded, r.channel, some r.window, some r.slot, some x.initiator, false⟩).faults := by
  have framed : Framed ((s.captured n bytes p.off).answer x false) (s.dropOutbound x p n bytes q) :=
    framed_disturbedFault _ q x.initiator
  obtain ⟨nothing, answer, -⟩ := answered_settle framed
  have record (m : Nat) : (s.dropOutbound x p n bytes q).slotRec m = (s.captured n bytes p.off).slotRec m :=
    recordFault_slotRec _ _ m
  refine ⟨nothing, answer, fun m hm => ?_, sameKeys_settle.2 ⟨recordFault_keys _ _, framed.channels⟩, ?_, ?_,
    SameNotices.settle ?_, ?_, ?_⟩
  · rw [State.settle_slotRec, record]
    exact captured_others s n bytes p.off m hm
  · rw [State.settle_ks]
    exact recordFault_ks _ _
  · rw [State.settle_merges]
    exact recordFault_merges _ _
  · unfold SameNotices
    rw [framed.notices]
    rfl
  · rw [State.settle_slotRec, record]
    exact captured_slotRec h p.off
  · obtain ⟨channel, window, slot⟩ := fault
    rw [State.settle_faults, ← channel, ← window, ← slot]
    exact recordFault_faults_congr _ rfl rfl

/-- A captured length, said by the bytes that are strobed (R23). -/
theorem captureLength_eq (old : Option Nat) (bytes : List (Option Byte)) (off : Nat) :
    captureLength old (strobedAt bytes off 12) (strobedAt bytes off 13) =
      if strobesIn bytes off 12 14 = true then
        some (((strobedAt bytes off 12).map (·.toNat)).getD (old.getD 0 / 256) * 256 +
          ((strobedAt bytes off 13).map (·.toNat)).getD (old.getD 0 % 256))
      else old := by
  have strobes : strobesIn bytes off 12 14 = true ↔ ¬ (strobedAt bytes off 12 = none ∧ strobedAt bytes off 13 = none) := by
    rw [strobesIn_iff]
    constructor
    · rintro ⟨k, v, low, high, at'⟩ ⟨hi, lo⟩
      obtain rfl | rfl : k = 12 ∨ k = 13 := by omega
      · rw [hi] at at'
        cases at'
      · rw [lo] at at'
        cases at'
    · intro some'
      cases hi : strobedAt bytes off 12 with
      | some v => exact ⟨12, v, le_refl _, by decide, hi⟩
      | none =>
        cases lo : strobedAt bytes off 13 with
        | some v => exact ⟨13, v, by decide, by decide, lo⟩
        | none => exact absurd ⟨hi, lo⟩ some'
  unfold captureLength
  cases hi : strobedAt bytes off 12 <;> cases lo : strobedAt bytes off 13 <;> simp [strobes, hi, lo]

end Refuses

theorem transitReady_waiting (b : Bus) {e : TransitEntry} {out : List (Option Byte)} (access : e.access = .write out)
    (waiting : .waiting ∈ e.beatKeys) : b.transitReady e = false := by
  have held : e.released = false := by
    unfold TransitEntry.released
    rw [access]
    simp [waiting]
  unfold Bus.transitReady
  rw [held]
  simp

end Sys2Proof.Machine
end

section
/-!
SUPPORT. A completed miss serves the beats that wait on it, and the blocks that are whole then fold or merge (R46, R58).
-/

namespace Sys2Proof.Machine

-- One theorem at a time: elaborated side by side, each would hold a stack of its own.
set_option Elab.async false

/-! ## The beats that wait on a miss (R46) -/

theorem serveBeat_absent {s : State} {w : Waiter} (h : s.bus.entry w.entry = none) (ks : Block) : s.serveBeat w ks = s := by
  unfold State.serveBeat
  rw [h]

/-- How an entry comes out of the serving of some beats, each once. -/
theorem serveBeats_entry (ks : Block) (l : List Waiter) (nodup : l.Nodup) {s : State} {e : TransitEntry} {id : Nat}
    (h : s.bus.entry id = some e) : ∃ g, (l.foldl (fun st w => st.serveBeat w ks) s).bus.entry id = some g ∧
      Reshaped e g ∧ ∀ i, (⟨id, i⟩ ∈ l → SameBeat i (e.fed i ks) g) ∧ (⟨id, i⟩ ∉ l → SameBeat i e g) := by
  induction l generalizing s e with
  | nil => exact ⟨e, h, Reshaped.refl e, fun i => ⟨fun mem => absurd mem List.not_mem_nil, fun _ => SameBeat.refl i e⟩⟩
  | cons w l ih =>
    obtain ⟨fresh, nodup⟩ := List.nodup_cons.1 nodup
    rw [List.foldl_cons]
    by_cases here : w.entry = id
    · obtain ⟨own, -⟩ := serveBeat_fed (here ▸ h) ks
      rw [here] at own
      obtain ⟨g, mem, reshaped, beats⟩ := ih nodup own
      have waiter : w = ⟨id, w.beat⟩ := by rw [← here]
      refine ⟨g, mem, (reshaped_fed e w.beat ks).trans reshaped, fun i => ?_⟩
      by_cases same : i = w.beat
      · subst same
        have absent : (⟨id, w.beat⟩ : Waiter) ∉ l := by rwa [← waiter]
        exact ⟨fun _ => (beats w.beat).2 absent, fun out => absurd (waiter ▸ List.mem_cons_self ..) out⟩
      · have iff : (⟨id, i⟩ : Waiter) ∈ w :: l ↔ (⟨id, i⟩ : Waiter) ∈ l := by
          rw [List.mem_cons, or_iff_right]
          intro eq
          exact same (congrArg Waiter.beat eq)
        rw [iff]
        exact ⟨fun mem => (fed_sameBeat (reshaped_fed e w.beat ks) (sameBeat_fed e ks same) ks).trans ((beats i).1 mem),
          fun out => (sameBeat_fed e ks same).trans ((beats i).2 out)⟩
    · have kept : (s.serveBeat w ks).bus.entry id = some e := by
        cases entry : s.bus.entry w.entry with
        | none => rwa [serveBeat_absent entry]
        | some f => rw [(serveBeat_fed entry ks).2.1 id (Ne.symm here), h]
      obtain ⟨g, mem, reshaped, beats⟩ := ih nodup kept
      have iff (i : Nat) : (⟨id, i⟩ : Waiter) ∈ w :: l ↔ (⟨id, i⟩ : Waiter) ∈ l := by
        rw [List.mem_cons, or_iff_right]
        intro eq
        exact here (congrArg Waiter.entry eq).symm
      exact ⟨g, mem, reshaped, fun i => by rw [iff]; exact beats i⟩

theorem serveBeats_overflow (ks : Block) (l : List Waiter) (s : State) :
    (l.foldl (fun st w => st.serveBeat w ks) s).ks.overflow = s.ks.overflow := by
  induction l generalizing s with
  | nil => rfl
  | cons w l ih =>
    rw [List.foldl_cons, ih]
    cases entry : s.bus.entry w.entry with
    | none => rw [serveBeat_absent entry]
    | some f => exact (serveBeat_fed entry ks).2.2.2.1

section Miss

variable {s : State} {m : MissEntry} {ks : Block}

/-- With no beat in the overflow list, a completed miss serves its own beats alone. -/
theorem completeMiss_eq (empty : s.ks.overflow = []) : s.completeMiss m ks =
    (m.waiters.foldl (fun st w => st.serveBeat w ks) (s.missInserted m ks)).setOverflow [] := by
  have overflow := (serveBeats_overflow ks m.waiters (s.missInserted m ks)).trans empty
  unfold State.completeMiss State.serveOverflow
  unfold State.missInserted at overflow ⊢
  dsimp only
  rw [overflow]
  rfl

theorem exec_missComplete {g : CipherGrant} (granted : s.ks.cipher = some g) (job : g.job = .miss m.id)
    (kept : g.withdrawn = false) (found : s.ks.misses.find? (·.id == m.id) = some m) :
    exec .keystreamMissComplete s = .next ((s.setCipher none).completeMiss m (s.cipherOut g)).settle := by
  change execKeystreamMissComplete s = _
  unfold execKeystreamMissComplete
  rw [granted]
  simp only [job, kept, found]
  rfl

/-- How an entry comes out of a completed miss, before the step settles. -/
theorem completeMiss_entry (ages : s.agesSound) (empty : s.ks.overflow = []) (nodup : m.waiters.Nodup) {e : TransitEntry}
    (mem : e ∈ s.bus.transit) : ∃ g ∈ (s.completeMiss m ks).bus.transit, Reshaped e g ∧
      ∀ i, (⟨e.id, i⟩ ∈ m.waiters → SameBeat i (e.fed i ks) g) ∧ (⟨e.id, i⟩ ∉ m.waiters → SameBeat i e g) := by
  have own : (s.missInserted m ks).bus.entry e.id = some e := entry_of_mem ages.1 mem
  obtain ⟨g, entry, reshaped, beats⟩ := serveBeats_entry ks m.waiters nodup own
  rw [completeMiss_eq empty]
  exact ⟨g, mem_of_entry entry, reshaped, beats⟩

end Miss

/-! ## The block of a write that has been enciphered (R58) -/

/-- The accumulators' working state is the same: slot records, merge queue, fault table and time, multiplier queue. -/
def SameSums (s t : State) : Prop :=
  t.pool = s.pool ∧ t.merges = s.merges ∧ t.faults = s.faults ∧ t.time = s.time ∧ t.ks.mulQueue = s.ks.mulQueue

section SameSums

variable {s t : State}

theorem SameSums.slotRec (h : SameSums s t) (n : Nat) : t.slotRec n = s.slotRec n := by
  unfold State.slotRec
  rw [h.1]

theorem sameSums_setRec (h : SameSums s t) (n : Nat) (f : SlotRec → SlotRec) : SameSums (s.setRec n f) (t.setRec n f) := by
  obtain ⟨pool, merges, faults, time, queue⟩ := h
  refine ⟨?_, merges, faults, time, queue⟩
  unfold State.setRec
  dsimp only
  rw [pool]

theorem sameSums_clearValid (h : SameSums s t) (n : Nat) : SameSums (s.clearValid n) (t.clearValid n) := by
  obtain ⟨pool, merges, faults, time, queue⟩ := sameSums_setRec h n fun r => { r with valid := false }
  refine ⟨pool, ?_, faults, time, queue⟩
  unfold State.clearValid
  dsimp only
  rw [h.2.1]

theorem sameSums_fold (h : SameSums s t) (n b : Nat) (blk : Block) (whole : Bool) :
    SameSums (s.fold n b blk whole) (t.fold n b blk whole) := by
  unfold State.fold
  rw [h.slotRec]
  cases s.slotRec n with
  | none => exact h
  | some r =>
    dsimp only
    split
    · exact h
    split
    · exact sameSums_clearValid h n
    split
    next o key _ _ =>
      obtain ⟨pool, merges, faults, time, queue⟩ := sameSums_setRec h n fun r =>
        { r with folded := b :: r.folded, whole := if whole then b :: r.whole else r.whole }
      exact ⟨pool, merges, faults, time, congrArg (fun l => l ++ [(⟨.fold, n, o, key, blk, b⟩ : MulReq)]) queue⟩
    · exact h

theorem sameSums_recordFault (h : SameSums s t) (o : Occurrence) : SameSums (s.recordFault o) (t.recordFault o) := by
  obtain ⟨pool, merges, faults, time, queue⟩ := h
  refine ⟨?_, ?_, recordFault_faults_congr o faults time, ?_, ?_⟩
  · rw [recordFault_pool, recordFault_pool, pool]
  · rw [recordFault_merges, recordFault_merges, merges]
  · rw [recordFault_time, recordFault_time, time]
  · rw [recordFault_ks, recordFault_ks, queue]

theorem sameSums_evictMerge (h : SameSums s t) : SameSums s.evictMerge t.evictMerge := by
  unfold State.evictMerge
  rw [h.2.1]
  cases s.merges with
  | nil => exact h
  | cons m l =>
    dsimp only
    rw [h.slotRec]
    exact sameSums_recordFault (sameSums_clearValid h m.recNo) _

theorem sameSums_mergeStep (h : SameSums s t) (n b : Nat) (bytes : List (Option Byte)) :
    SameSums (s.mergeStep n b bytes) (t.mergeStep n b bytes) := by
  have withMerges {u v : State} (g : SameSums u v) (l : List MergeEntry) :
      SameSums { u with merges := l } { v with merges := l } := ⟨g.1, rfl, g.2.2⟩
  have evicted := sameSums_evictMerge h
  unfold State.mergeStep State.mergeOf State.newMerge
  dsimp only
  rw [h.slotRec, h.2.1]
  cases s.slotRec n with
  | none => exact h
  | some r =>
    dsimp only
    split
    · exact h
    split
    · exact sameSums_clearValid h n
    split
    next m _ =>
      split
      · exact sameSums_clearValid h n
      split
      · exact sameSums_fold (withMerges h _) n b _ true
      · exact withMerges h _
    · split
      · exact withMerges h _
      split
      · exact evicted
      · rw [evicted.2.1]
        exact withMerges evicted _

end SameSums

/-- The bytes of a write that begins at a payload block's first byte, as that block's bytes. -/
theorem blockBytesIn_start (bytes : List (Option Byte)) (b : Nat) :
    blockBytesIn bytes (blockOffset b) b = (List.range 16).map fun j => (bytes[j]?).join := by
  unfold blockBytesIn strobedAt
  refine List.map_congr_left fun j _ => ?_
  rw [if_pos (Nat.le_add_right _ _), Nat.add_sub_cancel_left]

theorem blockBytesIn_whole {bytes : List (Option Byte)} (length : bytes.length = 16) (b : Nat) :
    blockBytesIn bytes (blockOffset b) b = bytes := by
  rw [blockBytesIn_start]
  refine List.ext_getElem (by simp [length]) fun i hi hi' => ?_
  simp [hi']

theorem blockBytesIn_half {bytes : List (Option Byte)} (length : bytes.length = 8) (b : Nat) :
    blockBytesIn bytes (blockOffset b) b = bytes ++ List.replicate 8 none := by
  rw [blockBytesIn_start]
  refine List.ext_getElem (by simp [length]) fun i hi hi' => ?_
  rw [List.getElem_map, List.getElem_range]
  by_cases low : i < bytes.length
  · rw [List.getElem_append_left low, List.getElem?_eq_getElem low]
    rfl
  · rw [List.getElem_append_right (Nat.not_lt.1 low), List.getElem?_eq_none (Nat.not_lt.1 low),
      List.getElem_replicate]
    rfl

section Block

variable {s : State} {e : TransitEntry} {out : List (Option Byte)} {n o b : Nat} {r : SlotRec} {key : KeyRef}

/-- The unit acts for a block of the slot's present opening (R58). -/
theorem blockStep_eq (access : e.access = .write out) (slot : e.recNo = some n) (h : s.slotRec n = some r)
    (entry : e.opening = some o) (opening : r.opening = some o) (state : r.state = .filling ∨ r.state = .tagging) :
    s.blockStep e b = if (blockBytesIn out (e.start % 2048) b).all Option.isSome = true then
      if (s.mergeOf n b).isSome = true then s.clearValid n
        else s.fold n b (blockOfStrobed (blockBytesIn out (e.start % 2048) b)) true
      else s.mergeStep n b (blockBytesIn out (e.start % 2048) b) := by
  unfold State.blockStep
  rw [access, slot]
  dsimp only
  rw [h]
  dsimp only
  rw [if_pos]
  · rfl
  · rw [entry, opening]
    rcases state with state | state <;> simp [state]

theorem fold_taken (h : s.slotRec n = some r) (valid : r.valid = true) (fresh : b ∉ r.folded) (opening : r.opening = some o)
    (key' : r.key = some key) (blk : Block) : s.fold n b blk true =
      (s.setRec n fun r => { r with folded := b :: r.folded, whole := b :: r.whole }).askMul ⟨.fold, n, o, key, blk, b⟩ := by
  unfold State.fold
  rw [h]
  dsimp only
  rw [if_neg (by simp [valid]), if_neg (by simpa using fresh), opening, key']
  rfl

/-- A served beat of a write after which no beat of its block waits acts for the block (R46, R58). -/
theorem serveBeat_block {id i : Nat} (h : s.bus.entry id = some e) (access : e.access = .write out) (ks : Block)
    (none : (e.fed i ks).blockWaits ((e.fed i ks).beatBlock i) = false) :
    s.serveBeat ⟨id, i⟩ ks = (s.setEntry id fun _ => e.fed i ks).blockStep (e.fed i ks)
      ((e.fed i ks).beatBlock i) := by
  rw [fed_write access] at none ⊢
  unfold State.serveBeat
  rw [h]
  dsimp only
  rw [access]
  dsimp only
  rw [none]
  exact if_neg Bool.false_ne_true

/-- A served beat of a write whose block still has a waiting beat changes its entry alone. -/
theorem serveBeat_waits {id i : Nat} (h : s.bus.entry id = some e) (access : e.access = .write out) (ks : Block)
    (some : (e.fed i ks).blockWaits ((e.fed i ks).beatBlock i) = true) :
    s.serveBeat ⟨id, i⟩ ks = s.setEntry id fun _ => e.fed i ks := by
  rw [fed_write access] at some ⊢
  unfold State.serveBeat
  rw [h]
  dsimp only
  rw [access]
  dsimp only
  rw [some]
  exact if_pos rfl

end Block

end Sys2Proof.Machine
end

section
/-!
SUPPORT. The block of a write that a completed miss enciphers, whole and half; and the payload path of an outbound slot.
-/

namespace Sys2Proof.Machine

-- One theorem at a time: elaborated side by side, each would hold a stack of its own.
set_option Elab.async false

section Enciphered

variable {s : State} {e : TransitEntry} {out : List (Option Byte)} {n o b : Nat} {r : SlotRec} {key : KeyRef}

/-- A run that begins at a block's first byte takes the block's halves in order. -/
theorem halves_in_order (low : 1 ≤ b) (start : e.start % 2048 = 32 + 16 * (b - 1)) :
    ((e.start / 8 + 0) % 2 == 1) = false ∧ ((e.start / 8 + 1) % 2 == 1) = true ∧ e.beatBlock 0 = b ∧ e.beatBlock 1 = b := by
  have even : e.start / 8 % 2 = 0 := by omega
  refine ⟨by simpa using even, by simp; omega, ?_, ?_⟩
  · unfold TransitEntry.beatBlock blockAt
    rw [show Config.slotBytes = 2048 from rfl, start]
    omega
  · unfold TransitEntry.beatBlock blockAt
    rw [show Config.slotBytes = 2048 from rfl, start]
    omega

/-- Both beats of a whole block are served: the block folds its ciphertext (R46, R58). -/
theorem served_whole (entry : s.bus.entry e.id = some e) (access : e.access = .write out) (slot : e.recNo = some n)
    (h : s.slotRec n = some r) (arrival : e.opening = some o) (opening : r.opening = some o)
    (state : r.state = .filling ∨ r.state = .tagging) (hkey : r.key = some key) (low : 1 ≤ b)
    (start : e.start % 2048 = 32 + 16 * (b - 1)) (length : out.length = 16) (all : out.all Option.isSome = true)
    (keys : e.beatKeys = [.waiting, .waiting]) (valid : r.valid = true) (fresh : b ∉ r.folded)
    (merge : s.mergeOf n b = none) (ks : Block) : ∃ l,
      (s.serveBeat ⟨e.id, 0⟩ ks).serveBeat ⟨e.id, 1⟩ ks =
        ((s.setTransit l).setRec n fun r => { r with folded := b :: r.folded, whole := b :: r.whole }).askMul
          ⟨.fold, n, o, key, blockOfStrobed (encipherBeat (encipherBeat out 0 (halfOf ks false)) 1 (halfOf ks true)), b⟩ := by
  obtain ⟨even, odd, zero, one⟩ := halves_in_order low start
  have first := fed_write access 0 ks
  rw [even] at first
  have waits : (e.fed 0 ks).blockWaits ((e.fed 0 ks).beatBlock 0) = true := by
    rw [first]
    change (List.zipIdx (e.beatKeys.set 0 .none)).any (fun p => decide (p.1 = .waiting) && e.beatBlock p.2 == e.beatBlock 0) = true
    rw [keys, zero]
    simp [one]
  rw [serveBeat_waits entry access ks waits]
  have own : (s.setEntry e.id fun _ => e.fed 0 ks).bus.entry e.id = some (e.fed 0 ks) := by
    rw [entry_setEntry s e.id e.id fun _ _ => fed_id e 0 ks, entry, Option.map_some, if_pos rfl]
  have access' : (e.fed 0 ks).access = .write (encipherBeat out 0 (halfOf ks false)) := by rw [first]
  have second := fed_write access' 1 ks
  rw [show (e.fed 0 ks).start = e.start by rw [first], odd] at second
  have idle : ((e.fed 0 ks).fed 1 ks).blockWaits (((e.fed 0 ks).fed 1 ks).beatBlock 1) = false := by
    rw [second, first]
    change (List.zipIdx ((e.beatKeys.set 0 .none).set 1 .none)).any
      (fun p => decide (p.1 = .waiting) && e.beatBlock p.2 == e.beatBlock 1) = false
    rw [keys]
    simp
  rw [serveBeat_block own access' ks idle]
  have block : ((e.fed 0 ks).fed 1 ks).beatBlock 1 = b := by
    rw [second, first]
    exact one
  have done' : ((e.fed 0 ks).fed 1 ks).access =
      .write (encipherBeat (encipherBeat out 0 (halfOf ks false)) 1 (halfOf ks true)) := by rw [second]
  have strobes : (encipherBeat (encipherBeat out 0 (halfOf ks false)) 1 (halfOf ks true)).map Option.isSome =
      out.map Option.isSome := (encipherBeat_strobes _ 1 _).trans (encipherBeat_strobes out 0 _)
  have run : blockBytesIn (encipherBeat (encipherBeat out 0 (halfOf ks false)) 1 (halfOf ks true))
      (((e.fed 0 ks).fed 1 ks).start % 2048) b = encipherBeat (encipherBeat out 0 (halfOf ks false)) 1 (halfOf ks true) := by
    rw [second, first]
    dsimp only
    rw [start]
    exact blockBytesIn_whole (by simpa [length] using congrArg List.length strobes) b
  have strobed : (encipherBeat (encipherBeat out 0 (halfOf ks false)) 1 (halfOf ks true)).all Option.isSome = true := by
    have same := congrArg (List.all · id) strobes
    simpa [List.all_map, all] using same
  rw [block, blockStep_eq (s := (s.setEntry e.id fun _ => e.fed 0 ks).setEntry e.id fun _ => (e.fed 0 ks).fed 1 ks)
    (n := n) (o := o) (r := r) done' (by rw [second, first]; exact slot) h
    (by rw [second, first]; exact arrival) opening state, run, if_pos strobed, if_neg (by
      change ¬ (s.mergeOf n b).isSome = true
      rw [merge]
      exact Bool.false_ne_true), fold_taken
      (s := (s.setEntry e.id fun _ => e.fed 0 ks).setEntry e.id fun _ => (e.fed 0 ks).fed 1 ks) (r := r) (key := key) h valid fresh opening hkey]
  exact ⟨_, rfl⟩

/-- The one beat of half a block is served: its ciphertext goes to the merge queue (R46, R58, R59). -/
theorem served_half (entry : s.bus.entry e.id = some e) (access : e.access = .write out) (slot : e.recNo = some n)
    (h : s.slotRec n = some r) (arrival : e.opening = some o) (opening : r.opening = some o)
    (state : r.state = .filling ∨ r.state = .tagging) (low : 1 ≤ b) (start : e.start % 2048 = 32 + 16 * (b - 1))
    (length : out.length = 8) (keys : e.beatKeys = [.waiting]) (ks : Block) : ∃ l,
      s.serveBeat ⟨e.id, 0⟩ ks = (s.setTransit l).mergeStep n b
        (encipherBeat out 0 (halfOf ks false) ++ List.replicate 8 none) := by
  obtain ⟨even, -, zero, -⟩ := halves_in_order low start
  have first := fed_write access 0 ks
  rw [even] at first
  have idle : (e.fed 0 ks).blockWaits ((e.fed 0 ks).beatBlock 0) = false := by
    rw [first]
    change (List.zipIdx (e.beatKeys.set 0 .none)).any
      (fun p => decide (p.1 = .waiting) && e.beatBlock p.2 == e.beatBlock 0) = false
    rw [keys]
    simp
  rw [serveBeat_block entry access ks idle]
  have done' : (e.fed 0 ks).access = .write (encipherBeat out 0 (halfOf ks false)) := by rw [first]
  have run : blockBytesIn (encipherBeat out 0 (halfOf ks false)) ((e.fed 0 ks).start % 2048) b =
      encipherBeat out 0 (halfOf ks false) ++ List.replicate 8 none := by
    rw [first]
    dsimp only
    rw [start]
    exact blockBytesIn_half (by simpa [length] using congrArg List.length (encipherBeat_strobes out 0 (halfOf ks false))) b
  rw [show (e.fed 0 ks).beatBlock 0 = b by rw [first]; exact zero,
    blockStep_eq (s := s.setEntry e.id fun _ => e.fed 0 ks) (n := n) (o := o) (r := r) done'
    (by rw [first]; exact slot) h (by rw [first]; exact arrival) opening state, run, if_neg (by simp)]
  exact ⟨_, rfl⟩

end Enciphered

/-- What KEYSTREAM_MISS_COMPLETE does for a write or a read that waits on the miss (R46). -/
theorem missBeats_settled {s : State} {m : MissEntry} {ks : Block} (ages : s.agesSound) (empty : s.ks.overflow = [])
    (nodup : m.waiters.Nodup) {e : TransitEntry} (mem : e ∈ s.bus.transit) (back : e.back = none) :
    (∀ out, e.access = .write out → out.any Option.isSome = true → ∃ f ∈ (s.completeMiss m ks).settle.bus.transit,
      f.id = e.id ∧ ∃ kept, f.access = .write kept ∧ f.beatKeys.length = e.beatKeys.length ∧ kept.length = out.length ∧
        (∀ (i : Nat) (v : Option Byte), out[i]? = some v → kept[i]? = some (if ⟨e.id, i / 8⟩ ∈ m.waiters then
          v.map (· ^^^ (beatBytes (halfOf ks ((e.start / 8 + i / 8) % 2 == 1))).getD (i % 8) 0) else v)) ∧
        ∀ i, i < e.beatKeys.length →
          f.beatKeys[i]? = if ⟨e.id, i⟩ ∈ m.waiters then some .none else e.beatKeys[i]?) ∧
    (∀ beats, e.access = .read beats → ∃ f ∈ (s.completeMiss m ks).settle.bus.transit, f.id = e.id ∧
      f.beatKeys.length = e.beatKeys.length ∧ ∀ i, i < e.beatKeys.length →
        f.beatKeys[i]? = if ⟨e.id, i⟩ ∈ m.waiters then some (.held (halfOf ks ((e.start / 8 + i) % 2 == 1)))
          else e.beatKeys[i]?) := by
  obtain ⟨g, left, reshaped, beats⟩ := completeMiss_entry (ks := ks) ages empty nodup mem
  have back' : g.back = none := by
    rw [reshaped.rest]
    exact back
  refine ⟨fun out access strobed => ?_, fun n access => ?_⟩
  · obtain ⟨kept, access', strobes⟩ := reshaped.write out access
    have stays : g.emptied = false := by
      unfold TransitEntry.emptied
      rw [access']
      have any := congrArg (List.any · id) strobes
      have some' : kept.all Option.isNone = false := by
        rw [List.all_eq_false]
        obtain ⟨b, hb, some'⟩ : ∃ b ∈ kept, b.isSome = true := by
          have : kept.any Option.isSome = true := by simpa [List.any_map, strobed] using any
          exact List.any_eq_true.1 this
        exact ⟨b, hb, by cases b <;> simp_all⟩
      simp [some']
    refine ⟨g, mem_transit_settle left back' stays, by rw [reshaped.rest], kept, access', reshaped.keys,
      by simpa using congrArg List.length strobes, fun i v hv => ?_, fun i hi => ?_⟩
    · split
      next waits =>
        obtain ⟨kept', now, at'⟩ := ((beats (i / 8)).1 waits).2 _ (by rw [fed_write access])
        cases access'.symm.trans now
        rw [at' i rfl, encipherBeat_getElem?, hv]
        simp
      next idle =>
        obtain ⟨kept', now, at'⟩ := ((beats (i / 8)).2 idle).2 out access
        cases access'.symm.trans now
        rw [at' i rfl, hv]
    · split
      next waits =>
        have fed := ((beats i).1 waits).1
        rw [fed_write access] at fed
        exact fed.trans (List.getElem?_set_self hi)
      next idle => exact ((beats i).2 idle).1
  · refine ⟨g, mem_transit_settle left back' (emptied_of_read (reshaped.read n access)), by rw [reshaped.rest],
      reshaped.keys, fun i hi => ?_⟩
    split
    next waits =>
      have fed := ((beats i).1 waits).1
      rw [fed_read access] at fed
      exact fed.trans (List.getElem?_set_self hi)
    next idle => exact ((beats i).2 idle).1

/-- A block that has been folded whole, when the step has settled. -/
theorem foldedBlock_settled {s : State} {n : Nat} {r : SlotRec} (h : s.slotRec n = some r) (l : List TransitEntry)
    (f : SlotRec → SlotRec) (q : MulReq) :
    ((((s.setTransit l).setRec n f).askMul q).setOverflow []).settle.slotRec n = some (f r) ∧
      OtherRecords s ((((s.setTransit l).setRec n f).askMul q).setOverflow []).settle n ∧
      ((((s.setTransit l).setRec n f).askMul q).setOverflow []).settle.merges = s.merges ∧
      ((((s.setTransit l).setRec n f).askMul q).setOverflow []).settle.faults = s.faults ∧
      ((((s.setTransit l).setRec n f).askMul q).setOverflow []).settle.ks.mulQueue = s.ks.mulQueue ++ [q] := by
  refine ⟨?_, fun i hi => ?_, ?_, ?_, ?_⟩
  · rw [State.settle_slotRec]
    exact setRec_self (s := s.setTransit l) f h
  · rw [State.settle_slotRec]
    exact setRec_others (s.setTransit l) n f i hi
  · rw [State.settle_merges]
    rfl
  · rw [State.settle_faults]
    rfl
  · rw [State.settle_ks]
    rfl

/-- A half block that has gone to the merge queue, when the step has settled. -/
theorem mergedBlock_settled {s t : State} (h : SameSums s t) (n b : Nat) (bytes : List (Option Byte)) :
    ((t.mergeStep n b bytes).setOverflow []).settle.pool = (s.mergeStep n b bytes).pool ∧
      ((t.mergeStep n b bytes).setOverflow []).settle.merges = (s.mergeStep n b bytes).merges ∧
      ((t.mergeStep n b bytes).setOverflow []).settle.faults = (s.mergeStep n b bytes).faults ∧
      ((t.mergeStep n b bytes).setOverflow []).settle.ks.mulQueue = (s.mergeStep n b bytes).ks.mulQueue := by
  obtain ⟨pool, merges, faults, -, queue⟩ := sameSums_mergeStep h n b bytes
  refine ⟨?_, ?_, ?_, ?_⟩
  · rw [State.settle_pool]
    exact pool
  · rw [State.settle_merges]
    exact merges
  · rw [State.settle_faults]
    exact faults
  · rw [State.settle_ks]
    exact queue

/-- An admitted opening, its key judged, before the write goes on: what the write's beats turn on. -/
theorem openedFrame_judged {s : State} (ages : s.agesSound) {n : Nat} {r : SlotRec} (h : s.slotRec n = some r) (c : Fin 16)
    (k : Fin 32) : ((s.openedFrame n c k).judgeMarks k).agesSound ∧
      ((s.openedFrame n c k).judgeMarks k).slotRec n = some (r.opened c k (s.key k) s.stamp) ∧
      ((s.openedFrame n c k).judgeMarks k).ks = s.ks ∧ ((s.openedFrame n c k).judgeMarks k).fuses = s.fuses ∧
      ((s.openedFrame n c k).judgeMarks k).stamp = s.stamp + 1 ∧
      ((s.openedFrame n c k).judgeMarks k).keyRole k = s.keyRole k := by
  have judging := judging_judgeMarks (s.openedFrame n c k) k
  obtain ⟨order, below, order', below'⟩ := ages
  refine ⟨?_, ?_, judging.frames.2.1, judging.fuses, judging.stamp, keyRole_congr ?_ judging.channels⟩
  · unfold State.agesSound
    rw [judging.bus, judging.stamp]
    exact ⟨order, fun e he => Nat.lt_succ_of_lt (below e he), order', fun e he => Nat.lt_succ_of_lt (below' e he)⟩
  · unfold State.slotRec
    rw [judging.frames.1]
    exact openedFrame_slotRec h c k
  · rw [judging.flags, openedFrame_key, if_pos rfl]
    rfl

/-- Settles O21: what is left of a write (`outboundWrite_left`), its beats (`writeOutbound_keyed`), the slots that take no
payload, and the beats and the block that a completed miss serves. -/
theorem outboundPayloadPath : Obligations.OutboundPayloadPath := by
  refine ⟨fun x s p n r bytes ages h write outbound => ?_, fun s e out access waiting =>
    transitReady_waiting s.bus access waiting, fun s m g ks ages granted job kept found empty hks nodup => ?_⟩
  · refine ⟨_, exec_outboundClearWrite h write, exec_sameMeters (.outboundClearWrite x) s _ (exec_outboundClearWrite h write)
      (by intro b; simp) (by simp) (by simp [licenceOf]), fun e he new out access => ?_, fun k c q id payload fills closing => ?_,
      fun dry e he id out access k hk => ?_, fun failed header => ?_, fun failed declined header => ?_,
      fun state payload => ?_⟩
    · obtain ⟨keep, left, -⟩ := outboundWrite_left ages h.slotRec he new
      exact ⟨left.length out access, fun k low high => left.dry out access k (strobedAt_judged_tag bytes p.off keep low high)⟩
    · rcases fills with ⟨filling, key, rfl, rfl⟩ | ⟨free, bound, admitted, rfl, rfl⟩
      · rw [outboundWrite_eq h.slotRec (.inl payload), filling]
        obtain ⟨e, mem, id, start, fills, opening, out, access, beats⟩ :=
          writeOutbound_keyed ages h.slotRec filling outbound key payload closing x
        exact ⟨e, mem, id, start, fills, opening, out, access, fun i hi =>
          ⟨(beats i hi).1, fun waits => (beats i hi).2 waits _ rfl⟩⟩
      · have opens : opensOutbound bytes p.off = true := Bool.or_eq_true_iff.2 (.inl payload)
        rw [outboundWrite_opens h.slotRec free opens, openOutbound_admitted h.slotRec bound admitted]
        obtain ⟨ages', own, ks, fuses, stamp, role⟩ := openedFrame_judged ages h.slotRec c k
        obtain ⟨e, mem, id, start, fills, opening, out, access, beats⟩ :=
          writeOutbound_keyed ages' own rfl outbound rfl payload (fun close => by rw [role]; exact closing close) x
        refine ⟨e, mem, id.trans stamp, start, fills, opening, out, access, fun i hi => ⟨(beats i hi).1, fun waits => ?_⟩⟩
        have keyed := (beats i hi).2 waits _ rfl
        have block (b : Nat) : ((s.openedFrame n c k).judgeMarks k).recBlock (r.opened c k (s.key k) s.stamp) b =
            s.recBlock { r with
              channel := some c, gen := some (s.key k).gen, seq := some (BitVec.ofNat 32 (s.key k).nextSeq),
              opening := some s.stamp } b := by
          unfold State.recBlock State.shop
          rw [fuses]
          rfl
        rw [block, ks, stamp] at keyed
        exact keyed
    · obtain ⟨keep, left, none⟩ := outboundWrite_left ages h.slotRec he (Nat.le_of_eq id.symm)
      rw [none dry] at left
      exact left.dry out access k (strobedAt_judged_dropped bytes p.off hk)
    · obtain ⟨nothing, answer, faults, keys, record⟩ := outboundWrite_failed_payload (x := x) h.slotRec failed header
      exact ⟨nothing, fun _ => answer, faults, keys, record⟩
    · exact outboundWrite_failed_header ages h.slotRec failed declined header
    · have capture : r.capture bytes p.off = { r with
          kind := (strobedAt bytes p.off 1).or r.kind
          length := if strobesIn bytes p.off 12 14 = true then
              some (((strobedAt bytes p.off 12).map (·.toNat)).getD (r.length.getD 0 / 256) * 256 +
                ((strobedAt bytes p.off 13).map (·.toNat)).getD (r.length.getD 0 % 256))
            else r.length } := by
        rw [← captureLength_eq]
        rfl
      rcases state with tagging | tagged
      · have disturbed : (s.disturb n).slotRec n = some { r with reason := .disturbed } :=
          setRec_self (fun r => { r with reason := .disturbed }) h.slotRec
        have dropped : s.outboundWrite x p n bytes = (s.disturb n).dropOutbound x p n bytes r := by
          rw [outboundWrite_eq h.slotRec (.inl payload), tagging]
          exact if_pos payload
        rw [dropped]
        obtain ⟨nothing, answer, others, keys, ks, merges, notices, record, faults⟩ :=
          dropOutbound_settled (x := x) (p := p) (bytes := bytes) disturbed r ⟨rfl, rfl, rfl⟩
        refine ⟨nothing, answer, fun m hm => ?_, keys, ks, merges, notices, ?_,
          faults.trans (recordFault_faults_congr _ rfl rfl)⟩
        · rw [others m hm]
          exact setRec_others s n (fun r => { r with reason := .disturbed }) m hm
        · rw [record, if_pos (c := r.state = .tagging) tagging]
          exact congrArg some (congrArg (fun r : SlotRec => { r with reason := .disturbed }) capture)
      · have dropped : s.outboundWrite x p n bytes = s.dropOutbound x p n bytes r := by
          rw [outboundWrite_eq h.slotRec (.inl payload), tagged]
          exact if_pos payload
        rw [dropped]
        obtain ⟨nothing, answer, others, keys, ks, merges, notices, record, faults⟩ :=
          dropOutbound_settled (x := x) (p := p) (bytes := bytes) h.slotRec r ⟨rfl, rfl, rfl⟩
        refine ⟨nothing, answer, others, keys, ks, merges, notices, ?_, faults⟩
        rw [record, if_neg (c := r.state = .tagging) (by rw [tagged]; decide)]
        exact congrArg some capture
  · have served := served_completeMiss (s.setCipher none) m ks
    have run := exec_missComplete granted job kept found
    rw [show s.cipherOut g = ks from hks.symm] at run
    refine ⟨_, run, sameKeys_settle.2 served.keys, sameMeters_settle.2 served.meters, fun e out mem access strobed back => ?_,
      fun e beats mem access back => ?_, fun e out n o b r key entry access slot h arrival opening state hkey low start =>
      ⟨fun length all keys waiters valid fresh merge => ?_, fun u length keys waiters hu => ?_⟩⟩
    · exact (missBeats_settled (s := s.setCipher none) ages empty nodup mem back).1 out access strobed
    · exact (missBeats_settled (s := s.setCipher none) ages empty nodup mem back).2 beats access
    all_goals rw [completeMiss_eq (s := s.setCipher none) empty, waiters]
    · obtain ⟨l, served⟩ := served_whole (s := (s.setCipher none).missInserted m ks) entry access slot h arrival opening
        state hkey low start length all keys valid fresh merge ks
      rw [List.foldl_cons, List.foldl_cons, List.foldl_nil, served]
      obtain ⟨record, others, merges, faults, queue⟩ := foldedBlock_settled (s := (s.setCipher none).missInserted m ks) h l
        (fun r => { r with folded := b :: r.folded, whole := b :: r.whole }) ⟨.fold, n, o, key, blockOfStrobed
          (encipherBeat (encipherBeat out 0 (halfOf ks false)) 1 (halfOf ks true)), b⟩
      exact ⟨record, fun i hi => others i hi, merges, faults, queue⟩
    · obtain ⟨l, served⟩ := served_half (s := (s.setCipher none).missInserted m ks) entry access slot h arrival opening
        state low start length keys ks
      rw [List.foldl_cons, List.foldl_nil, served, hu]
      exact mergedBlock_settled (s := s) (t := ((s.setCipher none).missInserted m ks).setTransit l) ⟨rfl, rfl, rfl, rfl, rfl⟩ n b _

end Sys2Proof.Machine
end

section
/-!
SUPPORT. Writes to the control page and the fetch they lead to (R10, R15, R174, R175).
-/

namespace Sys2Proof.Machine
-- One theorem at a time: elaborated side by side, each would hold a stack of its own.
set_option Elab.async false

/-! ## The index words (R174) and the judgement of a fetch (R175) -/

section Words

variable {s : State} {v : Nat} {e : TransitEntry}

/-- The judgement of a fetch changes the command state and asks, nothing else (R175). -/
theorem judgeFetch_only (s : State) : ∃ state asked, s.judgeFetch =
    { s with ctl := { s.ctl with state := state }, bus := { s.bus with injAsked := asked } } := by
  unfold State.judgeFetch
  split <;> exact ⟨_, _, rfl⟩

/-- The command state of an IDLE unit once a fetch has been judged: FETCHING with a record pending (R175). -/
theorem judgeFetch_ctl (s : State) : s.judgeFetch.ctl = { s.ctl with
    state := if s.ctl.state = .idle ∧ s.ctl.producer ≠ s.ctl.consumer then .fetching else s.ctl.state } := by
  unfold State.judgeFetch
  by_cases fetch : s.ctl.state = .idle ∧ s.ctl.producer ≠ s.ctl.consumer
  · rw [if_pos ⟨fetch.1, decide_eq_true fetch.2⟩, if_pos fetch]
    rfl
  · rw [if_neg fun h => fetch ⟨h.1, of_decide_eq_true h.2⟩, if_neg fetch]

theorem takeProducer_ctl (s : State) (v : Nat) : (s.takeProducer v).ctl = { s.ctl with
    producer := v
    state := if s.ctl.state = .idle ∨ s.ctl.state = .halted then (if v = s.ctl.consumer then .idle else .fetching)
      else s.ctl.state } := by
  unfold State.takeProducer
  rw [judgeFetch_ctl]
  by_cases halted : s.ctl.state = .halted <;> by_cases idle : s.ctl.state = .idle <;>
    by_cases same : v = s.ctl.consumer <;> simp [State.setCtl, halted, idle, same]

/-- A producer index that leaves a record pending asks for its fetch (R175). -/
theorem takeProducer_asks (free : s.ctl.state = .idle ∨ s.ctl.state = .halted) (pending : v ≠ s.ctl.consumer) :
    ∃ q ∈ (s.takeProducer v).bus.injAsked, q.op = .fetch ∧ q.start = s.pageBase + 0x100 + 32 * s.ctl.consumer ∧
      q.access = .read 4 := by
  unfold State.takeProducer State.judgeFetch
  have idle : (if s.ctl.state = .halted then CmdState.idle else s.ctl.state) = .idle := by
    rcases free with h | h <;> simp [h]
  rw [if_pos ⟨idle, decide_eq_true pending⟩]
  exact ⟨_, List.mem_append_right _ (List.mem_singleton_self _), rfl, (Nat.add_assoc ..).symm, rfl⟩

theorem takeProducer_only (s : State) (v : Nat) : ∃ ctl asked, s.takeProducer v =
    { s with ctl := ctl, bus := { s.bus with injAsked := asked } } := by
  unfold State.takeProducer
  obtain ⟨_, _, h⟩ := judgeFetch_only
    (s.setCtl fun c => { c with producer := v, state := if c.state = .halted then .idle else c.state })
  exact ⟨_, _, h⟩

/-- Handing a control page write on changes the Control Unit and asks, nothing else (R174). -/
theorem handPage_only (s : State) (e : TransitEntry) : ∃ ctl asked, s.handPage e =
    { s with ctl := ctl, bus := { s.bus with injAsked := asked } } := by
  unfold State.handPage
  split
  · cases s.producerWritten e with
    | none => cases s.consumerWritten e <;> exact ⟨_, _, rfl⟩
    | some v =>
      obtain ⟨_, _, h⟩ := takeProducer_only s v
      dsimp only
      rw [h]
      cases s.consumerWritten e <;> exact ⟨_, _, rfl⟩
  · exact ⟨_, _, rfl⟩

/-- A write that takes neither index word is handed on without effect (R174). -/
theorem handPage_neither (producer : s.producerWritten e = none) (consumer : s.consumerWritten e = none) :
    s.handPage e = s := by
  unfold State.handPage
  rw [producer, consumer]
  exact ite_self _

/-- A write that takes the producer index does so whether or not it takes the consumer index as well (R174). -/
theorem handPage_producer (page : e.pageWrite = true) (taken : s.producerWritten e = some v) :
    (∃ copy, (s.handPage e).ctl = { (s.takeProducer v).ctl with ringConsumer := copy }) ∧
      (s.handPage e).bus = (s.takeProducer v).bus := by
  unfold State.handPage
  rw [if_pos page, taken]
  cases s.consumerWritten e <;> exact ⟨⟨_, rfl⟩, rfl⟩

/-- A write that takes the consumer index leaves the rest of the ring alone (R174). -/
theorem handPage_consumer (page : e.pageWrite = true) (taken : s.consumerWritten e = some v) :
    (s.handPage e).ctl.ringConsumer = v ∧ (s.handPage e).ctl.ringProducer = s.ctl.ringProducer ∧
      (s.handPage e).ctl.ringSize = s.ctl.ringSize := by
  unfold State.handPage
  rw [if_pos page, taken]
  cases s.producerWritten e with
  | none => exact ⟨rfl, rfl, rfl⟩
  | some w =>
    have ring := takeProducer_ctl s w
    exact ⟨rfl, by dsimp only [State.takeConsumer, State.setCtl]; rw [ring], by
      dsimp only [State.takeConsumer, State.setCtl]; rw [ring]⟩

theorem producerWritten_of_word (word : s.wordWritten e 0 = some v) (range : v ≤ 31) :
    s.producerWritten e = some v := by
  unfold State.producerWritten
  rw [word]
  exact if_pos range

theorem consumerWritten_of_word (word : s.wordWritten e 16 = some v) (live : s.ringLive = true)
    (position : v < s.ctl.ringSize) (span : (v + s.ctl.ringSize - s.ctl.ringConsumer) % s.ctl.ringSize ≤
      (s.ctl.ringProducer + s.ctl.ringSize - s.ctl.ringConsumer) % s.ctl.ringSize) :
    s.consumerWritten e = some v := by
  unfold State.consumerWritten
  rw [word]
  exact if_pos ⟨live, position, span⟩

end Words

/-! ## A write completed with OKAY (R15) -/

/-- The state in which a completed write is handed on: its entry freed, its response given (R15). -/
def State.writeFreed (s : State) (e : TransitEntry) : State :=
  (s.freeTransit e.id).respond ⟨e.initiator, e.start, true, []⟩

section Completes

variable {s : State} {e : TransitEntry} {id : Nat}

theorem completeWrite_eq (s : State) (e : TransitEntry) : s.completeWrite e = (s.writeFreed e).handPage e := rfl

theorem completeWrite_bus (s : State) (e : TransitEntry) : ∃ asked,
    (s.completeWrite e).bus = { (s.writeFreed e).bus with injAsked := asked } := by
  rw [completeWrite_eq]
  obtain ⟨ctl, asked, h⟩ := handPage_only (s.writeFreed e) e
  exact ⟨asked, congrArg State.bus h⟩

theorem completeWrite_answers (s : State) (e : TransitEntry) :
    (⟨e.initiator, e.start, true, []⟩ : UpResponse) ∈ (s.completeWrite e).settle.bus.up := by
  obtain ⟨asked, h⟩ := completeWrite_bus s e
  refine mem_up_settle ?_
  rw [h]
  exact List.mem_cons_self ..

theorem completeWrite_frees (s : State) (e : TransitEntry) :
    ∀ f ∈ (s.completeWrite e).settle.bus.transit, f.id ≠ e.id := by
  obtain ⟨asked, h⟩ := completeWrite_bus s e
  intro f hf
  rw [State.settle_transit, h] at hf
  have kept := (List.mem_filter.1 (List.mem_filter.1 hf).1).2
  simpa using kept

theorem completeWrite_sameBlocks (s : State) (e : TransitEntry) : SameBlocks s (s.completeWrite e).settle := by
  obtain ⟨ctl, asked, h⟩ := handPage_only (s.writeFreed e) e
  exact sameBlocks_of_control ⟨ctl, _, s.free, h⟩

theorem issuedWrite_id (issued : s.issuedWrite id = some e) : e.id = id := by
  unfold State.issuedWrite at issued
  split at issued
  · rename_i f found
    split at issued
    · split at issued
      · cases issued
        exact Bus.entry_id found
      · cases issued
    · cases issued
  · cases issued

theorem exec_pageWriteCompleted (issued : s.issuedWrite id = some e) (page : e.pageWrite = true)
    (producer : s.producerWritten e = none) (consumer : s.consumerWritten e = none) :
    exec (.controlPageOtherWrite (.completed id)) s = .next (s.completeWrite e).settle := by
  change execControlPageOtherWrite (.completed id) s = _
  unfold execControlPageOtherWrite
  dsimp only
  rw [issued]
  dsimp only
  rw [page, producer, consumer]
  rfl

theorem exec_commandProducerIndexWrite {v : Nat} (issued : s.issuedWrite id = some e) (page : e.pageWrite = true)
    (taken : s.producerWritten e = some v) :
    exec (.commandProducerIndexWrite id) s = .next (s.completeWrite e).settle := by
  change execCommandProducerIndexWrite id s = _
  unfold execCommandProducerIndexWrite
  rw [issued]
  dsimp only
  rw [page, taken]
  rfl

theorem exec_reportConsumerIndexWrite {v : Nat} (issued : s.issuedWrite id = some e) (page : e.pageWrite = true)
    (taken : s.consumerWritten e = some v) :
    exec (.reportConsumerIndexWrite id) s = .next (s.completeWrite e).settle := by
  change execReportConsumerIndexWrite id s = _
  unfold execReportConsumerIndexWrite
  rw [issued]
  dsimp only
  rw [page, taken]
  rfl

end Completes

/-! ## The rows -/

/-- A control page write that is the port's next transaction is accepted (R10). -/
theorem exec_pageWriteAccepted {x : Transaction} {s : State} {p : Place} (burst : x.wellFormed = true)
    (accepting : s.accepting = true) (place : s.placeOf x = some p) (role : p.role = .controlPage)
    (route : s.routeOf x = .pageWrite ∨ s.routeOf x = .conflict) :
    exec (.controlPageOtherWrite (.accepted x)) s = .next (s.acceptAt x p (s.routeOf x)).settle := by
  have mine : s.pageAccess x = true := by
    unfold State.pageAccess
    rw [place]
    simpa [role] using route
  change execControlPageOtherWrite (.accepted x) s = _
  unfold execControlPageOtherWrite
  dsimp only
  rw [if_pos burst, accepting, mine, ← accept_at place]
  rfl

/-- The state after a fetch has returned: its entry freed, the record to execute in the unit (R175). -/
def State.recordFetched (s : State) (id : Nat) (data : List Byte) : State :=
  (s.freeInj id).setCtl fun c => if c.state = .fetching then { c with state := .executing, record := data } else c

theorem exec_commandFetchReturn {id : Nat} {data : List Byte} {s : State} {e : InjEntry}
    (issued : s.issuedInj id = some e) (op : e.req.op = .fetch) (beats : data.length = 32) :
    exec (.commandFetchReturn id data) s = .next (s.recordFetched id data).settle := by
  change execCommandFetchReturn id data s = _
  unfold execCommandFetchReturn
  rw [issued]
  dsimp only
  rw [if_pos op, if_pos beats]
  rfl

/-- The window of the control page has no slot records. -/
theorem placeChannel_page {x : Transaction} {s : State} {p : Place} (place : s.placeOf x = some p)
    (role : p.role = .controlPage) : s.placeChannel p = none := by
  have unnumbered : p.recNo = none := by
    unfold State.placeOf at place
    split at place
    · unfold State.placeIn at place
      split at place
      · cases place
      · split at place
        · rename_i slots
          cases place
          dsimp only at role
          rw [role] at slots
          cases slots
        · cases place
          rfl
    · cases place
  unfold State.placeChannel
  rw [unnumbered]
  rfl

/-- Settles O28: each of the two index words by itself, since one write may carry both. -/
theorem indexWordsAreTaken : Obligations.IndexWordsAreTaken := by
  refine ⟨?accepted, ?other, ?producer, ?consumer, ?fetched⟩
  case accepted =>
    intro x s p bytes burst accepting place role write line
    refine ⟨fun clear => ?_, fun lineSide => ?_⟩
    · have route : s.routeOf x = .pageWrite := by
        rw [routeOf_dispatch place line (by rw [clear]; decide), clear, role, write]
        rfl
      refine ⟨_, exec_pageWriteAccepted burst accepting place role (.inl route), ?_⟩
      rw [route, acceptAt_raw (.inr rfl)]
      exact ⟨(enter_sameUnits s _).settle, _, mem_transit_settle (mem_enter s _) rfl (emptied_of_fills rfl),
        rfl, rfl, rfl, rfl, decide_eq_true clear⟩
    · have route : s.routeOf x = .conflict := by
        rw [routeOf_dispatch place line (by rw [lineSide]; decide), lineSide, role, write]
        rfl
      refine ⟨_, exec_pageWriteAccepted burst accepting place role (.inr route), ?_⟩
      have refused : s.acceptAt x p .conflict = s.refuse x .conflict none p :=
        congrArg (s.refuse x .conflict · p) (placeChannel_page place role)
      rw [route, refused]
      obtain ⟨nothing, answer, frames, keys, meters, notices, faults⟩ :=
        refuse_settled (s := s) x .conflict none p (by decide)
      exact ⟨nothing, answer, keys, meters, frames, notices, faults⟩
  case other =>
    intro id s e issued page producer consumer
    refine ⟨_, exec_pageWriteCompleted issued page producer consumer, ?_, completeWrite_answers s e,
      issuedWrite_id issued ▸ completeWrite_frees s e⟩
    rw [completeWrite_eq, handPage_neither (s := s.writeFreed e) producer consumer]
    exact SameUnits.settle ⟨⟨rfl, rfl, rfl⟩, ⟨rfl, rfl⟩, ⟨rfl, rfl⟩, rfl, rfl, rfl⟩
  case producer =>
    intro id v s e issued page word range
    have taken : (s.writeFreed e).producerWritten e = some v := producerWritten_of_word (s := s) word range
    obtain ⟨⟨copy, ctl⟩, bus⟩ := handPage_producer page taken
    have unit : (s.completeWrite e).settle.ctl = { { (s.takeProducer v).ctl with ringConsumer := copy } with
        irq := (s.completeWrite e).irqWanted } := by
      rw [State.settle_ctl, completeWrite_eq, ctl, takeProducer_ctl, takeProducer_ctl]
      rfl
    refine ⟨_, exec_commandProducerIndexWrite issued page (producerWritten_of_word word range), ?_, ?_, ?_, ?_,
      completeWrite_answers s e, completeWrite_sameBlocks s e⟩
    · rw [unit, takeProducer_ctl]
    · rw [unit, takeProducer_ctl]
    · rw [unit, takeProducer_ctl]
    · intro free pending
      obtain ⟨q, hq, asks⟩ := takeProducer_asks (s := s.writeFreed e) free pending
      exact ⟨q, mem_requests_of_asked (by rw [completeWrite_eq, bus]; exact hq), asks⟩
  case consumer =>
    intro id v s e issued page word live position span
    have taken : (s.writeFreed e).consumerWritten e = some v := consumerWritten_of_word (s := s) word live position span
    obtain ⟨copy, producer, size⟩ := handPage_consumer page taken
    have windows : (s.completeWrite e).windows = s.windows := by
      obtain ⟨_, _, h⟩ := handPage_only (s.writeFreed e) e
      rw [completeWrite_eq, h]
      rfl
    refine ⟨_, exec_reportConsumerIndexWrite issued page (consumerWritten_of_word word live position span), ?_, ?_, ?_,
      completeWrite_answers s e, completeWrite_sameBlocks s e⟩
    · rw [State.settle_ctl]
      exact copy
    · rw [State.settle_ctl]
      exact producer
    · have ring : (s.completeWrite e).ringLive = true := (ringLive_of_same windows size).trans live
      rw [State.settle_ctl]
      change (s.completeWrite e).irqWanted = _
      unfold State.irqWanted
      rw [ring, Bool.true_and]
      exact decide_eq_decide.2 (by rw [completeWrite_eq, producer, copy]; rfl)
  case fetched =>
    intro id data s e issued op beats state
    have unit : (s.recordFetched id data).ctl = { s.ctl with state := .executing, record := data } := if_pos state
    refine ⟨_, exec_commandFetchReturn issued op beats, ?_, ?_, ?_, sameBlocks_of_control ⟨_, _, s.free, rfl⟩⟩
    · rw [State.settle_ctl, unit]
    · rw [State.settle_ctl, unit]
    · rw [State.settle_ctl, unit]

end Sys2Proof.Machine

end

section
/-!
SUPPORT. The arrival of an inbound frame (R74 to R78): the payload of a line-side write, block by block, and the header
with its key choice.
-/

namespace Sys2Proof.Machine
-- One theorem at a time: elaborated side by side, each would hold a stack of its own.
set_option Elab.async false

/-! ## What the payload blocks change (R78) -/

/-- Only slot record n, the merge queue and the multiplier's queue have changed. -/
def Folding (n : Nat) (s t : State) : Prop :=
  (∃ pool merges queue, t = { s with pool := pool, merges := merges, ks := { s.ks with mulQueue := queue } }) ∧
    OtherRecords s t n

theorem Folding.refl (n : Nat) (s : State) : Folding n s s := ⟨⟨_, _, _, rfl⟩, fun _ _ => rfl⟩

theorem Folding.trans {n : Nat} {s t u : State} (h : Folding n s t) (g : Folding n t u) : Folding n s u := by
  obtain ⟨⟨_, _, _, rfl⟩, others⟩ := h
  obtain ⟨⟨_, _, _, rfl⟩, others'⟩ := g
  exact ⟨⟨_, _, _, rfl⟩, fun m hm => (others' m hm).trans (others m hm)⟩

theorem folding_clearValid (s : State) (n : Nat) : Folding n s (s.clearValid n) :=
  ⟨⟨_, _, _, rfl⟩, clearValid_others s n⟩

theorem folding_fold (s : State) (n b : Nat) (blk : Block) (whole : Bool) : Folding n s (s.fold n b blk whole) := by
  unfold State.fold
  cases s.slotRec n with
  | none => exact Folding.refl n s
  | some r =>
    dsimp only
    split
    · exact Folding.refl n s
    split
    · exact folding_clearValid s n
    split
    · exact ⟨⟨_, _, _, rfl⟩, setRec_others s n fun r =>
        { r with folded := b :: r.folded, whole := if whole then b :: r.whole else r.whole }⟩
    · exact Folding.refl n s

section Blocks

variable {s : State} {n b o : Nat} {a : SlotRec} {key : KeyRef} {bytes : List (Option Byte)} {off : Nat}

theorem folding_arriveBlock (s : State) (n : Nat) (bytes : List (Option Byte)) (off b : Nat) :
    Folding n s (s.arriveBlock n bytes off b) := by
  unfold State.arriveBlock
  cases s.slotRec n with
  | none => exact Folding.refl n s
  | some r =>
    dsimp only
    split
    · exact folding_clearValid s n
    split
    · exact Folding.refl n s
    split
    · exact Folding.refl n s
    split
    · exact folding_fold s n b _ _
    split
    · exact Folding.refl n s
    · exact folding_clearValid s n

theorem folding_arriveBlocks (n : Nat) (bytes : List (Option Byte)) (off : Nat) (l : List Nat) (s : State) :
    Folding n s (l.foldl (fun st b => st.arriveBlock n bytes off b) s) := by
  induction l generalizing s with
  | nil => exact Folding.refl n s
  | cons b l ih => exact (folding_arriveBlock s n bytes off b).trans (ih _)

/-! ## One block (R78) -/

/-- A block before the header, whose frame cannot be authenticated, clears the valid flag. -/
theorem arriveBlock_unseen (h : s.slotRec n = some a) (unseen : a.headerSeen = false) :
    s.arriveBlock n bytes off b = s.clearValid n := by
  unfold State.arriveBlock
  rw [h]
  exact if_pos (by simp [unseen])

theorem arriveBlock_condemned (h : s.slotRec n = some a) (seen : a.headerSeen = true) (condemned : a.condemned = true) :
    s.arriveBlock n bytes off b = s := by
  unfold State.arriveBlock
  rw [h]
  exact (if_neg (by simp [seen])).trans (if_pos condemned)

/-- The record of a frame whose payload is taken: its header has been seen, and nothing condemns it (R78). -/
def SlotRec.takes (a : SlotRec) : Prop := a.headerSeen = true ∧ a.condemned = false

/-- A block of a frame whose payload is taken, by its place in the frame and its bytes. -/
theorem arriveBlock_taken (h : s.slotRec n = some a) (takes : a.takes) : s.arriveBlock n bytes off b =
    if blockCount (a.length.getD 0) < b then s
    else if (blockBytesIn bytes off b).all Option.isSome = true then
      s.fold n b (blockOfStrobed (blockBytesIn bytes off b)) true
    else if b = blockCount (a.length.getD 0) ∧ 0 < tailOf (a.length.getD 0) ∧ a.folded.contains b = false then s
    else s.clearValid n := by
  obtain ⟨seen, condemned⟩ := takes
  unfold State.arriveBlock
  rw [h]
  exact (if_neg (by simp [seen])).trans (if_neg (by simp [condemned]))

/-- A block beyond the frame, or a part of the padded last block not folded yet, does nothing. -/
theorem arriveBlock_passes (h : s.slotRec n = some a) (takes : a.takes)
    (passes : blockCount (a.length.getD 0) < b ∨ (b = blockCount (a.length.getD 0) ∧ 0 < tailOf (a.length.getD 0) ∧
      b ∉ a.folded ∧ (blockBytesIn bytes off b).all Option.isSome = false)) :
    s.arriveBlock n bytes off b = s := by
  rw [arriveBlock_taken h takes]
  rcases passes with beyond | ⟨last, tail, fresh, part⟩
  · exact if_pos beyond
  · rw [if_neg (by omega), if_neg (by simp [part]), if_pos ⟨last, tail, by simpa using fresh⟩]

/-- A block folded before, or a part of a block that is not the padded last one, clears the valid flag. -/
theorem arriveBlock_spoils (h : s.slotRec n = some a) (takes : a.takes) (within : b ≤ blockCount (a.length.getD 0))
    (spoils : b ∈ a.folded ∨ ((blockBytesIn bytes off b).all Option.isSome = false ∧
      (b < blockCount (a.length.getD 0) ∨ tailOf (a.length.getD 0) = 0))) :
    (s.arriveBlock n bytes off b).slotRec n = some { a with valid := false } ∧ (s.arriveBlock n bytes off b).ks = s.ks := by
  rw [arriveBlock_taken h takes, if_neg (by omega)]
  by_cases whole : (blockBytesIn bytes off b).all Option.isSome = true
  · have again : b ∈ a.folded := spoils.resolve_right fun ⟨part, _⟩ => by simp [whole] at part
    rw [if_pos whole]
    unfold State.fold
    rw [h]
    dsimp only
    cases valid : a.valid with
    | false =>
      refine ⟨?_, rfl⟩
      rw [if_pos (by rfl), h, ← valid]
    | true =>
      rw [if_neg (by decide), if_pos (by simpa using again)]
      exact ⟨clearValid_self h, rfl⟩
  · rw [if_neg whole, if_neg]
    · exact ⟨clearValid_self h, rfl⟩
    · rintro ⟨last, tail, fresh⟩
      rcases spoils with again | ⟨-, before | none⟩
      · simp [again] at fresh
      · omega
      · omega

/-- A whole block of the frame, not folded yet, is folded. -/
theorem arriveBlock_folds (h : s.slotRec n = some a) (takes : a.takes) (valid : a.valid = true)
    (opening : a.opening = some o) (hk : a.key = some key) (within : b ≤ blockCount (a.length.getD 0))
    (fresh : b ∉ a.folded) (whole : (blockBytesIn bytes off b).all Option.isSome = true) :
    (s.arriveBlock n bytes off b).slotRec n = some { a with folded := b :: a.folded, whole := b :: a.whole } ∧
      (s.arriveBlock n bytes off b).ks = { s.ks with mulQueue :=
        s.ks.mulQueue ++ [⟨.fold, n, o, key, blockOfStrobed (blockBytesIn bytes off b), b⟩] } := by
  rw [arriveBlock_taken h takes, if_neg (by omega), if_pos whole, fold_taken h valid fresh opening hk]
  exact ⟨setRec_self (fun r => { r with folded := b :: r.folded, whole := b :: r.whole }) h, rfl⟩

/-- Whatever a block does, it leaves the record but for what the finish is decided on, and spoils for good (R36). -/
theorem arriveBlock_record (h : s.slotRec n = some a) : ∃ v folded whole,
    (s.arriveBlock n bytes off b).slotRec n = some { a with valid := v, folded := folded, whole := whole } ∧
      a.folded ⊆ folded ∧ (a.valid = false → v = false) := by
  have same : ∃ v folded whole, s.slotRec n = some { a with valid := v, folded := folded, whole := whole } ∧
      a.folded ⊆ folded ∧ (a.valid = false → v = false) :=
    ⟨a.valid, a.folded, a.whole, h, List.Subset.refl _, fun h => h⟩
  have cleared : ∃ v folded whole, (s.clearValid n).slotRec n = some { a with valid := v, folded := folded, whole := whole } ∧
      a.folded ⊆ folded ∧ (a.valid = false → v = false) :=
    ⟨false, a.folded, a.whole, clearValid_self h, List.Subset.refl _, fun _ => rfl⟩
  unfold State.arriveBlock
  rw [h]
  dsimp only
  split
  · exact cleared
  split
  · exact same
  split
  · exact same
  split
  · unfold State.fold
    rw [h]
    dsimp only
    split
    · exact same
    split
    · exact cleared
    split
    · exact ⟨a.valid, b :: a.folded, b :: a.whole,
        setRec_self (fun r => { r with folded := b :: r.folded, whole := if true then b :: r.whole else r.whole }) h,
        List.subset_cons_self _ _, fun h => h⟩
    · exact same
  split
  · exact same
  · exact cleared

end Blocks

/-! ## The blocks of a write, in order (R78) -/

section Payload

variable {n o : Nat} {key : KeyRef} {bytes : List (Option Byte)} {off : Nat}

theorem arriveBlocks_record (l : List Nat) {s : State} {a : SlotRec} (h : s.slotRec n = some a) : ∃ v folded whole,
    (l.foldl (fun st b => st.arriveBlock n bytes off b) s).slotRec n =
      some { a with valid := v, folded := folded, whole := whole } ∧ (a.valid = false → v = false) := by
  induction l generalizing s a with
  | nil => exact ⟨a.valid, a.folded, a.whole, h, fun h => h⟩
  | cons b l ih =>
    obtain ⟨v, f, w, first, -, invalid⟩ := arriveBlock_record (bytes := bytes) (off := off) (b := b) h
    obtain ⟨v', f', w', rest, invalid'⟩ := ih first
    exact ⟨v', f', w', rest, fun h => invalid' (invalid h)⟩

/-- Once the valid flag is clear before the header, the blocks change nothing more. -/
theorem arriveBlocks_unseen_invalid (l : List Nat) {s : State} {a : SlotRec} (h : s.slotRec n = some a)
    (unseen : a.headerSeen = false) (invalid : a.valid = false) :
    (l.foldl (fun st b => st.arriveBlock n bytes off b) s).slotRec n = some a ∧
      (l.foldl (fun st b => st.arriveBlock n bytes off b) s).ks = s.ks := by
  induction l generalizing s with
  | nil => exact ⟨h, rfl⟩
  | cons b l ih =>
    rw [List.foldl_cons, arriveBlock_unseen h unseen]
    refine ih ((clearValid_self h).trans ?_)
    rw [← invalid]

theorem arriveBlocks_unseen {l : List Nat} {s : State} {a : SlotRec} (h : s.slotRec n = some a)
    (unseen : a.headerSeen = false) (some : l ≠ []) :
    (l.foldl (fun st b => st.arriveBlock n bytes off b) s).slotRec n = .some { a with valid := false } ∧
      (l.foldl (fun st b => st.arriveBlock n bytes off b) s).ks = s.ks := by
  obtain ⟨b, rest, rfl⟩ := List.exists_cons_of_ne_nil some
  rw [List.foldl_cons, arriveBlock_unseen h unseen]
  exact arriveBlocks_unseen_invalid rest (s := s.clearValid n) (a := { a with valid := false }) (clearValid_self h) unseen rfl

theorem arriveBlocks_condemned (l : List Nat) {s : State} {a : SlotRec} (h : s.slotRec n = some a)
    (seen : a.headerSeen = true) (condemned : a.condemned = true) :
    l.foldl (fun st b => st.arriveBlock n bytes off b) s = s := by
  induction l with
  | nil => rfl
  | cons b l ih => rw [List.foldl_cons, arriveBlock_condemned h seen condemned, ih]

/-- The fold requests of a run of whole blocks (R36). -/
def foldsOf (n o : Nat) (key : KeyRef) (bytes : List (Option Byte)) (off : Nat) (run : List Nat) : List MulReq :=
  run.map fun b => ⟨.fold, n, o, key, blockOfStrobed (blockBytesIn bytes off b), b⟩

/-- Blocks of which none spoils: the whole ones of the frame are folded, in order. -/
theorem arriveBlocks_folded {l : List Nat} (distinct : l.Nodup) {s : State} {a : SlotRec} (h : s.slotRec n = some a)
    (takes : a.takes) (valid : a.valid = true) (opening : a.opening = some o) (hk : a.key = some key)
    (clean : ∀ b ∈ l, blockCount (a.length.getD 0) < b ∨ (b ∉ a.folded ∧
      ((blockBytesIn bytes off b).all Option.isSome = true ∨
        (b = blockCount (a.length.getD 0) ∧ 0 < tailOf (a.length.getD 0)))))
    {run : List Nat} (hrun : run = l.filter fun b =>
      decide (b ≤ blockCount (a.length.getD 0)) && (blockBytesIn bytes off b).all Option.isSome) :
    (l.foldl (fun st b => st.arriveBlock n bytes off b) s).slotRec n =
        some { a with folded := run.reverse ++ a.folded, whole := run.reverse ++ a.whole } ∧
      (l.foldl (fun st b => st.arriveBlock n bytes off b) s).ks =
        { s.ks with mulQueue := s.ks.mulQueue ++ foldsOf n o key bytes off run } := by
  subst hrun
  induction l generalizing s a with
  | nil => exact ⟨h, by simp [foldsOf]⟩
  | cons b l ih =>
    obtain ⟨apart, distinct⟩ := List.nodup_cons.1 distinct
    have rest := fun c hc => clean c (List.mem_cons_of_mem _ hc)
    rw [List.foldl_cons]
    by_cases folds : b ≤ blockCount (a.length.getD 0) ∧ (blockBytesIn bytes off b).all Option.isSome = true
    · obtain ⟨within, whole⟩ := folds
      obtain ⟨fresh, -⟩ := (clean b (List.mem_cons_self ..)).resolve_left (by omega)
      obtain ⟨record, ks⟩ := arriveBlock_folds h takes valid opening hk within fresh whole
      obtain ⟨record', ks'⟩ := ih distinct record takes valid opening hk fun c hc => (rest c hc).imp_right fun ⟨old, how⟩ =>
        ⟨fun mem => (List.mem_cons.1 mem).elim (fun same => apart (same ▸ hc)) old, how⟩
      rw [List.filter_cons_of_pos (by simp only [whole, within, decide_true, Bool.and_self])]
      refine ⟨?_, ?_⟩
      · rw [record']
        simp only [List.reverse_cons, List.append_assoc, List.singleton_append]
      · rw [ks', ks]
        simp only [foldsOf, List.map_cons, List.append_assoc, List.singleton_append]
    · have passes : s.arriveBlock n bytes off b = s := by
        by_cases beyond : blockCount (a.length.getD 0) < b
        · exact arriveBlock_passes h takes (.inl beyond)
        · have part : ¬ (blockBytesIn bytes off b).all Option.isSome = true := fun whole => folds ⟨by omega, whole⟩
          obtain ⟨fresh, how⟩ := (clean b (List.mem_cons_self ..)).resolve_left beyond
          obtain ⟨last, tail⟩ := how.resolve_left part
          exact arriveBlock_passes h takes (.inr ⟨last, tail, fresh, eq_false_of_ne_true part⟩)
      rw [passes, List.filter_cons_of_neg (by simpa using folds)]
      exact ih distinct h takes valid opening hk rest

/-- A block that spoils clears the valid flag for good, wherever it stands in the write. -/
theorem arriveBlocks_spoilt {l : List Nat} {s : State} {a : SlotRec} (h : s.slotRec n = some a) (takes : a.takes) {b : Nat}
    (mem : b ∈ l) (within : b ≤ blockCount (a.length.getD 0))
    (spoils : b ∈ a.folded ∨ ((blockBytesIn bytes off b).all Option.isSome = false ∧
      (b < blockCount (a.length.getD 0) ∨ tailOf (a.length.getD 0) = 0))) :
    ∃ q, (l.foldl (fun st b => st.arriveBlock n bytes off b) s).slotRec n = some q ∧ q.valid = false := by
  induction l generalizing s a with
  | nil => exact absurd mem (List.not_mem_nil)
  | cons c l ih =>
    rw [List.foldl_cons]
    rcases List.mem_cons.1 mem with rfl | mem
    · obtain ⟨v, f, w, record, invalid⟩ := arriveBlocks_record l (arriveBlock_spoils h takes within spoils).1
      exact ⟨_, record, invalid rfl⟩
    · obtain ⟨v, f, w, record, more, -⟩ := arriveBlock_record (bytes := bytes) (off := off) (b := c) h
      exact ih record takes mem within (spoils.imp_left (more ·))

end Payload

/-! ## The header (R25, R75 to R77) -/

/-- Only slot record n, the key slots' books and the next age have changed. -/
def Parsing (n : Nat) (s t : State) : Prop :=
  (∃ pool keys stamp, t = { s with pool := pool, keys := keys, stamp := stamp }) ∧ OtherRecords s t n

theorem Parsing.refl (n : Nat) (s : State) : Parsing n s s := ⟨⟨_, _, _, rfl⟩, fun _ _ => rfl⟩

theorem Parsing.trans {n : Nat} {s t u : State} (h : Parsing n s t) (g : Parsing n t u) : Parsing n s u := by
  obtain ⟨⟨_, _, _, rfl⟩, others⟩ := h
  obtain ⟨⟨_, _, _, rfl⟩, others'⟩ := g
  exact ⟨⟨_, _, _, rfl⟩, fun m hm => (others' m hm).trans (others m hm)⟩

theorem parsing_setRec (s : State) (n : Nat) (f : SlotRec → SlotRec) : Parsing n s (s.setRec n f) :=
  ⟨⟨_, _, _, rfl⟩, setRec_others s n f⟩

theorem parsing_takeRef (s : State) (n : Nat) (k : Fin 32) : Parsing n s (s.takeRef k) :=
  ⟨⟨_, _, _, rfl⟩, fun _ _ => rfl⟩

/-- What the header bytes of a write leave as it was of their record (R74, R75). -/
structure SameArrival (a b : SlotRec) : Prop where
  state : b.state = a.state
  opening : b.opening = a.opening
  valid : b.valid = a.valid
  folded : b.folded = a.folded
  whole : b.whole = a.whole

theorem SameArrival.refl (a : SlotRec) : SameArrival a a := ⟨rfl, rfl, rfl, rfl, rfl⟩

section KeyChoice

variable {s : State} {n : Nat} {a : SlotRec} {c : Fin 16} {k : Fin 32} {g : Byte}

theorem parsing_chooseKey (s : State) (n : Nat) (r : SlotRec) : Parsing n s (s.chooseKey n r) := by
  unfold State.chooseKey
  (repeat' split)
  · exact parsing_setRec s n _
  · exact parsing_setRec s n _
  · exact parsing_setRec s n _
  · exact parsing_setRec s n _
  · exact (parsing_setRec s n _).trans (parsing_takeRef _ n _)

/-- The key slot in a role, when its generation is g. -/
def State.withGen (s : State) (role : Option (Fin 32)) (g : Byte) : Option (Fin 32) :=
  role.filter fun k => decide ((s.key k).gen = g)

theorem keyOfGen_eq (s : State) (c : Fin 16) (g : Byte) : s.keyOfGen c g =
    ((s.withGen (s.chan c).cur g).or (s.withGen (s.chan c).next g)).or (s.withGen (s.chan c).prev g) := by
  unfold State.keyOfGen State.withGen
  cases (s.chan c).cur <;> cases (s.chan c).next <;> cases (s.chan c).prev <;>
    simp only [List.findSome?_cons, List.findSome?_nil, Option.filter_none, Option.filter_some, decide_eq_true_eq] <;>
    (repeat' split) <;> simp_all

theorem withGen_of_gen (gen : (s.key k).gen = g) : s.withGen (some k) g = some k := by
  simp [State.withGen, Option.filter_some, gen]

theorem withGen_of_apart {role : Option (Fin 32)} (apart : ∀ j, role = some j → (s.key j).gen ≠ g) :
    s.withGen role g = none := by
  cases role with
  | none => rfl
  | some j => simp [State.withGen, Option.filter_some, apart j rfl]

/-- The key slot found among the three roles, in their order (R76). -/
theorem keyOfGen_found (gen : (s.key k).gen = g) (role : (s.chan c).cur = some k ∨
    ((s.chan c).next = some k ∧ ∀ j, (s.chan c).cur = some j → (s.key j).gen ≠ g) ∨
    ((s.chan c).prev = some k ∧ ∀ j, (s.chan c).cur = some j ∨ (s.chan c).next = some j → (s.key j).gen ≠ g)) :
    s.keyOfGen c g = some k := by
  rw [keyOfGen_eq]
  rcases role with cur | ⟨next, cur⟩ | ⟨prev, before⟩
  · rw [cur, withGen_of_gen gen]
    rfl
  · rw [withGen_of_apart cur, next, withGen_of_gen gen]
    rfl
  · rw [withGen_of_apart fun j h => before j (.inl h), withGen_of_apart fun j h => before j (.inr h), prev,
      withGen_of_gen gen]
    rfl

theorem keyOfGen_absent (absent : ∀ k : Fin 32, (s.chan c).cur = some k ∨ (s.chan c).next = some k ∨
    (s.chan c).prev = some k → (s.key k).gen ≠ g) : s.keyOfGen c g = none := by
  rw [keyOfGen_eq, withGen_of_apart fun j h => absent j (.inl h), withGen_of_apart fun j h => absent j (.inr (.inl h)),
    withGen_of_apart fun j h => absent j (.inr (.inr h))]
  rfl

/-- Where the root key is wanted and the fuses are BLANK, or no key slot of the generation serves (R76). -/
theorem chooseKey_none (h : s.slotRec n = some a) (channel : a.channel = some c)
    (no : (a.kind = some kindOffer ∧ s.fuses.programmed = false) ∨
      (a.kind ≠ some kindOffer ∧ s.keyOfGen c (a.gen.getD 0) = none)) :
    (s.chooseKey n a).slotRec n = some { a with reason := .noKey } ∧ (s.chooseKey n a).keys = s.keys := by
  have chosen : s.chooseKey n a = s.setRec n fun r => { r with reason := .noKey } := by
    unfold State.chooseKey
    rw [channel]
    dsimp only
    rcases no with ⟨kind, blank⟩ | ⟨kind, absent⟩
    · rw [if_pos kind, if_neg (by simp [blank])]
    · rw [if_neg kind, absent]
  rw [chosen]
  exact ⟨setRec_self (fun r => { r with reason := .noKey }) h, rfl⟩

/-- A KEY_OFFER is opened under the root key, and doomed by a serial below the offer high mark (R76, R77). -/
theorem chooseKey_offer (h : s.slotRec n = some a) (channel : a.channel = some c) (kind : a.kind = some kindOffer)
    (programmed : s.fuses.programmed = true) : (s.chooseKey n a).slotRec n =
        some { a with key := some .root, doomed := decide ((a.seq.getD 0).toNat < (s.chan c).highMark) } ∧
      (s.chooseKey n a).keys = s.keys := by
  have chosen : s.chooseKey n a = s.setRec n fun r =>
      { r with key := some .root, doomed := decide ((r.seq.getD 0).toNat < (s.chan c).highMark) } := by
    unfold State.chooseKey
    rw [channel]
    dsimp only
    rw [if_pos kind, if_pos programmed]
  rw [chosen]
  exact ⟨setRec_self (fun r =>
    { r with key := some .root, doomed := decide ((r.seq.getD 0).toNat < (s.chan c).highMark) }) h, rfl⟩

/-- A DATA frame is opened under the key slot of its generation, with a reference, and doomed by its window (R76, R77). -/
theorem chooseKey_data (h : s.slotRec n = some a) (channel : a.channel = some c) (kind : a.kind ≠ some kindOffer)
    (found : s.keyOfGen c (a.gen.getD 0) = some k) {seq : Nat} (hseq : seq = (a.seq.getD 0).toNat) :
    (s.chooseKey n a).slotRec n =
        some { a with key := some (.slot k), doomed := (s.key k).passedPosition seq || (s.key k).tooOld seq } ∧
      (s.chooseKey n a).keys = (s.takeRef k).keys := by
  have chosen : s.chooseKey n a = (s.setRec n fun r =>
      { r with key := some (.slot k), doomed := (s.key k).passedPosition seq || (s.key k).tooOld seq }).takeRef k := by
    unfold State.chooseKey
    rw [channel]
    dsimp only
    rw [if_neg kind, found, hseq]
  rw [chosen]
  exact ⟨setRec_self (fun r =>
    { r with key := some (.slot k), doomed := (s.key k).passedPosition seq || (s.key k).tooOld seq }) h, rfl⟩

/-- The key choice settles the key, the doomed flag and the reason, and nothing else of the record (R76, R77). -/
theorem chooseKey_record (h : s.slotRec n = some a) (r : SlotRec) : ∃ key doomed reason,
    (s.chooseKey n r).slotRec n = some { a with key := key, doomed := doomed, reason := reason } := by
  have noKey := setRec_self (fun r => { r with reason := .noKey }) h
  unfold State.chooseKey
  (repeat' split)
  · exact ⟨_, _, _, noKey⟩
  · exact ⟨_, _, _, setRec_self (fun x => { x with key := some .root, doomed := _ }) h⟩
  · exact ⟨_, _, _, noKey⟩
  · exact ⟨_, _, _, noKey⟩
  · exact ⟨_, _, _, setRec_self (fun x => { x with key := some (.slot _), doomed := _ }) h⟩

end KeyChoice

/-- The checks of the parse bound the channel byte and the kind (R25). -/
theorem headerSound_fields {bytes : List (Option Byte)} {off : Nat} {shop : BitVec 32}
    (sound : headerSound bytes off shop = true) :
    (headerField bytes off 1 2 = 1 ∨ headerField bytes off 1 2 = 2) ∧ headerField bytes off 2 3 ≤ 15 := by
  unfold headerSound at sound
  simp only [Bool.and_eq_true, Bool.or_eq_true, beq_iff_eq, decide_eq_true_eq] at sound
  obtain ⟨⟨⟨⟨⟨-, kind⟩, channel⟩, -⟩, -⟩, -⟩ := sound
  exact ⟨kind, channel⟩

section Parse

variable {s : State} {n : Nat} {a : SlotRec} {bytes : List (Option Byte)} {off : Nat}

theorem parsing_parseHeader (s : State) (n : Nat) (bytes : List (Option Byte)) (off : Nat) :
    Parsing n s (s.parseHeader n bytes off) := by
  unfold State.parseHeader
  dsimp only
  have parsed := parsing_setRec s n fun r => r.parsed bytes off (headerSound bytes off s.shop)
  (repeat' split)
  · exact parsed.trans (parsing_chooseKey _ n _)
  · exact parsed
  · exact parsed

/-- A header that is not sound gives the record its fields and the reason MALFORMED (R75). -/
theorem parseHeader_malformed (h : s.slotRec n = some a) (unsound : headerSound bytes off s.shop = false) :
    s.parseHeader n bytes off = s.setRec n fun r => r.parsed bytes off false := by
  unfold State.parseHeader
  dsimp only
  rw [unsound, setRec_self (fun r => r.parsed bytes off false) h]
  rfl

/-- A sound header gives the record its fields, and the key is chosen for it (R75, R76). -/
theorem parseHeader_sound (h : s.slotRec n = some a) (sound : headerSound bytes off s.shop = true) :
    s.parseHeader n bytes off =
      (s.setRec n fun r => r.parsed bytes off true).chooseKey n (a.parsed bytes off true) := by
  unfold State.parseHeader
  dsimp only
  rw [sound, setRec_self (fun r => r.parsed bytes off true) h]
  rfl

/-- The fields of a header are the record's, whatever the parse and the key choice say of it (R25, R75). -/
theorem parseHeader_record (h : s.slotRec n = some a) : ∃ key doomed reason,
    (s.parseHeader n bytes off).slotRec n =
      some { a.parsed bytes off true with key := key, doomed := doomed, reason := reason } := by
  cases sound : headerSound bytes off s.shop with
  | true =>
    rw [parseHeader_sound h sound]
    exact chooseKey_record (setRec_self (fun r => r.parsed bytes off true) h) _
  | false =>
    rw [parseHeader_malformed h sound]
    exact ⟨a.key, a.doomed, .malformed, (setRec_self (fun r => r.parsed bytes off false) h).trans rfl⟩

theorem parsing_arriveHeader (s : State) (n : Nat) (bytes : List (Option Byte)) (off : Nat) :
    Parsing n s (s.arriveHeader n bytes off) := by
  unfold State.arriveHeader
  (repeat' split)
  · exact Parsing.refl n s
  · exact parsing_setRec s n _
  · exact Parsing.refl n s
  · exact parsing_parseHeader s n bytes off
  · exact Parsing.refl n s

theorem arriveHeader_first (h : s.slotRec n = some a) (unseen : a.headerSeen = false)
    (whole : strobesAll bytes off 0 16 = true) : s.arriveHeader n bytes off = s.parseHeader n bytes off := by
  unfold State.arriveHeader
  rw [h]
  exact (if_neg (by simp [unseen])).trans (if_pos whole)

/-- A byte of a header already seen makes the reason MALFORMED, or leaves MEMORY (R75). -/
theorem arriveHeader_again (h : s.slotRec n = some a) (seen : a.headerSeen = true)
    (strobes : strobesIn bytes off 0 14 = true) : (s.arriveHeader n bytes off).slotRec n =
      some { a with reason := if a.reason = .memory then .memory else .malformed } := by
  unfold State.arriveHeader
  rw [h]
  dsimp only
  rw [if_pos seen, if_pos strobes]
  exact setRec_self (fun r => { r with reason := if r.reason = .memory then .memory else .malformed }) h

/-- A write beyond the header leaves the record to its payload (R75). -/
theorem arriveHeader_beyond (beyond : strobesIn bytes off 0 16 = false) : s.arriveHeader n bytes off = s := by
  have apart : ∀ k v, k < 16 → strobedAt bytes off k ≠ some v := fun k v low hit => by
    rw [strobesIn_iff.2 ⟨k, v, Nat.zero_le k, low, hit⟩] at beyond
    cases beyond
  have none14 : strobesIn bytes off 0 14 ≠ true := fun strobes => by
    obtain ⟨k, v, -, low, hit⟩ := strobesIn_iff.1 strobes
    exact apart k v (by omega) hit
  have none16 : strobesAll bytes off 0 16 ≠ true := fun strobes => by
    have first := List.all_eq_true.1 strobes 0 (by simp)
    obtain ⟨v, hit⟩ := Option.isSome_iff_exists.1 first
    exact apart _ v (by decide) hit
  unfold State.arriveHeader
  cases s.slotRec n with
  | none => rfl
  | some r =>
    dsimp only
    rw [if_neg none14, if_neg none16, ite_self]

/-- The header bytes of a write leave the opening and the accumulator's books as they were (R75). -/
theorem arriveHeader_same (h : s.slotRec n = some a) :
    ∃ b, (s.arriveHeader n bytes off).slotRec n = some b ∧ SameArrival a b := by
  unfold State.arriveHeader
  rw [h]
  dsimp only
  split
  · split
    · exact ⟨_, setRec_self (fun r => { r with reason := if r.reason = .memory then .memory else .malformed }) h,
        rfl, rfl, rfl, rfl, rfl⟩
    · exact ⟨a, h, SameArrival.refl a⟩
  split
  · obtain ⟨key, doomed, reason, record⟩ := parseHeader_record (bytes := bytes) (off := off) h
    exact ⟨_, record, rfl, rfl, rfl, rfl, rfl⟩
  · exact ⟨a, h, SameArrival.refl a⟩

end Parse

end Sys2Proof.Machine

end

section
/-!
SUPPORT. A line-side write to an inbound slot (R74, R75, R78, R91, R92).
-/

namespace Sys2Proof.Machine
-- One theorem at a time: elaborated side by side, each would hold a stack of its own.
set_option Elab.async false

/-! ## The write that arrives (R74) -/

theorem exec_inboundLineWrite {x : Transaction} {s : State} {p : Place} {n : Nat} {r : SlotRec} {bytes : List (Option Byte)}
    (h : Reaches s x .inboundLineWrite p n r) (write : x.access = .write bytes) :
    exec (.inboundLineWrite x) s = .next (s.inboundLine x p n bytes).settle := by
  change execInboundLineWrite x s = _
  refine h.run.trans ?_
  rw [State.acceptAt, h.recNo, write]
  rfl

/-- The state in which a line-side write to a FREE or ARRIVING slot takes effect: a FREE slot is opened (R74). -/
def State.arrivedAt (s : State) (n : Nat) (r : SlotRec) : State :=
  if r.state = .free then (s.setRec n fun r => r.arrive s.stamp).bump else s

/-- The record of a slot that a line-side write finds FREE or ARRIVING, once the slot is open (R74). -/
def SlotRec.arrived (r : SlotRec) (stamp : Nat) : SlotRec := if r.state = .free then r.arrive stamp else r

section Arrives

variable {s : State} {n : Nat} {r : SlotRec} {bytes : List (Option Byte)} {x : Transaction} {p : Place}

theorem inboundLine_arrives (h : s.slotRec n = some r) (arrives : r.state = .free ∨ r.state = .arriving) :
    s.inboundLine x p n bytes = (s.arrivedAt n r).arriveWrite x p n bytes := by
  unfold State.inboundLine State.arrivedAt
  rw [h]
  dsimp only
  rcases arrives with state | state
  · rw [state, if_pos rfl]
  · rw [state, if_neg (by decide)]

theorem arrivedAt_slotRec (h : s.slotRec n = some r) : (s.arrivedAt n r).slotRec n = some (r.arrived s.stamp) := by
  unfold State.arrivedAt SlotRec.arrived
  split
  · exact setRec_self (fun r => r.arrive s.stamp) h
  · exact h

theorem parsing_arrivedAt (s : State) (n : Nat) (r : SlotRec) : Parsing n s (s.arrivedAt n r) := by
  unfold State.arrivedAt
  split
  · exact ⟨⟨_, _, _, rfl⟩, setRec_others s n fun r => r.arrive s.stamp⟩
  · exact Parsing.refl n s

theorem arrived_state (arrives : r.state = .free ∨ r.state = .arriving) (stamp : Nat) :
    (r.arrived stamp).state = .arriving := by
  unfold SlotRec.arrived
  split
  next => rfl
  next busy => exact arrives.resolve_left busy

/-- Opening a slot leaves what the header gives its record (R74). -/
theorem arrived_same (r : SlotRec) (stamp : Nat) : (r.arrived stamp).headerSeen = r.headerSeen ∧
    (r.arrived stamp).key = r.key ∧ (r.arrived stamp).reason = r.reason := by
  unfold SlotRec.arrived
  split <;> exact ⟨rfl, rfl, rfl⟩

/-- The state after the header bytes and then the payload bytes of a write (R74). -/
def State.takenIn (s : State) (n : Nat) (bytes : List (Option Byte)) (off : Nat) : State :=
  (s.arriveHeader n bytes off).arrivePayload n bytes off

theorem folding_takenIn (s : State) (n : Nat) (bytes : List (Option Byte)) (off : Nat) :
    Folding n (s.arriveHeader n bytes off) (s.takenIn n bytes off) :=
  folding_arriveBlocks n bytes off _ _

/-- What a line-side write that arrives leaves alone: but for its own slot, the header's key and the downstream port. -/
structure ArrivedIn (n : Nat) (s u t : State) : Prop where
  others : OtherRecords s t n
  meters : SameMeters s t
  notices : SameNotices s t
  faults : SameFaults s t
  keys : t.keys = u.keys
  channels : t.channels = s.channels

theorem arrivedIn {u t : State} (parsing : Parsing n s u) (folding : Folding n u t) (e : TransitEntry) :
    ArrivedIn n s u (t.enter e).settle := by
  obtain ⟨⟨_, _, _, rfl⟩, others⟩ := parsing
  obtain ⟨⟨_, _, _, rfl⟩, others'⟩ := folding
  refine ⟨otherRecords_settle.2 fun m hm => (others' m hm).trans (others m hm), sameMeters_settle.2 ⟨rfl, rfl⟩,
    SameNotices.settle rfl, sameFaults_settle.2 rfl, ?_, ?_⟩
  · rw [State.settle_keys]
    rfl
  · rw [State.settle_channels]
    rfl

end Arrives

/-! ## What a first header gives its record (R25, R75 to R77) -/

section FirstHeader

variable {w : State} {n : Nat} {was q : SlotRec} {bytes : List (Option Byte)} {off : Nat} {c : Fin 16} {k : Fin 32}
  {seq : Nat} {g : Byte}

theorem firstHeader_fields (h : w.slotRec n = some was) (unseen : was.headerSeen = false)
    (whole : strobesAll bytes off 0 16 = true) (hq : (w.arriveHeader n bytes off).slotRec n = some q) :
    q.headerSeen = true ∧ q.kind = some (BitVec.ofNat 8 (headerField bytes off 1 2)) ∧
      q.gen = some (BitVec.ofNat 8 (headerField bytes off 3 4)) ∧
      q.seq = some (BitVec.ofNat 32 (headerField bytes off 4 8)) ∧ q.length = some (headerField bytes off 12 14) ∧
      q.channel = channelOf (headerField bytes off 2 3) := by
  rw [arriveHeader_first h unseen whole] at hq
  obtain ⟨key, doomed, reason, record⟩ := parseHeader_record (bytes := bytes) (off := off) h
  cases record.symm.trans hq
  exact ⟨rfl, rfl, rfl, rfl, rfl, rfl⟩

theorem firstHeader_malformed (h : w.slotRec n = some was) (unseen : was.headerSeen = false)
    (whole : strobesAll bytes off 0 16 = true) (hq : (w.arriveHeader n bytes off).slotRec n = some q)
    (unsound : headerSound bytes off w.shop = false) : q.reason = .malformed ∧ q.key = was.key := by
  rw [arriveHeader_first h unseen whole, parseHeader_malformed h unsound] at hq
  cases (setRec_self (fun r => r.parsed bytes off false) h).symm.trans hq
  exact ⟨rfl, rfl⟩

/-- The key is chosen for the record that a sound header gives. -/
theorem firstHeader_sound (h : w.slotRec n = some was) (unseen : was.headerSeen = false)
    (whole : strobesAll bytes off 0 16 = true) (sound : headerSound bytes off w.shop = true) :
    w.arriveHeader n bytes off = (w.setRec n fun r => r.parsed bytes off true).chooseKey n (was.parsed bytes off true) := by
  rw [arriveHeader_first h unseen whole, parseHeader_sound h sound]

theorem parsed_channel (byte : headerField bytes off 2 3 = c.val) : (was.parsed bytes off true).channel = some c := by
  change channelOf (headerField bytes off 2 3) = some c
  rw [byte]
  exact channelOf_val c

theorem firstHeader_offer (h : w.slotRec n = some was) (unseen : was.headerSeen = false)
    (whole : strobesAll bytes off 0 16 = true) (sound : headerSound bytes off w.shop = true)
    (hq : (w.arriveHeader n bytes off).slotRec n = some q) (byte : headerField bytes off 2 3 = c.val)
    (hseq : seq = (BitVec.ofNat 32 (headerField bytes off 4 8)).toNat) (kind : headerField bytes off 1 2 = 2) :
    (w.arriveHeader n bytes off).keys = w.keys ∧
      (w.fuses.programmed = true → q.key = some .root ∧ q.reason = was.reason ∧
        q.doomed = decide (seq < (w.chan c).highMark)) ∧
      (w.fuses.programmed = false → q.key = was.key ∧ q.reason = .noKey) := by
  have own := setRec_self (fun r => r.parsed bytes off true) h
  have offer : (was.parsed bytes off true).kind = some kindOffer := by
    change some (BitVec.ofNat 8 (headerField bytes off 1 2)) = _
    rw [kind]
    rfl
  subst hseq
  rw [firstHeader_sound h unseen whole sound] at hq ⊢
  cases programmed : w.fuses.programmed with
  | true =>
    obtain ⟨record, keys⟩ := chooseKey_offer own (parsed_channel byte) offer programmed
    cases record.symm.trans hq
    exact ⟨keys, fun _ => ⟨rfl, rfl, rfl⟩, fun blank => nomatch blank⟩
  | false =>
    obtain ⟨record, keys⟩ := chooseKey_none own (parsed_channel byte) (.inl ⟨offer, programmed⟩)
    cases record.symm.trans hq
    exact ⟨keys, (fun no => nomatch no), fun _ => ⟨rfl, rfl⟩⟩

theorem parsed_data (kind : headerField bytes off 1 2 = 1) : (was.parsed bytes off true).kind ≠ some kindOffer := by
  change some (BitVec.ofNat 8 (headerField bytes off 1 2)) ≠ _
  rw [kind]
  decide

theorem firstHeader_data (h : w.slotRec n = some was) (unseen : was.headerSeen = false)
    (whole : strobesAll bytes off 0 16 = true) (sound : headerSound bytes off w.shop = true)
    (hq : (w.arriveHeader n bytes off).slotRec n = some q) (byte : headerField bytes off 2 3 = c.val)
    (hseq : seq = (BitVec.ofNat 32 (headerField bytes off 4 8)).toNat)
    (hg : g = BitVec.ofNat 8 (headerField bytes off 3 4)) (kind : headerField bytes off 1 2 = 1)
    (found : w.keyOfGen c g = some k) : q.key = some (.slot k) ∧ q.reason = was.reason ∧
      (w.arriveHeader n bytes off).keys = (w.takeRef k).keys ∧
      q.doomed = ((w.key k).passedPosition seq || (w.key k).tooOld seq) := by
  have own := setRec_self (fun r => r.parsed bytes off true) h
  rw [firstHeader_sound h unseen whole sound] at hq ⊢
  subst hg
  obtain ⟨record, keys⟩ := chooseKey_data own (parsed_channel byte) (parsed_data kind)
    (show (w.setRec n fun r => r.parsed bytes off true).keyOfGen c _ = some k from found) (seq := seq) hseq
  cases record.symm.trans hq
  exact ⟨rfl, rfl, keys, rfl⟩

theorem firstHeader_noKey (h : w.slotRec n = some was) (unseen : was.headerSeen = false)
    (whole : strobesAll bytes off 0 16 = true) (sound : headerSound bytes off w.shop = true)
    (hq : (w.arriveHeader n bytes off).slotRec n = some q) (byte : headerField bytes off 2 3 = c.val)
    (hg : g = BitVec.ofNat 8 (headerField bytes off 3 4)) (kind : headerField bytes off 1 2 = 1)
    (absent : w.keyOfGen c g = none) : q.key = was.key ∧ q.reason = .noKey ∧
      (w.arriveHeader n bytes off).keys = w.keys := by
  have own := setRec_self (fun r => r.parsed bytes off true) h
  rw [firstHeader_sound h unseen whole sound] at hq ⊢
  subst hg
  obtain ⟨record, keys⟩ := chooseKey_none own (parsed_channel byte) (.inr ⟨parsed_data kind,
    show (w.setRec n fun r => r.parsed bytes off true).keyOfGen c _ = none from absent⟩)
  cases record.symm.trans hq
  exact ⟨rfl, rfl, keys⟩

/-- The pre-check dooms a sequence that the window has passed or is too old for (R77). -/
theorem doomed_iff (x : KeySlot) (seq : Nat) : (x.passedPosition seq || x.tooOld seq) = true ↔
    (seq = x.high ∧ 1 ≤ x.high) ∨ seq ∈ x.marks ∨ seq + 64 ≤ x.high := by
  simp [KeySlot.passedPosition, KeySlot.tooOld, or_assoc]

end FirstHeader

/-! ## The whole write -/

theorem condemned_iff (a : SlotRec) : a.condemned = true ↔
    a.reason = .malformed ∨ a.reason = .noKey ∨ a.reason = .memory ∨ a.doomed = true := by
  simp [SlotRec.condemned, or_assoc]

theorem blocksStrobed_nodup (bytes : List (Option Byte)) (off : Nat) : (blocksStrobed bytes off).Nodup :=
  List.nodup_range.filter _

section Whole

variable {w : State} {n : Nat} {a : SlotRec} {bytes : List (Option Byte)} {off : Nat}

/-- The record that the header bytes leave, read back from the one that the whole write leaves (R74, R75). -/
theorem header_readBack {was q : SlotRec} {v : Bool} {f fw : List Nat} (hq : (w.arriveHeader n bytes off).slotRec n = some q)
    (h : w.slotRec n = some was) (same : SameArrival was q)
    (record : (w.takenIn n bytes off).slotRec n = some { q with valid := v, folded := f, whole := fw }) :
    (if strobesIn bytes off 0 16 = true then
      { ((w.takenIn n bytes off).slotRec n).getD was with folded := was.folded, whole := was.whole, valid := was.valid }
    else was) = q := by
  split
  next =>
    rw [record, ← same.folded, ← same.whole, ← same.valid]
    rfl
  next beyond =>
    rw [arriveHeader_beyond (by simpa using beyond), h] at hq
    exact Option.some.inj hq

/-- The payload bytes of a write are taken on the record as its header bytes left it (R74, R78). -/
theorem takenIn_payload (h : (w.arriveHeader n bytes off).slotRec n = some a) (some' : blocksStrobed bytes off ≠ [])
    {last : Nat} (hlast : last = blockCount (a.length.getD 0)) :
    (a.headerSeen = false → (w.takenIn n bytes off).slotRec n = some { a with valid := false } ∧
      (w.takenIn n bytes off).ks = (w.arriveHeader n bytes off).ks) ∧
    (a.headerSeen = true → a.condemned = true → (w.takenIn n bytes off).slotRec n = some a ∧
      (w.takenIn n bytes off).ks = (w.arriveHeader n bytes off).ks) ∧
    (a.takes →
      (∀ o, a.valid = true → a.opening = some o → ∀ key, a.key = some key →
        (∀ b ∈ blocksStrobed bytes off, last < b ∨ (b ∉ a.folded ∧
          ((blockBytesIn bytes off b).all Option.isSome = true ∨ (b = last ∧ 0 < a.length.getD 0 % 16)))) →
        ∀ l, l = (blocksStrobed bytes off).filter
            (fun b => decide (b ≤ last) && (blockBytesIn bytes off b).all Option.isSome) →
          (w.takenIn n bytes off).slotRec n = some { a with folded := l.reverse ++ a.folded, whole := l.reverse ++ a.whole } ∧
          (w.takenIn n bytes off).ks = { (w.arriveHeader n bytes off).ks with
            mulQueue := (w.arriveHeader n bytes off).ks.mulQueue ++ foldsOf n o key bytes off l }) ∧
      (∀ b ∈ blocksStrobed bytes off, b ≤ last → (b ∈ a.folded ∨
          ((blockBytesIn bytes off b).all Option.isSome = false ∧ (b < last ∨ a.length.getD 0 % 16 = 0))) →
        ∃ q, (w.takenIn n bytes off).slotRec n = some q ∧ q.valid = false) ∧
      (∀ b, blocksStrobed bytes off = [b] →
        (last < b ∨ (b = last ∧ 0 < a.length.getD 0 % 16 ∧ b ∉ a.folded ∧
            (blockBytesIn bytes off b).all Option.isSome = false) →
          (w.takenIn n bytes off).slotRec n = some a ∧ (w.takenIn n bytes off).ks = (w.arriveHeader n bytes off).ks) ∧
        (b ≤ last → (b ∈ a.folded ∨ ((blockBytesIn bytes off b).all Option.isSome = false ∧
            (b < last ∨ a.length.getD 0 % 16 = 0))) →
          (w.takenIn n bytes off).slotRec n = some { a with valid := false } ∧
          (w.takenIn n bytes off).ks = (w.arriveHeader n bytes off).ks))) := by
  subst hlast
  unfold State.takenIn State.arrivePayload
  refine ⟨fun unseen => arriveBlocks_unseen h unseen some', fun seen condemned => ?_, fun takes => ⟨?_, ?_, ?_⟩⟩
  · rw [arriveBlocks_condemned _ h seen condemned]
    exact ⟨h, rfl⟩
  · intro o valid opening key hk clean l hl
    exact arriveBlocks_folded (blocksStrobed_nodup bytes off) h takes valid opening hk clean hl
  · intro b mem within spoils
    exact arriveBlocks_spoilt h takes mem within spoils
  · intro b single
    rw [single]
    refine ⟨fun passes => ?_, fun within spoils => arriveBlock_spoils h takes within spoils⟩
    rw [List.foldl_cons, arriveBlock_passes h takes passes]
    exact ⟨h, rfl⟩

end Whole

section Refused

variable {s : State} {n : Nat} {r : SlotRec} {bytes : List (Option Byte)} {x : Transaction} {p : Place}

/-- CHECKING, a line-side write is noted and disturbs the slot (R91). -/
theorem inboundLine_checking (h : s.slotRec n = some r) (state : r.state = .checking) :
    s.inboundLine x p n bytes = ((s.answer x false).note n .disturbed).disturbedFault r x.initiator := by
  unfold State.inboundLine
  rw [h]
  dsimp only
  rw [state]

/-- In every other state, a line-side write overruns the slot (R92). -/
theorem inboundLine_overruns (h : s.slotRec n = some r) (arrives : ¬ (r.state = .free ∨ r.state = .arriving))
    (checking : r.state ≠ .checking) :
    s.inboundLine x p n bytes = (s.answer x false).recordFault (slotFault .overrun r (some x.initiator)) := by
  unfold State.inboundLine
  rw [h]
  dsimp only
  split
  next free => exact absurd (.inl free) arrives
  next arriving => exact absurd (.inr arriving) arrives
  next state => exact absurd state checking
  next => rfl

theorem framed_overrun (s : State) (r : SlotRec) (i : Fin 16) : Framed s (s.recordFault (slotFault .overrun r (some i))) :=
  framed_recordFault (by simp [slotFault, occurrence, FaultClass.severity])

end Refused

/-- Opening a slot changes its record and takes an age, nothing else (R74). -/
theorem arrivedAt_only (s : State) (n : Nat) (r : SlotRec) :
    ∃ pool stamp, s.arrivedAt n r = { s with pool := pool, stamp := stamp } := by
  unfold State.arrivedAt
  split <;> exact ⟨_, _, rfl⟩

/-- The entry of a line-side write that arrives (R74). -/
def State.arrivalEntry (s : State) (x : Transaction) (p : Place) (n : Nat) : TransitEntry :=
  { s.plainEntry x (some p) with opening := (s.slotRec n).bind (·.opening) }

theorem arriveWrite_eq (w : State) (x : Transaction) (p : Place) (n : Nat) (bytes : List (Option Byte)) :
    w.arriveWrite x p n bytes =
      (w.takenIn n bytes p.off).enter ((w.takenIn n bytes p.off).arrivalEntry x p n) := rfl

/-- Settles O25: the slot opened, the header bytes, then the payload bytes; CHECKING; the settled states. -/
theorem lineSideArrival : Obligations.LineSideArrival := by
  intro x s p n r bytes h write
  refine ⟨_, exec_inboundLineWrite h write, ?_⟩
  by_cases arrives : r.state = .free ∨ r.state = .arriving
  · have unchecked : r.state ≠ .checking := by rcases arrives with h | h <;> simp [h]
    have unsettled : ¬ (r.state = .passed ∨ r.state = .rejected) := by rcases arrives with h | h <;> simp [h]
    rw [inboundLine_arrives h.slotRec arrives]
    have was := arrivedAt_slotRec h.slotRec
    have parsing := (parsing_arrivedAt s n r).trans (parsing_arriveHeader _ n bytes p.off)
    have header : ((s.arrivedAt n r).arriveHeader n bytes p.off).ks = s.ks := by
      obtain ⟨⟨_, _, _, same⟩, -⟩ := parsing
      rw [same]
    obtain ⟨wasSeen, wasKey, wasReason⟩ := arrived_same r s.stamp
    obtain ⟨q, hq, same⟩ := arriveHeader_same (bytes := bytes) (off := p.off) was
    obtain ⟨v, f, fw, record, -⟩ := arriveBlocks_record (bytes := bytes) (off := p.off) (blocksStrobed bytes p.off) hq
    have read := header_readBack hq was same record
    obtain ⟨others, meters, notices, faults, keys, channels⟩ :=
      arrivedIn parsing (folding_takenIn _ n bytes p.off) (((s.arrivedAt n r).takenIn n bytes p.off).arrivalEntry x p n)
    have openedKeys : (s.arrivedAt n r).keys = s.keys := by
      obtain ⟨_, _, only⟩ := arrivedAt_only s n r
      rw [only]
    have chan : ∀ c, (s.arrivedAt n r).chan c = s.chan c := fun c => by
      obtain ⟨_, _, only⟩ := arrivedAt_only s n r
      rw [only]
      rfl
    have fuses : (s.arrivedAt n r).fuses = s.fuses := by
      obtain ⟨_, _, only⟩ := arrivedAt_only s n r
      rw [only]
    have key : ∀ k, (s.arrivedAt n r).key k = s.key k := fun k => congrArg (fun x => x.slots[k]) openedKeys
    have unkeyed : ((s.arrivedAt n r).arriveHeader n bytes p.off).keys = (s.arrivedAt n r).keys →
        SameKeys s ((s.arrivedAt n r).arriveWrite x p n bytes).settle := fun kept => by
      exact ⟨keys.trans (kept.trans openedKeys), channels⟩
    refine ⟨others, meters, notices, fun _ => ⟨⟨_, (State.settle_slotRec _ _).trans record, ?_, ?first, ?again⟩,
      ⟨_, mem_transit_settle (mem_enter _ _) rfl (emptied_of_fills rfl), rfl, rfl, rfl⟩, faults, ?payload⟩,
      fun h => absurd h unchecked, fun h => absurd h unsettled⟩
    · exact same.state.trans (arrived_state arrives s.stamp)
    case first =>
      intro unseen whole
      obtain ⟨seen, kind, gen, seq, length, channel⟩ := firstHeader_fields was (wasSeen.trans unseen) whole hq
      have shop : (s.arrivedAt n r).shop = s.shop := by
        obtain ⟨_, _, only⟩ := arrivedAt_only s n r
        rw [only]
        rfl
      refine ⟨seen, kind, gen, seq, length, channel, fun unsound => ?_, fun c seq g sound byte hseq hg => ⟨?_, ?_⟩⟩
      · obtain ⟨reason, key⟩ := firstHeader_malformed was (wasSeen.trans unseen) whole hq (shop ▸ unsound)
        exact ⟨reason, key.trans wasKey⟩
      · intro kind
        obtain ⟨same, root, blank⟩ := firstHeader_offer was (wasSeen.trans unseen) whole (shop ▸ sound) hq byte hseq kind
        rw [chan, wasReason, fuses] at root
        rw [wasKey, fuses] at blank
        exact ⟨unkeyed same, root, blank⟩
      · intro kind
        refine ⟨fun k gen role => ?_, fun absent => ?_⟩
        · have found : (s.arrivedAt n r).keyOfGen c g = some k := by
            refine keyOfGen_found (by rw [key, gen]) ?_
            simpa only [chan, key] using role
          obtain ⟨chosen, reason, taken, doomed⟩ :=
            firstHeader_data was (wasSeen.trans unseen) whole (shop ▸ sound) hq byte hseq hg kind found
          have booked : ∀ j, ((s.arrivedAt n r).arriveWrite x p n bytes).settle.key j =
              if j = k then { s.key k with refs := (s.key k).refs + 1 } else s.key j := fun j => by
            rw [← key k, ← key j, ← State.takeRef_key]
            exact congrArg (fun x => x.slots[j]) (keys.trans taken)
          refine ⟨chosen, reason.trans wasReason, channels, fun j hj => ?_, ?_, ?_⟩
          · rw [booked, if_neg hj]
          · rw [booked, if_pos rfl]
          · rw [doomed, key]
            exact doomed_iff _ seq
        · have none' : (s.arrivedAt n r).keyOfGen c g = none := by
            refine keyOfGen_absent ?_
            simpa only [chan, key] using absent
          obtain ⟨chosen, reason, kept⟩ :=
            firstHeader_noKey was (wasSeen.trans unseen) whole (shop ▸ sound) hq byte hg kind none'
          exact ⟨chosen.trans wasKey, reason, unkeyed kept⟩
    case again =>
      intro _ seen strobes
      cases (arriveHeader_again was (wasSeen.trans seen) strobes).symm.trans hq
      exact ⟨wasKey, by rw [wasReason]⟩
    case payload =>
      rintro _ rfl a ha last hlast blocks
      have own : a = q := by
        rw [ha, State.settle_slotRec]
        exact read
      subst own
      obtain ⟨unseen, condemned, taken⟩ := takenIn_payload hq blocks hlast
      rw [header] at unseen condemned taken
      rw [State.settle_slotRec, State.settle_ks]
      refine ⟨fun beyond => unkeyed (by rw [arriveHeader_beyond beyond]), unseen, fun seen why => ?_,
        fun seen malformed noKey memory doomed => taken ⟨seen, ?_⟩⟩
      · exact condemned seen ((condemned_iff a).2 why)
      · refine eq_false_of_ne_true fun bad => ?_
        rcases (condemned_iff a).1 bad with h | h | h | h
        · exact malformed h
        · exact noKey h
        · exact memory h
        · rw [h] at doomed
          cases doomed
  · by_cases checking : r.state = .checking
    · rw [inboundLine_checking h.slotRec checking]
      have framed := (framed_setRec (s.answer x false) n fun r => { r with noted := r.noted.or (some .disturbed) }).trans
        (framed_disturbedFault ((s.answer x false).note n .disturbed) r x.initiator)
      obtain ⟨nothing, answer, meters⟩ := answered_settle framed
      refine ⟨?_, meters, SameNotices.settle (by rw [SameNotices, framed.notices]; rfl), fun h => absurd h arrives,
        fun _ => ⟨?_, nothing, answer, sameKeys_settle.2 ⟨?_, framed.channels⟩, ?_⟩, by simp [checking]⟩
      · refine otherRecords_settle.2 fun m hm => ?_
        rw [disturbedFault_slotRec]
        exact setRec_others (s.answer x false) n _ m hm
      · rw [State.settle_slotRec, disturbedFault_slotRec]
        exact setRec_self (fun r => { r with noted := r.noted.or (some .disturbed) })
          (show (s.answer x false).slotRec n = some r from h.slotRec)
      · rw [State.disturbedFault, recordFault_keys]
        rfl
      · rw [State.settle_faults]
        exact recordFault_faults_congr _ rfl rfl
    · rw [inboundLine_overruns h.slotRec arrives checking]
      have framed := framed_overrun (s.answer x false) r x.initiator
      obtain ⟨nothing, answer, meters⟩ := answered_settle framed
      refine ⟨otherRecords_settle.2 fun m _ => recordFault_slotRec (s.answer x false) _ m, meters,
        SameNotices.settle (by rw [SameNotices, framed.notices]; rfl), fun h => absurd h arrives, fun h => absurd h checking,
        fun _ => ⟨?_, nothing, answer, sameKeys_settle.2 ⟨?_, framed.channels⟩, ?_⟩⟩
      · simp [SameFrames, answer_eq]
      · rw [recordFault_keys]
        rfl
      · rw [State.settle_faults]
        exact recordFault_faults_congr _ rfl rfl

end Sys2Proof.Machine

end

section
/-!
SUPPORT. The subkeys of the root key and of the key slots, and the end of an install (R33, R142).
-/

namespace Sys2Proof.Machine
-- One theorem at a time: elaborated side by side, each would hold a stack of its own.
set_option Elab.async false

/-! ## The loading that follows an install (R140) -/

/-- A change of a channel record that changes nothing. -/
theorem setChan_unchanged {s : State} {c : Fin 16} {f : Channel → Channel} (h : f (s.chan c) = s.chan c) :
    s.setChan c f = s := by
  have same : s.channels.set c (f s.channels[c]) = s.channels :=
    (congrArg (s.channels.set c ·) h).trans (Vector.set_getElem_self c.isLt)
  unfold State.setChan
  rw [same]

/-- A loading takes its channel's place for one, an age, and a request that is not one of the ring's (R140). -/
theorem startLoading_only (s : State) (c : Fin 16) : ∃ loading stamp asked,
    s.startLoading c = { s.setChan c (fun x => { x with loading := loading }) with
      stamp := stamp, bus := { s.bus with injAsked := s.bus.injAsked ++ asked } } ∧
      ∀ q ∈ asked, q.op.ringWrite = false := by
  unfold State.startLoading
  cases hold : (s.chan c).hold with
  | none =>
    refine ⟨(s.chan c).loading, s.stamp, [], ?_, fun q hq => nomatch hq⟩
    rw [List.append_nil, setChan_unchanged rfl]
  | some h =>
    dsimp only
    unfold State.askOffer
    split
    · refine ⟨some (OfferWork.begin s.stamp h.recNo), s.stamp + 1, [], ?_, fun q hq => nomatch hq⟩
      rw [List.append_nil]
      rfl
    · exact ⟨some (OfferWork.begin s.stamp h.recNo), s.stamp + 1, [_], rfl, fun q hq => by rw [List.mem_singleton.1 hq]; rfl⟩

theorem startLoading_chan (s : State) (c d : Fin 16) : ∃ loading,
    (s.startLoading c).chan d = if d = c then { s.chan c with loading := loading } else s.chan d := by
  obtain ⟨loading, stamp, asked, h, -⟩ := startLoading_only s c
  refine ⟨loading, ?_⟩
  rw [h]
  exact State.chan_setChan s c d fun x => { x with loading := loading }

/-- Requests that are none of the ring's are quiet. -/
theorem quiet_asked {s : State} {l : List InjReq} (h : ∀ q ∈ l, q.op.ringWrite = false) :
    Quiet s { s with bus := { s.bus with injAsked := s.bus.injAsked ++ l } } := by
  induction l generalizing s with
  | nil => exact quiet_of_same rfl rfl rfl rfl (List.append_nil _)
  | cons q l ih =>
    have first : Quiet s (s.ask q) := quiet_ask (h q (List.mem_cons_self ..))
    have rest := ih (s := s.ask q) fun p hp => h p (List.mem_cons_of_mem _ hp)
    have split : s.bus.injAsked ++ q :: l = (s.ask q).bus.injAsked ++ l := by
      simp [State.ask]
    rw [split]
    exact first.trans rest

theorem quiet_startLoading (s : State) (c : Fin 16) : Quiet s (s.startLoading c) := by
  obtain ⟨loading, stamp, asked, h, others⟩ := startLoading_only s c
  rw [h]
  have first : Quiet s { s.setChan c (fun x => { x with loading := loading }) with stamp := stamp } :=
    quiet_of_same rfl rfl rfl rfl rfl
  exact first.trans (quiet_asked (s := { s.setChan c (fun x => { x with loading := loading }) with stamp := stamp }) others)

/-! ## The end of an install (R142) -/

section EndInstall

variable {s : State} {c : Fin 16} {k : Fin 32}

theorem mem_handedList {l : List ProtoEntry} {e : ProtoEntry} (room : l.length < 16) : e ∈ handedList l e := by
  unfold handedList
  by_cases like : l.any (·.like e) = true
  · rw [if_pos like]
    obtain ⟨f, hf, same⟩ := List.any_eq_true.1 like
    exact List.mem_map.2 ⟨f, hf, if_pos same⟩
  · rw [if_neg like, if_pos room]
    exact List.mem_append_right _ (List.mem_singleton_self e)

/-- An entry that finds a place in the protocol notice list changes the list alone (R164). -/
theorem handProto_placed {e : ProtoEntry} (room : s.notices.list.length < 16) :
    s.handProto e = s.setProto (handedList s.notices.list e) := by
  unfold handedList
  rcases handProto_cases s e with ⟨like, h⟩ | ⟨none, -, h⟩ | ⟨-, full, -⟩
  · rw [h, if_pos like]
  · rw [h, if_neg (by simp [none]), if_pos room]
  · exact absurd room full

/-- The state of an ended install, before its KEY_EVENT record is handed on. -/
def State.installEnded (s : State) (c : Fin 16) (k : Fin 32) : State :=
  (s.setProto (handedList s.notices.list ⟨c, .keyConfirm k⟩)).setChan c fun x =>
    { x with renewal := .confirming, installing := none }

theorem endInstall_eq (room : s.notices.list.length < 16) :
    s.endInstall c k = (((s.installEnded c k).handReport (keyEventOf s c false k))).startLoading c := by
  unfold State.endInstall
  rw [handProto_placed room]
  rfl

theorem Hands.endInstall {r : State} {l : List Report} (h : Hands r s l) (room : s.notices.list.length < 16) :
    Hands r (s.endInstall c k) (l ++ [keyEventOf s c false k]) := by
  rw [endInstall_eq room]
  have ended : Quiet s (s.installEnded c k) := quiet_of_same rfl rfl rfl rfl rfl
  exact ((h.quiet ended).hand (keyEventOf s c false k)).quiet (quiet_startLoading _ c)

theorem endInstall_only (room : s.notices.list.length < 16) : ∃ ctl bus stamp loading, s.endInstall c k =
    { (s.installEnded c k).setChan c (fun x => { x with loading := loading }) with
      ctl := ctl, bus := bus, stamp := stamp } := by
  rw [endInstall_eq room]
  obtain ⟨ctl, asked, handed⟩ := (s.installEnded c k).handReport_only (keyEventOf s c false k)
  obtain ⟨loading, stamp, more, loads, -⟩ := startLoading_only ((s.installEnded c k).handReport (keyEventOf s c false k)) c
  rw [loads, handed]
  exact ⟨_, _, _, loading, rfl⟩

theorem endInstall_chan (room : s.notices.list.length < 16) (d : Fin 16) : ∃ loading, (s.endInstall c k).chan d =
    if d = c then { s.chan c with renewal := .confirming, installing := none, loading := loading } else s.chan d := by
  obtain ⟨ctl, bus, stamp, loading, h⟩ := endInstall_only (c := c) (k := k) room
  refine ⟨loading, ?_⟩
  have own : (s.endInstall c k).chan d = ((s.installEnded c k).setChan c fun x => { x with loading := loading }).chan d := by
    rw [h]
    rfl
  rw [own, State.chan_setChan]
  unfold State.installEnded
  rw [State.chan_setChan, State.chan_setChan, if_pos rfl]
  by_cases same : d = c
  · rw [if_pos same, if_pos same]
    rfl
  · rw [if_neg same, if_neg same, if_neg same]
    rfl

/-- What the end of an install leaves alone, and the protocol notice list it leaves (R142). -/
theorem endInstall_same (room : s.notices.list.length < 16) : (s.endInstall c k).keys = s.keys ∧
    SameMeters s (s.endInstall c k) ∧ SameFaults s (s.endInstall c k) ∧
    (s.endInstall c k).notices.list = handedList s.notices.list ⟨c, .keyConfirm k⟩ := by
  obtain ⟨ctl, bus, stamp, loading, h⟩ := endInstall_only (c := c) (k := k) room
  rw [h]
  exact ⟨rfl, ⟨rfl, rfl⟩, rfl, rfl⟩

end EndInstall

/-! ## The rows -/

theorem exec_rootSubkeyComplete {s : State} {q : BgReq} (grant : s.ks.cipher = some ⟨.background q, .root, 0, false⟩)
    (use : q.use = .rootSubkey) : exec .rootSubkeyComplete s = .next (State.settle { s with
      ks := { s.ks with cipher := none, rootSubkey := some (cipherBlock s.fuses.rootKey 0) } }) := by
  change execRootSubkeyComplete s = _
  unfold execRootSubkeyComplete Keystream.backgroundGrant
  rw [grant]
  exact if_pos use

theorem exec_hashSubkeyReturn {s : State} {q : BgReq} {k : Fin 32}
    (grant : s.ks.cipher = some ⟨.background q, .slot k, 0, false⟩) (use : q.use = .hashSubkey) (key : q.key = .slot k) :
    exec .hashSubkeyReturn s =
      .next ((s.setCipher none).subkeyReturn k (cipherBlock (s.key k).material 0)).settle := by
  change execHashSubkeyReturn s = _
  unfold execHashSubkeyReturn Keystream.backgroundGrant
  rw [grant]
  dsimp only
  rw [if_pos use, key]
  rfl

/-- The state in which a key slot's subkey has been stored (R33). -/
def State.subkeyStored (s : State) (k : Fin 32) (h : Block) : State :=
  (s.setCipher none).setKey k fun x => { x with subkey := h, load := .loaded }

theorem subkeyReturn_current {s : State} {c : Fin 16} {k : Fin 32} (h : Block) (owner : (s.key k).owner = some c)
    (current : s.installCurrent c k = true) :
    (s.setCipher none).subkeyReturn k h = (s.subkeyStored k h).endInstall c k := by
  unfold State.subkeyReturn
  have owner' : ((s.setCipher none).key k).owner = some c := owner
  rw [owner']
  exact if_pos current

/-- The state in which a current install ends: its key slot LOADED, and nothing else new of the keys (R33, R142). -/
theorem subkeyStored_key (s : State) (k j : Fin 32) (h : Block) : (s.subkeyStored k h).key j =
    if j = k then { s.key k with subkey := h, load := .loaded } else s.key j :=
  State.key_setKey (s.setCipher none) k j fun x => { x with subkey := h, load := .loaded }

theorem quiet_subkeyStored (s : State) (k : Fin 32) (h : Block) : Quiet s (s.subkeyStored k h) :=
  quiet_of_same rfl rfl rfl rfl rfl

theorem keyEventOf_subkeyStored (s : State) (c : Fin 16) (k : Fin 32) (h : Block) :
    keyEventOf (s.subkeyStored k h) c false k = keyEventOf s c false k := by
  unfold keyEventOf
  rw [subkeyStored_key, if_pos rfl]
  rfl

/-- A current install's end, once the step has settled (R33, R142). -/
theorem subkeyStored_ended {s : State} {c : Fin 16} {k : Fin 32} (h : Block) (room : s.notices.list.length < 16) :
    (∀ j, ((s.subkeyStored k h).endInstall c k).settle.key j =
      if j = k then { s.key k with subkey := h, load := .loaded } else s.key j) ∧
    ((s.subkeyStored k h).endInstall c k).settle.keys.freeList = s.keys.freeList ∧
    SameMeters s ((s.subkeyStored k h).endInstall c k).settle ∧
    SameFaults s ((s.subkeyStored k h).endInstall c k).settle ∧
    Handed s ((s.subkeyStored k h).endInstall c k).settle [keyEventOf s c false k] ∧
    ⟨c, .keyConfirm k⟩ ∈ ((s.subkeyStored k h).endInstall c k).settle.notices.list := by
  have room' : (s.subkeyStored k h).notices.list.length < 16 := room
  obtain ⟨keys, meters, faults, list⟩ := endInstall_same (c := c) (k := k) room'
  refine ⟨fun j => ?_, ?_, sameMeters_settle.2 meters, sameFaults_settle.2 faults, ?_, ?_⟩
  · rw [← subkeyStored_key, State.settle_key]
    exact congrArg (fun x => x.slots[j]) keys
  · rw [State.settle_keys, keys]
    rfl
  · have hands := ((Hands.refl s).quiet (quiet_subkeyStored s k h)).endInstall (c := c) (k := k) room'
    rw [keyEventOf_subkeyStored] at hands
    exact hands.handed.settle
  · rw [settle_list, list]
    exact mem_handedList room

/-- Settles O37: the root subkey, and the end of an install that is current. -/
theorem subkeysAreStored : Obligations.SubkeysAreStored := by
  refine ⟨fun s q grant use => ⟨_, exec_rootSubkeyComplete grant use, State.settle_ks _, State.settle_pool _,
    sameKeys_settle.2 ⟨rfl, rfl⟩, sameMeters_settle.2 ⟨rfl, rfl⟩, sameFaults_settle.2 rfl, SameNotices.settle rfl,
    SameControl.settle rfl⟩, fun s q k c grant use key owner current room => ?_⟩
  refine ⟨_, exec_hashSubkeyReturn grant use key, ?_⟩
  rw [subkeyReturn_current _ owner current]
  obtain ⟨keys, free, meters, faults, handed, listed⟩ :=
    subkeyStored_ended (c := c) (k := k) (cipherBlock (s.key k).material 0) room
  have chan := fun d => endInstall_chan (s := s.subkeyStored k (cipherBlock (s.key k).material 0)) (c := c) (k := k) room d
  obtain ⟨loading, own⟩ := chan c
  rw [if_pos rfl, ← State.settle_chan] at own
  refine ⟨(keys k).trans (if_pos rfl), fun j hj => (keys j).trans (if_neg hj), free, ?_, ?_, ?_, ?_, ?_, fun d hd => ?_,
    listed, handed, meters, faults⟩
  · rw [own]
  · rw [own]
  · rw [own]
    rfl
  · rw [own]
    rfl
  · rw [own]
    rfl
  · obtain ⟨_, other⟩ := chan d
    rw [State.settle_chan, other, if_neg hd]
    rfl

end Sys2Proof.Machine

end

section
/-!
SUPPORT. What a product of the tag multiplier goes to (R36, R37, R39 to R41), and the finish it takes on to direct.
-/

namespace Sys2Proof.Machine
-- One theorem at a time: elaborated side by side, each would hold a stack of its own.
set_option Elab.async false

/-! ## What a product changes (R36, R39) -/

/-- Only slot records, the multiplier's queue and the background queue have changed. -/
def Turned (s t : State) : Prop :=
  ∃ pool queue background, t = { s with
    pool := pool, ks := { s.ks with mulQueue := queue, background := background } }

theorem Turned.refl (s : State) : Turned s s := ⟨_, _, _, rfl⟩

theorem Turned.trans {s t u : State} (h : Turned s t) (g : Turned t u) : Turned s u := by
  obtain ⟨_, _, _, rfl⟩ := h
  obtain ⟨_, _, _, rfl⟩ := g
  exact ⟨_, _, _, rfl⟩

theorem turned_setRec (s : State) (n : Nat) (f : SlotRec → SlotRec) : Turned s (s.setRec n f) := ⟨_, _, _, rfl⟩

theorem turned_setFinish (s : State) (n : Nat) (f : Finish → Finish) : Turned s (s.setFinish n f) := ⟨_, _, _, rfl⟩

theorem setFinish_self {s : State} {n : Nat} {r : SlotRec} (f : Finish → Finish) (h : s.slotRec n = some r) :
    (s.setFinish n f).slotRec n = some { r with finish := r.finish.map f } :=
  setRec_self (fun r => { r with finish := r.finish.map f }) h

theorem setFinish_others (s : State) (n : Nat) (f : Finish → Finish) : OtherRecords s (s.setFinish n f) n :=
  setRec_others s n fun r => { r with finish := r.finish.map f }

/-! ## Going on to direct (R39) -/

section Direct

variable {s : State} {n o : Nat} {r : SlotRec} {f : Finish} {key : KeyRef}

/-- The Keystream Unit with the two requests of a direct finish, made together (R39). -/
def State.directKs (s : State) (n o : Nat) (key : KeyRef) (r : SlotRec) (len : Nat) : Keystream :=
  { s.ks with
    mulQueue := s.ks.mulQueue ++ [⟨.lenTerm, n, o, key, s.recBlock r len, (len + 15) / 16 + 1⟩]
    background := s.ks.background ++ [⟨.mask n o, key, s.recBlock r 0⟩] }

/-- The two requests of a direct finish are made together, and nothing else (R39). -/
theorem beginDirect_eq (h : s.slotRec n = some r) (finish : r.finish = some f) (opening : r.opening = some o)
    (hk : r.key = some key) : s.beginDirect n =
      { s.setFinish n (fun f => { f with stage := .direct }) with ks := s.directKs n o key r f.len } := by
  unfold State.beginDirect
  rw [h]
  dsimp only
  rw [finish, opening, hk]
  rfl

theorem beginDirect_self (h : s.slotRec n = some r) (finish : r.finish = some f) (opening : r.opening = some o)
    (hk : r.key = some key) :
    (s.beginDirect n).slotRec n = some { r with finish := some { f with stage := .direct } } := by
  rw [beginDirect_eq h finish opening hk]
  refine (setFinish_self (fun f => { f with stage := .direct }) h).trans ?_
  rw [finish]
  rfl

theorem turned_beginDirect (s : State) (n : Nat) : Turned s (s.beginDirect n) := by
  unfold State.beginDirect
  (repeat' split) <;> exact ⟨_, _, _, rfl⟩

theorem beginDirect_others (s : State) (n : Nat) : OtherRecords s (s.beginDirect n) n := by
  unfold State.beginDirect
  split
  · exact fun _ _ => rfl
  · split
    · exact setFinish_others s n fun f => { f with stage := .direct }
    · exact fun _ _ => rfl

/-- Going on to direct leaves every record but for its finish (R39). -/
theorem beginDirect_record {m : Nat} {x : SlotRec} (s : State) (n : Nat) (h : s.slotRec m = some x) :
    ∃ finish, (s.beginDirect n).slotRec m = some { x with finish := finish } := by
  by_cases same : m = n
  · subst same
    unfold State.beginDirect
    rw [h]
    dsimp only
    split
    · exact ⟨_, setFinish_self (fun f => { f with stage := .direct }) h⟩
    · exact ⟨x.finish, h⟩
  · exact ⟨x.finish, (beginDirect_others s n m same).trans h⟩

end Direct

/-! ## The judgements that follow a fold's product (R41, R166) -/

section Judged

variable {s : State} {n o : Nat} {r : SlotRec}

theorem turned_judgeSweep (s : State) (n o : Nat) : Turned s (s.judgeSweep n o) := by
  unfold State.judgeSweep
  split
  · split
    · exact turned_beginDirect s n
    · exact Turned.refl s
  · exact Turned.refl s

theorem judgeSweep_others (s : State) (n o : Nat) : OtherRecords s (s.judgeSweep n o) n := by
  unfold State.judgeSweep
  split
  · split
    · exact beginDirect_others s n
    · exact fun _ _ => rfl
  · exact fun _ _ => rfl

theorem judgeSweep_record {m : Nat} {x : SlotRec} (s : State) (n o : Nat) (h : s.slotRec m = some x) :
    ∃ finish, (s.judgeSweep n o).slotRec m = some { x with finish := finish } := by
  unfold State.judgeSweep
  split
  · split
    · exact beginDirect_record s n h
    · exact ⟨x.finish, h⟩
  · exact ⟨x.finish, h⟩

theorem turned_judgeNotice (s : State) : Turned s s.judgeNotice := by
  unfold State.judgeNotice
  (repeat' split)
  · exact Turned.refl s
  · exact turned_beginDirect s _
  · exact Turned.refl s
  · exact Turned.refl s

theorem judgeNotice_record {m : Nat} {x : SlotRec} (s : State) (h : s.slotRec m = some x) :
    ∃ finish, s.judgeNotice.slotRec m = some { x with finish := finish } := by
  unfold State.judgeNotice
  (repeat' split)
  · exact ⟨x.finish, h⟩
  · exact beginDirect_record s _ h
  · exact ⟨x.finish, h⟩
  · exact ⟨x.finish, h⟩

theorem finishing_eq (h : s.slotRec n = some r) (opening : r.opening = some o) (finish : r.finish.isSome = true) :
    s.finishing n o = some r := by
  unfold State.finishing
  rw [h]
  exact if_pos ⟨opening, finish⟩

/-- The last product of a sweep whose reads have all returned takes its finish on (R41). -/
theorem judgeSweep_on {f : Finish} (h : s.slotRec n = some r) (opening : r.opening = some o) (finish : r.finish = some f)
    (swept : f.stage = .sweep 0) (paid : s.ks.productsOwed n o = 0) : s.judgeSweep n o = s.beginDirect n := by
  unfold State.judgeSweep
  rw [finishing_eq h opening (by rw [finish]; rfl)]
  exact if_pos ⟨by simp [SlotRec.stage, finish, swept], paid⟩

theorem judgeSweep_waits {f : Finish} (h : s.slotRec n = some r) (opening : r.opening = some o) (finish : r.finish = some f)
    (waits : f.stage ≠ .sweep 0 ∨ s.ks.productsOwed n o ≠ 0) : s.judgeSweep n o = s := by
  unfold State.judgeSweep
  rw [finishing_eq h opening (by rw [finish]; rfl)]
  refine if_neg fun ⟨swept, paid⟩ => ?_
  simp only [SlotRec.stage, finish, Option.some.injEq] at swept
  exact waits.elim (· swept) (· paid)

/-- The finish of a notice begins when all its blocks are enciphered and no product is owed to it (R166). -/
theorem judgeNotice_on {c : Composition} {f : Finish} (comp : s.notices.comp = some c) (h : s.slotRec c.recNo = some r)
    (finish : r.finish = some f) (waiting : f.stage = .waiting) (whole : c.cipher.all Option.isSome = true)
    (paid : s.ks.productsOwed c.recNo c.opening = 0) : s.judgeNotice = s.beginDirect c.recNo := by
  have stage : (s.slotRec c.recNo).bind (·.stage) = some .waiting := by simp [h, SlotRec.stage, finish, waiting]
  unfold State.judgeNotice
  rw [comp]
  dsimp only
  rw [stage]
  exact if_pos (by simp [whole, paid])

theorem judgeNotice_none (comp : s.notices.comp = none) : s.judgeNotice = s := by
  unfold State.judgeNotice
  rw [comp]

theorem judgeNotice_waits {c : Composition} (comp : s.notices.comp = some c)
    (waits : (s.slotRec c.recNo).bind (·.stage) ≠ some .waiting ∨ c.cipher.all Option.isSome = false ∨
      s.ks.productsOwed c.recNo c.opening ≠ 0) : s.judgeNotice = s := by
  unfold State.judgeNotice
  rw [comp]
  dsimp only
  split
  next stage =>
    refine if_neg fun both => ?_
    obtain ⟨whole, paid⟩ := Bool.and_eq_true_iff.1 both
    rcases waits with other | part | owed
    · exact other stage
    · rw [part] at whole
      cases whole
    · exact owed (by simpa using paid)
  next => rfl

end Judged

/-! ## The product (R36 to R40) -/

section Product

variable {s : State} {q : MulReq} {r : SlotRec} {product : Block}

theorem productReturn_ended (h : ∀ r, s.slotRec q.recNo = some r → r.opening ≠ some q.opening) :
    s.productReturn q product = s := by
  unfold State.productReturn
  cases own : s.slotRec q.recNo with
  | none => rfl
  | some r => exact if_neg (h r own)

theorem productReturn_fold (h : s.slotRec q.recNo = some r) (opening : r.opening = some q.opening) (use : q.use = .fold) :
    s.productReturn q product =
      ((if r.valid then s.addProduct q.recNo product else s).judgeSweep q.recNo q.opening).judgeNotice := by
  unfold State.productReturn
  rw [h]
  dsimp only
  rw [if_pos opening, use]

theorem productReturn_correction (h : s.slotRec q.recNo = some r) (opening : r.opening = some q.opening)
    (use : q.use = .correction) : s.productReturn q product = s.correctionReturn q.recNo q.opening product := by
  unfold State.productReturn
  rw [h]
  dsimp only
  rw [if_pos opening, use]

theorem productReturn_lenTerm (h : s.slotRec q.recNo = some r) (opening : r.opening = some q.opening)
    (use : q.use = .lenTerm) :
    s.productReturn q product = s.setFinish q.recNo fun f => { f with lenTerm := some product } := by
  unfold State.productReturn
  rw [h]
  dsimp only
  rw [if_pos opening, use]

/-- The record after the product of a fold has been added, while its valid flag is set (R36). -/
def SlotRec.added (r : SlotRec) (product : Block) : SlotRec := { r with acc := if r.valid then r.acc ^^^ product else r.acc }

/-- The state after the product of a fold has been added (R36). -/
def State.foldAdded (s : State) (n : Nat) (r : SlotRec) (product : Block) : State :=
  if r.valid then s.addProduct n product else s

theorem foldAdded_only (s : State) (n : Nat) (r : SlotRec) (product : Block) :
    ∃ pool, s.foldAdded n r product = { s with pool := pool } := by
  unfold State.foldAdded
  split <;> exact ⟨_, rfl⟩

theorem foldAdded_self {n : Nat} (h : s.slotRec n = some r) : (s.foldAdded n r product).slotRec n = some (r.added product) := by
  unfold State.foldAdded SlotRec.added
  cases valid : r.valid with
  | true => exact (setRec_self (fun r => { r with acc := r.acc ^^^ product }) h).trans (by rw [valid]; rfl)
  | false =>
    cases r
    dsimp only at valid
    subst valid
    exact h

theorem foldAdded_others (s : State) (n : Nat) (r : SlotRec) (product : Block) :
    OtherRecords s (s.foldAdded n r product) n := by
  unfold State.foldAdded
  split
  · exact setRec_others s n fun r => { r with acc := r.acc ^^^ product }
  · exact fun _ _ => rfl

theorem turned_productReturn (s : State) (q : MulReq) (product : Block) : Turned s (s.productReturn q product) := by
  cases own : s.slotRec q.recNo with
  | none => rw [productReturn_ended (fun r h => by rw [own] at h; cases h)]; exact Turned.refl s
  | some r =>
    by_cases opening : r.opening = some q.opening
    · cases use : q.use with
      | fold =>
        rw [productReturn_fold own opening use]
        obtain ⟨pool, added⟩ := foldAdded_only s q.recNo r product
        have first : Turned s (s.foldAdded q.recNo r product) := ⟨pool, _, _, added⟩
        exact (first.trans (turned_judgeSweep _ _ _)).trans (turned_judgeNotice _)
      | correction =>
        rw [productReturn_correction own opening use]
        unfold State.correctionReturn
        split
        · exact Turned.refl s
        · exact ((turned_setRec s _ _).trans (turned_setRec _ _ _)).trans (turned_beginDirect _ _)
      | lenTerm =>
        rw [productReturn_lenTerm own opening use]
        exact turned_setFinish s _ _
    · rw [productReturn_ended (fun x h => by rw [own] at h; cases h; exact opening)]
      exact Turned.refl s

/-- A fold's product leaves the record but for its accumulator and its finish (R36, R41, R166). -/
theorem productReturn_fold_record (h : s.slotRec q.recNo = some r) (opening : r.opening = some q.opening)
    (use : q.use = .fold) : ∃ finish, (s.productReturn q product).slotRec q.recNo =
      some { r.added product with finish := finish } := by
  rw [productReturn_fold h opening use]
  obtain ⟨_, swept⟩ := judgeSweep_record (s.foldAdded q.recNo r product) q.recNo q.opening (foldAdded_self h)
  obtain ⟨finish, noted⟩ := judgeNotice_record _ swept
  exact ⟨finish, noted⟩

end Product

/-! ## The finish that a fold's product takes on (R41, R166) -/

section TakenOn

variable {s : State} {q : MulReq} {r : SlotRec} {f : Finish} {key : KeyRef} {product : Block}

/-- No other notice's finish begins at this product: the notice in composition is the product's own, or has blocks or
products outstanding. -/
def State.ownNotice (s : State) (q : MulReq) : Prop :=
  ∀ c, s.notices.comp = some c → if c.recNo = q.recNo then c.opening = q.opening
    else c.cipher.all Option.isSome = false ∨ s.ks.productsOwed c.recNo c.opening ≠ 0

/-- The notice in composition, when it is not the product's or has not its last product, stays as it is (R166). -/
theorem judgeNotice_own {u : State} (own : s.ownNotice q) (notices : u.notices = s.notices)
    (more : ∀ n o, s.ks.productsOwed n o ≠ 0 → u.ks.productsOwed n o ≠ 0)
    (mine : ∀ c, s.notices.comp = some c → c.recNo = q.recNo → (u.slotRec c.recNo).bind (·.stage) ≠ some .waiting ∨
      c.cipher.all Option.isSome = false ∨ u.ks.productsOwed c.recNo c.opening ≠ 0) : u.judgeNotice = u := by
  cases comp : s.notices.comp with
  | none => exact judgeNotice_none (by rw [notices, comp])
  | some c =>
    refine judgeNotice_waits (c := c) (by rw [notices, comp]) ?_
    have how := own c comp
    by_cases same : c.recNo = q.recNo
    · exact mine c comp same
    · rw [if_neg same] at how
      exact .inr (how.imp_right (more _ _))

theorem productsOwed_append (k : Keystream) (l : List MulReq) (n o : Nat) (owed : k.productsOwed n o ≠ 0) (bg : List BgReq) :
    ({ k with mulQueue := k.mulQueue ++ l, background := bg } : Keystream).productsOwed n o ≠ 0 := by
  unfold Keystream.productsOwed at owed ⊢
  dsimp only
  rw [List.filter_append, List.length_append]
  omega

/-- A fold's product that takes its own finish on, as a sweep's or a notice's last (R41, R166). -/
theorem productReturn_on (h : s.slotRec q.recNo = some r) (opening : r.opening = some q.opening) (use : q.use = .fold)
    (finish : r.finish = some f) (hk : r.key = some key) (own : s.ownNotice q)
    (paid : s.ks.productsOwed q.recNo q.opening = 0)
    (ready : f.stage = .sweep 0 ∨ (f.stage = .waiting ∧ ∃ c, s.notices.comp = some c ∧ c.recNo = q.recNo ∧
      c.cipher.all Option.isSome = true)) :
    s.productReturn q product = (s.foldAdded q.recNo r product).beginDirect q.recNo := by
  rw [productReturn_fold h opening use]
  obtain ⟨pool, only⟩ := foldAdded_only s q.recNo r product
  have added := foldAdded_self (product := product) h
  have ks : (s.foldAdded q.recNo r product).ks = s.ks := by rw [only]
  have notices : (s.foldAdded q.recNo r product).notices = s.notices := by rw [only]
  rcases ready with swept | ⟨waiting, c, comp, same, whole⟩
  · have first : (s.foldAdded q.recNo r product).judgeSweep q.recNo q.opening =
        (s.foldAdded q.recNo r product).beginDirect q.recNo :=
      judgeSweep_on added opening finish swept (by rw [ks]; exact paid)
    refine (congrArg State.judgeNotice first).trans (judgeNotice_own own ?_ ?_ ?_)
    · obtain ⟨_, _, _, turned⟩ := turned_beginDirect (s.foldAdded q.recNo r product) q.recNo
      rw [turned]
      exact notices
    · intro n o owed
      rw [beginDirect_eq added finish opening hk]
      unfold State.directKs
      rw [ks]
      exact productsOwed_append s.ks _ n o owed _
    · intro c _ mine
      refine .inl ?_
      rw [mine, beginDirect_self added finish opening hk]
      simp [SlotRec.stage]
  · have first : (s.foldAdded q.recNo r product).judgeSweep q.recNo q.opening = s.foldAdded q.recNo r product :=
      judgeSweep_waits added opening finish (.inl (by rw [waiting]; simp))
    have how := own c comp
    rw [if_pos same] at how
    refine (congrArg State.judgeNotice first).trans ?_
    have on := judgeNotice_on (s := s.foldAdded q.recNo r product) (r := r.added product) (notices ▸ comp) (by rw [same]; exact added) finish waiting
      whole (by rw [ks, same, how]; exact paid)
    rw [on, same]

/-- A fold's product that is not the last, or whose finish does not wait for it, takes no finish on. -/
theorem productReturn_waits (h : s.slotRec q.recNo = some r) (opening : r.opening = some q.opening) (use : q.use = .fold)
    (finish : r.finish = some f) (own : s.ownNotice q)
    (waits : s.ks.productsOwed q.recNo q.opening ≠ 0 ∨ (f.stage ≠ .sweep 0 ∧ (f.stage ≠ .waiting ∨
      ∀ c, s.notices.comp = some c → c.recNo = q.recNo → c.cipher.all Option.isSome = false))) :
    s.productReturn q product = s.foldAdded q.recNo r product := by
  rw [productReturn_fold h opening use]
  obtain ⟨pool, only⟩ := foldAdded_only s q.recNo r product
  have added := foldAdded_self (product := product) h
  have ks : (s.foldAdded q.recNo r product).ks = s.ks := by rw [only]
  have first : (s.foldAdded q.recNo r product).judgeSweep q.recNo q.opening = s.foldAdded q.recNo r product :=
    judgeSweep_waits added opening finish (waits.symm.imp (·.1) fun owed => by rw [ks]; exact owed)
  refine (congrArg State.judgeNotice first).trans (judgeNotice_own own (by rw [only]) ?_ ?_)
  · intro n o owed
    rw [ks]
    exact owed
  · intro c comp mine
    have how := own c comp
    rw [if_pos mine] at how
    rcases waits with owed | ⟨-, busy | part⟩
    · exact .inr (.inr (by rw [ks, mine, how]; exact owed))
    · refine .inl ?_
      rw [mine, added]
      simp only [Option.bind_some, SlotRec.stage, SlotRec.added, finish, ne_eq, Option.some.injEq]
      exact busy
    · exact .inr (.inl (part c comp mine))

/-- The product of a correction: block n is folded, not whole-folded, and the finish goes on to direct (R40). -/
theorem correctionReturn_eq (h : s.slotRec q.recNo = some r) (opening : r.opening = some q.opening)
    (finish : r.finish = some f) : s.correctionReturn q.recNo q.opening product =
      ((s.addProduct q.recNo product).setRec q.recNo fun r => { r with
        folded := if r.folded.contains (blockCount f.len) then r.folded else blockCount f.len :: r.folded
        whole := r.whole.filter (· != blockCount f.len) }).beginDirect q.recNo := by
  unfold State.correctionReturn
  rw [finishing_eq h opening (by rw [finish]; rfl)]
  dsimp only
  rw [finish]
  rfl

end TakenOn

/-! ## The row -/

/-- The multiplier idle again (R37). -/
def State.multiplierFreed (s : State) : State := { s with ks := { s.ks with mulBusy := none } }

theorem exec_multiplierProductReturn {s : State} {q : MulReq} {withdrawn : Bool}
    (busy : s.ks.mulBusy = some (q, withdrawn)) : exec .multiplierProductReturn s = .next (State.settle
      (if withdrawn then s.multiplierFreed else s.multiplierFreed.productReturn q (s.productOf q))) := by
  change execMultiplierProductReturn s = _
  unfold execMultiplierProductReturn
  rw [busy]
  cases withdrawn <;> rfl

/-- No product is owed to an opening exactly when no request of the queue is its own, the multiplier idle (R37). -/
theorem productsOwed_freed (s : State) (n o : Nat) : s.multiplierFreed.ks.productsOwed n o = 0 ↔
    (s.ks.mulQueue.all fun m => m.recNo != n || m.opening != o) = true := by
  unfold Keystream.productsOwed State.multiplierFreed
  simp [List.filter_eq_nil_iff, Decidable.imp_iff_not_or]

/-- A product that goes back leaves what other openings are owed (R37). -/
theorem ownNotice_freed {s : State} {q : MulReq} {withdrawn : Bool} (busy : s.ks.mulBusy = some (q, withdrawn))
    (own : s.ownNotice q) : s.multiplierFreed.ownNotice q := by
  intro c comp
  have how := own c comp
  by_cases same : c.recNo = q.recNo
  · rw [if_pos same] at how ⊢
    exact how
  · rw [if_neg same] at how ⊢
    refine how.imp_right fun owed => ?_
    unfold Keystream.productsOwed at owed ⊢
    have apart : (q.recNo == c.recNo) = false := beq_false_of_ne (Ne.symm same)
    simpa [busy, apart, State.multiplierFreed] using owed

/-- A fold's product takes its finish on, or does not, and nothing else besides (R41, R166). -/
theorem productReturn_onOrWaits {s : State} {q : MulReq} {r : SlotRec} {f : Finish} {key : KeyRef} {product : Block}
    (h : s.slotRec q.recNo = some r) (opening : r.opening = some q.opening) (use : q.use = .fold) (finish : r.finish = some f)
    (hk : r.key = some key) (own : s.ownNotice q) :
    s.productReturn q product = (s.foldAdded q.recNo r product).beginDirect q.recNo ∨
      s.productReturn q product = s.foldAdded q.recNo r product := by
  by_cases paid : s.ks.productsOwed q.recNo q.opening = 0
  · by_cases ready : f.stage = .sweep 0 ∨ (f.stage = .waiting ∧ ∃ c, s.notices.comp = some c ∧ c.recNo = q.recNo ∧
      c.cipher.all Option.isSome = true)
    · exact .inl (productReturn_on h opening use finish hk own paid ready)
    · obtain ⟨unswept, quiet⟩ := not_or.1 ready
      refine .inr (productReturn_waits h opening use finish own (.inr ⟨unswept, ?_⟩))
      by_cases waiting : f.stage = .waiting
      · exact .inr fun c comp mine => eq_false_of_ne_true fun whole => quiet ⟨waiting, c, comp, mine, whole⟩
      · exact .inl waiting
  · exact .inr (productReturn_waits h opening use finish own (.inl paid))

/-- Settles O38: a fold's product, with the finish it takes on; a correction's; a length term's; a discarded one. -/
theorem foldProductsAdd : Obligations.FoldProductsAdd := by
  intro s q withdrawn busy
  refine ⟨_, exec_multiplierProductReturn busy, ?_⟩
  have turned : Turned s.multiplierFreed
      (if withdrawn then s.multiplierFreed else s.multiplierFreed.productReturn q (s.productOf q)) := by
    split
    · exact Turned.refl _
    · exact turned_productReturn _ _ _
  have notices : SameNotices s (State.settle
      (if withdrawn then s.multiplierFreed else s.multiplierFreed.productReturn q (s.productOf q))) := by
    obtain ⟨_, _, _, only⟩ := turned
    exact SameNotices.settle (by rw [only]; rfl)
  refine ⟨?_, ?_, ?_, ?_, ?fold, ?finish, ?withdrawn, ?ended⟩
  · obtain ⟨_, _, _, only⟩ := turned
    rw [State.settle_ks, only]
    rfl
  · obtain ⟨_, _, _, only⟩ := turned
    exact sameKeys_settle.2 (by rw [only]; exact ⟨rfl, rfl⟩)
  · obtain ⟨_, _, _, only⟩ := turned
    exact sameMeters_settle.2 (by rw [only]; exact ⟨rfl, rfl⟩)
  · obtain ⟨_, _, _, only⟩ := turned
    exact sameFaults_settle.2 (by rw [only]; rfl)
  case withdrawn =>
    rintro rfl
    refine ⟨?_, notices⟩
    rw [if_pos rfl]
    simp [SameFrames, State.multiplierFreed]
  case ended =>
    rintro r rfl h ended
    rw [if_neg (by decide), State.settle_pool,
      productReturn_ended fun x hx => by cases h.symm.trans hx; exact ended]
    rfl
  case fold =>
    rintro r rfl use h opening
    obtain ⟨finish, record⟩ := productReturn_fold_record (s := s.multiplierFreed) (product := s.productOf q) h opening use
    exact ⟨_, (State.settle_slotRec _ _).trans record, rfl, rfl, rfl, rfl⟩
  case finish =>
    rintro r rfl h opening f finish key hk product rfl n rfl direct rfl
    rw [if_neg (by decide)] at turned notices ⊢
    refine ⟨?folds, ?others, ?correction, ?lenTerm⟩
    case folds =>
      rintro use own last rfl
      have h' : s.multiplierFreed.slotRec q.recNo = some r := h
      have own' := ownNotice_freed busy own
      obtain ⟨pool, only⟩ := foldAdded_only s.multiplierFreed q.recNo r (s.productOf q)
      have added := foldAdded_self (product := s.productOf q) h'
      have others := foldAdded_others s.multiplierFreed q.recNo r (s.productOf q)
      refine ⟨otherRecords_settle.2 ?_, ?_, notices, fun paid ready => ?_, fun waits => ?_⟩
      · rcases productReturn_onOrWaits (product := s.productOf q) h' opening use finish hk own' with on | waits
        · rw [on]
          exact fun m hm => (beginDirect_others _ q.recNo m hm).trans (others m hm)
        · rw [waits]
          exact others
      · obtain ⟨_, _, _, only⟩ := turned
        rw [State.settle_merges, only]
        rfl
      · rw [productReturn_on h' opening use finish hk own' ((productsOwed_freed s _ _).2 paid) ready, State.settle_ks,
          State.settle_slotRec]
        refine ⟨?_, _, beginDirect_self added finish opening hk, rfl⟩
        rw [beginDirect_eq added finish opening hk]
        unfold State.directKs
        rw [only]
        rfl
      · rw [productReturn_waits h' opening use finish own' (waits.imp_left fun more paid => by
          rw [(productsOwed_freed s _ _).1 paid] at more
          cases more), State.settle_ks, State.settle_slotRec]
        refine ⟨?_, _, added, finish⟩
        rw [only]
        rfl
    case others =>
      intro use
      obtain ⟨_, _, _, only⟩ := turned
      refine ⟨otherRecords_settle.2 ?_, ?_, notices⟩
      · rcases use with use | use
        · rw [productReturn_correction (s := s.multiplierFreed) h opening use,
            correctionReturn_eq (s := s.multiplierFreed) h opening finish]
          intro m hm
          exact ((beginDirect_others _ q.recNo m hm).trans (setRec_others _ q.recNo _ m hm)).trans
            (setRec_others s.multiplierFreed q.recNo _ m hm)
        · rw [productReturn_lenTerm (s := s.multiplierFreed) h opening use]
          exact setFinish_others s.multiplierFreed q.recNo _
      · rw [State.settle_merges, only]
        rfl
    case correction =>
      intro use
      have added := setRec_self (s := s.multiplierFreed) (fun r => { r with acc := r.acc ^^^ s.productOf q }) h
      have folded := setRec_self (fun r => { r with
        folded := if r.folded.contains (blockCount f.len) then r.folded else blockCount f.len :: r.folded
        whole := r.whole.filter (· != blockCount f.len) }) added
      rw [productReturn_correction (s := s.multiplierFreed) h opening use,
        correctionReturn_eq (s := s.multiplierFreed) h opening finish, State.settle_ks, State.settle_slotRec]
      refine ⟨?_, (beginDirect_self folded finish opening hk).trans ?_⟩
      · rw [beginDirect_eq (s := (s.multiplierFreed.addProduct q.recNo (s.productOf q)).setRec q.recNo _) folded finish opening hk]
        rfl
      · simp only [List.contains_iff_mem]
        rfl
    case lenTerm =>
      intro use
      rw [productReturn_lenTerm (s := s.multiplierFreed) h opening use, State.settle_ks, State.settle_slotRec]
      refine ⟨rfl, (setFinish_self (s := s.multiplierFreed) (fun f => { f with lenTerm := some (s.productOf q) }) h).trans ?_⟩
      rw [finish]
      rfl

end Sys2Proof.Machine

end

section
/-!
SUPPORT. The finish of a tag: the table of R38, the reads of a sweep, and the requests of each kind of finish (R38 to R41).
-/

namespace Sys2Proof.Machine
-- One theorem at a time: elaborated side by side, each would hold a stack of its own.
set_option Elab.async false

/-! ## The table of R38 -/

section Table

variable {valid : Bool} {folded whole : List Nat} {len n m : Nat}

/-- What makes a sweep of a finish (R38). -/
def Sweeps (valid : Bool) (folded : List Nat) (n m : Nat) : Prop :=
  valid = false ∨ (∃ b, 1 ≤ b ∧ b ≤ m ∧ b ∉ folded) ∨ ∃ b ∈ folded, n < b

theorem unfolded_any_iff : ((List.range m).any fun i => !folded.contains (i + 1)) = true ↔
    ∃ b, 1 ≤ b ∧ b ≤ m ∧ b ∉ folded := by
  simp only [List.any_eq_true, List.mem_range, Bool.not_eq_true', List.contains_eq_mem, decide_eq_false_iff_not]
  constructor
  · rintro ⟨i, low, out⟩
    exact ⟨i + 1, by omega, by omega, out⟩
  · rintro ⟨b, low, high, out⟩
    exact ⟨b - 1, by omega, by rwa [Nat.sub_add_cancel low]⟩

/-- The table of R38, its conditions as propositions. -/
theorem finishKind_eq [Decidable (Sweeps valid folded n m)] (hn : n = blockCount len)
    (hm : m = if len % 16 = 0 then n else n - 1) : finishKind valid folded whole len =
      if Sweeps valid folded n m then .sweep
      else if len % 16 = 0 ∨ (n ∈ folded ∧ n ∉ whole) then .direct
      else .tailFetch := by
  subst hn hm
  have any := unfolded_any_iff (folded := folded) (m := if tailOf len = 0 then blockCount len else blockCount len - 1)
  have above : (folded.any fun b => decide (blockCount len < b)) = true ↔ ∃ b ∈ folded, blockCount len < b := by
    simp only [List.any_eq_true, decide_eq_true_eq]
  unfold finishKind
  dsimp only
  cases valid with
  | false => rw [if_pos (by rfl), if_pos (.inl rfl)]
  | true =>
    rw [if_neg (by decide)]
    by_cases gap : ∃ b, 1 ≤ b ∧ b ≤ (if tailOf len = 0 then blockCount len else blockCount len - 1) ∧ b ∉ folded
    · rw [if_pos (any.2 gap), if_pos (.inr (.inl gap))]
    by_cases beyond : ∃ b ∈ folded, blockCount len < b
    · rw [if_neg (any.not.2 gap), if_pos (above.2 beyond), if_pos (.inr (.inr beyond))]
    have calm : ¬ Sweeps true folded (blockCount len) (if len % 16 = 0 then blockCount len else blockCount len - 1) := by
      rintro (h | h | h)
      · cases h
      · exact gap h
      · exact beyond h
    rw [if_neg (any.not.2 gap), if_neg (above.not.2 beyond), if_neg calm]
    by_cases tail : tailOf len = 0
    · rw [if_pos tail, if_pos (.inl tail)]
    · rw [if_neg tail]
      simp [show ¬ len % 16 = 0 from tail]

end Table

/-! ## The reads of a sweep (R41) -/

/-- A filtered run of numbers of which the first a are kept and no other. -/
theorem filterMap_range_prefix {α : Type} {g : Nat → Option α} {h : Nat → α} {a : Nat} (b : Nat)
    (kept : ∀ k < a, g k = some (h k)) (dropped : ∀ k, a ≤ k → k < a + b → g k = none) :
    (List.range (a + b)).filterMap g = (List.range a).map h := by
  have rest : (List.range b).filterMap (g ∘ fun k => a + k) = [] := List.filterMap_eq_nil_iff.2 fun k hk =>
    dropped (a + k) (Nat.le_add_right a k) (Nat.add_lt_add_left (List.mem_range.1 hk) a)
  rw [List.range_add, List.filterMap_append, List.filterMap_map, rest, List.append_nil, ← List.filterMap_eq_map]
  exact List.filterMap_congr fun k hk => kept k (List.mem_range.1 hk)

/-- The first payload block of line k of a slot. -/
def lineFirst (k : Nat) : Nat := if k = 0 then 1 else 8 * k - 1

/-- A sweep reads the lines that hold a block, each from its first block to its end or to block n (R41). -/
theorem sweepReads_eq {n : Nat} (low : 1 ≤ n) (high : n ≤ 126) : sweepReads n =
    (List.range (1 + (n + 1) / 8)).map fun k => (lineFirst k, min (8 * k + 6) n + 1 - lineFirst k) := by
  unfold sweepReads
  have total : 16 = 1 + (n + 1) / 8 + (15 - (n + 1) / 8) := by omega
  rw [total]
  refine filterMap_range_prefix _ (fun k hk => ?_) (fun k hk _ => ?_)
  · refine if_pos ?_
    show lineFirst k ≤ n
    unfold lineFirst
    split <;> omega
  · refine if_neg ?_
    show ¬ lineFirst k ≤ n
    unfold lineFirst
    split <;> omega

theorem lineFirst_lt {i j : Nat} (h : i < j) : lineFirst i < lineFirst j := by
  unfold lineFirst
  split <;> split <;> omega

theorem mem_sweepReads {n : Nat} (low : 1 ≤ n) (high : n ≤ 126) {p : Nat × Nat} (h : p ∈ sweepReads n) :
    (p.1 = 1 ∨ p.1 % 8 = 7) ∧ p.1 ≤ n ∧ p.1 + p.2 = 1 + min n (if p.1 = 1 then 6 else p.1 + 7) := by
  rw [sweepReads_eq low high] at h
  obtain ⟨k, hk, rfl⟩ := List.mem_map.1 h
  have bound := List.mem_range.1 hk
  unfold lineFirst
  by_cases zero : k = 0
  · subst zero
    change (1 = 1 ∨ 1 % 8 = 7) ∧ 1 ≤ n ∧ 1 + (min (8 * 0 + 6) n + 1 - 1) = 1 + min n 6
    omega
  · simp only [if_neg zero, if_neg (show ¬ 8 * k - 1 = 1 by omega)]
    omega

/-! ## Requests placed (R16) -/

theorem placeInj_requests (s : State) (r : InjReq) : (s.placeInj r).requests = s.requests ++ [r] := by
  unfold State.placeInj State.requests
  split
  next room =>
    have empty : s.bus.injWaiting = [] := List.isEmpty_iff.1 (Bool.and_eq_true_iff.1 room).1
    simp [State.enterInj, State.setInj, State.bump, empty]
  next => simp

theorem orderAsked_of_unit {u : Fin 5} {l : List InjReq} (h : ∀ r ∈ l, r.unit = u) : orderAsked l = l := by
  have filtered : ∀ v, (l.filter fun r => decide (r.unit = v)) = if v = u then l else [] := by
    intro v
    split
    next same => exact List.filter_eq_self.2 fun r hr => by simp [h r hr, same]
    next apart => exact List.filter_eq_nil_iff.2 fun r hr => by simp [h r hr, Ne.symm apart]
  unfold orderAsked
  simp only [filtered]
  fin_cases u <;> simp [List.finRange]

/-- The requests of a step that all come from one unit are placed in their order (R16). -/
theorem settle_requests {s : State} {u : Fin 5} (h : ∀ r ∈ s.bus.injAsked, r.unit = u) :
    s.settle.requests = s.requests ++ s.bus.injAsked := by
  have placed : ∀ (l : List InjReq) (t : State), (l.foldl State.placeInj t).requests = t.requests ++ l := by
    intro l
    induction l with
    | nil => exact fun t => (List.append_nil _).symm
    | cons r l ih => intro t; rw [List.foldl_cons, ih, placeInj_requests, List.append_assoc]; rfl
  have bus : s.settle.requests = s.deliver.placeAsked.requests := by
    unfold State.requests
    rw [State.settle_bus]
  rw [bus]
  unfold State.placeAsked
  rw [placed, orderAsked_of_unit (show ∀ r ∈ s.deliver.bus.injAsked, r.unit = u from h)]
  rfl

end Sys2Proof.Machine

end

section
/-!
SUPPORT. FINISH_DECISION: the merge entries settled, and the three kinds of finish begun (R38 to R41).
-/

namespace Sys2Proof.Machine
-- One theorem at a time: elaborated side by side, each would hold a stack of its own.
set_option Elab.async false

/-! ## What the finish of a record changes (R38 to R41) -/

/-- Only slot record n, the Keystream Unit, the merge queue and the step's requests have changed. -/
def Finishing (n : Nat) (s t : State) : Prop :=
  (∃ pool ks merges asked, t = { s with
    pool := pool, ks := ks, merges := merges, bus := { s.bus with injAsked := asked } }) ∧ OtherRecords s t n

theorem Finishing.refl (n : Nat) (s : State) : Finishing n s s := ⟨⟨_, _, _, _, rfl⟩, fun _ _ => rfl⟩

theorem Finishing.trans {n : Nat} {s t u : State} (h : Finishing n s t) (g : Finishing n t u) : Finishing n s u := by
  obtain ⟨⟨_, _, _, _, rfl⟩, others⟩ := h
  obtain ⟨⟨_, _, _, _, rfl⟩, others'⟩ := g
  exact ⟨⟨_, _, _, _, rfl⟩, fun m hm => (others' m hm).trans (others m hm)⟩

theorem finishing_setRec (s : State) (n : Nat) (f : SlotRec → SlotRec) : Finishing n s (s.setRec n f) :=
  ⟨⟨_, _, _, _, rfl⟩, setRec_others s n f⟩

theorem finishing_setFinish (s : State) (n : Nat) (f : Finish → Finish) : Finishing n s (s.setFinish n f) :=
  ⟨⟨_, _, _, _, rfl⟩, setFinish_others s n f⟩

theorem finishing_askSlot (s : State) (n : Nat) (op : InjOp) (u : Fin 5) (r : SlotRec) (off : Nat) (a : Access) :
    Finishing n s (s.askSlot op u r off a) := ⟨⟨_, _, _, _, rfl⟩, fun _ _ => rfl⟩

theorem finishing_beginDirect (s : State) (n : Nat) : Finishing n s (s.beginDirect n) := by
  obtain ⟨_, _, _, only⟩ := turned_beginDirect s n
  exact ⟨⟨_, _, _, _, only⟩, beginDirect_others s n⟩

theorem finishing_fold (s : State) (n b : Nat) (blk : Block) (whole : Bool) : Finishing n s (s.fold n b blk whole) := by
  obtain ⟨⟨_, _, _, only⟩, others⟩ := folding_fold s n b blk whole
  exact ⟨⟨_, _, _, _, only⟩, others⟩

theorem finishing_dropMerges (s : State) (n : Nat) : Finishing n s (s.dropMerges n) :=
  ⟨⟨_, _, _, _, rfl⟩, fun _ _ => rfl⟩

/-- The finish of a record keeps its state, its key, its opening and its reason (R38 to R41). -/
structure Finishes (a b : SlotRec) : Prop where
  state : b.state = a.state
  key : b.key = a.key
  opening : b.opening = a.opening
  reason : b.reason = a.reason

theorem Finishes.refl (a : SlotRec) : Finishes a a := ⟨rfl, rfl, rfl, rfl⟩

theorem Finishes.trans {a b c : SlotRec} (h : Finishes a b) (g : Finishes b c) : Finishes a c :=
  ⟨g.state.trans h.state, g.key.trans h.key, g.opening.trans h.opening, g.reason.trans h.reason⟩

/-! ## The three kinds begun (R39 to R41) -/

section Kinds

variable {s : State} {n o : Nat} {r : SlotRec} {f : Finish}

theorem askSlots_eq {α : Type} (op : α → InjOp) (u : Fin 5) (r : SlotRec) (off : α → Nat) (a : α → Access) (l : List α)
    (s : State) : l.foldl (fun st p => st.askSlot (op p) u r (off p) (a p)) s =
      { s with bus := { s.bus with injAsked := s.bus.injAsked ++ l.map fun p =>
        ⟨op p, u, s.slotBase r + off p, a p, some r.window, some r.slot⟩ } } := by
  induction l generalizing s with
  | nil => rw [List.map_nil, List.append_nil]; rfl
  | cons p l ih =>
    rw [List.foldl_cons, ih]
    have split : (s.askSlot (op p) u r (off p) (a p)).bus.injAsked ++
        (l.map fun p => (⟨op p, u, s.slotBase r + off p, a p, some r.window, some r.slot⟩ : InjReq)) =
        s.bus.injAsked ++ (p :: l).map fun p => ⟨op p, u, s.slotBase r + off p, a p, some r.window, some r.slot⟩ := by
      simp [State.askSlot, State.ask]
    rw [← split]
    rfl

/-- The state in which a sweep's accumulator starts again (R41). -/
def State.sweepReset (s : State) (n reads : Nat) : State :=
  (s.setRec n fun r => { r with acc := 0, valid := true, folded := [], whole := [] }).setFinish n
    fun f => { f with stage := .sweep reads }

/-- The record of a sweep that begins (R41). -/
def SlotRec.swept (r : SlotRec) (f : Finish) (reads : Nat) : SlotRec :=
  { r with acc := 0, valid := true, folded := [], whole := [], finish := some { f with stage := .sweep reads } }

theorem sweepReset_self (h : s.slotRec n = some r) (finish : r.finish = some f) (reads : Nat) :
    (s.sweepReset n reads).slotRec n = some (r.swept f reads) := by
  have reset := setRec_self (fun r => { r with acc := 0, valid := true, folded := [], whole := [] }) h
  refine (setFinish_self (fun f => { f with stage := .sweep reads }) reset).trans ?_
  unfold SlotRec.swept
  rw [finish]
  rfl

/-- The reads of a sweep that begins, in line order (R41). -/
def State.sweepRequests (s : State) (n o : Nat) (r : SlotRec) (blocks : Nat) : List InjReq :=
  (sweepReads blocks).map fun p => ⟨.sweepRead n o p.1, r.unit, s.slotBase r + blockOffset p.1, .read (2 * p.2),
    some r.window, some r.slot⟩

theorem beginSweep_reads (h : s.slotRec n = some r) (finish : r.finish = some f) (opening : r.opening = some o)
    (reads : sweepReads (blockCount f.len) ≠ []) : s.beginSweep n =
      { s.sweepReset n (sweepReads (blockCount f.len)).length with bus := { s.bus with
        injAsked := s.bus.injAsked ++ s.sweepRequests n o r (blockCount f.len) } } := by
  unfold State.beginSweep
  rw [h]
  dsimp only
  rw [finish, opening]
  dsimp only
  rw [if_neg (by simpa using reads)]
  exact askSlots_eq (fun p : Nat × Nat => .sweepRead n o p.1) r.unit r (fun p => blockOffset p.1)
    (fun p => .read (2 * p.2)) _ _

/-- The sweep of an empty frame goes on at once (R41). -/
theorem beginSweep_empty (h : s.slotRec n = some r) (finish : r.finish = some f) (opening : r.opening = some o)
    (empty : sweepReads (blockCount f.len) = []) : s.beginSweep n = (s.sweepReset n 0).beginDirect n := by
  unfold State.beginSweep
  rw [h]
  dsimp only
  rw [finish, opening]
  dsimp only
  rw [empty]
  rfl

theorem finishing_beginSweep (s : State) (n : Nat) : Finishing n s (s.beginSweep n) := by
  unfold State.beginSweep
  split
  · exact Finishing.refl n s
  next r _ =>
    split
    next f o _ _ =>
      have reset : Finishing n s (s.sweepReset n (sweepReads (blockCount f.len)).length) :=
        (finishing_setRec s n _).trans (finishing_setFinish _ n _)
      have asked := askSlots_eq (fun p : Nat × Nat => .sweepRead n o p.1) r.unit r (fun p => blockOffset p.1)
        (fun p => .read (2 * p.2)) (sweepReads (blockCount f.len))
        (s.sweepReset n (sweepReads (blockCount f.len)).length)
      have reads := reset.trans ⟨⟨_, _, _, _, asked⟩, fun m _ => by rw [asked]; rfl⟩
      dsimp only
      split
      · exact reads.trans (finishing_beginDirect _ n)
      · exact reads
    next => exact Finishing.refl n s

theorem beginTail_eq (h : s.slotRec n = some r) (finish : r.finish = some f) (opening : r.opening = some o) :
    s.beginTail n = (s.setFinish n fun f => { f with stage := .tail }).askSlot (.tailFetch n o) r.unit r
      (blockOffset (blockCount f.len)) (.read 2) := by
  unfold State.beginTail
  rw [h]
  dsimp only
  rw [finish, opening]

theorem beginFinish_eq (h : s.slotRec n = some r) (finish : r.finish = some f) : s.beginFinish n =
    if finishKind r.valid r.folded r.whole f.len = .direct then s.beginDirect n
    else if finishKind r.valid r.folded r.whole f.len = .tailFetch then s.beginTail n
    else s.beginSweep n := by
  unfold State.beginFinish
  rw [h]
  dsimp only
  rw [finish]
  dsimp only
  cases finishKind r.valid r.folded r.whole f.len <;> rfl

theorem finishing_beginFinish (s : State) (n : Nat) : Finishing n s (s.beginFinish n) := by
  unfold State.beginFinish
  split
  · exact Finishing.refl n s
  split
  · exact Finishing.refl n s
  split
  · exact finishing_beginDirect s n
  · unfold State.beginTail
    (repeat' split)
    · exact Finishing.refl n s
    · exact (finishing_setFinish s n _).trans (finishing_askSlot _ n _ _ _ _ _)
    · exact Finishing.refl n s
  · exact finishing_beginSweep s n

/-- The finish that begins keeps the merge queue and what its record was given (R38 to R41). -/
theorem beginFinish_record (h : s.slotRec n = some r) (finish : r.finish = some f) (opening : r.opening = some o) :
    (∃ w, (s.beginFinish n).slotRec n = some w ∧ Finishes r w) ∧ (s.beginFinish n).merges = s.merges := by
  have direct : ∀ {u : State} {x : SlotRec}, u.slotRec n = some x → Finishes r x → u.merges = s.merges →
      (∃ w, (u.beginDirect n).slotRec n = some w ∧ Finishes r w) ∧ (u.beginDirect n).merges = s.merges := by
    intro u x hu same merges
    obtain ⟨finish, record⟩ := beginDirect_record u n hu
    obtain ⟨_, _, _, only⟩ := turned_beginDirect u n
    exact ⟨⟨_, record, same.trans ⟨rfl, rfl, rfl, rfl⟩⟩, by rw [only]; exact merges⟩
  rw [beginFinish_eq h finish]
  split
  · exact direct h (Finishes.refl r) rfl
  split
  · rw [beginTail_eq h finish opening]
    exact ⟨⟨_, setFinish_self (fun f => { f with stage := .tail }) h, rfl, rfl, rfl, rfl⟩, rfl⟩
  · by_cases empty : sweepReads (blockCount f.len) = []
    · rw [beginSweep_empty h finish opening empty]
      exact direct (sweepReset_self h finish 0) ⟨rfl, rfl, rfl, rfl⟩ rfl
    · rw [beginSweep_reads h finish opening empty]
      exact ⟨⟨_, sweepReset_self h finish _, rfl, rfl, rfl, rfl⟩, rfl⟩

end Kinds

/-! ## The decision (R38) -/

section Decision

variable {s : State} {n o : Nat} {r : SlotRec} {f : Finish} {key : KeyRef}

/-- A fold, whatever it does, keeps what its record was given, its finish and, but for the slot's, the merge queue. -/
theorem fold_record (h : s.slotRec n = some r) (b : Nat) (blk : Block) (whole : Bool) :
    (∃ w, (s.fold n b blk whole).slotRec n = some w ∧ Finishes r w ∧ w.finish = r.finish) ∧
      ((s.fold n b blk whole).merges = s.merges ∨ (s.fold n b blk whole).merges = s.merges.filter fun m => m.recNo != n) := by
  unfold State.fold
  rw [h]
  dsimp only
  split
  · exact ⟨⟨r, h, Finishes.refl r, rfl⟩, .inl rfl⟩
  split
  · exact ⟨⟨_, clearValid_self h, ⟨rfl, rfl, rfl, rfl⟩, rfl⟩, .inr rfl⟩
  split
  · exact ⟨⟨_, setRec_self (fun r => { r with folded := b :: r.folded, whole := if whole then b :: r.whole else r.whole }) h,
      ⟨rfl, rfl, rfl, rfl⟩, rfl⟩, .inl rfl⟩
  · exact ⟨⟨r, h, Finishes.refl r, rfl⟩, .inl rfl⟩

theorem finishing_settleMerges (s : State) (n len : Nat) : Finishing n s (s.settleMerges n len) := by
  unfold State.settleMerges
  split
  · exact (finishing_dropMerges s n).trans (finishing_fold _ n _ _ _)
  · exact finishing_dropMerges s n

/-- The settling of the merge entries discards the slot's, and keeps what its record was given and its finish (R38). -/
theorem settleMerges_record (h : s.slotRec n = some r) (len : Nat) :
    (∃ w, (s.settleMerges n len).slotRec n = some w ∧ Finishes r w ∧ w.finish = r.finish) ∧
      (s.settleMerges n len).merges = s.merges.filter fun m => m.recNo != n := by
  unfold State.settleMerges
  split
  next m _ =>
    obtain ⟨record, merges⟩ := fold_record (s := s.dropMerges n) h (blockCount len)
      (padBlock (tailOf len) (blockOfStrobed m.bytes)) false
    refine ⟨record, merges.elim id fun again => again.trans ?_⟩
    change (s.merges.filter fun m => m.recNo != n).filter (fun m => m.recNo != n) = _
    rw [List.filter_filter]
    simp
  next => exact ⟨⟨r, h, Finishes.refl r, rfl⟩, rfl⟩

theorem finishing_decideFinish (s : State) (n o len : Nat) (stage : FinishStage) :
    Finishing n s (s.decideFinish n o len stage) := by
  unfold State.decideFinish
  dsimp only
  split
  · exact finishing_beginFinish s n
  split
  · exact (finishing_settleMerges s n len).trans (finishing_beginFinish _ n)
  · exact (finishing_settleMerges s n len).trans (finishing_setFinish _ n _)

/-- A decision keeps what its record was given, and discards the slot's merge entries unless they were settled (R38). -/
theorem decideFinish_record (h : s.slotRec n = some r) (finish : r.finish = some f) (opening : r.opening = some o)
    (len : Nat) (stage : FinishStage) :
    (∃ w, (s.decideFinish n o len stage).slotRec n = some w ∧ Finishes r w) ∧
      (s.decideFinish n o len stage).merges =
        if stage = .settled then s.merges else s.merges.filter fun m => m.recNo != n := by
  unfold State.decideFinish
  dsimp only
  by_cases settled : stage = .settled
  · rw [if_pos settled, if_pos settled]
    exact beginFinish_record h finish opening
  · rw [if_neg settled, if_neg settled]
    obtain ⟨⟨x, record, same, kept⟩, merges⟩ := settleMerges_record h len
    split
    · obtain ⟨⟨w, begun, same'⟩, merges'⟩ := beginFinish_record record (kept.trans finish) (same.opening.trans opening)
      exact ⟨⟨w, begun, same.trans same'⟩, merges'.trans merges⟩
    · exact ⟨⟨_, setFinish_self (fun f => { f with stage := .settled }) record, same.trans ⟨rfl, rfl, rfl, rfl⟩⟩, merges⟩

/-- Without merge entries of the slot, or once they are settled, the decision begins the finish (R38). -/
theorem decideFinish_begins {stage : FinishStage} {len : Nat} (paid : s.ks.productsOwed n o = 0)
    (clean : stage = .settled ∨ ∀ m ∈ s.merges, m.recNo ≠ n) : s.decideFinish n o len stage = s.beginFinish n := by
  unfold State.decideFinish
  dsimp only
  by_cases settled : stage = .settled
  · rw [if_pos settled]
  · have none := clean.resolve_left settled
    have kept : s.dropMerges n = s := by
      unfold State.dropMerges
      rw [List.filter_eq_self.2 fun m hm => by simpa using none m hm]
    have unpadded : s.paddedEntry n len = .none := by
      have absent : s.mergeOf n (blockCount len) = .none :=
        List.find?_eq_none.2 fun m hm => by simp [none m hm]
      unfold State.paddedEntry
      rw [absent]
      exact ite_self _
    have merged : s.settleMerges n len = s := by
      unfold State.settleMerges
      rw [unpadded]
      exact kept
    rw [if_neg settled, merged, if_pos paid]

/-- The merge entry that covers the padded last block is folded, and the finish waits for its product (R38). -/
theorem decideFinish_padded {m : MergeEntry} {len : Nat} {stage : FinishStage} (h : s.slotRec n = some r)
    (opening : r.opening = some o) (hk : r.key = some key) (waiting : stage ≠ .settled)
    (entry : s.mergeOf n (blockCount len) = some m) (tail : 0 < tailOf len)
    (covers : (m.bytes.take (tailOf len)).all Option.isSome = true) (valid : r.valid = true)
    (fresh : blockCount len ∉ r.folded) : s.decideFinish n o len stage =
      (((s.dropMerges n).setRec n fun r => { r with folded := blockCount len :: r.folded }).askMul
        ⟨.fold, n, o, key, padBlock (tailOf len) (blockOfStrobed m.bytes), blockCount len⟩).setFinish n
          fun f => { f with stage := .settled } := by
  have padded : s.paddedEntry n len = some m := by
    unfold State.paddedEntry
    rw [if_neg (by omega), entry]
    exact if_pos covers
  have folds : s.settleMerges n len =
      ((s.dropMerges n).setRec n fun r => { r with folded := blockCount len :: r.folded }).askMul
        ⟨.fold, n, o, key, padBlock (tailOf len) (blockOfStrobed m.bytes), blockCount len⟩ := by
    unfold State.settleMerges
    rw [padded]
    exact fold_asked (s := s.dropMerges n) _ false h opening hk valid fresh
  have owed : (s.settleMerges n len).ks.productsOwed n o ≠ 0 := by
    rw [folds]
    unfold Keystream.productsOwed State.askMul
    simp
  unfold State.decideFinish
  dsimp only
  rw [if_neg waiting, if_neg owed, folds]

theorem exec_finishDecision (h : s.slotRec n = some r) (finish : r.finish = some f) (opening : r.opening = some o)
    (stage : f.stage = .waiting ∨ f.stage = .settled) (state : r.state = .tagging ∨ r.state = .checking)
    (paid : s.ks.productsOwed n o = 0) (written : s.bus.writesWait o = false) :
    exec (.finishDecision n) s = .next (s.decideFinish n o f.len f.stage).settle := by
  change execFinishDecision n s = _
  unfold execFinishDecision
  rw [h]
  dsimp only
  rw [finish, opening]
  refine if_pos ?_
  rcases stage with stage | stage <;> rcases state with state | state <;> simp [stage, state, paid, written]

end Decision

end Sys2Proof.Machine

end

section
/-!
SUPPORT. The data of a finish's reads: the correction of a tail fetch and the folds of a sweep read (R40, R41).
-/

namespace Sys2Proof.Machine
-- One theorem at a time: elaborated side by side, each would hold a stack of its own.
set_option Elab.async false

/-! ## Reads that return (R16) -/

theorem readReturned_run {id : Nat} {data : List Byte} {mine : InjOp → Bool} {s : State} {e : InjEntry} {n : Nat}
    {next : InjOp → State → State} (issued : s.issuedInj id = some e) (op : mine e.req.op = true)
    (access : e.req.access = .read n) (bytes : data.length = 8 * n) :
    readReturned id data mine s next = .next (next e.req.op (s.freeInj id)).settle := by
  unfold readReturned
  rw [issued]
  dsimp only
  rw [if_pos op, if_pos (by rw [access]; exact beq_iff_eq.2 bytes)]
  rfl

/-- The blocks of a read's data, each of its sixteen bytes. -/
theorem blocksOf_eq (n : Nat) {data : List Byte} (bytes : data.length = 16 * n) :
    blocksOf data = (List.range n).map fun i => blockOf ((data.drop (16 * i)).take 16) := by
  induction n generalizing data with
  | zero =>
    have empty : data = [] := List.eq_nil_of_length_eq_zero bytes
    subst empty
    rfl
  | succ n ih =>
    match data, bytes with
    | b0 :: b1 :: b2 :: b3 :: b4 :: b5 :: b6 :: b7 :: b8 :: b9 :: b10 :: b11 :: b12 :: b13 :: b14 :: b15 :: rest, bytes =>
      have short : rest.length = 16 * n := by
        simp only [List.length_cons] at bytes
        omega
      unfold blocksOf
      rw [ih short, List.range_succ_eq_map, List.map_cons, List.map_map]
      refine congrArg₂ List.cons rfl (List.map_congr_left fun i _ => ?_)
      simp only [Function.comp_apply]
      rw [show 16 * (i + 1) = 16 * i + 16 from rfl]
      simp only [List.drop_succ_cons]

/-! ## The folds of a sweep read (R41) -/

section SweepRead

variable {n o len first : Nat} {key : KeyRef}

/-- The request of one block of a sweep: block n padded when the tail is not 0 (R41). -/
def sweepRequest (n o len : Nat) (key : KeyRef) (b : Nat) (blk : Block) : MulReq :=
  ⟨.fold, n, o, key, if b = blockCount len ∧ 0 < tailOf len then padBlock (tailOf len) blk else blk, b⟩

theorem sweepFold_taken {s : State} {r : SlotRec} {b : Nat} (blk : Block) (h : s.slotRec n = some r) (valid : r.valid = true)
    (opening : r.opening = some o) (hk : r.key = some key) (fresh : b ∉ r.folded) : ∃ whole,
      (s.sweepFold n len b blk).slotRec n = some { r with folded := b :: r.folded, whole := whole } ∧
      (s.sweepFold n len b blk).ks =
        { s.ks with mulQueue := s.ks.mulQueue ++ [sweepRequest n o len key b blk] } := by
  unfold State.sweepFold sweepRequest
  split
  · rw [fold_asked (s := s) _ false h opening hk valid fresh]
    exact ⟨r.whole, setRec_self (fun r => { r with folded := b :: r.folded, whole := if false then b :: r.whole else r.whole }) h,
      rfl⟩
  · rw [fold_asked (s := s) _ true h opening hk valid fresh]
    exact ⟨b :: r.whole,
      setRec_self (fun r => { r with folded := b :: r.folded, whole := if true then b :: r.whole else r.whole }) h, rfl⟩

theorem finishing_sweepFold (s : State) (n len b : Nat) (blk : Block) : Finishing n s (s.sweepFold n len b blk) := by
  unfold State.sweepFold
  split <;> exact finishing_fold s n b _ _

theorem finishing_sweepFolds (n len : Nat) (l : List Nat) (blk : Nat → Block) (first : Nat) (s : State) :
    Finishing n s (l.foldl (fun st i => st.sweepFold n len (first + i) (blk i)) s) := by
  induction l generalizing s with
  | nil => exact Finishing.refl n s
  | cons i l ih => exact (finishing_sweepFold s n len _ _).trans (ih _)

/-- Blocks that the accumulator does not hold yet are folded in order (R41). -/
theorem sweepFolds_taken (blk : Nat → Block) {l : List Nat} (distinct : l.Nodup) {s : State} {r : SlotRec}
    (h : s.slotRec n = some r) (valid : r.valid = true) (opening : r.opening = some o) (hk : r.key = some key)
    (fresh : ∀ i ∈ l, first + i ∉ r.folded) : ∃ folded whole,
      (l.foldl (fun st i => st.sweepFold n len (first + i) (blk i)) s).slotRec n =
        some { r with folded := folded, whole := whole } ∧
      (∀ b, b ∈ r.folded ∨ (∃ i ∈ l, b = first + i) → b ∈ folded) ∧
      (l.foldl (fun st i => st.sweepFold n len (first + i) (blk i)) s).ks =
        { s.ks with mulQueue := s.ks.mulQueue ++ l.map fun i => sweepRequest n o len key (first + i) (blk i) } := by
  induction l generalizing s r with
  | nil => exact ⟨r.folded, r.whole, h, fun b hb => hb.elim id fun ⟨i, hi, _⟩ => (List.not_mem_nil hi).elim, by simp⟩
  | cons i l ih =>
    obtain ⟨apart, distinct⟩ := List.nodup_cons.1 distinct
    obtain ⟨whole, record, ks⟩ := sweepFold_taken (len := len) (blk i) h valid opening hk (fresh i (List.mem_cons_self ..))
    obtain ⟨folded, whole', record', more, ks'⟩ := ih distinct record valid opening hk fun j hj mem => by
      rcases List.mem_cons.1 mem with same | old
      · exact apart ((Nat.add_left_cancel same) ▸ hj)
      · exact fresh j (List.mem_cons_of_mem _ hj) old
    refine ⟨folded, whole', record', fun b hb => more b ?_, ?_⟩
    · rcases hb with old | ⟨j, hj, rfl⟩
      · exact .inl (List.mem_cons_of_mem _ old)
      · rcases List.mem_cons.1 hj with rfl | hj
        · exact .inl (List.mem_cons_self ..)
        · exact .inr ⟨j, hj, rfl⟩
    · rw [List.foldl_cons, ks', ks]
      simp only [List.map_cons, List.append_assoc, List.singleton_append]

/-- A sweep read's blocks are folded in order, and one read fewer is owed (R41). -/
theorem sweepReturn_eq {s : State} {r : SlotRec} {f : Finish} {owed beats : Nat} {data : List Byte}
    (live : s.finishing n o = some r) (finish : r.finish = some f) (stage : f.stage = .sweep owed)
    (bytes : data.length = 16 * beats) : s.sweepReturn n o first (blocksOf data) =
      (List.range beats).foldl
        (fun st i => st.sweepFold n f.len (first + i) (blockOf ((data.drop (16 * i)).take 16)))
        (s.setFinish n fun f => { f with stage := .sweep (owed - 1) }) := by
  unfold State.sweepReturn
  rw [live]
  dsimp only
  rw [finish]
  dsimp only
  rw [stage]
  dsimp only
  rw [blocksOf_eq beats bytes]
  have indexed : ((List.range beats).map fun i => blockOf ((data.drop (16 * i)).take 16)).zipIdx =
      (List.range beats).map fun i => (blockOf ((data.drop (16 * i)).take 16), i) := by
    refine List.ext_getElem (by simp) fun i h₁ h₂ => ?_
    simp
  rw [indexed, List.foldl_map]

end SweepRead

theorem finishing_facts {s : State} {n o : Nat} {r : SlotRec} (live : s.finishing n o = some r) :
    s.slotRec n = some r ∧ r.opening = some o := by
  unfold State.finishing at live
  split at live
  next x h =>
    split at live
    next hx => cases live; exact ⟨h, hx.1⟩
    next => cases live
  next => cases live

/-- A tail fetch's data asks for the product of the correction block (R40). -/
theorem tailReturn_eq {s : State} {n o : Nat} {r : SlotRec} {f : Finish} {key : KeyRef} (fetched : Block)
    (live : s.finishing n o = some r) (finish : r.finish = some f) (stage : f.stage = .tail) (hk : r.key = some key) :
    s.tailReturn n o fetched =
      s.askMul ⟨.correction, n, o, key, correctionBlock r f.len fetched, blockCount f.len⟩ := by
  unfold State.tailReturn
  rw [live]
  dsimp only
  rw [finish, hk]
  exact if_pos stage

theorem exec_tailFetchReturn {id n o : Nat} {data : List Byte} {s : State} {e : InjEntry} (issued : s.issuedInj id = some e)
    (op : e.req.op = .tailFetch n o) (access : e.req.access = .read 2) (bytes : data.length = 16) :
    exec (.tailFetchReturn id data) s = .next ((s.freeInj id).tailReturn n o (blockOf data)).settle := by
  change execTailFetchReturn id data s = _
  unfold execTailFetchReturn
  rw [readReturned_run issued (by rw [op]) access bytes, op]

theorem exec_sweepReadReturn {id n o first beats : Nat} {data : List Byte} {s : State} {e : InjEntry}
    (issued : s.issuedInj id = some e) (op : e.req.op = .sweepRead n o first) (access : e.req.access = .read (2 * beats))
    (bytes : data.length = 16 * beats) :
    exec (.sweepReadReturn id data) s = .next ((s.freeInj id).sweepReturn n o first (blocksOf data)).settle := by
  change execSweepReadReturn id data s = _
  unfold execSweepReadReturn
  rw [readReturned_run issued (by rw [op]) access (by omega), op]

/-- What a finish's step leaves alone besides its own record, once it has settled. -/
theorem finishing_settled {n : Nat} {s u : State} (h : Finishing n s u) : OtherRecords s u.settle n ∧ SameKeys s u.settle ∧
    SameMeters s u.settle ∧ SameFaults s u.settle ∧ SameNotices s u.settle ∧ SameControl s u.settle := by
  obtain ⟨⟨_, _, _, _, rfl⟩, others⟩ := h
  exact ⟨otherRecords_settle.2 others, sameKeys_settle.2 ⟨rfl, rfl⟩, sameMeters_settle.2 ⟨rfl, rfl⟩, sameFaults_settle.2 rfl,
    SameNotices.settle rfl, SameControl.settle rfl⟩

/-- Settles O39: the table; the sweep's reads; the decision; a tail fetch's data; a sweep read's data. -/
theorem finishReadsReturn : Obligations.FinishReadsReturn := by
  refine ⟨?table, ?reads, ?decision, ?tail, ?sweep⟩
  case table =>
    classical
    intro valid folded whole len n m hn hm
    rw [finishKind_eq hn hm]
    change (_ ↔ Sweeps valid folded n m) ∧ (_ ↔ ¬ Sweeps valid folded n m ∧ _)
    by_cases sweeps : Sweeps valid folded n m
    · simp [sweeps]
    · rw [if_neg sweeps]
      by_cases direct : len % 16 = 0 ∨ (n ∈ folded ∧ n ∉ whole)
      · simp [sweeps, direct]
      · simp [sweeps, direct]
  case reads =>
    intro n low high
    refine ⟨?_, ?_, fun p hp => mem_sweepReads low high hp⟩
    · rw [sweepReads_eq low high, List.length_map, List.length_range]
    · rw [sweepReads_eq low high, List.pairwise_map]
      exact List.pairwise_lt_range.imp fun h => lineFirst_lt h
  case decision =>
    intro s n o r f key kind h finish opening hk stage state paid written hkind
    refine ⟨_, exec_finishDecision h finish opening stage state paid written, ?_⟩
    obtain ⟨others, keys, meters, faults, notices, control⟩ := finishing_settled (finishing_decideFinish s n o f.len f.stage)
    obtain ⟨⟨w, record, same⟩, merges⟩ := decideFinish_record h finish opening f.len f.stage
    refine ⟨keys, meters, faults, notices, control, others, (State.settle_merges _).trans merges,
      ⟨w, (State.settle_slotRec _ _).trans record, same.state, same.key, same.reason⟩, ?padded, ?kinds⟩
    case padded =>
      intro m waiting entry tail covers valid fresh
      rw [decideFinish_padded h opening hk (by rw [waiting]; decide) entry tail covers valid fresh, State.settle_ks,
        State.settle_slotRec]
      have folded := setRec_self (s := s.dropMerges n)
        (fun r => { r with folded := (f.len + 15) / 16 :: r.folded }) h
      exact ⟨rfl, (setFinish_self (fun f => { f with stage := .settled }) folded).trans (by rw [finish]; rfl)⟩
    case kinds =>
      intro clean
      rw [decideFinish_begins paid clean, beginFinish_eq h finish, ← hkind]
      refine ⟨fun direct => ?_, fun tail => ?_, fun sweep low high => ?_⟩
      · rw [State.settle_ks]
        rcases direct with direct | ⟨sweep, empty⟩
        · rw [if_pos direct, beginDirect_eq h finish opening hk]
          rfl
        · have none : sweepReads (blockCount f.len) = [] := by
            rw [empty]
            rfl
          rw [sweep, if_neg (by decide), if_neg (by decide), beginSweep_empty h finish opening none,
            beginDirect_eq (s := s.sweepReset n 0) (sweepReset_self h finish 0) rfl opening hk]
          rfl
      · rw [tail, if_neg (by decide), if_pos rfl, beginTail_eq h finish opening, State.settle_ks]
        refine ⟨rfl, _, mem_requests_of_asked (List.mem_append_right _ (List.mem_singleton_self _)), rfl, rfl, ?_⟩
        exact (Nat.add_assoc ..).symm
      · have blocks : blockCount f.len ≤ 126 ∧ 1 ≤ blockCount f.len := by
          unfold blockCount
          omega
        have reads : sweepReads (blockCount f.len) ≠ [] := by
          rw [sweepReads_eq blocks.2 blocks.1]
          simp
        rw [sweep, if_neg (by decide), if_neg (by decide), beginSweep_reads h finish opening reads, State.settle_ks,
          State.settle_slotRec]
        refine ⟨rfl, ⟨_, sweepReset_self h finish _, rfl, rfl, rfl, rfl, rfl⟩, fun idle => ?_⟩
        refine (settle_requests (u := r.unit) fun q hq => ?_).trans ?_
        · change q ∈ s.bus.injAsked ++ s.sweepRequests n o r (blockCount f.len) at hq
          rw [idle, List.nil_append] at hq
          obtain ⟨p, -, rfl⟩ := List.mem_map.1 hq
          rfl
        · change s.requests ++ (s.bus.injAsked ++ s.sweepRequests n o r (blockCount f.len)) = _
          rw [idle, List.nil_append]
          rfl
  case tail =>
    intro id n o data s e r f key issued op access bytes live finish stage hk
    refine ⟨_, exec_tailFetchReturn issued op access bytes, ?_⟩
    rw [tailReturn_eq (s := s.freeInj id) (blockOf data) live finish stage hk, State.settle_ks]
    refine ⟨State.settle_pool _, State.settle_merges _, ?_, sameKeys_settle.2 ⟨rfl, rfl⟩, sameMeters_settle.2 ⟨rfl, rfl⟩,
      sameFaults_settle.2 rfl, SameNotices.settle rfl, SameControl.settle rfl⟩
    have block : correctionBlock r f.len (blockOf data) = if (f.len + 15) / 16 ∈ r.whole then
          blockOf (List.replicate (f.len % 16) 0 ++ (blockBytes (blockOf data)).drop (f.len % 16))
        else blockOf ((blockBytes (blockOf data)).take (f.len % 16) ++ List.replicate (16 - f.len % 16) 0) := by
      unfold correctionBlock
      simp only [List.contains_iff_mem]
      rfl
    rw [← block]
    rfl
  case sweep =>
    intro id n o first owed beats data s e r f key blk issued op access bytes live finish stage hk valid fresh hblk
    refine ⟨_, exec_sweepReadReturn issued op access bytes, ?_⟩
    rw [sweepReturn_eq (s := s.freeInj id) live finish stage bytes]
    obtain ⟨h, opening⟩ := finishing_facts live
    have counted := setFinish_self (s := s.freeInj id) (fun f => { f with stage := .sweep (owed - 1) }) h
    obtain ⟨folded, whole, record, more, ks⟩ := sweepFolds_taken (n := n) (o := o) (len := f.len) (first := first)
      (fun i => blockOf ((data.drop (16 * i)).take 16)) (l := List.range beats) List.nodup_range counted valid opening hk
      fun i hi => fresh i (List.mem_range.1 hi)
    have all := (finishing_setFinish (s.freeInj id) n fun f => { f with stage := .sweep (owed - 1) }).trans
      (finishing_sweepFolds n f.len (List.range beats) (fun i => blockOf ((data.drop (16 * i)).take 16)) first _)
    obtain ⟨others, keys, meters, faults, notices, control⟩ := finishing_settled all
    refine ⟨⟨_, (State.settle_slotRec _ _).trans record, rfl, rfl, valid,
      fun i hi => more _ (.inr ⟨i, List.mem_range.2 hi, rfl⟩), { f with stage := .sweep (owed - 1) }, ?_, rfl, rfl⟩, ?_,
      others, keys, meters, faults, notices, control⟩
    · rw [finish]
      rfl
    · rw [State.settle_ks, ks]
      have same : ∀ i, sweepRequest n o f.len key (first + i) (blockOf ((data.drop (16 * i)).take 16)) =
          sweepRequest n o f.len key (first + i) (blk i) := fun i => by rw [hblk]
      simp only [same]
      rfl

end Sys2Proof.Machine

end

section
/-!
SUPPORT. A direct finish whose two requests have returned: its tag, and what the tag is handed to (R39, R64, R82, R166).
-/

namespace Sys2Proof.Machine
-- One theorem at a time: elaborated side by side, each would hold a stack of its own.
set_option Elab.async false

section Tag

variable {s : State} {n o : Nat} {r : SlotRec} {f : Finish} {l m tag : Block}

/-- The tag of a direct finish: the accumulator plus the length term plus the mask (R39). -/
theorem formedTag_eq (finish : r.finish = some f) (stage : f.stage = .direct) (term : f.lenTerm = some l)
    (mask : f.mask = some m) (untagged : f.tag = none) : r.formedTag = some (r.acc ^^^ l ^^^ m) := by
  unfold SlotRec.formedTag
  rw [finish]
  dsimp only
  rw [stage, term, mask, untagged]

theorem exec_directFinishComplete (h : s.slotRec n = some r) (formed : r.formedTag = some tag) :
    exec (.directFinishComplete n) s = .next (s.handTag n r.role tag).settle := by
  change execDirectFinishComplete n s = _
  unfold execDirectFinishComplete
  rw [h]
  dsimp only
  rw [formed]
  rfl

theorem handTag_outbound (role : r.role = .outbound) : s.handTag n r.role tag = s.outboundTag n tag := by rw [role]; rfl

theorem handTag_inbound (role : r.role = .inbound) : s.handTag n r.role tag = s.inboundTag n tag := by rw [role]; rfl

theorem handTag_notice (role : r.role = .notice) : s.handTag n r.role tag = s.noticeTag n tag := by rw [role]; rfl

/-- A disturbed outbound slot fails without its frame write (R66). -/
theorem outboundTag_disturbed (h : s.slotRec n = some r) (disturbed : r.reason = .disturbed) :
    s.outboundTag n tag = s.failOutbound n .disturbed := by
  unfold State.outboundTag
  rw [h]
  exact if_pos disturbed

/-- The record of an outbound slot whose frame write has been asked for (R64). -/
def SlotRec.tagAsked (r : SlotRec) (f : Finish) (tag : Block) : SlotRec :=
  { r with frameAsked := true, finish := some { f with tag := some tag } }

theorem outboundTag_asks (h : s.slotRec n = some r) (undisturbed : r.reason ≠ .disturbed) (finish : r.finish = some f)
    (opening : r.opening = some o) : s.outboundTag n tag =
      ((s.setRec n fun r => { r with frameAsked := true }).setFinish n fun f => { f with tag := some tag }).askSlot
        (.frameWrite n o) 1 r 0 (.write (strobeAll (s.frameBytes r f.len tag))) := by
  unfold State.outboundTag
  rw [h]
  dsimp only
  rw [if_neg undisturbed, finish, opening]

/-- An inbound slot whose tag read is still owed keeps the tag (R82). -/
theorem inboundTag_kept (h : s.slotRec n = some r) (finish : r.finish = some f) (owed : r.tagRead = none) :
    s.inboundTag n tag = s.setFinish n fun f => { f with tag := some tag } := by
  have own := setFinish_self (fun f => { f with tag := some tag }) h
  unfold State.inboundTag State.tryCompare
  rw [own]
  dsimp only
  rw [owed, finish]
  cases r.state <;> rfl

theorem askNoticeLine0_eq {u : State} {c : Composition} {x : SlotRec} (h : u.slotRec c.recNo = some x)
    (finish : x.finish = some f) (formed : f.tag = some tag) : u.askNoticeLine0 c = u.askSlot (.noticeLine0 c.opening) 3 x 0
      (.write (strobeAll (frameHeader (x.kind.getD 0) (chanByte x.channel) (x.gen.getD 0) (x.seq.getD 0) u.shop
        (x.length.getD 0) ++ blockBytes tag ++ c.bytes.take 96))) := by
  unfold State.askNoticeLine0
  rw [h]
  dsimp only
  rw [finish]
  dsimp only [Option.bind_some]
  rw [formed]
  rfl

/-- A notice slot's tag asks for the line-1 write, or for the line-0 write when line 0 holds the payload (R166). -/
theorem noticeTag_eq {c : Composition} (h : s.slotRec n = some r) (comp : s.notices.comp = some c) : s.noticeTag n tag =
    if c.cipher.length ≤ 6 then (s.setFinish n fun f => { f with tag := some tag }).askNoticeLine0 c
    else (s.setFinish n fun f => { f with tag := some tag }).askSlot (.noticeLine1 c.opening) 3
      { r with finish := r.finish.map fun f => { f with tag := some tag } } 128 (.write (strobeAll (c.bytes.drop 96))) := by
  have own := setFinish_self (fun f => { f with tag := some tag }) h
  unfold State.noticeTag
  dsimp only
  rw [own, show (s.setFinish n fun f => { f with tag := some tag }).notices.comp = some c from comp]

end Tag

/-- Settles O40: the tag handed to an outbound slot, to a disturbed one, to an inbound slot, to a notice. -/
theorem directFinishFormsTag : Obligations.DirectFinishFormsTag := by
  intro s n o r f l m h finish stage term mask untagged opening
  have formed := formedTag_eq (r := r) finish stage term mask untagged
  have run := exec_directFinishComplete h formed
  obtain ⟨tag, htag⟩ : ∃ tag, tag = r.acc ^^^ l ^^^ m := ⟨_, rfl⟩
  rw [← htag] at run ⊢
  refine ⟨fun outbound undisturbed => ?_, fun outbound disturbed => ?_, fun inbound owed => ?_,
    fun c notice comp mine => ?_⟩
  · have asked := setFinish_self (fun f => { f with tag := some tag })
      (setRec_self (fun r => { r with frameAsked := true }) h)
    rw [handTag_outbound outbound, outboundTag_asks h undisturbed finish opening] at run
    obtain ⟨others, keys, meters, faults, -, -⟩ := finishing_settled (((finishing_setRec s n fun r =>
      { r with frameAsked := true }).trans (finishing_setFinish _ n fun f => { f with tag := some tag })).trans
      (finishing_askSlot _ n (.frameWrite n o) 1 r 0 (.write (strobeAll (s.frameBytes r f.len tag)))))
    exact ⟨_, run, ⟨_, mem_requests_of_asked (List.mem_append_right _ (List.mem_singleton_self _)), rfl, rfl, rfl⟩,
      ⟨_, (State.settle_slotRec _ _).trans asked, rfl, rfl⟩, others, State.settle_ks _, keys, meters, faults⟩
  · rw [handTag_outbound outbound, outboundTag_disturbed h disturbed] at run
    obtain ⟨⟨q, hq, _, _, _, rfl⟩, wanted⟩ := failOutbound_result (why := .disturbed) h
    exact ⟨_, run, sameMeters_settle.2 (framed_failOutbound s n _).meters,
      ⟨_, (State.settle_slotRec _ _).trans hq, rfl, rfl, rfl⟩, wanted.settle⟩
  · have kept := setFinish_self (fun f => { f with tag := some tag }) h
    rw [handTag_inbound inbound, inboundTag_kept h finish owed] at run
    obtain ⟨others, keys, meters, faults, -, -⟩ :=
      finishing_settled (finishing_setFinish s n fun f => { f with tag := some tag })
    exact ⟨_, run, (State.settle_slotRec _ _).trans (kept.trans (by rw [finish]; rfl)), others, State.settle_ks _, keys,
      meters, faults⟩
  · have kept := setFinish_self (fun f => { f with tag := some tag }) h
    rw [handTag_notice notice, noticeTag_eq h comp] at run
    refine ⟨_, run, ?_⟩
    by_cases one : c.cipher.length ≤ 6
    · rw [if_pos one, askNoticeLine0_eq (by rw [mine]; exact kept) (f := { f with tag := some tag }) (by rw [finish]; rfl) rfl]
      obtain ⟨others, keys, meters, faults, notices, -⟩ :=
        finishing_settled ((finishing_setFinish s n fun f => { f with tag := some tag }).trans
          (finishing_askSlot _ n _ 3 _ 0 _))
      exact ⟨(State.settle_slotRec _ _).trans (kept.trans (by rw [finish]; rfl)), others, State.settle_ks _, keys,
        meters, faults, notices, fun more => absurd more (Nat.not_lt.2 one),
        fun _ => ⟨_, mem_requests_of_asked (List.mem_append_right _ (List.mem_singleton_self _)), rfl, rfl, rfl⟩⟩
    · rw [if_neg one]
      obtain ⟨others, keys, meters, faults, notices, -⟩ :=
        finishing_settled ((finishing_setFinish s n fun f => { f with tag := some tag }).trans
          (finishing_askSlot _ n (.noticeLine1 c.opening) 3 { r with finish := r.finish.map fun f =>
            { f with tag := some tag } } 128 (.write (strobeAll (c.bytes.drop 96)))))
      exact ⟨(State.settle_slotRec _ _).trans (kept.trans (by rw [finish]; rfl)), others, State.settle_ks _, keys,
        meters, faults, notices, fun _ => ⟨_, mem_requests_of_asked (List.mem_append_right _ (List.mem_singleton_self _)),
          rfl, rfl, rfl⟩, fun less => absurd less one⟩

end Sys2Proof.Machine

end

section
/-!
SUPPORT. A tagged frame's bytes counted and debited (R64, R110, R125), with the judgement of its key's budget.
-/

namespace Sys2Proof.Machine
-- One theorem at a time: elaborated side by side, each would hold a stack of its own.
set_option Elab.async false

/-! ## Debits (R110) -/

theorem setMeter_meter (s : State) (l m : Link) (f : Meter → Meter) :
    (s.setMeter l f).meter m = if m = l then f (s.meter m) else s.meter m := by
  cases l <;> cases m <;> rfl

section Debit

variable {s : State} {c : Fin 16} {size : Nat} {w : Option (Fin 16)} {slot : Option Nat} {quiet : Bool}

/-- The METERED occurrence of a red debit (R110). -/
def meteredOn (c : Fin 16) (w : Option (Fin 16)) (slot : Option Nat) (quiet : Bool) : Occurrence :=
  ⟨.metered, .correctable, some c, w, slot, none, quiet⟩

theorem debit_eq (s : State) (c : Fin 16) (size : Nat) (w : Option (Fin 16)) (slot : Option Nat) (quiet : Bool) :
    s.debit c size w slot quiet =
      if (s.meter (s.chan c).link).debitIsRed size = true then
        (s.setMeter (s.chan c).link (·.debit size)).recordFault (meteredOn c w slot quiet)
      else s.setMeter (s.chan c).link (·.debit size) := rfl

/-- A debit changes a meter, and takes a fault below FATAL when it is red (R110). -/
theorem judging_debit (k : Fin 32) (s : State) (c : Fin 16) (size : Nat) (w : Option (Fin 16)) (slot : Option Nat)
    (quiet : Bool) : Judging k (s.setMeter (s.chan c).link (·.debit size)) (s.debit c size w slot quiet) := by
  rw [debit_eq]
  split
  · exact judging_recordFault k (by simp [meteredOn])
  · exact Judging.refl k _

theorem debit_meter (l : Link) : (s.debit c size w slot quiet).meter l =
    if l = (s.chan c).link then (s.meter l).debit size else s.meter l := by
  obtain ⟨a, b⟩ := (judging_debit 0 s c size w slot quiet).meters
  have same : (s.debit c size w slot quiet).meter l = (s.setMeter (s.chan c).link (·.debit size)).meter l := by
    cases l
    · exact a
    · exact b
  rw [same, setMeter_meter]

theorem setMeter_same (s : State) (l : Link) (f : Meter → Meter) : ∃ a b, s.setMeter l f = { s with meterA := a, meterB := b } := by
  cases l <;> exact ⟨_, _, rfl⟩

theorem debit_faults : (s.debit c size w slot quiet).faults =
    (if (s.meter (s.chan c).link).debitIsRed size = true then s.recordFault (meteredOn c w slot quiet) else s).faults := by
  obtain ⟨a, b, only⟩ := setMeter_same s (s.chan c).link (·.debit size)
  rw [debit_eq, only]
  split
  · exact recordFault_faults_congr _ rfl rfl
  · rfl

theorem debit_key (j : Fin 32) : (s.debit c size w slot quiet).key j = s.key j := by
  obtain ⟨a, b, only⟩ := setMeter_same s (s.chan c).link (·.debit size)
  rw [debit_eq, only]
  split
  · exact recordFault_key _ _ j
  · rfl

theorem debit_list : (s.debit c size w slot quiet).notices.list = s.notices.list := by
  obtain ⟨a, b, only⟩ := setMeter_same s (s.chan c).link (·.debit size)
  rw [debit_eq, only]
  split
  · rw [recordFault_notices]
  · rfl

theorem faultReports_debit : FaultReports s (s.debit c size w slot quiet) := by
  have turned : FaultReports s (s.setMeter (s.chan c).link (·.debit size)) := by
    obtain ⟨a, b, only⟩ := setMeter_same s (s.chan c).link (·.debit size)
    rw [only]
    exact faultReports_of_quiet (quiet_of_same rfl rfl rfl rfl rfl)
  exact turned.trans (judging_debit 0 s c size w slot quiet).reports

end Debit

/-! ## The frame that is paid (R64, R125) -/

/-- The state in which a frame's bytes have been counted, its key slot not judged yet (R125). -/
def State.bytesCounted (s : State) (k : Fin 32) (size : Nat) : State :=
  s.setKey k fun x => { x with bytes := min (x.bytes + size) 281474976710655 }

/-- A key slot with a frame's bytes counted (R125). -/
def KeySlot.charged (x : KeySlot) (size : Nat) : KeySlot := { x with bytes := min (x.bytes + size) 281474976710655 }

/-- What the payment of a frame of channel c under key slot k does: the bytes counted, the key slot judged, the meter of
the channel's link debited (R64, R110, R125, R127, R128). -/
structure FramePaid (k : Fin 32) (c : Fin 16) (size : Nat) (metered : Occurrence) (s v : State) : Prop where
  frames : SameFrames s v
  others : OtherKeys s v k
  key : v.key k = { (s.key k).charged size with spent := (v.key k).spent, asked := (v.key k).asked }
  freeList : v.keys.freeList = s.keys.freeList
  channels : v.channels = s.channels
  notices : v.notices = { s.notices with list := v.notices.list }
  windows : v.windows = s.windows
  straps : v.straps = s.straps
  time : v.time = s.time
  fuses : v.fuses = s.fuses
  control : SameCommand s v
  bus : v.bus = { s.bus with injAsked := v.bus.injAsked }
  asks : s.bus.injAsked ⊆ v.bus.injAsked
  reports : FaultReports s v
  meter : ∀ l, v.meter l = if l = (s.chan c).link then (s.meter l).debit size else s.meter l
  budget : ∀ o, (s.key k).owner = some o → ∀ cur, cur = decide ((s.chan o).cur = some k) →
    FlagsJudged s v k ((s.key k).charged size) o cur ∧
    ListJudged s v ((s.key k).charged size) o cur false s.notices.list ∧
    (s.notices.list.length < 16 → ∀ b u, b.faults = s.faults → b.time = s.time →
      SpentTaken b u ((s.key k).charged size) o cur false → v.faults =
      (if (s.meter (s.chan c).link).debitIsRed size = true then u.recordFault metered else u).faults)

section PayFrame

variable {s : State} {r : SlotRec} {k : Fin 32} {c : Fin 16} {len : Nat} {quiet : Bool}

theorem payFrame_eq (key : r.keySlot = some k) (channel : r.channel = some c) : s.payFrame r len quiet =
    ((s.bytesCounted k (32 + len)).judgeMarks k).debit c (32 + len) (some r.window) (some r.slot) quiet := by
  unfold State.payFrame
  rw [key, channel]
  rfl

theorem keyRole_current_iff {o : Fin 16} (owner : (s.key k).owner = some o) :
    s.keyRole k = some .current ↔ (s.chan o).cur = some k := by
  unfold State.keyRole
  rw [owner]
  dsimp only
  by_cases cur : (s.chan o).cur = some k
  · simp [cur]
  · rw [if_neg cur]
    refine ⟨fun h => ?_, fun h => absurd h cur⟩
    split at h
    · cases h
    · split at h <;> cases h

theorem spentTaken_time {s u : State} {x : KeySlot} {o : Fin 16} {cur promoted : Bool}
    (taken : SpentTaken s u x o cur promoted) : u.time = s.time := by
  by_cases spends : cur = true ∧ x.spends promoted
  · rw [taken.1 spends.1 spends.2, recordFault_time]
  · rw [taken.2 (by
      by_cases current : cur = true
      · exact .inr fun h => spends ⟨current, h⟩
      · exact .inl (by simpa using current))]

theorem payFrame_paid (s : State) (key : r.keySlot = some k) (channel : r.channel = some c) (len : Nat) (quiet : Bool) :
    FramePaid k c (32 + len) (meteredOn c (some r.window) (some r.slot) quiet) s (s.payFrame r len quiet) := by
  rw [payFrame_eq key channel]
  have judged := judging_judgeMarks (s.bytesCounted k (32 + len)) k
  have debited := judging_debit k ((s.bytesCounted k (32 + len)).judgeMarks k) c (32 + len) (some r.window) (some r.slot) quiet
  have link : ((s.bytesCounted k (32 + len)).judgeMarks k).chan c = s.chan c := by
    unfold State.chan
    rw [judged.channels]
    rfl
  have meters : ∀ l, ((s.bytesCounted k (32 + len)).judgeMarks k).meter l = s.meter l := fun l => by
    cases l
    · exact judged.meters.1
    · exact judged.meters.2
  have counted : (s.bytesCounted k (32 + len)).key k = (s.key k).charged (32 + len) := State.key_setKey_self s k _
  obtain ⟨a, b, only⟩ := setMeter_same ((s.bytesCounted k (32 + len)).judgeMarks k)
    (((s.bytesCounted k (32 + len)).judgeMarks k).chan c).link (·.debit (32 + len))
  rw [only] at debited
  have kept : Quiet s (s.bytesCounted k (32 + len)) := quiet_of_same rfl rfl rfl rfl rfl
  have flags := debited.flags.trans (congrArg (fun x : KeySlot => { x with
    spent := (((s.bytesCounted k (32 + len)).judgeMarks k).debit c (32 + len) (some r.window) (some r.slot) quiet |>.key k).spent
    asked := (((s.bytesCounted k (32 + len)).judgeMarks k).debit c (32 + len) (some r.window) (some r.slot) quiet |>.key k).asked })
    judged.flags)
  refine
    { frames := ⟨debited.frames.1.trans judged.frames.1, debited.frames.2.1.trans judged.frames.2.1,
        debited.frames.2.2.trans judged.frames.2.2⟩
      others := fun j hj => (debited.others j hj).trans ((judged.others j hj).trans
        ((State.key_setKey s k j _).trans (if_neg hj)))
      key := flags.trans (by rw [counted])
      freeList := debited.freeList.trans judged.freeList
      channels := debited.channels.trans judged.channels
      notices := debited.notices.trans (by
        dsimp only
        rw [judged.notices]
        rfl)
      windows := debited.windows.trans judged.windows
      straps := debited.straps.trans judged.straps
      time := debited.time.trans judged.time
      fuses := debited.fuses.trans judged.fuses
      control := SameCommand.trans (t := (s.bytesCounted k (32 + len)).judgeMarks k) judged.control debited.control
      bus := debited.bus.trans (by
        dsimp only
        rw [judged.bus]
        rfl)
      asks := List.Subset.trans judged.asks debited.asks
      reports := ((faultReports_of_quiet kept).trans judged.reports).trans faultReports_debit
      meter := fun l => by rw [debit_meter, link, meters]
      budget := fun o owner cur hcur => ?_ }
  have role : decide ((s.bytesCounted k (32 + len)).keyRole k = some .current) = cur := by
    rw [hcur]
    exact decide_eq_decide.2 (keyRole_current_iff (by rw [counted]; exact owner))
  have budgeted := judgeMarks_budgeted counted owner role
  refine ⟨budgeted.flagsJudged rfl (congrArg KeySlot.spent (debit_key _)) (congrArg KeySlot.asked (debit_key _)),
    budgeted.listJudged rfl rfl debit_list, fun room b u sameFaults sameTime taken => ?_⟩
  rw [debit_faults, link, meters]
  have faults := budgeted.spentTaken (s := b) room sameFaults.symm sameTime.symm taken
  split
  · exact recordFault_faults_congr _ faults (judged.time.trans ((spentTaken_time taken).trans sameTime).symm)
  · exact faults

end PayFrame

end Sys2Proof.Machine

end

section
/-!
SUPPORT. The frame write that lands: its slot TAGGED or FAILED, its bytes paid (R64, R66, R70, R110).
-/

namespace Sys2Proof.Machine
-- One theorem at a time: elaborated side by side, each would hold a stack of its own.
set_option Elab.async false

/-! ## Keys and faults of a slot that fails (R65, R119) -/

section Drop

variable {s : State} {n : Nat} {r : SlotRec} {k : Fin 32}

/-- A dropped reference takes no fault while the key slot has a role, or no beat waits in the overflow list. -/
theorem dropRef_silent (quiet : s.keyRole k ≠ none ∨ s.ks.overflow = []) :
    (s.dropRef k).faults = s.faults ∧ (s.dropRef k).ctl = s.ctl := by
  rcases quiet with role | empty
  · rw [dropRef_of_role role]
    exact ⟨rfl, rfl⟩
  · obtain ⟨faults, ctl, -⟩ := judgeKey_silent (s := s.untakeRef k) (k := k) empty
    exact ⟨faults, ctl⟩

theorem failRec_silent (s : State) (n : Nat) (why : Reason) :
    (s.failRec n why).faults = s.faults ∧ (s.failRec n why).ctl = s.ctl ∧ (s.failRec n why).ks = s.ks := by
  unfold State.failRec State.askResult
  split <;> exact ⟨rfl, rfl, rfl⟩

theorem failOutbound_silent {why : Reason} (h : s.slotRec n = some r) (key : r.keySlot = some k)
    (quiet : s.keyRole k ≠ none ∨ s.ks.overflow = []) : (s.failOutbound n why).faults = s.faults := by
  obtain ⟨keys, channels⟩ := failRec_keys s n why
  obtain ⟨faults, -, ks⟩ := failRec_silent s n why
  have role : (s.failRec n why).keyRole k = s.keyRole k :=
    keyRole_congr (by unfold State.key; rw [keys]) channels
  rw [failOutbound_eq h, key]
  exact (dropRef_silent (k := k) (by rw [role, ks]; exact quiet)).1.trans faults

theorem keySlot_of_key {r : SlotRec} (key : r.key = some (.slot k)) : r.keySlot = some k := by
  unfold SlotRec.keySlot
  rw [key]

end Drop

theorem framed_meter {s t : State} (h : Framed s t) (l : Link) : t.meter l = s.meter l := by
  cases l
  · exact h.meters.1
  · exact h.meters.2

/-! ## Judgements read off a later state -/

section Later

variable {s t v : State} {k : Fin 32} {x : KeySlot} {c : Fin 16} {cur promoted : Bool} {l : List ProtoEntry}

theorem FlagsJudged.later (h : FlagsJudged s v k x c cur) (spent : (t.key k).spent = (v.key k).spent)
    (asked : (t.key k).asked = (v.key k).asked) : FlagsJudged s t k x c cur := by
  unfold FlagsJudged
  rw [spent, asked]
  exact h

theorem ListJudged.later (h : ListJudged s v x c cur promoted l) (list : t.notices.list = v.notices.list) :
    ListJudged s t x c cur promoted l := by
  unfold ListJudged
  rw [list]
  exact h

end Later

/-! ## The frame write's answer -/

/-- The record of an outbound slot whose frame write has landed (R64). -/
def SlotRec.landed (r : SlotRec) : SlotRec :=
  { r with
    state := .tagged
    finish := none
    frameAsked := false
    retouched := false }

section Landed

variable {s : State} {n o id : Nat} {r : SlotRec} {f : Finish} {e : InjEntry} {k : Fin 32} {c : Fin 16}

theorem exec_frameWriteAnswered (issued : s.issuedInj id = some e) (op : e.req.op = .frameWrite n o)
    (live : s.finishing n o = some r) : exec (.frameWriteAnswered id) s = .next ((s.freeInj id).frameLanded n).settle := by
  change execFrameWriteAnswered id s = _
  unfold execFrameWriteAnswered
  rw [issued]
  dsimp only
  rw [op]
  dsimp only
  unfold State.frameAnswered
  rw [show (s.freeInj id).finishing n o = some r from live]
  rfl

theorem frameLanded_tagged (h : s.slotRec n = some r) (finish : r.finish = some f) (clean : r.reason = .none) :
    s.frameLanded n = if r.retouched then ((s.setRec n SlotRec.landed).payFrame r f.len false).askResult n
      else (s.setRec n SlotRec.landed).payFrame r f.len false := by
  unfold State.frameLanded
  rw [h]
  dsimp only
  rw [if_pos clean, finish]
  rfl

theorem frameLanded_fails (h : s.slotRec n = some r) (finish : r.finish = some f) (noted : r.reason ≠ .none) :
    s.frameLanded n = (s.payFrame r f.len false).failOutbound n r.reason := by
  unfold State.frameLanded
  rw [h]
  dsimp only
  rw [if_neg noted, finish]
  rfl

theorem slotRec_of_frames {s t : State} (same : SameFrames s t) (m : Nat) : t.slotRec m = s.slotRec m := by
  unfold State.slotRec
  rw [same.1]

/-- A frame that lands without a noted reason: what is paid, its slot, its header result write (R64, R56). -/
theorem frameLanded_lands (h : s.slotRec n = some r) (finish : r.finish = some f) (clean : r.reason = .none)
    (key : r.keySlot = some k) (channel : r.channel = some c) :
    ∃ v, FramePaid k c (32 + f.len) (meteredOn c (some r.window) (some r.slot) false) (s.setRec n SlotRec.landed) v ∧
      v.slotRec n = some r.landed ∧ OtherRecords s v n ∧ Framed v (s.frameLanded n) ∧
      (∀ m, (s.frameLanded n).slotRec m = v.slotRec m) ∧ (s.frameLanded n).keys = v.keys ∧
      (s.frameLanded n).faults = v.faults ∧ (r.retouched = true → Wanted (s.frameLanded n) n r .tagged .none) := by
  have paid := payFrame_paid (s.setRec n SlotRec.landed) key channel f.len false
  have own : ((s.setRec n SlotRec.landed).payFrame r f.len false).slotRec n = some r.landed :=
    (slotRec_of_frames paid.frames n).trans (setRec_self SlotRec.landed h)
  refine ⟨_, paid, own, fun m hm => (slotRec_of_frames paid.frames m).trans (setRec_others s n SlotRec.landed m hm), ?_⟩
  rw [frameLanded_tagged h finish clean]
  by_cases again : r.retouched = true
  · rw [if_pos again]
    refine ⟨framed_askResult _ n, fun m => askResult_slotRec _ n m, ?_, ?_, fun _ => ?_⟩
    · unfold State.askResult
      split <;> rfl
    · unfold State.askResult
      split <;> rfl
    · have wanted := wanted_askResult own
      rw [show r.landed.reason = .none from clean] at wanted
      exact wanted.congr rfl rfl rfl
  · rw [if_neg again]
    exact ⟨Framed.refl _, fun _ => rfl, rfl, rfl, fun h => absurd h again⟩

end Landed

/-- The debit of a METERED meter takes the levels in their order (R110). -/
theorem debit_metered {m : Meter} {size fromC fromE : Nat} (metered : m.metered = true) (hc : fromC = min m.c size)
    (he : fromE = min m.e (size - fromC)) : m.debit size = { m with
      c := m.c - fromC
      e := m.e - fromE
      overdraw := min (m.overdraw + (size - fromC - fromE)) 4294967295 } := by
  unfold Meter.debit
  rw [metered, hc, he, hc]
  rfl

/-- The debit of a meter, level by level (R110, R111). -/
theorem debit_levels (m : Meter) (size : Nat) :
    (m.metered = false → m.debit size = m) ∧
    (m.metered = true → size ≤ m.c → m.debit size = { m with c := m.c - size, overdraw := min m.overdraw 4294967295 }) ∧
    (m.metered = true → m.c < size → size ≤ m.c + m.e →
      m.debit size = { m with c := 0, e := m.c + m.e - size, overdraw := min m.overdraw 4294967295 }) ∧
    (m.metered = true → m.c + m.e < size →
      m.debit size = { m with
        c := 0, e := 0, overdraw := min (m.overdraw + (size - (m.c + m.e))) 4294967295 }) := by
  refine ⟨fun unmetered => ?_, fun metered within => ?_, fun metered beyond within => ?_, fun metered beyond => ?_⟩
  · unfold Meter.debit
    rw [unmetered]
    rfl
  · rw [debit_metered (fromC := size) (fromE := 0) metered (by omega) (by omega)]
    simp
  · rw [debit_metered (fromC := m.c) (fromE := size - m.c) metered (by omega) (by omega)]
    simp only [Nat.sub_self, Nat.add_zero, show m.e - (size - m.c) = m.c + m.e - size by omega]
  · rw [debit_metered (fromC := m.c) (fromE := m.e) metered (by omega) (by omega)]
    simp only [Nat.sub_self, Nat.sub_sub]

/-- Settles O41: the meter; the slot that is tagged; the key's budget, whichever way the slot goes; the slot that fails. -/
theorem frameWriteLands : Obligations.FrameWriteLands := by
  refine ⟨fun id n o s e r f k c issued op live finish key channel => ?_, debit_levels⟩
  obtain ⟨h, -⟩ := finishing_facts live
  have keyed := keySlot_of_key key
  refine ⟨_, exec_frameWriteAnswered issued op live, ?_⟩
  have h' : (s.freeInj id).slotRec n = some r := h
  by_cases clean : r.reason = .none
  · obtain ⟨v, paid, own, others, framed, records, keys, faults, wanted⟩ := frameLanded_lands h' finish clean keyed channel
    have at_ (j : Fin 32) : ((s.freeInj id).frameLanded n).settle.key j = v.key j := by
      rw [State.settle_key]
      unfold State.key
      rw [keys]
    refine ⟨fun l => ?_, fun _ => ⟨⟨r.landed, ?_, rfl, rfl, rfl, clean⟩, ?_, ?_, fun j hj => ?_, fun m hm => ?_, fun again => ?_⟩,
      fun y hy o owner cur hcur => ?_, fun noted => absurd clean noted⟩
    · exact (State.settle_meter _ l).trans ((framed_meter framed l).trans (paid.meter l))
    · exact (State.settle_slotRec _ _).trans ((records n).trans own)
    · rw [at_, paid.key]
      rfl
    · rw [at_, paid.key]
      rfl
    · exact (at_ j).trans (paid.others j hj)
    · exact (State.settle_slotRec _ _).trans ((records m).trans (others m hm))
    · exact (wanted again).settle
    · subst hy
      obtain ⟨flags, list, taken⟩ := paid.budget o owner cur hcur
      refine ⟨fun _ => ⟨?_, flags.later (congrArg KeySlot.spent (at_ k)) (congrArg KeySlot.asked (at_ k))⟩, ?_, fun room u hu _ => ?_⟩
      · rw [at_, paid.key]
        rfl
      · exact list.later ((settle_list _).trans (congrArg NoticeEngine.list framed.notices))
      · exact (State.settle_faults _).trans (faults.trans (taken room s u rfl rfl hu))
  · rw [frameLanded_fails h' finish clean]
    have paid := payFrame_paid (s.freeInj id) keyed channel f.len false
    have own := (slotRec_of_frames paid.frames n).trans h'
    have framed := framed_failOutbound ((s.freeInj id).payFrame r f.len false) n r.reason
    obtain ⟨⟨q, hq, _, _, _, rfl⟩, wanted⟩ := failOutbound_result (why := r.reason) own
    have role : ((s.freeInj id).payFrame r f.len false).keyRole k = s.keyRole k :=
      keyRole_congr (by rw [paid.key]; rfl) paid.channels
    refine ⟨fun l => ?_, fun noted => absurd noted clean, fun y hy o owner cur hcur => ?_,
      fun _ => ⟨⟨_, (State.settle_slotRec _ _).trans hq, rfl, rfl, rfl⟩, (wanted.congr rfl rfl rfl).settle⟩⟩
    · exact (State.settle_meter _ l).trans ((framed_meter framed l).trans (paid.meter l))
    · subst hy
      obtain ⟨flags, list, taken⟩ := paid.budget o owner cur hcur
      refine ⟨fun rolled => ?_, list.later ((settle_list _).trans (congrArg NoticeEngine.list framed.notices)),
        fun room u hu still => ?_⟩
      · have at_ := failOutbound_key own keyed r.reason (role ▸ rolled.resolve_left clean) k
        rw [if_pos rfl] at at_
        exact ⟨by rw [State.settle_key, at_, paid.key]; rfl,
          flags.later (by rw [State.settle_key, at_]) (by rw [State.settle_key, at_])⟩
      · rw [State.settle_faults, failOutbound_silent own keyed (by rw [role, paid.frames.2.1]; exact still.resolve_left clean)]
        exact taken room s u rfl rfl hu

end Sys2Proof.Machine

end

section
/-!
SUPPORT. Two statements that fail in a state outside `State.agesSound`, which they do not ask for: the injection queue
holds a second entry under the age of the one that is answered (R13 gives each its own), a report record's write, and
freeing that age drops both. The Control Unit then hands its record on with no ring write outstanding, though before
the step one was.
-/

namespace Sys2Proof.Machine
-- One theorem at a time: elaborated side by side, each would hold a stack of its own.
set_option Elab.async false

/-- A record that is handed on while a ring write is outstanding waits in the report queue (R179). -/
theorem not_announced_of_empty {s t : State} {q : Report} (out : s.reportOutstanding = true) (empty : s.ctl.queue = [])
    (gone : t.ctl.queue = []) : ¬ Announced s t q := by
  rintro ⟨before, after, -, waits, -, -⟩
  have queue := (waits out (by rw [empty]; exact Nat.zero_le 8)).1
  rw [gone, empty] at queue
  cases before <;> cases queue

/-- Whether a step leaves the report queue empty. -/
def emptiesQueue : Host.Outcome State Fault Refusal → Bool
  | .next t => t.ctl.queue.isEmpty
  | _ => false

theorem queue_of_empties {c : Instr} {s t : State} (run : exec c s = .next t) (empties : emptiesQueue (exec c s) = true) :
    t.ctl.queue = [] := by
  rw [run] at empties
  exact List.isEmpty_iff.1 empties

/-- An injection queue entry of age 4 in flight. -/
def inFlight (op : InjOp) (access : Access) : InjEntry := ⟨4, ⟨op, 0, 0, access, none, none⟩, true, 0, 0⟩

/-- A state with two entries in flight under one age: this one first, then a report record's write. -/
def State.twinned (s : State) (op : InjOp) (access : Access) : State :=
  { s with bus := { s.bus with inj := [inFlight op access, inFlight .reportRecord (.write [])] } }

/-! ## The end of a composition -/

/-- A notice slot whose composition awaits the answer to its line-0 write. -/
def sealingRec : SlotRec :=
  { SlotRec.fresh .notice 0 0 with
    state := .composing
    channel := some 2
    key := some (.slot 5)
    opening := some 3 }

/-- The composition in that slot. -/
def sealing : Composition := ⟨0, 3, 5, [], [], none, [], 0⟩

/-- That composition, with a ring write of the same age beside its line-0 write. -/
def twinNotice : State :=
  { State.reset with
    pool := [(0, sealingRec)]
    notices := { State.reset.notices with comp := some sealing } }.twinned (.noticeLine0 3) (.write [])

theorem twinNotice_empties : emptiesQueue (exec (.noticeCompositionComplete 4) twinNotice) = true := by decide +kernel

/-- Refutes O46: at `twinNotice` the NOTICE_READY record does not join the queue that a ring write is owed to. -/
theorem not_noticeWritesLand : ¬ Obligations.NoticeWritesLand := by
  intro h
  obtain ⟨-, lands⟩ := h 4 3 twinNotice (inFlight (.noticeLine0 3) (.write [])) sealing sealingRec (by decide +kernel)
    rfl rfl rfl
  obtain ⟨t, run, -, -, -, -, -, -, -, -, -, announced, -⟩ := lands 2 5 rfl rfl rfl
  exact not_announced_of_empty (by decide +kernel) rfl (queue_of_empties run twinNotice_empties) announced

/-! ## A promotion at the compare -/

/-- A DATA frame in CHECKING whose tag has been formed and whose tag read is owed. -/
def checkingRec : SlotRec :=
  { SlotRec.fresh .inbound 0 0 with
    state := .checking
    kind := some kindData
    channel := some 2
    key := some (.slot 5)
    seq := some 1
    opening := some 3
    finish := some ⟨.direct, 0, none, none, some 0⟩ }

/-- That frame, under the NEXT key of an OPEN channel, with a ring write of the same age beside its tag read. -/
def twinCheck : State :=
  { State.reset with
    pool := [(0, checkingRec)]
    channels := State.reset.channels.set 2 { State.reset.chan 2 with state := .opened, next := some 5 }
    keys := { State.reset.keys with
      slots := State.reset.keys.slots.set 5 { KeySlot.zeroised with state := .staged, owner := some 2 } }
  }.twinned (.tagRead 0 3) (.read 2)

/-- Sixteen bytes of 0: the tag that the frame carries. -/
def zeroTag : List Byte := List.replicate 16 0

theorem twinCheck_empties : emptiesQueue (exec (.tagReadReturn 4 zeroTag) twinCheck) = true := by decide +kernel

/-- The key of the frame once its window has passed sequence number 1. -/
def passedKey : KeySlot :=
  { KeySlot.zeroised with
    state := .staged
    owner := some 2
    high := 1 }

theorem twinCheck_passes : (twinCheck.key 5).replayDecision 1 = some passedKey := by decide +kernel

/-- Refutes O42: at `twinCheck` the KEY_EVENT record of the promotion does not join the queue that a ring write is owed
to. -/
theorem not_tagsAreCompared : ¬ Obligations.TagsAreCompared := by
  rintro ⟨-, compared⟩
  obtain ⟨t, run, -, -, -, -, passes, -⟩ := compared (.tagReadReturn 4 zeroTag) 4 0 3 zeroTag twinCheck
    (inFlight (.tagRead 0 3) (.read 2)) checkingRec ⟨.direct, 0, none, none, some 0⟩ 0 0 0 0 rfl rfl rfl
    (.inl ⟨rfl, by decide +kernel, rfl, rfl, rfl, rfl, by decide +kernel⟩)
  obtain ⟨-, opened, -⟩ := passes 2 5 rfl rfl rfl rfl rfl
  obtain ⟨-, -, -, -, -, -, -, promotes⟩ := opened passedKey twinCheck_passes (by decide +kernel)
  obtain ⟨-, -, announced, -⟩ := promotes (by decide +kernel) (by decide +kernel) (by decide +kernel) (by decide +kernel)
  exact not_announced_of_empty (by decide +kernel) rfl (queue_of_empties run twinCheck_empties) announced

end Sys2Proof.Machine

end

section
/-!
SUPPORT. Promotions (R129, R130), and the timers that run out (R120, R126, R132, R144, R167).
-/

namespace Sys2Proof.Machine
-- One theorem at a time: elaborated side by side, each would hold a stack of its own.
set_option Elab.async false

/-! ## Promotion (R129, R130) -/

section Promotion

variable {s : State} {c : Fin 16} {k : Fin 32}

/-- The state in which a channel's NEXT key has become CURRENT, its old PREVIOUS not judged yet (R129). -/
def State.rolesMoved (s : State) (c : Fin 16) (k : Fin 32) : State :=
  (s.setChan c Channel.promoted).setKey k fun x => { x with state := .active }

/-- A report record handed on, and then the RENEW_REQUEST of its channel removed (R129, R130). -/
def State.promotionTold (s : State) (c : Fin 16) (k : Fin 32) : State := (s.keyEvent c true k).dropRenewRequest c

/-- The list without a channel's RENEW_REQUEST (R130). -/
def withoutRequest (l : List ProtoEntry) (c : Fin 16) : List ProtoEntry :=
  l.filter fun e => !e.like ⟨c, .renewRequest .requested⟩

theorem promote_eq (next : (s.chan c).next = some k) : s.promote c =
    (((s.rolesMoved c k).judgeKeyOf (s.chan c).prev).promotionTold c k).judgePromoted k := by
  unfold State.promote
  rw [next]
  rfl

theorem rolesMoved_key (j : Fin 32) :
    (s.rolesMoved c k).key j = if j = k then { s.key k with state := .active } else s.key j :=
  State.key_setKey (s.setChan c Channel.promoted) k j fun x => { x with state := .active }

theorem rolesMoved_chan (d : Fin 16) : (s.rolesMoved c k).chan d = if d = c then (s.chan c).promoted else s.chan d :=
  State.chan_setChan s c d Channel.promoted

theorem promotionTold_only (s : State) (c : Fin 16) (k : Fin 32) : ∃ ctl asked, s.promotionTold c k = { s with
    ctl := ctl
    bus := { s.bus with injAsked := asked }
    notices := { s.notices with list := withoutRequest s.notices.list c } } := by
  unfold State.promotionTold State.keyEvent State.dropRenewRequest
  obtain ⟨ctl, asked, only⟩ := s.handReport_only
    ⟨.keyEvent true (s.key k).gen k (s.key k).serial, chanByte (some c), none, none, s.time.ms⟩
  rw [only]
  exact ⟨_, _, rfl⟩

theorem Hands.promotionTold {r : State} {l : List Report} (h : Hands r s l) :
    Hands r (s.promotionTold c k) (l ++ [keyEventOf s c true k]) :=
  (h.hand (keyEventOf s c true k)).quiet (quiet_of_same rfl rfl rfl rfl rfl)

theorem filter_eq_withoutRequest {f : ProtoEntry → Bool} {c : Fin 16} (l : List ProtoEntry)
    (other : ∀ d kind, d ≠ c → f ⟨d, kind⟩ = true) (confirm : ∀ k, f ⟨c, .keyConfirm k⟩ = true)
    (request : ∀ why, f ⟨c, .renewRequest why⟩ = false) : l.filter f = withoutRequest l c := by
  refine List.filter_congr fun ⟨d, kind⟩ _ => ?_
  by_cases same : d = c
  · subst same
    cases kind with
    | keyConfirm k => rw [confirm, ProtoEntry.like, ProtoKind.same, Bool.and_false, Bool.not_false]
    | renewRequest why => rw [request, ProtoEntry.like, ProtoKind.same, decide_eq_true rfl, Bool.and_true, Bool.not_true]
  · rw [other d kind same, ProtoEntry.like, decide_eq_false same, Bool.false_and, Bool.not_false]

theorem judgeKeyOf_key {o : Option (Fin 32)} (other : o ≠ some k) : (s.judgeKeyOf o).key k = s.key k := by
  cases o with
  | none => rfl
  | some p => exact judgeKey_others s p k fun h => other (congrArg some h.symm)

theorem judgeKeyOf_faults {o : Option (Fin 32)} (quiet : s.ks.overflow = [] ∨ o = none) :
    (s.judgeKeyOf o).faults = s.faults := by
  cases o with
  | none => rfl
  | some p => exact (judgeKey_silent (quiet.resolve_right (by simp))).1

/-- What a promotion leaves behind (R129, R130). -/
structure Promoted (c : Fin 16) (k : Fin 32) (s t : State) : Prop where
  meters : SameMeters s t
  chan : ∀ d, t.chan d = if d = c then (s.chan c).promoted else s.chan d
  active : (t.key k).state = .active
  judged : PromotionJudged s t c k

/-- The state of which the new CURRENT key is judged (R130). -/
def State.unjudged (s : State) (c : Fin 16) (k : Fin 32) : State :=
  ((s.rolesMoved c k).judgeKeyOf (s.chan c).prev).promotionTold c k

theorem unjudged_facts (prev : (s.chan c).prev ≠ some k) :
    (s.unjudged c k).key k = { s.key k with state := .active } ∧ (s.unjudged c k).channels = (s.rolesMoved c k).channels ∧
    (s.unjudged c k).notices.list = withoutRequest s.notices.list c ∧ (s.unjudged c k).time = s.time ∧
    SameMeters s (s.unjudged c k) ∧
    (s.ks.overflow = [] ∨ (s.chan c).prev = none → (s.unjudged c k).faults = s.faults) := by
  have kept := kept_judgeKeyOf (s.rolesMoved c k) (s.chan c).prev
  have key := judgeKeyOf_key (s := s.rolesMoved c k) prev
  have faults := judgeKeyOf_faults (s := s.rolesMoved c k) (o := (s.chan c).prev)
  unfold State.unjudged
  obtain ⟨_, _, only⟩ := promotionTold_only ((s.rolesMoved c k).judgeKeyOf (s.chan c).prev) c k
  rw [only]
  refine ⟨key.trans ((rolesMoved_key k).trans (if_pos rfl)), kept.channels, ?_, kept.time, kept.meters, faults⟩
  dsimp only
  rw [kept.notices]
  rfl

theorem unjudged_hands (prev : (s.chan c).prev ≠ some k) : ∃ before : List Report,
    (∀ a ∈ before, ∃ e, a.body = .fault e) ∧ Hands s (s.unjudged c k) (before ++ [keyEventOf s c true k]) := by
  have kept := kept_judgeKeyOf (s.rolesMoved c k) (s.chan c).prev
  have moved : Quiet s (s.rolesMoved c k) := quiet_of_same rfl rfl rfl rfl rfl
  obtain ⟨before, hbefore, hands⟩ := (faultReports_of_quiet moved).trans kept.reports
  have event : keyEventOf ((s.rolesMoved c k).judgeKeyOf (s.chan c).prev) c true k = keyEventOf s c true k := by
    unfold keyEventOf
    rw [judgeKeyOf_key prev, kept.time, rolesMoved_key, if_pos rfl]
    rfl
  exact ⟨before, hbefore, event ▸ (hands s [] (Hands.refl s)).promotionTold⟩

/-- Report records that end with FAULT records announce the one before them. -/
theorem announced_of_hands {u v : State} {before : List Report} {q : Report} (fault : ∀ a ∈ before, ∃ e, a.body = .fault e)
    (hands : Hands s u (before ++ [q])) (reports : FaultReports u v) : Announced s v.settle q := by
  obtain ⟨after, hafter, later⟩ := reports
  refine ⟨before, after, fun a ha => (List.mem_append.1 ha).elim (fault a) (hafter a), ?_⟩
  have all := later s _ hands
  rw [List.append_assoc] at all
  exact all.handed.settle

theorem promote_promoted (next : (s.chan c).next = some k) (owner : (s.key k).owner = some c)
    (prev : (s.chan c).prev ≠ some k) : Promoted c k s (s.promote c).settle := by
  rw [promote_eq next]
  change Promoted c k s ((s.unjudged c k).judgePromoted k).settle
  obtain ⟨key, channels, list, time, meters, faults⟩ := unjudged_facts (s := s) (c := c) (k := k) prev
  obtain ⟨before, hbefore, hands⟩ := unjudged_hands (s := s) (c := c) (k := k) prev
  have own : ((s.unjudged c k).key k).owner = some c := by rw [key]; exact owner
  have chan (d : Fin 16) : (s.unjudged c k).chan d = if d = c then (s.chan c).promoted else s.chan d := by
    rw [← rolesMoved_chan (k := k)]
    unfold State.chan
    rw [channels]
  have current : (s.unjudged c k).keyRole k = some .current := by
    rw [keyRole_current_iff own, chan, if_pos rfl]
    exact next
  have budgeted := judgePromoted_budgeted key owner current
  have judging := budgeted.judging
  have percent (x : KeySlot) : (s.unjudged c k).percentOf c x = s.percentOf c x := by
    unfold State.percentOf
    rw [chan, if_pos rfl]
    rfl
  refine ⟨⟨(State.settle_meterA _).trans (judging.meters.1.trans meters.1),
    (State.settle_meterB _).trans (judging.meters.2.trans meters.2)⟩, fun d => ?_, ?_,
    announced_of_hands hbefore hands judging.reports, ?_, ?_⟩
  · rw [State.settle_chan, ← chan]
    unfold State.chan
    rw [judging.channels]
  · rw [State.settle_key, judging.flags, key]
  · have flags := budgeted.flagsJudged (s := s.unjudged c k) (t := ((s.unjudged c k).judgePromoted k).settle) rfl
      (by rw [State.settle_key]) (by rw [State.settle_key])
    unfold FlagsJudged at flags ⊢
    rwa [percent] at flags
  · intro l hl
    rw [filter_eq_withoutRequest _ (fun d kind other => by rw [decide_eq_true other, Bool.true_or]) (fun _ => Bool.or_true _)
      (fun _ => by rw [decide_eq_false (fun h => h rfl), Bool.false_or]), ← list] at hl
    subst hl
    refine ⟨?_, fun room quiet u taken => ?_⟩
    · have judged := budgeted.listJudged (s := s.unjudged c k) (t := ((s.unjudged c k).judgePromoted k).settle) rfl rfl
        (settle_list _)
      unfold ListJudged at judged ⊢
      rwa [percent] at judged
    · exact (State.settle_faults _).trans (budgeted.spentTaken (s := s) room (faults quiet) time taken)

end Promotion

end Sys2Proof.Machine

end

section
/-!
SUPPORT. A minute expiry at the key slots, one after the other, with the judgement of each (R126 to R128).
-/

namespace Sys2Proof.Machine
-- One theorem at a time: elaborated side by side, each would hold a stack of its own.
set_option Elab.async false

/-! ## Requests that are handed to the list -/

/-- The protocol notice list after a request, of whichever channel, if there is one. -/
def handRequest (l : List ProtoEntry) : Option (Fin 16 × RenewReason) → List ProtoEntry
  | some (c, why) => handedList l ⟨c, .renewRequest why⟩
  | none => l

section Requests

variable {l : List ProtoEntry} {c d : Fin 16} {why other : RenewReason} {e : ProtoEntry}

theorem handedList_length_le (l : List ProtoEntry) (e : ProtoEntry) : l.length ≤ (handedList l e).length := by
  unfold handedList
  (repeat' split) <;> simp

theorem mem_or_full_handedList (l : List ProtoEntry) (e : ProtoEntry) : e ∈ handedList l e ∨ 16 ≤ (handedList l e).length := by
  by_cases room : l.length < 16
  · exact .inl (mem_handedList room)
  · exact .inr ((Nat.not_lt.1 room).trans (handedList_length_le l e))

/-- A request takes the place of its own channel's alone (R164). -/
theorem mem_handedList_of_other (h : e ∈ l) (apart : e.channel ≠ d) : e ∈ handedList l ⟨d, .renewRequest other⟩ := by
  have unlike : e.like ⟨d, .renewRequest other⟩ = false := by
    rw [ProtoEntry.like, decide_eq_false apart, Bool.false_and]
  unfold handedList
  split
  · exact List.mem_map.2 ⟨e, h, if_neg (by simp [unlike])⟩
  · split
    · exact List.mem_append_left _ h
    · exact h

/-- A channel's request stands in the list after requests of other channels, or the list is full (R164). -/
theorem mem_or_full_handRequests {r : Fin 32 → Option (Fin 16 × RenewReason)} {ks : List (Fin 32)}
    (h : e ∈ l ∨ 16 ≤ l.length) (apart : ∀ j ∈ ks, ∀ p, r j = some p → e.channel ≠ p.1) :
    e ∈ ks.foldl (fun m j => handRequest m (r j)) l ∨ 16 ≤ (ks.foldl (fun m j => handRequest m (r j)) l).length := by
  induction ks generalizing l with
  | nil => exact h
  | cons j ks ih =>
    refine ih ?_ fun i hi => apart i (List.mem_cons_of_mem _ hi)
    dsimp only
    cases hr : r j with
    | none => exact h
    | some p =>
      obtain ⟨d, other⟩ := p
      exact h.imp (fun mem => mem_handedList_of_other mem (apart j List.mem_cons_self _ hr))
        fun full => full.trans (handedList_length_le l _)

theorem handRequests_none {r : Fin 32 → Option (Fin 16 × RenewReason)} {ks : List (Fin 32)} (h : ∀ j ∈ ks, r j = none) :
    ks.foldl (fun m j => handRequest m (r j)) l = l := by
  induction ks with
  | nil => rfl
  | cons j ks ih =>
    rw [List.foldl_cons, h j List.mem_cons_self]
    exact ih fun i hi => h i (List.mem_cons_of_mem _ hi)

end Requests

/-! ## A minute expiry at one key slot -/

section Minute

variable {s t : State} {k : Fin 32} {c : Fin 16}

/-- The request that the minute expiry at a key slot hands to the list, for its owning channel (R126 to R128). -/
def State.minuteRequest (s : State) (k : Fin 32) : Option (Fin 16 × RenewReason) :=
  if (s.key k).counted = true then
    (s.key k).owner.bind fun c =>
      if (s.chan c).cur = some k then ((s.key k).minuteLater.request (s.percentOf c (s.key k)) false).map fun why => (c, why)
      else none
  else none

theorem minuteRequest_congr (key : t.key k = s.key k) (channels : t.channels = s.channels) :
    t.minuteRequest k = s.minuteRequest k := by
  unfold State.minuteRequest State.percentOf State.chan
  rw [key, channels]

theorem counted_iff (x : KeySlot) : x.counted = true ↔ x.state ≠ .free ∧ x.lifetime ≠ none ∧ x.minutes ≠ 0 := by
  unfold KeySlot.counted
  simp only [Bool.and_eq_true, decide_eq_true_eq, Nat.pos_iff_ne_zero, Option.isSome_iff_ne_none, and_assoc]

theorem minuteCounts_iff : s.minuteCounts k c ↔ (s.key k).owner = some c ∧ (s.key k).counted = true := by
  rw [counted_iff]
  rfl

/-- What a minute expiry at key slot k does (R126 to R128). -/
structure MinuteAt (k : Fin 32) (s t : State) : Prop where
  frames : SameFrames s t
  channels : t.channels = s.channels
  meters : SameMeters s t
  time : t.time = s.time
  others : OtherKeys s t k
  idle : (s.key k).counted = false → t.key k = s.key k
  key : (s.key k).counted = true →
    t.key k = { (s.key k).minuteLater with spent := (t.key k).spent, asked := (t.key k).asked }
  flags : ∀ c, s.minuteCounts k c → FlagsJudged s t k (s.key k).minuteLater c (decide ((s.chan c).cur = some k))
  list : t.notices.list = handRequest s.notices.list (s.minuteRequest k)
  silent : s.minuteRequest k = none → t.faults = s.faults
  faults : ∀ c, s.minuteCounts k c → s.notices.list.length < 16 → ∀ b u, s.faults = b.faults → s.time = b.time →
    SpentTaken b u (s.key k).minuteLater c (decide ((s.chan c).cur = some k)) false → t.faults = u.faults

/-- A judgement that makes no request takes no fault and leaves the list (R127, R128). -/
theorem judgeMarks_silent {x : KeySlot} (key : s.key k = x) (silent : ∀ c, x.owner = some c → (s.chan c).cur = some k →
    x.request (s.percentOf c x) false = none) : (s.judgeMarks k).faults = s.faults ∧ (s.judgeMarks k).notices = s.notices := by
  have reached : ((s.key k).spentReached && !(s.key k).spent) = x.newlySpent := by rw [key]; rfl
  unfold State.judgeMarks State.judgeSpent
  rw [reached]
  by_cases current : s.keyRole k = some .current
  · obtain ⟨c, owner⟩ : ∃ c, x.owner = some c := by
      rw [← key]
      cases h : (s.key k).owner with
      | some c => exact ⟨c, rfl⟩
      | none =>
        unfold State.keyRole at current
        rw [h] at current
        cases current
    have none := silent c owner ((keyRole_current_iff (by rw [key]; exact owner)).1 current)
    have settled : x.newlySpent = false := by
      by_contra newly
      unfold KeySlot.request KeySlot.spendsNow at none
      rw [Bool.not_eq_false] at newly
      simp [newly] at none
    have soft : x.softRequest (s.percentOf c x) = Option.none := by
      unfold KeySlot.request at none
      exact (Option.or_eq_none_iff.1 none).1
    rw [settled, if_neg Bool.false_ne_true]
    unfold State.judgeSoft
    by_cases asked : x.asked = true
    · rw [if_neg (by simp [key, asked])]
      exact ⟨rfl, rfl⟩
    · unfold KeySlot.softRequest at soft
      rw [settled, if_neg (by simpa using asked)] at soft
      rw [if_pos ⟨current, by rw [key]; simpa using asked⟩, softPercent_eq key owner, key, soft]
      exact ⟨rfl, rfl⟩
  · have idle (u : State) (role : u.keyRole k = s.keyRole k) : u.judgeSoft k = u := if_neg fun h => current (role ▸ h.1)
    split
    · rw [idle _ (setKey_keyRole s k k (f := fun x => { x with spent := true, asked := true }) fun _ => rfl)]
      exact ⟨rfl, rfl⟩
    · rw [idle s rfl]
      exact ⟨rfl, rfl⟩

theorem minuteAt_idle (idle : (s.key k).counted = false) : MinuteAt k s s where
  frames := ⟨rfl, rfl, rfl⟩
  channels := rfl
  meters := ⟨rfl, rfl⟩
  time := rfl
  others _ _ := rfl
  idle _ := rfl
  key counted := absurd counted (by simp [idle])
  flags c counts := absurd (minuteCounts_iff.1 counts).2 (by simp [idle])
  list := by
    unfold State.minuteRequest
    rw [idle]
    rfl
  silent _ := rfl
  faults c counts := absurd (minuteCounts_iff.1 counts).2 (by simp [idle])

/-- The state in which key slot k's minutes have been lowered, its marks not judged yet (R126). -/
def State.minuteGone (s : State) (k : Fin 32) : State := s.setKey k fun x => { x with minutes := x.minutes - 1 }

theorem minuteGone_key : (s.minuteGone k).key k = (s.key k).minuteLater := State.key_setKey_self s k _

theorem minuteGone_keyRole (j : Fin 32) : (s.minuteGone k).keyRole j = s.keyRole j := setKey_keyRole s k j fun _ => rfl

/-- The request of a key slot that is counted is the request of its judgement. -/
theorem minuteRequest_counted (counted : (s.key k).counted = true) (owner : (s.key k).owner = some c) :
    s.minuteRequest k = if (s.chan c).cur = some k then
      ((s.key k).minuteLater.request (s.percentOf c (s.key k)) false).map fun why => (c, why) else none := by
  unfold State.minuteRequest
  rw [if_pos counted, owner]
  rfl

theorem judgeMarks_minuteAt (counted : (s.key k).counted = true) : MinuteAt k s ((s.minuteGone k).judgeMarks k) := by
  have judging := judging_judgeMarks (s.minuteGone k) k
  have budgeted (c : Fin 16) (owner : (s.key k).owner = some c) : Budgeted k (s.key k).minuteLater c
      (decide ((s.chan c).cur = some k)) false (s.minuteGone k) ((s.minuteGone k).judgeMarks k) :=
    judgeMarks_budgeted minuteGone_key owner (by
      rw [minuteGone_keyRole]
      exact decide_eq_decide.2 (keyRole_current_iff owner))
  refine
    { frames := judging.frames
      channels := judging.channels
      meters := judging.meters
      time := judging.time
      others := fun j hj => (judging.others j hj).trans ((State.key_setKey s k j _).trans (if_neg hj))
      idle := fun idle => absurd counted (by simp [idle])
      key := fun _ => judging.flags.trans (by rw [minuteGone_key])
      flags := fun c counts => (budgeted c (minuteCounts_iff.1 counts).1).flagsJudged rfl rfl rfl
      list := ?_
      silent := fun none => ?_
      faults := fun c counts room b u faults time taken =>
        (budgeted c (minuteCounts_iff.1 counts).1).spentTaken (s := b) room faults time taken }
  · cases owner : (s.key k).owner with
    | some c =>
      rw [(budgeted c owner).list, minuteRequest_counted counted owner]
      by_cases cur : (s.chan c).cur = some k
      · rw [if_pos (decide_eq_true cur), if_pos cur]
        change requestedList _ _ ((s.key k).minuteLater.request (s.percentOf c (s.key k)) false) = _
        cases (s.key k).minuteLater.request (s.percentOf c (s.key k)) false <;> rfl
      · rw [if_neg (by simp [cur]), if_neg cur]
        rfl
    | none =>
      have unowned : s.minuteRequest k = none := by
        unfold State.minuteRequest
        rw [owner]
        exact ite_self none
      have same := (judgeMarks_silent minuteGone_key fun c mine => absurd (owner.symm.trans mine) (by simp)).2
      rw [unowned, same]
      rfl
  · refine (judgeMarks_silent minuteGone_key fun c owner cur => ?_).1.trans rfl
    have cur' : (s.chan c).cur = some k := cur
    rw [minuteRequest_counted counted owner, if_pos cur', Option.map_eq_none_iff] at none
    exact none

theorem minuteAt_lifetimeTick (s : State) (k : Fin 32) : MinuteAt k s (s.lifetimeTick k) := by
  unfold State.lifetimeTick
  split
  next counted => exact judgeMarks_minuteAt counted
  next idle => exact minuteAt_idle (Bool.eq_false_iff.2 idle)

end Minute

/-! ## The key slots in turn -/

section Minutes

variable {s t : State} {ks : List (Fin 32)}

/-- What the minute expiries at these key slots do, one after the other (R126 to R128). -/
structure MinutesAt (ks : List (Fin 32)) (s t : State) : Prop where
  frames : SameFrames s t
  channels : t.channels = s.channels
  meters : SameMeters s t
  time : t.time = s.time
  others : ∀ j ∉ ks, t.key j = s.key j
  idle : ∀ k, (s.key k).counted = false → t.key k = s.key k
  key : ∀ k ∈ ks, (s.key k).counted = true →
    t.key k = { (s.key k).minuteLater with spent := (t.key k).spent, asked := (t.key k).asked }
  flags : ∀ k ∈ ks, ∀ c, s.minuteCounts k c →
    FlagsJudged s t k (s.key k).minuteLater c (decide ((s.chan c).cur = some k))
  list : t.notices.list = ks.foldl (fun m k => handRequest m (s.minuteRequest k)) s.notices.list
  silent : (∀ k ∈ ks, s.minuteRequest k = none) → t.faults = s.faults
  faults : ∀ k ∈ ks, (∀ j ∈ ks, j ≠ k → s.minuteRequest j = none) → ∀ c, s.minuteCounts k c →
    s.notices.list.length < 16 → ∀ b u, s.faults = b.faults → s.time = b.time →
    SpentTaken b u (s.key k).minuteLater c (decide ((s.chan c).cur = some k)) false → t.faults = u.faults

theorem flagsJudged_congr {u : State} {k : Fin 32} {x y : KeySlot} {c : Fin 16} {cur cur' : Bool}
    (h : FlagsJudged u t k x c cur) (key : x = y) (channels : u.channels = s.channels) (role : cur = cur') :
    FlagsJudged s t k y c cur' := by
  subst key role
  unfold FlagsJudged at h ⊢
  rwa [percentOf_congr channels] at h

theorem minutesAt_foldl (distinct : ks.Nodup) (s : State) : MinutesAt ks s (ks.foldl State.lifetimeTick s) := by
  induction ks generalizing s with
  | nil =>
    exact ⟨⟨rfl, rfl, rfl⟩, rfl, ⟨rfl, rfl⟩, rfl, fun _ _ => rfl, fun _ _ => rfl, fun _ h => absurd h List.not_mem_nil,
      fun _ h => absurd h List.not_mem_nil, rfl, fun _ => rfl, fun _ h => absurd h List.not_mem_nil⟩
  | cons a ks ih =>
    obtain ⟨fresh, distinct⟩ := List.nodup_cons.1 distinct
    have here := minuteAt_lifetimeTick s a
    have rest := ih distinct (s.lifetimeTick a)
    rw [List.foldl_cons]
    have apart {j : Fin 32} (hj : j ∈ ks) : j ≠ a := fun h => fresh (h ▸ hj)
    have chan (c : Fin 16) : (s.lifetimeTick a).chan c = s.chan c := by
      unfold State.chan
      rw [here.channels]
    have request {j : Fin 32} (hj : j ∈ ks) : (s.lifetimeTick a).minuteRequest j = s.minuteRequest j :=
      minuteRequest_congr (here.others j (apart hj)) here.channels
    have counts {j : Fin 32} {c : Fin 16} (hj : j ∈ ks) (h : s.minuteCounts j c) : (s.lifetimeTick a).minuteCounts j c := by
      unfold State.minuteCounts
      rwa [here.others j (apart hj)]
    refine
      { frames := ⟨rest.frames.1.trans here.frames.1, rest.frames.2.1.trans here.frames.2.1,
          rest.frames.2.2.trans here.frames.2.2⟩
        channels := rest.channels.trans here.channels
        meters := ⟨rest.meters.1.trans here.meters.1, rest.meters.2.trans here.meters.2⟩
        time := rest.time.trans here.time
        others := fun j hj => (rest.others j fun h => hj (List.mem_cons_of_mem _ h)).trans
          (here.others j fun h => hj (h ▸ List.mem_cons_self))
        idle := fun k idle => ?_
        key := fun k hk counted => ?_
        flags := fun k hk c counted => ?_
        list := ?_
        silent := fun none => ?_
        faults := fun k hk none c counted room b u faults time taken => ?_ }
    · have same : (s.lifetimeTick a).key k = s.key k := by
        by_cases own : k = a
        · subst own
          exact here.idle idle
        · exact here.others k own
      exact (rest.idle k (by rw [same]; exact idle)).trans same
    · rcases List.mem_cons.1 hk with rfl | later
      · rw [rest.others k fresh]
        exact here.key counted
      · have key := rest.key k later (by rw [here.others k (apart later)]; exact counted)
        rwa [here.others k (apart later)] at key
    · rcases List.mem_cons.1 hk with rfl | later
      · exact (here.flags c counted).later (by rw [rest.others k fresh]) (by rw [rest.others k fresh])
      · exact flagsJudged_congr (rest.flags k later c (counts later counted)) (by rw [here.others k (apart later)])
          here.channels (by rw [chan])
    · rw [rest.list, here.list, List.foldl_cons]
      exact List.foldl_ext _ _ _ fun m j hj => by rw [request hj]
    · exact (rest.silent fun j hj => (request hj).trans (none j (List.mem_cons_of_mem _ hj))).trans
        (here.silent (none a List.mem_cons_self))
    · rcases List.mem_cons.1 hk with rfl | later
      · exact (rest.silent fun j hj => (request hj).trans (none j (List.mem_cons_of_mem _ hj) (apart hj))).trans
          (here.faults c counted room b u faults time taken)
      · have first := none a List.mem_cons_self (apart later).symm
        refine rest.faults k later (fun j hj other => (request hj).trans (none j (List.mem_cons_of_mem _ hj) other)) c
          (counts later counted) ?_ b u ((here.silent first).trans faults) (here.time.trans time) ?_
        · rw [here.list, first]
          exact room
        · rwa [here.others k (apart later), chan]

end Minutes

end Sys2Proof.Machine

end

section
/-!
SUPPORT. The timers that run out, and the minute expiry (R120, R126, R132, R144, R167).
-/

namespace Sys2Proof.Machine
-- One theorem at a time: elaborated side by side, each would hold a stack of its own.
set_option Elab.async false

/-! ## The cutover timer (R144) -/

section Cutover

variable {s : State} {c : Fin 16} {k : Fin 32}

/-- The state in which a channel's cutover timer has been stopped. -/
def State.cutoverEnded (s : State) (c : Fin 16) : State := s.setChan c fun x => { x with cutover := .stopped, cutoverKey := none }

theorem cutoverEnded_chan (d : Fin 16) : (s.cutoverEnded c).chan d =
    if d = c then { s.chan c with cutover := .stopped, cutoverKey := none } else s.chan d :=
  State.chan_setChan s c d fun x => { x with cutover := .stopped, cutoverKey := none }

theorem exec_cutoverTimerExpiry (due : (s.chan c).cutover = .running 0) (named : (s.chan c).cutoverKey = some k) :
    exec (.cutoverTimerExpiry c) s = .next
      (if (s.chan c).next = some k then (s.cutoverEnded c).promote c else s.cutoverEnded c).settle := by
  change execCutoverTimerExpiry c s = _
  unfold execCutoverTimerExpiry
  rw [if_pos due, named]
  dsimp only
  by_cases next : (s.chan c).next = some k
  · rw [if_pos ⟨rfl, next⟩, if_pos next]
    rfl
  · rw [if_neg fun h => next h.2, if_neg next]
    rfl

/-- Whether KEY_SPENT is taken does not depend on more than the fault table and the time. -/
theorem spentTaken_base {b u : State} {x : KeySlot} {cur promoted : Bool} (taken : SpentTaken s u x c cur promoted)
    (faults : b.faults = s.faults) (ms : b.time.ms = s.time.ms) :
    ∃ v, SpentTaken b v x c cur promoted ∧ v.faults = u.faults := by
  by_cases spends : cur = true ∧ x.spends promoted
  · refine ⟨_, ⟨fun _ _ => rfl, fun kept => ?_⟩, by
      rw [taken.1 spends.1 spends.2, recordFault_faults, recordFault_faults, faults, ms]⟩
    exact (kept.elim (fun other => by simp [spends.1] at other) fun h => absurd spends.2 h)
  · have kept : cur = false ∨ ¬ x.spends promoted := by
      by_cases current : cur = true
      · exact .inr fun h => spends ⟨current, h⟩
      · exact .inl (by simpa using current)
    exact ⟨b, ⟨fun current h => absurd ⟨current, h⟩ spends, fun _ => rfl⟩, by rw [faults, taken.2 kept]⟩

/-- What a promotion announces and judges does not depend on the channel's cutover timer. -/
theorem promotionJudged_cutoverEnded {t : State} (h : PromotionJudged (s.cutoverEnded c) t c k) : PromotionJudged s t c k := by
  have percent (x : KeySlot) : (s.cutoverEnded c).percentOf c x = s.percentOf c x := by
    unfold State.percentOf
    rw [cutoverEnded_chan, if_pos rfl]
  have prev : ((s.cutoverEnded c).chan c).prev = (s.chan c).prev := by rw [cutoverEnded_chan, if_pos rfl]
  obtain ⟨announced, flags, judged⟩ := h
  refine ⟨announced, ?_, fun l hl => ?_⟩
  · unfold FlagsJudged at flags ⊢
    rwa [percent] at flags
  · obtain ⟨list, taken⟩ := judged l hl
    refine ⟨?_, fun room quiet u hu => ?_⟩
    · unfold ListJudged at list ⊢
      rwa [percent] at list
    · obtain ⟨v, hv, same⟩ := spentTaken_base (b := s.cutoverEnded c) hu rfl rfl
      rw [prev] at taken
      exact (taken room quiet v hv).trans same

end Cutover

/-! ## The grace timer (R132) -/

section Grace

variable {s : State} {c : Fin 16} {k : Fin 32}

/-- The state in which the PREVIOUS key has left its channel, not judged yet (R132). -/
def State.graceEnded (s : State) (c : Fin 16) : State := s.setChan c fun x => { x with grace := .stopped, prev := none }

theorem exec_graceTimerExpiry (due : (s.chan c).grace = .running 0) (prev : (s.chan c).prev = some k) :
    exec (.graceTimerExpiry c) s = .next ((s.graceEnded c).judgeKey k).settle := by
  change execGraceTimerExpiry c s = _
  unfold execGraceTimerExpiry
  rw [if_pos due, prev]
  rfl

theorem graceEnded_chan (d : Fin 16) : (s.graceEnded c).chan d =
    if d = c then { s.chan c with grace := .stopped, prev := none } else s.chan d :=
  State.chan_setChan s c d fun x => { x with grace := .stopped, prev := none }

theorem graceEnded_keyRole (owner : (s.key k).owner = some c) (cur : (s.chan c).cur ≠ some k) (next : (s.chan c).next ≠ some k) :
    (s.graceEnded c).keyRole k = none := by
  unfold State.keyRole
  rw [show ((s.graceEnded c).key k).owner = some c from owner]
  dsimp only
  rw [graceEnded_chan, if_pos rfl, if_neg cur, if_neg next, if_neg (by simp)]

theorem graceEnded_unheld (owner : (s.key k).owner = some c) (loaded : (s.key k).load = .loaded)
    (unheld : (s.chan c).hold.map (·.key) ≠ some k) : (s.graceEnded c).heldOrInstalling k = false := by
  unfold State.heldOrInstalling
  rw [show ((s.graceEnded c).key k).owner = some c from owner, show ((s.graceEnded c).key k).load = .loaded from loaded]
  dsimp only
  rw [graceEnded_chan, if_pos rfl, decide_eq_false unheld]
  rfl

end Grace

/-! ## The minute expiry (R126) -/

section Minutes

variable {s : State} {c : Fin 16} {k : Fin 32}

/-- The state in which the minute expiry has been taken off the counter. -/
def State.minuteTaken (s : State) : State := { s with time := { s.time with minutesDue := s.time.minutesDue - 1 } }

theorem exec_keyLifetimeTick (due : 0 < s.time.minutesDue) :
    exec .keyLifetimeTick s = .next ((List.finRange 32).foldl State.lifetimeTick s.minuteTaken).settle := by
  change execKeyLifetimeTick s = _
  unfold execKeyLifetimeTick
  rw [if_neg (Nat.pos_iff_ne_zero.1 due)]
  rfl

theorem minuteRequest_some {d : Fin 16} {why : RenewReason} (h : s.minuteRequest k = some (d, why)) :
    s.minuteCounts k d ∧ (s.chan d).cur = some k ∧ (s.key k).minuteLater.asks (s.percentOf d (s.key k)) false why := by
  unfold State.minuteRequest at h
  split at h
  next counted =>
    obtain ⟨c, owner, h⟩ := Option.bind_eq_some_iff.1 h
    split at h
    next cur =>
      obtain ⟨w, asks, same⟩ := Option.map_eq_some_iff.1 h
      cases same
      exact ⟨minuteCounts_iff.2 ⟨owner, counted⟩, cur, request_iff.1 asks⟩
    next => cases h
  next => cases h

theorem minuteRequest_of_asks {why : RenewReason} (counts : s.minuteCounts k c) (cur : (s.chan c).cur = some k)
    (asks : (s.key k).minuteLater.asks (s.percentOf c (s.key k)) false why) : s.minuteRequest k = some (c, why) := by
  obtain ⟨owner, counted⟩ := minuteCounts_iff.1 counts
  rw [minuteRequest_counted counted owner, if_pos cur, request_iff.2 asks]
  rfl

/-- A key slot's request stands in the list after the others', which are of other channels, or the list is full. -/
theorem request_stands {why : RenewReason} (h : s.minuteRequest k = some (c, why)) (l : List ProtoEntry) :
    ⟨c, .renewRequest why⟩ ∈ (List.finRange 32).foldl (fun m j => handRequest m (s.minuteRequest j)) l ∨
      16 ≤ ((List.finRange 32).foldl (fun m j => handRequest m (s.minuteRequest j)) l).length := by
  obtain ⟨before, after, split⟩ := List.append_of_mem (List.mem_finRange k)
  have distinct := List.nodup_finRange 32
  rw [split] at distinct ⊢
  rw [List.foldl_append, List.foldl_cons, h]
  refine mem_or_full_handRequests (mem_or_full_handedList _ _) fun j hj p hp same => ?_
  obtain ⟨d, other⟩ := p
  obtain ⟨-, cur, -⟩ := minuteRequest_some h
  obtain ⟨-, cur', -⟩ := minuteRequest_some hp
  obtain rfl : c = d := same
  obtain rfl : k = j := Option.some.inj (cur.symm.trans cur')
  exact (List.nodup_cons.1 (List.nodup_append.1 distinct).2.1).1 hj

/-- The list after the minute expiry when no other key slot makes a request. -/
theorem only_request {l : List ProtoEntry} (none : ∀ j, j ≠ k → s.minuteRequest j = none) :
    (List.finRange 32).foldl (fun m j => handRequest m (s.minuteRequest j)) l = handRequest l (s.minuteRequest k) := by
  obtain ⟨before, after, split⟩ := List.append_of_mem (List.mem_finRange k)
  have distinct := List.nodup_finRange 32
  rw [split] at distinct ⊢
  obtain ⟨-, tail, apart⟩ := List.nodup_append.1 distinct
  rw [List.foldl_append, List.foldl_cons,
    handRequests_none fun j hj => none j fun same => apart j hj k List.mem_cons_self same,
    handRequests_none fun j hj => none j fun same => (List.nodup_cons.1 tail).1 (same ▸ hj)]

/-- A list that has taken a key slot's request, if it makes one, is the one its judgement leaves. -/
theorem listJudged_handRequest {t : State} {l : List ProtoEntry} (counts : s.minuteCounts k c)
    (list : t.notices.list = handRequest l (s.minuteRequest k)) :
    ListJudged s t (s.key k).minuteLater c (decide ((s.chan c).cur = some k)) false l := by
  refine ⟨fun why cur asks => ?_, fun quiet => ?_⟩
  · rw [list, minuteRequest_of_asks counts (of_decide_eq_true cur) asks]
    exact renewHanded_handedList l c why
  · rw [list]
    cases h : s.minuteRequest k with
    | none => rfl
    | some p =>
      obtain ⟨d, why⟩ := p
      obtain ⟨own, cur, asks⟩ := minuteRequest_some h
      obtain rfl : c = d := Option.some.inj (counts.1.symm.trans own.1)
      exact absurd asks (quiet.resolve_left (by simp [cur]) why)

end Minutes

/-! ## The timers -/

theorem cutover_promotes (c : Fin 16) (k : Fin 32) (s : State) (due : (s.chan c).cutover = .running 0)
    (named : (s.chan c).cutoverKey = some k) (next : (s.chan c).next = some k) (owner : (s.key k).owner = some c)
    (prev : (s.chan c).prev ≠ some k) :
    ∃ t, exec (.cutoverTimerExpiry c) s = .next t ∧ SameMeters s t ∧ OtherChannels s t c ∧
      t.chan c = { s.chan c with
        prev := (s.chan c).cur, cur := some k, next := none, cutover := .stopped, cutoverKey := none, renewal := .idle,
        grace := if (s.chan c).cur.isSome then .running (s.chan c).graceSecs else .stopped } ∧
      (t.key k).state = .active ∧ PromotionJudged s t c k := by
  have run := exec_cutoverTimerExpiry due named
  rw [if_pos next] at run
  obtain ⟨meters, chan, active, judged⟩ := promote_promoted (s := s.cutoverEnded c) (c := c) (k := k)
    (by rw [cutoverEnded_chan, if_pos rfl]; exact next) owner (by rw [cutoverEnded_chan, if_pos rfl]; exact prev)
  refine ⟨_, run, meters, fun d hd => ?_, ?_, active, promotionJudged_cutoverEnded judged⟩
  · rw [chan, if_neg hd, cutoverEnded_chan, if_neg hd]
  · rw [chan, if_pos rfl, cutoverEnded_chan, if_pos rfl, Channel.promoted]
    dsimp only
    rw [next]

theorem cutover_ends (c : Fin 16) (k : Fin 32) (s : State) (due : (s.chan c).cutover = .running 0)
    (named : (s.chan c).cutoverKey = some k) (next : (s.chan c).next ≠ some k) :
    ∃ t, exec (.cutoverTimerExpiry c) s = .next t ∧ SameMeters s t ∧ t.keys = s.keys ∧
      SameFrames s t ∧ SameFaults s t ∧ OtherChannels s t c ∧
      t.chan c = { s.chan c with cutover := .stopped, cutoverKey := none } := by
  have run := exec_cutoverTimerExpiry due named
  rw [if_neg next] at run
  refine ⟨_, run, sameMeters_settle.2 ⟨rfl, rfl⟩, State.settle_keys _, sameFrames_settle.2 ⟨rfl, rfl, rfl⟩,
    sameFaults_settle.2 rfl, fun d hd => ?_, ?_⟩
  · rw [State.settle_chan, cutoverEnded_chan, if_neg hd]
  · rw [State.settle_chan, cutoverEnded_chan, if_pos rfl]

theorem grace_ends (c : Fin 16) (k : Fin 32) (s : State) (due : (s.chan c).grace = .running 0)
    (prev : (s.chan c).prev = some k) (cur : (s.chan c).cur ≠ some k) (next : (s.chan c).next ≠ some k)
    (owner : (s.key k).owner = some c) (used : (s.key k).state ≠ .free) :
    ∃ t, exec (.graceTimerExpiry c) s = .next t ∧ SameMeters s t ∧ OtherChannels s t c ∧
      t.chan c = { s.chan c with grace := .stopped, prev := none } ∧ OtherKeys s t k ∧
      ((s.key k).refs = 0 → t.key k = KeySlot.zeroised ∧ t.keys.freeList = s.keys.freeList ++ [k]) ∧
      (0 < (s.key k).refs → (s.key k).load = .loaded → (s.chan c).hold.map (·.key) ≠ some k →
        t.key k = { s.key k with state := .retiring } ∧ t.keys.freeList = s.keys.freeList) := by
  have role := graceEnded_keyRole owner cur next
  have framed := (kept_judgeKey (s.graceEnded c) k).toFramed
  have chan (d : Fin 16) : ((s.graceEnded c).judgeKey k).settle.chan d = (s.graceEnded c).chan d := by
    rw [State.settle_chan]
    unfold State.chan
    rw [framed.channels]
  have ended := judgeKey_cases (s := s.graceEnded c) used role
  rw [show (s.graceEnded c).key k = s.key k from rfl] at ended
  refine ⟨_, exec_graceTimerExpiry due prev, sameMeters_settle.2 framed.meters, fun d hd => ?_, ?_, fun j hj => ?_,
    fun last => ?_, fun more loaded unheld => ?_⟩
  · rw [chan, graceEnded_chan, if_neg hd]
  · rw [chan, graceEnded_chan, if_pos rfl]
  · rw [State.settle_key, judgeKey_others _ k j hj]
    rfl
  · rw [State.settle_key, State.settle_keys, ended, if_pos last]
    exact ⟨by rw [zeroise_key, if_pos rfl], zeroise_freeList _ k⟩
  · rw [State.settle_key, State.settle_keys, ended, if_neg (Nat.pos_iff_ne_zero.1 more), graceEnded_unheld owner loaded unheld]
    exact ⟨State.key_setKey_self (s.graceEnded c) k _, rfl⟩

/-- The state in which the holdoff timer has run out (R167). -/
def State.holdoffEnded (s : State) : State := { s with notices := { s.notices with holdoff := .ranOut } }

theorem holdoff_ends (s : State) (due : s.notices.holdoff = .running 0) :
    ∃ t, exec .holdoffTimerExpiry s = .next t ∧
      t.notices.holdoff = (if s.faults.eligible = [] then .stopped else .ranOut) ∧ SameUnits s t := by
  have run : exec .holdoffTimerExpiry s = .next s.holdoffEnded.settle := by
    change execHoldoffTimerExpiry s = _
    unfold execHoldoffTimerExpiry
    rw [if_pos due]
    rfl
  refine ⟨_, run, ?_, SameUnits.settle ⟨⟨rfl, rfl, rfl⟩, ⟨rfl, rfl⟩, ⟨rfl, rfl⟩, rfl, rfl, rfl⟩⟩
  rw [State.settle_notices]
  unfold State.judgeHoldoff
  by_cases empty : s.faults.eligible = []
  · rw [if_pos empty, if_pos (by rw [show s.holdoffEnded.faults = s.faults from rfl, empty]; rfl)]
  · rw [if_neg empty, if_neg (by simpa [State.holdoffEnded] using empty), if_neg (by simp [State.holdoffEnded])]
    rfl

/-- Settles O60: the cutover, the grace and the holdoff timer, and the minute expiry. -/
theorem timersRunOut : Obligations.TimersRunOut := by
  refine ⟨fun c k s due named => ⟨cutover_promotes c k s due named, cutover_ends c k s due named⟩, grace_ends, holdoff_ends,
    fun s due => ?_⟩
  have gone := minutesAt_foldl (List.nodup_finRange 32) s.minuteTaken
  refine ⟨_, exec_keyLifetimeTick due, (State.settle_time _).trans gone.time, sameFrames_settle.2 gone.frames,
    sameMeters_settle.2 gone.meters, fun k => ?_, fun k idle => ?_, fun k c counts => ⟨?_, fun why cur asks => ?_, fun others => ?_⟩⟩
  · rw [State.settle_key]
    by_cases counted : (s.key k).counted = true
    · obtain ⟨used, limited, -⟩ := (counted_iff _).1 counted
      rw [if_pos ⟨used, limited⟩]
      exact gone.key k (List.mem_finRange k) counted
    · have minutes : (if (s.key k).state ≠ .free ∧ (s.key k).lifetime ≠ none then (s.key k).minutes - 1
          else (s.key k).minutes) = (s.key k).minutes := by
        split
        next counts =>
          have elapsed : (s.key k).minutes = 0 := by
            by_contra left
            exact counted ((counted_iff _).2 ⟨counts.1, counts.2, left⟩)
          rw [elapsed]
        next => rfl
      rw [minutes, gone.idle k (Bool.eq_false_iff.2 counted)]
      rfl
  · rw [State.settle_key]
    refine gone.idle k (Bool.eq_false_iff.2 fun counted => ?_)
    obtain ⟨used, limited, left⟩ := (counted_iff _).1 counted
    exact idle.elim used fun h => h.elim limited left
  · exact (gone.flags k (List.mem_finRange k) c counts).later (by rw [State.settle_key]) (by rw [State.settle_key])
  · rw [settle_list, gone.list]
    exact request_stands (minuteRequest_of_asks counts cur asks) _
  · have none (j : Fin 32) (hj : j ≠ k) : s.minuteTaken.minuteRequest j = none := by
      cases h : s.minuteTaken.minuteRequest j with
      | none => rfl
      | some p =>
        obtain ⟨d, why⟩ := p
        obtain ⟨own, cur, asks⟩ := minuteRequest_some h
        exact absurd asks (others j d why hj own cur)
    refine ⟨listJudged_handRequest counts ?_, fun room u taken => ?_⟩
    · rw [settle_list, gone.list]
      exact only_request none
    · obtain ⟨v, hv, same⟩ := spentTaken_base (b := s.minuteTaken) taken rfl rfl
      exact (State.settle_faults _).trans ((gone.faults k (List.mem_finRange k) (fun j _ hj => none j hj) c counts room
        s.minuteTaken v rfl rfl hv).trans same)

end Sys2Proof.Machine

end

section
/-!
SUPPORT. The rulings on offers: one that refuses, one that asks for its payload, and the reads that return (R135, R136).
-/

namespace Sys2Proof.Machine
-- One theorem at a time: elaborated side by side, each would hold a stack of its own.
set_option Elab.async false

/-! ## A ruling that refuses (R135) -/

section Refuses

variable {s u : State} {c : Fin 16} {n : Nat} {r : SlotRec} {why : Reason} {cls : FaultClass}

theorem rejectRec_only (s : State) (n : Nat) (why : Reason) :
    ∃ pool asked, s.rejectRec n why = { s with pool := pool, bus := { s.bus with injAsked := asked } } := by
  unfold State.rejectRec State.askResult
  split <;> exact ⟨_, _, rfl⟩

theorem endRuling_chan (d : Fin 16) : (s.endRuling c).chan d =
    if d = c then { s.chan c with ruling := none, rulingQueue := (s.chan c).rulingQueue.tail } else s.chan d :=
  State.chan_setChan s c d fun x => { x with ruling := none, rulingQueue := x.rulingQueue.tail }

/-- A record without a key slot is rejected with its record alone (R88). -/
theorem reject_unkeyed (h : s.slotRec n = some r) (unkeyed : r.keySlot = none) :
    s.reject n why none = s.rejectRec n why := by
  rw [reject_eq none h, unkeyed]
  rfl

/-- The occurrence of an offer's fault, with the window and slot of its record. -/
def offerFaultOn (c : Fin 16) (cls : FaultClass) (r : SlotRec) : Occurrence :=
  ⟨cls, cls.severity, some c, some r.window, some r.slot, none, false⟩

theorem offerFault_eq (h : s.slotRec n = some r) : s.offerFault c cls n = s.recordFault (offerFaultOn c cls r) := by
  unfold State.offerFault
  rw [h]
  rfl

theorem rulingReject_eq (h : s.slotRec n = some r) (unkeyed : r.keySlot = none) : s.rulingReject c n why cls =
    ((s.endRuling c).recordFault (offerFaultOn c cls r)).rejectRec n (r.noted.getD why) := by
  have h' : (s.endRuling c).slotRec n = some r := h
  unfold State.rulingReject
  rw [offerFault_eq h', reject_unkeyed (by rw [recordFault_slotRec]; exact h') unkeyed, h]
  rfl

/-- What the rejection of a record without a key slot leaves behind, once its ruling has ended. -/
structure RulingEnded (c : Fin 16) (n : Nat) (r : SlotRec) (why : Reason) (s t : State) : Prop where
  keys : t.keys = s.keys
  frames : t.ks = s.ks ∧ t.merges = s.merges
  meters : SameMeters s t
  notices : t.notices = s.notices
  chan : ∀ d, t.chan d =
    if d = c then { s.chan c with ruling := none, rulingQueue := (s.chan c).rulingQueue.tail } else s.chan d
  record : t.slotRec n = some (r.rejectedWith why)
  others : OtherRecords s t n
  wanted : Wanted t n r .rejected why

/-- A ruling has ended, with perhaps a fault that escalates no channel. -/
structure RulingOver (c : Fin 16) (s u : State) : Prop where
  pool : u.pool = s.pool
  keys : u.keys = s.keys
  frames : u.ks = s.ks ∧ u.merges = s.merges
  meters : SameMeters s u
  notices : u.notices = s.notices
  channels : u.channels = (s.endRuling c).channels

theorem rulingOver_endRuling (s : State) (c : Fin 16) : RulingOver c s (s.endRuling c) :=
  ⟨rfl, rfl, ⟨rfl, rfl⟩, ⟨rfl, rfl⟩, rfl, rfl⟩

theorem rulingOver_recordFault (s : State) (c : Fin 16) {o : Occurrence} (mild : o.severity ≠ .fatal) :
    RulingOver c s ((s.endRuling c).recordFault o) :=
  ⟨recordFault_pool _ o, recordFault_keys _ o, ⟨recordFault_ks _ o, recordFault_merges _ o⟩,
    ⟨recordFault_meterA _ o, recordFault_meterB _ o⟩, recordFault_notices _ o, recordFault_channels mild⟩

theorem RulingOver.rejectRec (ended : RulingOver c s u) (h : s.slotRec n = some r) (why : Reason) :
    RulingEnded c n r why s (u.rejectRec n why) := by
  have slots (m : Nat) : u.slotRec m = s.slotRec m := by
    unfold State.slotRec
    rw [ended.pool]
  have h' : u.slotRec n = some r := (slots n).trans h
  have record := rejectRec_self (why := why) h'
  have others := rejectRec_others u n why
  have wanted := rejectRec_wanted (why := why) h'
  obtain ⟨_, _, only⟩ := rejectRec_only u n why
  refine
    { keys := by rw [only]; exact ended.keys
      frames := by rw [only]; exact ended.frames
      meters := by rw [only]; exact ended.meters
      notices := by rw [only]; exact ended.notices
      chan := fun d => ?_
      record := record
      others := fun m hm => (others m hm).trans (slots m)
      wanted := wanted }
  rw [← endRuling_chan, only]
  unfold State.chan
  rw [ended.channels]

theorem rejectRec_faults (s : State) (n : Nat) (why : Reason) : (s.rejectRec n why).faults = s.faults := by
  obtain ⟨_, _, only⟩ := rejectRec_only s n why
  rw [only]

theorem rulingReject_ended (h : s.slotRec n = some r) (unkeyed : r.keySlot = none) (mild : cls.severity ≠ .fatal) :
    RulingEnded c n r (r.noted.getD why) s (s.rulingReject c n why cls) ∧
      (s.rulingReject c n why cls).faults = (s.recordFault (offerFaultOn c cls r)).faults := by
  rw [rulingReject_eq h unkeyed]
  exact ⟨(rulingOver_recordFault s c (o := offerFaultOn c cls r) mild).rejectRec h _,
    (rejectRec_faults _ n _).trans (recordFault_faults_congr _ rfl rfl)⟩

end Refuses

theorem sameNotices_of_eq {s u : State} (h : u.notices = s.notices) : SameNotices s u := by
  unfold SameNotices
  rw [h]

/-! ## A ruling that asks for the payload (R136) -/

section Asks

variable {s : State} {c : Fin 16} {n work : Nat} {r : SlotRec}

theorem exec_offerRulingStart {rest : List Nat} (free : (s.chan c).ruling = none) (queue : (s.chan c).rulingQueue = n :: rest) :
    exec (.offerRulingStart c) s = .next (s.startRuling c n).settle := by
  change execOfferRulingStart c s = _
  unfold execOfferRulingStart
  rw [free, queue]
  rfl

/-- The state in which a ruling of this stamp has begun on record n, its read asked for (R136). -/
def State.rulingBegun (s : State) (c : Fin 16) (n : Nat) : State :=
  (s.setChan c fun x => { x with ruling := some (OfferWork.begin s.stamp n) }).bump

theorem rulingBegun_chan (d : Fin 16) : (s.rulingBegun c n).chan d =
    if d = c then { s.chan c with ruling := some (OfferWork.begin s.stamp n) } else s.chan d :=
  State.chan_setChan s c d fun x => { x with ruling := some (OfferWork.begin s.stamp n) }

/-- How a ruling begins, by the serial, the mark and the length (R135). -/
theorem startRuling_eq {serial : Nat} (h : s.slotRec n = some r) (hserial : serial = (r.seq.getD 0).toNat) :
    (serial < (s.chan c).highMark ∨ (serial = (s.chan c).highMark ∧ r.length ≠ some 64) →
      s.startRuling c n = s.rulingReject c n .replayed .replayed) ∧
    ((s.chan c).highMark < serial → r.length ≠ some 64 →
      s.startRuling c n = (s.raiseHighMark c serial).rulingReject c n .malformed .keySequence) ∧
    ((s.chan c).highMark ≤ serial → r.length = some 64 →
      s.startRuling c n = (s.rulingBegun c n).askOffer c s.stamp n) := by
  unfold State.startRuling
  rw [h]
  dsimp only
  rw [← hserial]
  refine ⟨fun old => ?_, fun beyond short => ?_, fun within whole => ?_⟩
  · by_cases below : serial < (s.chan c).highMark
    · rw [if_pos below]
    · obtain ⟨same, short⟩ := old.resolve_left below
      rw [if_neg below, if_neg short, if_pos same]
  · rw [if_neg (Nat.not_lt.2 beyond.le), if_neg short, if_neg (Nat.ne_of_gt beyond)]
  · rw [if_neg (Nat.not_lt.2 within), if_pos whole]
    rfl

theorem askOffer_eq (h : s.slotRec n = some r) (work : Nat) : s.askOffer c work n = s.askSlot (.offerRead c work) 2 r 32 (.read 8) := by
  unfold State.askOffer
  rw [h]

end Asks

/-! ## The read that returns (R136) -/

section Returns

variable {s : State} {c : Fin 16} {n id work : Nat} {r : SlotRec} {e : InjEntry} {data : List Byte} {w : OfferWork}

theorem exec_offerPayloadReadReturn (issued : s.issuedInj id = some e) (op : e.req.op = .offerRead c work)
    (access : e.req.access = .read 8) (bytes : data.length = 64) :
    exec (.offerPayloadReadReturn id data) s = .next ((s.freeInj id).offerData c work (blocksOf data)).settle := by
  change execOfferPayloadReadReturn id data s = _
  unfold execOfferPayloadReadReturn
  rw [readReturned_run issued (by rw [op]) access bytes, op]

/-- The four plaintext requests of a reading of record r (R136). -/
def State.plainRequests (s : State) (c : Fin 16) (work : Nat) (r : SlotRec) : List BgReq :=
  [1, 2, 3, 4].map fun b => ⟨.offerPlain c work b, .root, s.recBlock r b⟩

/-- Background requests join the queue in their order (R48). -/
theorem askCiphers_eq {β : Type} (q : β → BgReq) (l : List β) (s : State) : l.foldl (fun st b => st.askCipher (q b)) s =
    { s with ks := { s.ks with background := s.ks.background ++ l.map q } } := by
  induction l generalizing s with
  | nil => rw [List.foldl_nil, List.map_nil, List.append_nil]
  | cons b l ih =>
    have joined : (s.askCipher (q b)).ks.background ++ l.map q = s.ks.background ++ (b :: l).map q :=
      (List.append_assoc _ _ _).trans rfl
    rw [List.foldl_cons, ih, joined]
    rfl

theorem askPlain_eq (h : s.slotRec n = some r) : s.askPlain c work n =
    { s with ks := { s.ks with background := s.ks.background ++ s.plainRequests c work r } } := by
  unfold State.askPlain
  rw [h]
  dsimp only
  rw [askCiphers_eq]
  rfl

/-- A channel's reading changed, and its four plaintext blocks asked for (R136). -/
theorem askPlain_settled (f : Channel → Channel) (h : s.slotRec n = some r) {t : State}
    (ht : t = ((s.setChan c f).askPlain c work n).settle) : t.chan c = f (s.chan c) ∧ OtherChannels s t c ∧
    t.ks = { s.ks with background := s.ks.background ++ s.plainRequests c work r } ∧
    t.pool = s.pool ∧ t.keys = s.keys ∧ SameMeters s t ∧ SameFaults s t ∧ SameNotices s t ∧ SameControl s t := by
  rw [askPlain_eq (s := s.setChan c f) h] at ht
  subst ht
  refine ⟨?_, fun d hd => ?_, State.settle_ks _, State.settle_pool _, State.settle_keys _,
    sameMeters_settle.2 ⟨rfl, rfl⟩, sameFaults_settle.2 rfl, SameNotices.settle rfl, SameControl.settle rfl⟩
  · rw [State.settle_chan]
    exact (State.chan_setChan s c c f).trans (if_pos rfl)
  · rw [State.settle_chan]
    exact (State.chan_setChan s c d f).trans (if_neg hd)

theorem offerData_ruling {blocks : List Block} (ruling : (s.chan c).ruling = some w) (mine : w.id = work) :
    s.offerData c work blocks =
      (s.setChan c fun x => { x with ruling := some { w with data := some blocks } }).askPlain c work w.recNo := by
  unfold State.offerData
  rw [ruling]
  exact if_pos mine

theorem offerData_loading {blocks : List Block} (loading : (s.chan c).loading = some w) (mine : w.id = work)
    (apart : ∀ v, (s.chan c).ruling = some v → v.id ≠ work) : s.offerData c work blocks =
      (s.setChan c fun x => { x with loading := some { w with data := some blocks } }).askPlain c work w.recNo := by
  unfold State.offerData
  rw [loading]
  cases ruling : (s.chan c).ruling with
  | none => exact if_pos mine
  | some v =>
    dsimp only
    rw [if_neg (apart v ruling), if_pos mine]

theorem offerData_stray {blocks : List Block} (apart : ∀ v, (s.chan c).ruling = some v → v.id ≠ work)
    (given : ∀ v, (s.chan c).loading = some v → v.id ≠ work) : s.offerData c work blocks = s := by
  unfold State.offerData
  cases ruling : (s.chan c).ruling <;> cases loading : (s.chan c).loading <;> dsimp only
  · exact if_neg (given _ loading)
  · exact if_neg (apart _ ruling)
  · rw [if_neg (apart _ ruling), if_neg (given _ loading)]

end Returns

/-- A channel whose ruling queue has lost its head, no ruling being in flight. -/
theorem channel_unqueued {x : Channel} {n : Nat} {rest : List Nat} (free : x.ruling = none)
    (queue : x.rulingQueue = n :: rest) :
    ({ x with ruling := none, rulingQueue := x.rulingQueue.tail } : Channel) = { x with rulingQueue := rest } := by
  cases x
  cases free
  cases queue
  rfl

theorem rulingStart_rules (c : Fin 16) (n : Nat) (rest : List Nat) (s : State) (r : SlotRec) (serial : Nat)
    (free : (s.chan c).ruling = none) (queue : (s.chan c).rulingQueue = n :: rest) (h : s.slotRec n = some r)
    (root : r.key = some .root) (hserial : serial = (r.seq.getD 0).toNat) :
    ∃ t, exec (.offerRulingStart c) s = .next t ∧ t.keys = s.keys ∧ OtherChannels s t c ∧ SameMeters s t ∧
      t.ks = s.ks ∧ OtherRecords s t n ∧ SameNotices s t ∧
      (serial < (s.chan c).highMark ∨ (serial = (s.chan c).highMark ∧ r.length ≠ some 64) →
        (∃ q, t.slotRec n = some q ∧ q.state = .rejected ∧ q.reason = r.noted.getD .replayed) ∧
        t.chan c = { s.chan c with rulingQueue := rest } ∧
        t.faults = (s.recordFault (offerFaultOn c .replayed r)).faults) ∧
      ((s.chan c).highMark < serial → r.length ≠ some 64 →
        (∃ q, t.slotRec n = some q ∧ q.state = .rejected ∧ q.reason = r.noted.getD .malformed) ∧
        t.chan c = { s.chan c with rulingQueue := rest, highMark := serial } ∧
        t.faults = (s.recordFault (offerFaultOn c .keySequence r)).faults) ∧
      ((s.chan c).highMark ≤ serial → r.length = some 64 → t.slotRec n = some r ∧ SameFaults s t ∧
        (t.chan c).highMark = (s.chan c).highMark ∧
        (∃ w, (t.chan c).ruling = some w ∧ w.recNo = n ∧ w.data = none ∧
          ∃ q ∈ t.requests, q.op = .offerRead c w.id ∧ q.start = s.slotBase r + 32 ∧ q.access = .read 8)) := by
  have run := exec_offerRulingStart free queue
  have unkeyed : r.keySlot = none := by
    unfold SlotRec.keySlot
    rw [root]
  obtain ⟨old, beyond, within⟩ := startRuling_eq (c := c) h hserial
  by_cases first : serial < (s.chan c).highMark ∨ (serial = (s.chan c).highMark ∧ r.length ≠ some 64)
  · rw [old first] at run
    obtain ⟨ended, faults⟩ := rulingReject_ended (c := c) (why := .replayed) (cls := .replayed) h unkeyed (by simp [FaultClass.severity])
    refine ⟨_, run, (State.settle_keys _).trans ended.keys, fun d hd => ?_, sameMeters_settle.2 ended.meters,
      (State.settle_ks _).trans ended.frames.1, otherRecords_settle.2 ended.others, SameNotices.settle (sameNotices_of_eq ended.notices),
      fun _ => ⟨⟨_, (State.settle_slotRec _ _).trans ended.record, rfl, rfl⟩, ?_, (State.settle_faults _).trans faults⟩,
      fun above short => ?_, fun above whole => ?_⟩
    · rw [State.settle_chan, ended.chan, if_neg hd]
    · rw [State.settle_chan, ended.chan, if_pos rfl, channel_unqueued free queue]
    · omega
    · exact absurd first (by rintro (below | ⟨-, short⟩) <;> [omega; exact short whole])
  have mark : (s.chan c).highMark ≤ serial := Nat.not_lt.1 fun below => first (.inl below)
  by_cases whole : r.length = some 64
  · have begun : (s.rulingBegun c n).chan c = { s.chan c with ruling := some (OfferWork.begin s.stamp n) } :=
      (rulingBegun_chan c).trans (if_pos rfl)
    rw [within mark whole, askOffer_eq (s := s.rulingBegun c n) h] at run
    refine ⟨_, run, State.settle_keys _, fun d hd => ?_, sameMeters_settle.2 ⟨rfl, rfl⟩, State.settle_ks _,
      otherRecords_settle.2 fun _ _ => rfl, SameNotices.settle rfl, fun f => absurd f first,
      fun _ short => absurd whole short, fun _ _ => ⟨(State.settle_slotRec _ _).trans h, sameFaults_settle.2 rfl, ?_,
        OfferWork.begin s.stamp n, ?_, rfl, rfl, _, mem_requests_of_asked (mem_injAsked_ask _ _), rfl, rfl, rfl⟩⟩
    · rw [State.settle_chan]
      exact (rulingBegun_chan d).trans (if_neg hd)
    · rw [State.settle_chan]
      change ((s.rulingBegun c n).chan c).highMark = _
      rw [begun]
    · rw [State.settle_chan]
      change ((s.rulingBegun c n).chan c).ruling = _
      rw [begun]
  · have above : (s.chan c).highMark < serial := lt_of_le_of_ne mark fun same => first (.inr ⟨same.symm, whole⟩)
    rw [beyond above whole] at run
    obtain ⟨ended, faults⟩ := rulingReject_ended (s := s.raiseHighMark c serial) (c := c) (why := .malformed)
      (cls := .keySequence) h unkeyed (by simp [FaultClass.severity])
    have raised (d : Fin 16) : (s.raiseHighMark c serial).chan d =
        if d = c then { s.chan c with highMark := serial } else s.chan d :=
      State.chan_setChan s c d fun x => { x with highMark := serial }
    refine ⟨_, run, (State.settle_keys _).trans ended.keys, fun d hd => ?_, sameMeters_settle.2 ended.meters,
      (State.settle_ks _).trans ended.frames.1, otherRecords_settle.2 ended.others, SameNotices.settle (sameNotices_of_eq ended.notices),
      fun f => absurd f first, fun _ _ => ⟨⟨_, (State.settle_slotRec _ _).trans ended.record, rfl, rfl⟩, ?_,
        (State.settle_faults _).trans (faults.trans (recordFault_faults_congr _ rfl rfl))⟩, fun _ h => absurd h whole⟩
    · rw [State.settle_chan, ended.chan, if_neg hd, raised, if_neg hd]
    · rw [State.settle_chan, ended.chan, if_pos rfl, raised, if_pos rfl]
      exact channel_unqueued (x := { s.chan c with highMark := serial }) free queue

/-- Settles O43: the ruling that begins, the read of a reading that returns, and that of one given up. -/
theorem offerRulingBegins : Obligations.OfferRulingBegins := by
  refine ⟨rulingStart_rules, fun id work c data s e w r issued op access bytes live mine h => ?_,
    fun id work c data s e issued op access bytes apart given => ?_⟩
  · have run := exec_offerPayloadReadReturn issued op access bytes
    rcases live with ruling | ⟨loading, apart⟩
    · rw [offerData_ruling (s := s.freeInj id) ruling mine] at run
      rw [if_pos ruling]
      exact ⟨_, run, askPlain_settled (s := s.freeInj id) _ h rfl⟩
    · rw [offerData_loading (s := s.freeInj id) loading mine apart] at run
      rw [if_neg fun ruling => apart w ruling mine]
      exact ⟨_, run, askPlain_settled (s := s.freeInj id) _ h rfl⟩
  · have run := exec_offerPayloadReadReturn issued op access bytes
    rw [offerData_stray (s := s.freeInj id) apart given] at run
    exact ⟨_, run, sameFrames_settle.2 ⟨rfl, rfl, rfl⟩, sameKeys_settle.2 ⟨rfl, rfl⟩, sameMeters_settle.2 ⟨rfl, rfl⟩,
      sameFaults_settle.2 rfl, SameNotices.settle rfl, SameControl.settle rfl⟩

end Sys2Proof.Machine

end

section
/-!
SUPPORT. The beginning of a composition (R166), and the protocol notices that begin one or are dropped (R165, R171).
-/

namespace Sys2Proof.Machine
-- One theorem at a time: elaborated side by side, each would hold a stack of its own.
set_option Elab.async false

/-! ## The beginning of a composition (R166) -/

section Composing

variable {s t : State} {n : Nat} {r : SlotRec} {plan : NoticePlan} {payload : State → List Byte} {c : Fin 16} {cur : Bool}

/-- The record taken, and the reference and the sequence of its key (R166). -/
def State.composeTaken (s : State) (n : Nat) (plan : NoticePlan) : State :=
  (((s.setRec n fun r => r.compose plan (s.key plan.key) s.stamp).bump).takeRef plan.key).takeSequence plan.key

/-- The composition of a plan. -/
def State.composition (s : State) (n : Nat) (plan : NoticePlan) (plain : List Block) : Composition :=
  ⟨n, s.stamp, plan.key, plain, plain.map fun _ => none, plan.confirms, plan.carried, plan.lost⟩

/-- The state in which a composition has begun, its key not judged yet (R166). -/
def State.composeBegun (s : State) (n : Nat) (plan : NoticePlan) (plain : List Block) : State :=
  State.askNotice { s.composeTaken n plan with
    notices := { s.notices with comp := some (s.composition n plan plain) } } n s.stamp plan.key plain.length

theorem compose_eq (s : State) (n : Nat) (plan : NoticePlan) (payload : State → List Byte) : s.compose n plan payload =
    (s.composeBegun n plan (blocksOf (payload (s.composeTaken n plan)))).judgeMarks plan.key := rfl

theorem askNotice_only (s : State) (n opening : Nat) (k : Fin 32) (blocks : Nat) :
    ∃ background, s.askNotice n opening k blocks = { s with ks := { s.ks with background := background } } := by
  unfold State.askNotice
  split
  · exact ⟨_, rfl⟩
  next r _ => exact ⟨_, askCiphers_eq (fun b => ⟨.noticeBlock opening (b + 1), .slot k, s.recBlock r (b + 1)⟩) _ s⟩

theorem composeTaken_key (j : Fin 32) : (s.composeTaken n plan).key j =
    if j = plan.key then (s.key plan.key).framed else s.key j := by
  unfold State.composeTaken
  rw [State.takeSequence_key, State.takeRef_key, State.takeRef_key, if_pos rfl]
  by_cases own : j = plan.key
  · rw [if_pos own, if_pos own]
    rfl
  · rw [if_neg own, if_neg own, if_neg own]
    rfl

/-- What the beginning of a composition leaves behind, its key not judged yet (R166). -/
structure ComposeBegun (n : Nat) (r : SlotRec) (plan : NoticePlan) (s u : State) : Prop where
  record : u.slotRec n = some (r.compose plan (s.key plan.key) s.stamp)
  others : OtherRecords s u n
  key : u.key plan.key = (s.key plan.key).framed
  otherKeys : OtherKeys s u plan.key
  channels : u.channels = s.channels
  meters : SameMeters s u
  faults : u.faults = s.faults
  time : u.time = s.time
  notices : ∃ plain, u.notices = { s.notices with comp := some (s.composition n plan plain) }

theorem composeBegun_begun (h : s.slotRec n = some r) (plan : NoticePlan) (plain : List Block) :
    ComposeBegun n r plan s (s.composeBegun n plan plain) := by
  have key := composeTaken_key (s := s) (n := n) (plan := plan)
  have record : (s.composeTaken n plan).slotRec n = some (r.compose plan (s.key plan.key) s.stamp) :=
    setRec_self (fun r => r.compose plan (s.key plan.key) s.stamp) h
  have others : OtherRecords s (s.composeTaken n plan) n :=
    setRec_others s n fun r => r.compose plan (s.key plan.key) s.stamp
  unfold State.composeBegun
  obtain ⟨_, only⟩ := askNotice_only { s.composeTaken n plan with
    notices := { s.notices with comp := some (s.composition n plan plain) } } n s.stamp plan.key plain.length
  rw [only]
  exact
    { record := record
      others := others
      key := (key plan.key).trans (if_pos rfl)
      otherKeys := fun j hj => (key j).trans (if_neg hj)
      channels := rfl
      meters := ⟨rfl, rfl⟩
      faults := rfl
      time := rfl
      notices := ⟨plain, rfl⟩ }

/-- What a composition leaves behind, with the judgement of its key (R125, R127, R128, R166). -/
structure Composed (n : Nat) (r : SlotRec) (plan : NoticePlan) (s t : State) : Prop where
  record : t.slotRec n = some (r.compose plan (s.key plan.key) s.stamp)
  others : OtherRecords s t n
  otherKeys : OtherKeys s t plan.key
  key : t.key plan.key = { (s.key plan.key).framed with
    spent := (t.key plan.key).spent, asked := (t.key plan.key).asked }
  meters : SameMeters s t
  notices : ∃ plain, t.notices = { s.notices with
    comp := some (s.composition n plan plain)
    list := t.notices.list
    holdoff := t.notices.holdoff }
  budget : ∀ c, (s.key plan.key).owner = some c → ∀ cur, cur = decide ((s.chan c).cur = some plan.key) →
    FlagsJudged s t plan.key (s.key plan.key).framed c cur ∧
    ListJudged s t (s.key plan.key).framed c cur false s.notices.list ∧
    (s.notices.list.length < 16 → ∀ b u, s.faults = b.faults → s.time = b.time →
      SpentTaken b u (s.key plan.key).framed c cur false → t.faults = u.faults)

theorem ComposeBegun.judged {u : State} (begun : ComposeBegun n r plan s u) : Composed n r plan s (u.judgeMarks plan.key) := by
  obtain ⟨record, others, key, otherKeys, channels, meters, faults, time, plain, notices⟩ := begun
  have judging := judging_judgeMarks u plan.key
  have list : u.notices.list = s.notices.list := by rw [notices]
  refine
    { record := (slotRec_of_frames judging.frames n).trans record
      others := fun m hm => (slotRec_of_frames judging.frames m).trans (others m hm)
      otherKeys := fun j hj => (judging.others j hj).trans (otherKeys j hj)
      key := judging.flags.trans (by rw [key])
      meters := ⟨judging.meters.1.trans meters.1, judging.meters.2.trans meters.2⟩
      notices := ⟨plain, by rw [judging.notices, notices]⟩
      budget := fun c owner cur hcur => ?_ }
  have role : decide (u.keyRole plan.key = some .current) = cur := by
    rw [hcur]
    refine decide_eq_decide.2 ((keyRole_current_iff (by rw [key]; exact owner)).trans ?_)
    unfold State.chan
    rw [channels]
  have budgeted := judgeMarks_budgeted key owner role
  exact ⟨budgeted.flagsJudged channels rfl rfl, budgeted.listJudged channels list rfl, fun room b v faults' time' taken =>
    budgeted.spentTaken (s := b) (by rw [list]; exact room) (faults.trans faults') (time.trans time') taken⟩

theorem compose_composed (h : s.slotRec n = some r) (plan : NoticePlan) (payload : State → List Byte) :
    Composed n r plan s (s.compose n plan payload) := by
  rw [compose_eq]
  exact (composeBegun_begun h plan _).judged

theorem Composed.settled {u : State} (h : Composed n r plan s u) : Composed n r plan s u.settle := by
  obtain ⟨record, others, otherKeys, key, meters, ⟨plain, notices⟩, budget⟩ := h
  refine
    { record := (State.settle_slotRec _ _).trans record
      others := otherRecords_settle.2 others
      otherKeys := otherKeys_settle.2 otherKeys
      key := by rw [State.settle_key]; exact key
      meters := sameMeters_settle.2 meters
      notices := ⟨plain, ?_⟩
      budget := fun c owner cur hcur => ?_ }
  · have rest : u.settle.notices = { u.notices with holdoff := u.settle.notices.holdoff } := State.settle_sameNotices u
    rw [rest, notices]
  · obtain ⟨flags, list, faults⟩ := budget c owner cur hcur
    exact ⟨flags.later (by rw [State.settle_key]) (by rw [State.settle_key]), list.later (settle_list _),
      fun room b v hb time taken => (State.settle_faults _).trans (faults room b v hb time taken)⟩

end Composing

theorem settle_comp (s : State) : s.settle.notices.comp = s.notices.comp := by
  have rest : s.settle.notices = { s.notices with holdoff := s.settle.notices.holdoff } := State.settle_sameNotices s
  rw [rest]

/-! ## Protocol notices (R165, R171) -/

section Protocol

variable {s t : State} {n : Nat} {e : ProtoEntry} {k : Fin 32}

theorem composable_iff : s.composable e = some k ↔ s.composes e k := by
  have able : (s.key k).exhausted = false ↔ (s.key k).nextSeq < 4294967296 := by
    unfold KeySlot.exhausted
    rw [decide_eq_false_iff_not]
    exact Nat.not_le
  have chosen (j : Fin 32) : (if (s.chan e.channel).state ≠ .disabled ∧ s.holdsRole e.channel j = true ∧
      (s.key j).load = .loaded ∧ (s.key j).exhausted = false then some j else none) = some k ↔
      j = k ∧ (s.chan e.channel).state ≠ .disabled ∧ s.holdsRole e.channel k = true ∧ (s.key k).load = .loaded ∧
        (s.key k).nextSeq < 4294967296 := by
    rw [← able]
    constructor
    · intro h
      split at h
      next fit =>
        cases h
        exact ⟨rfl, fit⟩
      next => cases h
    · rintro ⟨rfl, fit⟩
      exact if_pos fit
  have roles : s.holdsRole e.channel k = true ↔
      (s.chan e.channel).cur = some k ∨ (s.chan e.channel).next = some k ∨ (s.chan e.channel).prev = some k := by
    simp only [State.holdsRole, Bool.or_eq_true, decide_eq_true_eq, or_assoc]
  unfold State.composable State.protoKey State.composes
  rw [← roles]
  obtain ⟨c, kind⟩ := e
  cases kind with
  | keyConfirm j =>
    refine (chosen j).trans (and_congr_left fun _ => ?_)
    simp
  | renewRequest why =>
    dsimp only
    cases cur : (s.chan c).cur with
    | none => simp
    | some j =>
      refine (chosen j).trans (and_congr_left fun _ => ?_)
      simp

theorem composable_none (unfit : ∀ k, ¬ s.composes e k) : s.composable e = none :=
  Option.eq_none_iff_forall_ne_some.2 fun k h => unfit k (composable_iff.1 h)

theorem composes_congr (keys : t.keys = s.keys) (channels : t.channels = s.channels) : t.composes e k ↔ s.composes e k := by
  unfold State.composes State.key State.chan
  rw [keys, channels]

/-- NOTICE_BLOCKED on the channel of each of these entries (R165, R171). -/
def State.blockedOn (s : State) (gone : List ProtoEntry) : State :=
  gone.foldl (fun u d => u.recordFault ⟨.noticeBlocked, .degraded, some d.channel, none, none, none, true⟩) s

/-- An entry that has left the list with NOTICE_BLOCKED (R165). -/
def State.entryDropped (s : State) (e : ProtoEntry) (rest : List ProtoEntry) : State :=
  (s.setProto rest).noticeBlocked e.channel none none

/-- What entries that leave the list with NOTICE_BLOCKED leave alone. -/
structure EntriesDropped (gone rest : List ProtoEntry) (s t : State) : Prop where
  list : t.notices = { s.notices with list := rest }
  frames : SameFrames s t
  keys : SameKeys s t
  meters : SameMeters s t
  faults : t.faults = (s.blockedOn gone).faults
  time : t.time = s.time

theorem startProtocol_nil (n : Nat) (s : State) : State.startProtocol n [] s = s.setProto [] := rfl

theorem startProtocol_composes {rest : List ProtoEntry} (composes : s.composes e k) :
    State.startProtocol n (e :: rest) s = (s.setProto rest).compose n (e.plan k) (e.payload k) := by
  unfold State.startProtocol
  rw [composable_iff.2 composes]

theorem startProtocol_drops {rest : List ProtoEntry} (unfit : ∀ k, ¬ s.composes e k) :
    State.startProtocol n (e :: rest) s = State.startProtocol n rest (s.entryDropped e rest) := by
  conv_lhs => unfold State.startProtocol
  rw [composable_none unfit]
  rfl

theorem blockedOn_time (gone : List ProtoEntry) (s : State) : (s.blockedOn gone).time = s.time := by
  induction gone generalizing s with
  | nil => rfl
  | cons d gone ih => exact (ih _).trans (recordFault_time s _)

theorem blockedOn_faults_congr (gone : List ProtoEntry) (faults : t.faults = s.faults) (time : t.time = s.time) :
    (t.blockedOn gone).faults = (s.blockedOn gone).faults := by
  induction gone generalizing s t with
  | nil => exact faults
  | cons d gone ih =>
    exact ih (recordFault_faults_congr _ faults time) ((recordFault_time t _).trans (time.trans (recordFault_time s _).symm))

theorem entryDropped_dropped (s : State) (e : ProtoEntry) (rest : List ProtoEntry) :
    EntriesDropped [e] rest s (s.entryDropped e rest) where
  list := recordFault_notices _ _
  frames := ⟨recordFault_pool _ _, recordFault_ks _ _, recordFault_merges _ _⟩
  keys := ⟨recordFault_keys _ _, (noticeBlocked_sameStores (s.setProto rest) e.channel none none).2⟩
  meters := ⟨recordFault_meterA _ _, recordFault_meterB _ _⟩
  faults := recordFault_faults_congr _ rfl rfl
  time := recordFault_time _ _

/-- Entries that are not composable leave the list one after the other (R165). -/
theorem startProtocol_gone (gone rest : List ProtoEntry) (n : Nat) (s : State) (list : s.notices.list = gone ++ rest)
    (unfit : ∀ d ∈ gone, ∀ k, ¬ s.composes d k) :
    ∃ t, State.startProtocol n (gone ++ rest) s = State.startProtocol n rest t ∧ EntriesDropped gone rest s t := by
  induction gone generalizing s with
  | nil => exact ⟨s, rfl, by rw [← List.nil_append rest, ← list], ⟨rfl, rfl, rfl⟩, ⟨rfl, rfl⟩, ⟨rfl, rfl⟩, rfl, rfl⟩
  | cons d gone ih =>
    have here := entryDropped_dropped s d (gone ++ rest)
    obtain ⟨t, same, there⟩ := ih (s.entryDropped d (gone ++ rest)) (by rw [here.list]) fun d' hd' k =>
      (composes_congr here.keys.1 here.keys.2).not.2 (unfit d' (List.mem_cons_of_mem _ hd') k)
    refine ⟨t, (startProtocol_drops (unfit d List.mem_cons_self)).trans same, ?_, ?_, ?_, ?_, ?_, ?_⟩
    · rw [there.list, here.list]
    · exact ⟨there.frames.1.trans here.frames.1, there.frames.2.1.trans here.frames.2.1,
        there.frames.2.2.trans here.frames.2.2⟩
    · exact ⟨there.keys.1.trans here.keys.1, there.keys.2.trans here.keys.2⟩
    · exact ⟨there.meters.1.trans here.meters.1, there.meters.2.trans here.meters.2⟩
    · exact there.faults.trans (blockedOn_faults_congr gone here.faults (here.time.trans (recordFault_time s _).symm))
    · exact there.time.trans here.time

theorem exec_protocolNoticeStart (idle : s.notices.comp = none) (slot : s.freeNoticeSlot = some n)
    (waiting : s.notices.list ≠ []) :
    exec .protocolNoticeStart s = .next (State.startProtocol n s.notices.list s).settle := by
  change execProtocolNoticeStart s = _
  unfold execProtocolNoticeStart
  rw [idle, slot]
  cases list : s.notices.list with
  | nil => exact absurd list waiting
  | cons e rest => rfl

end Protocol

/-- The plan of a protocol notice: its key, its channel, and its length of 32 (R165, R166). -/
theorem protoPlan_eq (e : ProtoEntry) (k : Fin 32) : (e.plan k).key = k ∧ (e.plan k).channel = e.channel ∧ (e.plan k).len = 32 := by
  unfold ProtoEntry.plan
  cases e.kind <;> exact ⟨rfl, rfl, rfl⟩

/-- Settles O44: the entries that are dropped, and the composition of the first one that is composable. -/
theorem protocolNoticeBegins : Obligations.ProtocolNoticeBegins := by
  rintro s n r gone idle slot h unfit _ rfl
  refine ⟨fun e rest k list composes => ?_, fun list some => ?_⟩
  · obtain ⟨v, same, dropped⟩ := startProtocol_gone gone (e :: rest) n s list unfit
    have run := exec_protocolNoticeStart idle slot (by rw [list]; simp)
    rw [list, same, startProtocol_composes ((composes_congr dropped.keys.1 dropped.keys.2).2 composes)] at run
    have keys (j : Fin 32) : (v.setProto rest).key j = s.key j := by
      unfold State.key
      exact congrArg (fun x => x.slots[j]) dropped.keys.1
    have composed := compose_composed (s := v.setProto rest) ((slotRec_of_frames dropped.frames n).trans h)
      (e.plan k) (e.payload k)
    obtain ⟨named, channel, len⟩ := protoPlan_eq e k
    have begun := (compose_composed (s := v.setProto rest) ((slotRec_of_frames dropped.frames n).trans h)
      (e.plan k) (e.payload k)).settled
    obtain ⟨record, others, otherKeys, key, meters, ⟨plain, notices⟩, budget⟩ := begun
    rw [named] at otherKeys key budget
    rw [keys] at key budget
    refine ⟨_, run, ⟨_, record, rfl, congrArg some channel, congrArg (fun k => some (KeyRef.slot k)) named, ?_, ?_,
      congrArg some len, ?_⟩, ⟨_, congrArg NoticeEngine.comp notices, rfl, named⟩, ?_, ?_, ?_,
      fun j hj => (otherKeys j hj).trans (keys j), fun m hm => (others m hm).trans (slotRec_of_frames dropped.frames m),
      ⟨meters.1.trans dropped.meters.1, meters.2.trans dropped.meters.2⟩, fun y hy o owner cur hcur => ?_⟩
    · rw [named, keys]
      rfl
    · rw [named, keys]
      rfl
    · obtain ⟨c, kind⟩ := e
      cases kind <;> rfl
    · rw [key]
      rfl
    · rw [key]
      rfl
    · rw [key]
      rfl
    · subst hy
      have chan : (v.setProto rest).channels = s.channels := dropped.keys.2
      obtain ⟨flags, list', faults⟩ := budget o owner cur (by rw [hcur]; unfold State.chan; rw [chan])
      have same (x : KeySlot) : (v.setProto rest).percentOf o x = s.percentOf o x := percentOf_congr chan o x
      refine ⟨flagsJudged_congr flags rfl chan rfl, ?_, fun room u taken => ?_⟩
      · unfold ListJudged at list' ⊢
        rwa [same] at list'
      · exact faults room (s.blockedOn gone) u dropped.faults (dropped.time.trans (blockedOn_time gone s).symm) taken
  · obtain ⟨v, same, dropped⟩ := startProtocol_gone gone [] n s (by rw [List.append_nil]; exact list) unfit
    have run := exec_protocolNoticeStart idle slot (by rw [list]; exact some)
    rw [list, ← List.append_nil gone, same, startProtocol_nil] at run
    refine ⟨_, run, settle_list _, ?_, sameFrames_settle.2 dropped.frames, (State.settle_keys _).trans dropped.keys.1,
      sameMeters_settle.2 dropped.meters, (State.settle_faults _).trans dropped.faults⟩
    rw [settle_comp]
    exact (congrArg NoticeEngine.comp dropped.list).trans idle

end Sys2Proof.Machine

end

section
/-!
SUPPORT. When a fault notice is due, and the entries that it selects, in their order (R167, R168).
-/

namespace Sys2Proof.Machine
-- One theorem at a time: elaborated side by side, each would hold a stack of its own.
set_option Elab.async false

/-! ## The order of the entries (R168) -/

section Order

variable {p q r : Fin 32 × FaultEntry} {l : List (Fin 32 × FaultEntry)}

theorem takesBefore_iff (apart : p.1 ≠ q.1) : takesBefore p q = true ↔ GoesBefore p q := by
  have number : p.1.val ≤ q.1.val ↔ p.1 < q.1 :=
    ⟨fun le => lt_of_le_of_ne le apart, fun lt => le_of_lt (show p.1.val < q.1.val from lt)⟩
  unfold takesBefore GoesBefore
  dsimp only
  by_cases fp : p.2.severity = .fatal <;> by_cases fq : q.2.severity = .fatal <;>
    by_cases time : p.2.firstTime = q.2.firstTime <;> simp [fp, fq, time, number]

theorem GoesBefore.trans (h : GoesBefore p q) (g : GoesBefore q r) : GoesBefore p r := by
  unfold GoesBefore at *
  obtain ⟨fp, fq⟩ | ⟨same, h⟩ := h
  · obtain ⟨fq', -⟩ | ⟨same', -⟩ := g
    · exact absurd fq' fq
    · exact .inl ⟨fp, fun fr => fq (same'.2 fr)⟩
  · obtain ⟨fq, fr⟩ | ⟨same', g⟩ := g
    · exact .inl ⟨same.2 fq, fr⟩
    · refine .inr ⟨same.trans same', ?_⟩
      rcases h with h | ⟨h, h'⟩ <;> rcases g with g | ⟨g, g'⟩
      · exact .inl (h.trans g)
      · exact .inl (g ▸ h)
      · exact .inl (h ▸ g)
      · exact .inr ⟨h.trans g, h'.trans g'⟩

theorem GoesBefore.total (apart : p.1 ≠ q.1) (h : ¬ GoesBefore p q) : GoesBefore q p := by
  unfold GoesBefore at *
  by_cases same : p.2.severity = .fatal ↔ q.2.severity = .fatal
  · have later : ¬ (p.2.firstTime.toNat < q.2.firstTime.toNat ∨ (p.2.firstTime = q.2.firstTime ∧ p.1 < q.1)) :=
      fun g => h (.inr ⟨same, g⟩)
    refine .inr ⟨same.symm, ?_⟩
    rcases lt_trichotomy p.2.firstTime.toNat q.2.firstTime.toNat with lt | eq | gt
    · exact absurd (.inl lt) later
    · have eq' := BitVec.eq_of_toNat_eq eq
      exact .inr ⟨eq'.symm, lt_of_le_of_ne (not_lt.1 fun lt => later (.inr ⟨eq', lt⟩)) (Ne.symm apart)⟩
    · exact .inl gt
  · by_cases fq : q.2.severity = .fatal
    · exact .inl ⟨fq, fun fp => same ⟨fun _ => fq, fun _ => fp⟩⟩
    · have fp : p.2.severity = .fatal := by
        by_contra fp
        exact same ⟨fun f => absurd f fp, fun f => absurd f fq⟩
      exact absurd (.inl ⟨fp, fq⟩) h

theorem pairwise_insertEntry (sorted : l.Pairwise GoesBefore) (fresh : p.1 ∉ l.map Prod.fst) :
    (insertEntry p l).Pairwise GoesBefore := by
  induction l with
  | nil => exact List.pairwise_singleton _ _
  | cons q l ih =>
    obtain ⟨first, rest⟩ := List.pairwise_cons.1 sorted
    rw [List.map_cons, List.mem_cons, not_or] at fresh
    obtain ⟨apart, fresh⟩ := fresh
    unfold insertEntry
    split
    next before =>
      have before' := (takesBefore_iff apart).1 before
      exact List.pairwise_cons.2 ⟨fun x hx => (List.mem_cons.1 hx).elim (fun h => h ▸ before')
        fun hx => before'.trans (first x hx), sorted⟩
    next behind =>
      refine List.pairwise_cons.2 ⟨fun x hx => ?_, ih rest fresh⟩
      rcases mem_insertEntry.1 hx with rfl | hx
      · exact GoesBefore.total apart fun h => behind ((takesBefore_iff apart).2 h)
      · exact first x hx

theorem pairwise_orderEntries (distinct : (l.map Prod.fst).Nodup) : (orderEntries l).Pairwise GoesBefore := by
  induction l with
  | nil => exact List.Pairwise.nil
  | cons p l ih =>
    obtain ⟨fresh, distinct⟩ := List.nodup_cons.1 distinct
    refine pairwise_insertEntry (ih distinct) fun h => fresh ?_
    obtain ⟨q, hq, same⟩ := List.mem_map.1 h
    exact List.mem_map.2 ⟨q, mem_orderEntries.1 hq, same⟩

end Order

/-! ## The entries in use -/

section Used

variable {s : State} {i : Fin 32} {e : FaultEntry} {colour : Colour}

theorem numbers_sublist (f : Fin 32 → Option FaultEntry) (l : List (Fin 32)) :
    ((l.filterMap fun i => (f i).map fun e => (i, e)).map Prod.fst).Sublist l := by
  induction l with
  | nil => exact List.Sublist.refl _
  | cons i l ih =>
    cases h : f i with
    | none =>
      rw [List.filterMap_cons_none (by rw [h]; rfl)]
      exact ih.cons i
    | some e =>
      rw [List.filterMap_cons_some (b := (i, e)) (by rw [h]; rfl)]
      exact ih.cons_cons i

theorem used_distinct (f : FaultUnit) : (f.used.map Prod.fst).Nodup :=
  (numbers_sublist (fun i => f.table[i]) (List.finRange 32)).nodup (List.nodup_finRange 32)

theorem eligible_distinct (f : FaultUnit) : (f.eligible.map Prod.fst).Nodup :=
  ((List.filter_sublist).map Prod.fst).nodup (used_distinct f)

theorem mem_eligible_number : i ∈ s.faults.eligible.map Prod.fst ↔ ∃ e, s.admits .green i e := by
  simp only [List.mem_map, admits_green]
  exact ⟨fun ⟨p, hp, same⟩ => ⟨p.2, same ▸ hp⟩, fun ⟨e, he⟩ => ⟨(i, e), he, rfl⟩⟩

/-- Eight entries are eligible when the list of them says so (R167). -/
theorem eight_eligible : (∃ l : List (Fin 32), l.Nodup ∧ l.length = 8 ∧ ∀ i ∈ l, ∃ e, s.admits .green i e) ↔
    8 ≤ s.faults.eligible.length := by
  constructor
  · rintro ⟨l, distinct, length, admitted⟩
    have within := (List.subperm_of_subset distinct fun i hi => mem_eligible_number.2 (admitted i hi)).length_le
    rwa [length, List.length_map] at within
  · intro many
    refine ⟨(s.faults.eligible.map Prod.fst).take 8, (eligible_distinct _).sublist (List.take_sublist _ _), ?_,
      fun i hi => mem_eligible_number.1 (List.mem_of_mem_take hi)⟩
    rw [List.length_take, List.length_map, Nat.min_eq_left many]

theorem noticeDue_iff : s.noticeDue = true ↔ s.due := by
  unfold State.noticeDue State.due
  rw [eight_eligible, Bool.or_eq_true, Bool.or_eq_true, decide_eq_true_eq, decide_eq_true_eq, List.any_eq_true, or_assoc]
  simp only [admits_green, decide_eq_true_eq, Prod.exists]

/-- What a meter's colour admits of the eligible entries (R168). -/
theorem admits_iff : s.admits colour i e ↔ (i, e) ∈ s.faults.eligible ∧ colour.admitsSeverity e.severity = true := by
  rw [← admits_green]
  unfold State.admits
  cases colour <;> cases e.severity <;> simp [Colour.admitsSeverity]

/-- The selected entries: admitted, in order, at most eight, and none left behind unless eight go before it (R168). -/
theorem selectFaults_rules (s : State) (colour : Colour) : (∀ a ∈ s.selectFaults colour, s.admits colour a.1 a.2) ∧
    (s.selectFaults colour).Pairwise GoesBefore ∧ (s.selectFaults colour).length ≤ 8 ∧
    ∀ i e, s.admits colour i e → (i, e) ∈ s.selectFaults colour ∨
      ((s.selectFaults colour).length = 8 ∧ ∀ a ∈ s.selectFaults colour, GoesBefore a (i, e)) := by
  obtain ⟨l, hl⟩ : ∃ l, l = orderEntries (s.faults.eligible.filter fun p => colour.admitsSeverity p.2.severity) := ⟨_, rfl⟩
  have select : s.selectFaults colour = l.take 8 := by rw [hl]; rfl
  have mem (a : Fin 32 × FaultEntry) : a ∈ l ↔ s.admits colour a.1 a.2 := by
    rw [hl, mem_orderEntries, List.mem_filter, admits_iff]
  have sorted : l.Pairwise GoesBefore := by
    rw [hl]
    exact pairwise_orderEntries (((List.filter_sublist).map Prod.fst).nodup (eligible_distinct _))
  rw [select]
  refine ⟨fun a ha => (mem a).1 (List.mem_of_mem_take ha), sorted.sublist (List.take_sublist _ _), ?_, fun i e he => ?_⟩
  · rw [List.length_take]
    exact Nat.min_le_left _ _
  · have found : (i, e) ∈ l.take 8 ++ l.drop 8 := by
      rw [List.take_append_drop]
      exact (mem (i, e)).2 he
    rcases List.mem_append.1 found with taken | left
    · exact .inl taken
    · have long : 8 ≤ l.length := by
        by_contra short
        rw [List.drop_eq_nil_of_le (by omega)] at left
        cases left
      rw [← List.take_append_drop 8 l] at sorted
      exact .inr ⟨by rw [List.length_take, Nat.min_eq_left long], fun a ha =>
        (List.pairwise_append.1 sorted).2.2 a ha _ left⟩

end Used

end Sys2Proof.Machine

end

section
/-!
SUPPORT. A fault notice that is due: blocked, waiting, or begun with the entries it selects (R167, R168, R171).
-/

namespace Sys2Proof.Machine
-- One theorem at a time: elaborated side by side, each would hold a stack of its own.
set_option Elab.async false

/-! ## Entries that a notice carries (R153, R168) -/

section Carried

variable {s t : State} {i : Fin 32} {cls : FaultClass} {f : FaultUnit}

/-- Entry i of a fault table is of this class, and a notice carries it (R168). -/
def CarriedAt (i : Fin 32) (cls : FaultClass) (f : FaultUnit) : Prop :=
  ∃ g, f.table[i] = some g ∧ g.cls = cls ∧ g.notice = .composing

theorem firstFree_some {f : FaultUnit} {j : Fin 32} (h : f.firstFree = some j) : f.table[j] = none := by
  simpa using List.find?_some h

theorem stalest_candidate {f : FaultUnit} {sev : Severity} {j : Fin 32} {e : FaultEntry}
    (h : stalest (f.candidates sev) = some (j, e)) : f.table[j] = some e ∧ e.notice ≠ .composing := by
  obtain ⟨found, -, idle⟩ := mem_candidates.1 (List.mem_of_find?_eq_some h)
  exact ⟨found, idle⟩

/-- An occurrence leaves an entry that a notice carries in its place, and COMPOSING (R151, R153). -/
theorem CarriedAt.taken (h : CarriedAt i cls f) (now : Time) (o : Occurrence) : CarriedAt i cls (f.taken now o).1 := by
  obtain ⟨g, found, same, composing⟩ := h
  have put_apart {u : FaultUnit} {j : Fin 32} (e : FaultEntry) (table : u.table[i] = some g) (apart : i ≠ j) :
      CarriedAt i cls (u.put j e) := ⟨g, (put_other u e apart).trans table, same, composing⟩
  unfold FaultUnit.taken
  split
  next j e hit =>
    by_cases own : i = j
    · subst own
      have key := (FaultUnit.find_some hit).1
      obtain rfl : g = e := Option.some.inj (found.symm.trans key)
      exact ⟨_, put_self f i _, same, ((counted_fields g o f.noticeMask now f.updates).2.2.2.1 (.inr composing)).trans composing⟩
    · exact put_apart _ found own
  next =>
    split
    next j free =>
      refine put_apart _ found fun own => ?_
      rw [own, firstFree_some free] at found
      cases found
    next =>
      split
      next j e old =>
        obtain ⟨there, idle⟩ := stalest_candidate old
        refine put_apart (u := f.lose e.delta) _ found fun own => ?_
        subst own
        exact idle (Option.some.inj (there.symm.trans found) ▸ composing)
      next => exact ⟨g, found, same, composing⟩

theorem carriedAt_recordFault (h : CarriedAt i cls s.faults) (o : Occurrence) : CarriedAt i cls (s.recordFault o).faults := by
  rw [recordFault_faults]
  exact h.taken _ _

theorem carriedAt_handProto (h : CarriedAt i cls s.faults) (e : ProtoEntry) : CarriedAt i cls (s.handProto e).faults := by
  rcases handProto_cases s e with ⟨-, only⟩ | ⟨-, -, only⟩ | ⟨-, -, only⟩ <;> rw [only]
  · exact h
  · exact h
  · exact carriedAt_recordFault h _

theorem carriedAt_setKey (h : CarriedAt i cls s.faults) (k : Fin 32) (g : KeySlot → KeySlot) :
    CarriedAt i cls (s.setKey k g).faults := h

theorem carriedAt_spentCurrent (h : CarriedAt i cls s.faults) (k : Fin 32) : CarriedAt i cls (s.spentCurrent k).faults := by
  unfold State.spentCurrent
  split
  · exact carriedAt_recordFault (carriedAt_handProto h _) _
  · exact h

theorem carriedAt_judgeSpent (h : CarriedAt i cls s.faults) (k : Fin 32) : CarriedAt i cls (s.judgeSpent k).faults := by
  unfold State.judgeSpent
  split
  · dsimp only
    split
    · exact carriedAt_spentCurrent (carriedAt_setKey h k _) k
    · exact carriedAt_setKey h k _
  · exact h

theorem carriedAt_judgeSoft (h : CarriedAt i cls s.faults) (k : Fin 32) : CarriedAt i cls (s.judgeSoft k).faults := by
  unfold State.judgeSoft
  split
  · split
    · exact carriedAt_handProto (carriedAt_setKey h k _) _
    · exact h
  · exact h

theorem carriedAt_judgeMarks (h : CarriedAt i cls s.faults) (k : Fin 32) : CarriedAt i cls (s.judgeMarks k).faults :=
  carriedAt_judgeSoft (carriedAt_judgeSpent h k) k

theorem carriedAt_compose {n : Nat} {r : SlotRec} (h : CarriedAt i cls s.faults) (record : s.slotRec n = some r)
    (plan : NoticePlan) (payload : State → List Byte) : CarriedAt i cls (s.compose n plan payload).faults := by
  rw [compose_eq]
  refine carriedAt_judgeMarks ?_ plan.key
  rw [(composeBegun_begun record plan _).faults]
  exact h

/-- A composition leaves the holdoff timer and its setting (R167). -/
theorem compose_holdoff {n : Nat} {r : SlotRec} (record : s.slotRec n = some r) (plan : NoticePlan)
    (payload : State → List Byte) : (s.compose n plan payload).notices.holdoff = s.notices.holdoff ∧
      (s.compose n plan payload).notices.holdoffSecs = s.notices.holdoffSecs := by
  rw [compose_eq]
  obtain ⟨plain, notices⟩ := (composeBegun_begun record plan (blocksOf (payload (s.composeTaken n plan)))).notices
  rw [(judging_judgeMarks _ plan.key).notices, notices]
  exact ⟨rfl, rfl⟩

end Carried

/-! ## The selected entries go to COMPOSING (R168) -/

section Marked

variable {s : State} {n : Nat} {k : Fin 32} {l : List (Fin 32 × FaultEntry)}

theorem markComposing_only (s : State) (l : List (Fin 32 × FaultEntry)) :
    ∃ table : Vector (Option FaultEntry) 32, s.markComposing l = { s with faults := { s.faults with table := table } } ∧
      (∀ i : Fin 32, i ∉ l.map Prod.fst → table[i] = s.faults.table[i]) ∧
      ∀ i : Fin 32, i ∈ l.map Prod.fst → ∃ b ∈ l, b.1 = i ∧ table[i] = some { b.2 with notice := .composing } := by
  induction l generalizing s with
  | nil => exact ⟨_, rfl, fun _ _ => rfl, fun i hi => absurd hi List.not_mem_nil⟩
  | cons p l ih =>
    obtain ⟨table, only, rest, marked⟩ := ih (s.putFault p.1 (some { p.2 with notice := .composing }))
    refine ⟨table, only, fun i hi => ?_, fun i hi => ?_⟩
    · rw [List.map_cons, List.mem_cons, not_or] at hi
      exact (rest i hi.2).trans (Vector.getElem_set_ne p.1.isLt i.isLt fun same => hi.1 (Fin.ext same.symm))
    · by_cases later : i ∈ l.map Prod.fst
      · obtain ⟨b, hb, same, found⟩ := marked i later
        exact ⟨b, List.mem_cons_of_mem _ hb, same, found⟩
      · rw [List.map_cons] at hi
        obtain rfl := (List.mem_cons.1 hi).resolve_right later
        exact ⟨p, List.mem_cons_self, rfl, (rest p.1 later).trans (by simp [State.putFault])⟩

/-- The state in which a fault notice's entries are COMPOSING, the holdoff timer judged and the blocked flag clear
(R167, R168, R171). -/
def State.noticePrepared (s : State) (l : List (Fin 32 × FaultEntry)) : State :=
  let s1 := (s.markComposing l).restartHoldoff
  { s1 with notices := { s1.notices with blocked := false } }

/-- What a fault notice with these entries is composed for (R168). -/
def State.faultPlan (s : State) (k : Fin 32) (l : List (Fin 32 × FaultEntry)) : NoticePlan :=
  ⟨s.notices.reporting, kindFaultNotice, k, 16 + 16 * l.length, none, l.map carriedOf, s.faults.lost⟩

theorem startFaultNotice_eq (s : State) (n : Nat) (k : Fin 32) (l : List (Fin 32 × FaultEntry)) :
    s.startFaultNotice n k l =
      (s.noticePrepared l).compose n (s.faultPlan k l) fun st => st.faultPayload (l.map (·.2)) := rfl

theorem noticePrepared_only (s : State) (l : List (Fin 32 × FaultEntry)) : ∃ holdoff, s.noticePrepared l =
    { s with
      faults := (s.markComposing l).faults
      notices := { s.notices with holdoff := holdoff, blocked := false } } ∧
    (holdoff = .stopped ∨
      holdoff = if s.notices.holdoffSecs = 0 then .ranOut else .running s.notices.holdoffSecs) := by
  obtain ⟨table, only, -, -⟩ := markComposing_only s l
  unfold State.noticePrepared State.restartHoldoff
  rw [only]
  refine ⟨_, rfl, ?_⟩
  split
  · exact .inl rfl
  · exact .inr rfl

/-- The entries that a fault notice selects are carried (R168). -/
theorem noticePrepared_carries (distinct : ∀ a ∈ l, s.faults.table[a.1] = some a.2) {a : Fin 32 × FaultEntry} (ha : a ∈ l) :
    CarriedAt a.1 a.2.cls (s.noticePrepared l).faults := by
  obtain ⟨table, only, -, marked⟩ := markComposing_only s l
  obtain ⟨holdoff, prepared, -⟩ := noticePrepared_only s l
  obtain ⟨b, hb, same, found⟩ := marked a.1 (List.mem_map.2 ⟨a, ha, rfl⟩)
  have entry : b.2 = a.2 := by
    have table_b := distinct b hb
    simp only [same] at table_b
    exact Option.some.inj (table_b.symm.trans (distinct a ha))
  rw [prepared, only]
  exact ⟨_, found, by rw [entry], rfl⟩

/-- The holdoff timer after a fault notice has begun, judged when the step ends (R167). -/
theorem holdoffJudged_prepared {u : State} (left : u.notices.holdoff = .stopped ∨ u.notices.holdoff =
    if u.notices.holdoffSecs = 0 then .ranOut else .running u.notices.holdoffSecs) : HoldoffJudged u.settle .stopped := by
  obtain ⟨stops, runs⟩ := settle_holdoffJudged u
  have secs : u.settle.notices.holdoffSecs = u.notices.holdoffSecs := by
    have rest : u.settle.notices = { u.notices with holdoff := u.settle.notices.holdoff } := State.settle_sameNotices u
    rw [rest]
  refine ⟨stops, fun some => ?_⟩
  rw [if_pos rfl, runs some]
  rcases left with stopped | started
  · rw [if_pos stopped]
  · rw [secs, ← started, ite_self]

end Marked

/-! ## The cases of a fault notice that is due -/

section Due

variable {s : State} {n : Nat} {k : Fin 32}

theorem reportingKey_none (unfit : ∀ k, (s.chan s.notices.reporting).cur = some k →
    (s.chan s.notices.reporting).state = .disabled ∨ (s.key k).load ≠ .loaded ∨ (s.key k).spent = true) :
    s.reportingKey = none := by
  unfold State.reportingKey
  cases cur : (s.chan s.notices.reporting).cur with
  | none => rfl
  | some k =>
    refine if_neg fun fit => ?_
    obtain ⟨up, loaded, unspent⟩ := fit
    exact (unfit k cur).elim up fun h => h.elim (· loaded) fun spent => by simp [unspent] at spent

theorem reportingKey_some (cur : (s.chan s.notices.reporting).cur = some k)
    (up : (s.chan s.notices.reporting).state ≠ .disabled) (loaded : (s.key k).load = .loaded)
    (unspent : (s.key k).spent = false) : s.reportingKey = some k := by
  unfold State.reportingKey
  rw [cur]
  exact if_pos ⟨up, loaded, unspent⟩

theorem exec_faultNoticeStart (idle : s.notices.comp = none) (slot : s.freeNoticeSlot = some n) (empty : s.notices.list = []) :
    (¬ s.due → exec .faultNoticeStart s = .next s) ∧
    (s.due → s.reportingKey = none → exec .faultNoticeStart s = .next s.blockNotices.settle) ∧
    ∀ k l, s.due → s.reportingKey = some k → l = s.selectFaults (s.meter (s.chan s.notices.reporting).link).colour →
      (l = [] → exec .faultNoticeStart s = .next s) ∧
      (l ≠ [] → exec .faultNoticeStart s = .next (s.startFaultNotice n k l).settle) := by
  have run : exec .faultNoticeStart s = execFaultNoticeStart s := rfl
  unfold execFaultNoticeStart at run
  rw [idle, slot, empty] at run
  dsimp only at run
  refine ⟨fun undue => ?_, fun due none => ?_, fun k l due key hl => ⟨fun nothing => ?_, fun something => ?_⟩⟩
  · rw [if_neg fun h => undue (noticeDue_iff.1 h)] at run
    exact run
  · rw [if_pos (noticeDue_iff.2 due), none] at run
    exact run
  · rw [if_pos (noticeDue_iff.2 due), key, ← hl] at run
    exact run.trans (if_pos (by rw [nothing]; rfl))
  · rw [if_pos (noticeDue_iff.2 due), key, ← hl] at run
    exact run.trans (if_neg (by simpa using something))

end Due

/-- A due fault notice that is blocked (R168, R171). -/
theorem blockNotices_blocks (s : State) : ∃ t, t = s.blockNotices.settle ∧ t.notices.blocked = true ∧ SameFrames s t ∧
    t.keys = s.keys ∧ SameMeters s t ∧ (s.notices.blocked = true → SameFaults s t) ∧
    (s.notices.blocked = false → t.faults = (s.recordFault
      ⟨.noticeBlocked, .degraded, some s.notices.reporting, none, none, none, true⟩).faults) := by
  have kept (u : State) : u.settle.notices.blocked = u.notices.blocked := by
    have rest : u.settle.notices = { u.notices with holdoff := u.settle.notices.holdoff } := State.settle_sameNotices u
    rw [rest]
  refine ⟨_, rfl, ?_⟩
  rw [kept]
  unfold State.blockNotices
  cases blocked : s.notices.blocked with
  | true =>
    rw [if_pos rfl]
    exact ⟨blocked, sameFrames_settle.2 ⟨rfl, rfl, rfl⟩, State.settle_keys _, sameMeters_settle.2 ⟨rfl, rfl⟩,
      fun _ => sameFaults_settle.2 rfl, fun h => Bool.noConfusion h⟩
  | false =>
    rw [if_neg Bool.false_ne_true]
    refine ⟨?_, sameFrames_settle.2 ⟨recordFault_pool _ _, recordFault_ks _ _, recordFault_merges _ _⟩,
      (State.settle_keys _).trans (recordFault_keys _ _),
      sameMeters_settle.2 ⟨recordFault_meterA _ _, recordFault_meterB _ _⟩, fun h => Bool.noConfusion h,
      fun _ => (State.settle_faults _).trans (recordFault_faults_congr _ rfl rfl)⟩
    unfold State.noticeBlocked
    rw [recordFault_notices]

/-- What a fault notice leaves behind that begins with these entries (R167, R168). -/
structure FaultNoticeBegun (n : Nat) (k : Fin 32) (l : List (Fin 32 × FaultEntry)) (s t : State) : Prop where
  blocked : t.notices.blocked = false
  record : ∃ q, t.slotRec n = some q ∧ q.state = .composing ∧ q.channel = some s.notices.reporting ∧
    q.kind = some 0x05 ∧ q.key = some (.slot k) ∧ q.seq = some (BitVec.ofNat 32 (s.key k).nextSeq) ∧
    q.length = some (16 + 16 * l.length)
  carried : ∀ a ∈ l, ∃ f, t.faults.table[a.1] = some f ∧ f.cls = a.2.cls ∧ f.notice = .composing
  comp : ∃ c, t.notices.comp = some c ∧ c.recNo = n ∧ c.carried = l.map carriedOf ∧ c.lost = s.faults.lost
  refs : (t.key k).refs = (s.key k).refs + 1
  seq : (t.key k).nextSeq = (s.key k).nextSeq + 1
  others : OtherRecords s t n
  meters : SameMeters s t
  holdoff : HoldoffJudged t .stopped
  judged : (s.key k).owner = some s.notices.reporting →
    FlagsJudged s t k (s.key k).framed s.notices.reporting true ∧
    ListJudged s t (s.key k).framed s.notices.reporting true false []

theorem faultNoticeBegun_of_composed {s v u : State} {n : Nat} {r : SlotRec} {k : Fin 32}
    {l : List (Fin 32 × FaultEntry)} {left : Holdoff} (prepared : v = { s with
      faults := (s.markComposing l).faults
      notices := { s.notices with holdoff := left, blocked := false } })
    (composed : Composed n r (s.faultPlan k l) v u) (carried : ∀ a ∈ l, CarriedAt a.1 a.2.cls u.faults)
    (timer : u.notices.holdoff = v.notices.holdoff ∧ u.notices.holdoffSecs = v.notices.holdoffSecs)
    (held : left = .stopped ∨ left = if s.notices.holdoffSecs = 0 then .ranOut else .running s.notices.holdoffSecs)
    (cur : (s.chan s.notices.reporting).cur = some k) (empty : s.notices.list = []) :
    FaultNoticeBegun n k l s u.settle := by
  subst prepared
  obtain ⟨record, others, otherKeys, booked, meters, ⟨plain, notices⟩, budget⟩ := composed.settled
  obtain ⟨holdoff, secs⟩ := timer
  refine
    { blocked := by rw [notices]
      record := ⟨_, record, rfl, rfl, rfl, rfl, rfl, rfl⟩
      carried := fun a ha => ?_
      comp := ⟨_, congrArg NoticeEngine.comp notices, rfl, rfl, ?_⟩
      refs := congrArg KeySlot.refs booked
      seq := congrArg KeySlot.nextSeq booked
      others := others
      meters := meters
      holdoff := holdoffJudged_prepared (by rw [holdoff, secs]; exact held)
      judged := fun owner => ?_ }
  · obtain ⟨g, found, same, composing⟩ := carried a ha
    exact ⟨g, by rw [State.settle_faults]; exact found, same, composing⟩
  · rfl
  · obtain ⟨flags, list, -⟩ := budget _ owner true (decide_eq_true cur).symm
    refine ⟨flags, ?_⟩
    rw [← empty]
    exact list

/-- A fault notice that begins with the entries it selects (R167, R168). -/
theorem startFaultNotice_begins {s : State} {n : Nat} {r : SlotRec} {k : Fin 32} {l : List (Fin 32 × FaultEntry)}
    (h : s.slotRec n = some r) (chosen : ∀ a ∈ l, s.faults.table[a.1] = some a.2)
    (cur : (s.chan s.notices.reporting).cur = some k) (empty : s.notices.list = []) :
    FaultNoticeBegun n k l s (s.startFaultNotice n k l).settle := by
  obtain ⟨left, only, held⟩ := noticePrepared_only s l
  have h' : (s.noticePrepared l).slotRec n = some r := by rw [only]; exact h
  rw [startFaultNotice_eq]
  exact faultNoticeBegun_of_composed only (compose_composed h' _ _)
    (fun a ha => carriedAt_compose (noticePrepared_carries chosen ha) h' _ _) (compose_holdoff h' _ _) held cur empty

/-- Settles O45: what is due, what is blocked, what is selected, and the composition. -/
theorem faultNoticeBegins : Obligations.FaultNoticeBegins := by
  intro s n r idle slot h empty
  obtain ⟨undue, blocks, starts⟩ := exec_faultNoticeStart idle slot empty
  refine ⟨undue, fun due => ⟨fun unfit => ?_, fun k cur up loaded unspent colour hcolour l hl => ?_⟩⟩
  · obtain ⟨t, ht, rest⟩ := blockNotices_blocks s
    exact ⟨t, ht ▸ blocks due (reportingKey_none unfit), rest⟩
  · subst hcolour hl
    obtain ⟨admitted, sorted, few, complete⟩ := selectFaults_rules s (s.meter (s.chan s.notices.reporting).link).colour
    obtain ⟨waits, begins⟩ := starts k _ due (reportingKey_some cur up loaded unspent) rfl
    refine ⟨admitted, sorted, few, fun i e _ he => complete i e he, waits, fun some => ?_⟩
    obtain ⟨blocked, record, carried, comp, refs, seq, others, meters, holdoff, judged⟩ :=
      startFaultNotice_begins (n := n) h (fun a ha => (admitted a ha).1) cur empty
    exact ⟨_, begins some, blocked, record, carried, comp, refs, seq, others, meters, holdoff,
      fun y hy owner => hy ▸ judged owner⟩

end Sys2Proof.Machine

end

section
/-!
SUPPORT. Background blocks that return: masks, a notice's keystream, and an offer's plaintext before its last block
(R39, R136, R140, R166).
-/

namespace Sys2Proof.Machine
-- One theorem at a time: elaborated side by side, each would hold a stack of its own.
set_option Elab.async false

/-! ## The notice's finish, judged at the end (R166) -/

section Judged

variable {s t v : State} {n : Nat} {r : SlotRec}

/-- The finish of a record, unchanged or gone on to direct. -/
def Advanced (a b : Option Finish) : Prop := b = a ∨ b = a.map fun f => { f with stage := .direct }

theorem beginDirect_advanced {m : Nat} {x : SlotRec} (s : State) (n : Nat) (h : s.slotRec m = some x) :
    ∃ finish, Advanced x.finish finish ∧ (s.beginDirect n).slotRec m = some { x with finish := finish } := by
  by_cases same : m = n
  · subst same
    unfold State.beginDirect
    rw [h]
    dsimp only
    split
    · exact ⟨_, .inr rfl, setFinish_self (fun f => { f with stage := .direct }) h⟩
    · exact ⟨x.finish, .inl rfl, h⟩
  · exact ⟨x.finish, .inl rfl, (beginDirect_others s n m same).trans h⟩

theorem judgeNotice_advanced {m : Nat} {x : SlotRec} (s : State) (h : s.slotRec m = some x) :
    ∃ finish, Advanced x.finish finish ∧ s.judgeNotice.slotRec m = some { x with finish := finish } := by
  unfold State.judgeNotice
  (repeat' split)
  · exact ⟨x.finish, .inl rfl, h⟩
  · exact beginDirect_advanced s _ h
  · exact ⟨x.finish, .inl rfl, h⟩
  · exact ⟨x.finish, .inl rfl, h⟩

theorem beginDirect_background (s : State) (n : Nat) : s.ks.background ⊆ (s.beginDirect n).ks.background := by
  unfold State.beginDirect
  (repeat' split)
  · exact List.Subset.refl _
  · exact List.subset_append_left _ _
  · exact List.Subset.refl _

theorem judgeNotice_background (s : State) : s.ks.background ⊆ s.judgeNotice.ks.background := by
  unfold State.judgeNotice
  (repeat' split)
  · exact List.Subset.refl _
  · exact beginDirect_background s _
  · exact List.Subset.refl _
  · exact List.Subset.refl _

/-- What the judgement of the notice in flight and the end of the step leave alone of a state (R166). -/
structure NoticeJudged (v t : State) : Prop where
  keys : t.keys = v.keys
  channels : t.channels = v.channels
  meters : SameMeters v t
  faults : t.faults = v.faults
  list : t.notices.list = v.notices.list
  comp : t.notices.comp = v.notices.comp
  notices : SameNotices v t
  control : SameControl v t
  cipher : t.ks.cipher = v.ks.cipher
  background : v.ks.background ⊆ t.ks.background
  record : ∀ m x, v.slotRec m = some x → ∃ finish, Advanced x.finish finish ∧ t.slotRec m = some { x with finish := finish }
  asked : ∀ q ∈ v.bus.injAsked, q ∈ t.requests
  wanted : ∀ m x state why, Wanted v m x state why → ResultAsked t m x state why

theorem noticeJudged (v : State) : NoticeJudged v v.judgeNotice.settle := by
  have record (m : Nat) (x : SlotRec) (h : v.slotRec m = some x) := judgeNotice_advanced v h
  have background := judgeNotice_background v
  obtain ⟨_, _, _, only⟩ := turned_judgeNotice v
  refine
    { keys := (State.settle_keys _).trans (by rw [only])
      channels := (State.settle_channels _).trans (by rw [only])
      meters := sameMeters_settle.2 (by rw [only]; exact ⟨rfl, rfl⟩)
      faults := (State.settle_faults _).trans (by rw [only])
      list := (settle_list _).trans (by rw [only])
      comp := (settle_comp _).trans (by rw [only])
      notices := SameNotices.settle (by rw [only]; rfl)
      control := SameControl.settle (by rw [only]; rfl)
      cipher := by rw [State.settle_ks, only]
      background := by rw [State.settle_ks]; exact background
      record := fun m x h => ?_
      asked := fun q hq => mem_requests_of_asked (by rw [only]; exact hq)
      wanted := fun m x state why h => Wanted.settle (by rw [only]; exact h) }
  obtain ⟨finish, advanced, found⟩ := record m x h
  exact ⟨finish, advanced, (State.settle_slotRec _ _).trans found⟩

theorem NoticeJudged.chan (h : NoticeJudged v t) (d : Fin 16) : t.chan d = v.chan d := by
  unfold State.chan
  rw [h.channels]

end Judged

/-! ## The block goes to its requester (R48) -/

section Returned

variable {s : State} {g : CipherGrant} {q : BgReq} {c : Fin 16} {n o b work : Nat} {out : Block} {r : SlotRec} {w : OfferWork}

theorem exec_backgroundCipherComplete (grant : s.ks.cipher = some g) (job : g.job = .background q)
    (kept : g.withdrawn = false) (hout : out = cipherBlock (s.materialOf g.key) g.input) (use : q.use.subkey = false) :
    exec .backgroundCipherComplete s =
      .next ((s.setCipher none).backgroundResult q.use out).judgeNotice.settle := by
  change execBackgroundCipherComplete s = _
  unfold execBackgroundCipherComplete Keystream.backgroundGrant
  rw [grant]
  dsimp only
  rw [job]
  dsimp only
  rw [if_neg (by simp [use]), if_neg (by simp [kept]), hout]
  rfl

theorem maskReturn_eq (live : s.finishing n o = some r) :
    s.maskReturn n o out = s.setFinish n fun f => { f with mask := some out } := by
  unfold State.maskReturn
  rw [live]

theorem noticeKeystream_eq {comp : Composition} (flight : s.notices.comp = some comp) (mine : comp.opening = o) :
    s.noticeKeystream o b out = State.fold { s with
      notices := { s.notices with
        comp := some { comp with cipher := comp.cipher.set (b - 1) (some (comp.plain.getD (b - 1) 0 ^^^ out)) } } }
      comp.recNo b (comp.plain.getD (b - 1) 0 ^^^ out) true := by
  unfold State.noticeKeystream State.compOf
  rw [flight]
  dsimp only
  rw [if_pos mine]

theorem offerBlock_stray (apart : ∀ v, (s.chan c).ruling = some v → v.id ≠ work)
    (given : ∀ v, (s.chan c).loading = some v → v.id ≠ work) : s.offerBlock c work b out = s := by
  unfold State.offerBlock
  cases ruling : (s.chan c).ruling <;> cases loading : (s.chan c).loading <;> dsimp only
  · exact if_neg (given _ loading)
  · exact if_neg (apart _ ruling)
  · rw [if_neg (apart _ ruling), if_neg (given _ loading)]

theorem offerBlock_ruling (ruling : (s.chan c).ruling = some w) : s.offerBlock c w.id b out = s.rulingBlock c w b out := by
  unfold State.offerBlock
  rw [ruling]
  cases (s.chan c).loading <;> exact if_pos rfl

theorem offerBlock_loading (apart : ∀ v, (s.chan c).ruling = some v → v.id ≠ w.id) (loading : (s.chan c).loading = some w) :
    s.offerBlock c w.id b out = s.loadingBlock c w b out := by
  unfold State.offerBlock
  rw [loading]
  cases ruling : (s.chan c).ruling with
  | none => exact if_pos rfl
  | some v =>
    dsimp only
    rw [if_neg (apart v ruling), if_pos rfl]

/-- A reading with these plaintext blocks in hand. -/
def OfferWork.holding (w : OfferWork) (got : List (Option Block)) : OfferWork := { w with plain := got }

theorem deciphered_eq {d : List Block} {got : List (Option Block)} (data : w.data = some d)
    (hgot : got = w.plain.set (b - 1) (some (d.getD (b - 1) 0 ^^^ out))) : w.deciphered b out = w.holding got := by
  unfold OfferWork.deciphered OfferWork.holding
  rw [data, hgot]
  rfl

theorem whole_none {got : List (Option Block)} (short : ∃ x ∈ got, x = none) : (w.holding got).whole = none := by
  obtain ⟨x, hx, rfl⟩ := short
  refine if_neg fun all => ?_
  have := List.all_eq_true.1 all none hx
  cases this

theorem whole_some {got : List (Option Block)} {plain : List Block} (full : got = plain.map some) :
    (w.holding got).whole = some plain := by
  have all : (w.holding got).plain.all Option.isSome = true := by
    simp [OfferWork.holding, full]
  unfold OfferWork.whole
  rw [if_pos all]
  simp [OfferWork.holding, full]

/-- The state in which a ruling's reading holds these blocks. -/
def State.rulingHolds (s : State) (c : Fin 16) (w : OfferWork) : State := s.setChan c fun x => { x with ruling := some w }

/-- The state in which a loading's reading holds these blocks. -/
def State.loadingHolds (s : State) (c : Fin 16) (w : OfferWork) : State := s.setChan c fun x => { x with loading := some w }

theorem rulingBlock_last {plain : List Block} (whole : (w.deciphered b out).whole = some plain) :
    s.rulingBlock c w b out = (s.rulingHolds c (w.deciphered b out)).settleRuling c w.recNo plain := by
  unfold State.rulingBlock
  dsimp only
  rw [whole]
  rfl

theorem rulingBlock_more (whole : (w.deciphered b out).whole = none) :
    s.rulingBlock c w b out = s.rulingHolds c (w.deciphered b out) := by
  unfold State.rulingBlock
  dsimp only
  rw [whole]
  rfl

theorem loadingBlock_last {plain : List Block} (whole : (w.deciphered b out).whole = some plain) :
    s.loadingBlock c w b out = (s.loadingHolds c (w.deciphered b out)).endLoading c plain := by
  unfold State.loadingBlock
  dsimp only
  rw [whole]
  rfl

theorem loadingBlock_more (whole : (w.deciphered b out).whole = none) :
    s.loadingBlock c w b out = s.loadingHolds c (w.deciphered b out) := by
  unfold State.loadingBlock
  dsimp only
  rw [whole]
  rfl

theorem rulingHolds_chan (d : Fin 16) :
    (s.rulingHolds c w).chan d = if d = c then { s.chan c with ruling := some w } else s.chan d :=
  State.chan_setChan s c d fun x => { x with ruling := some w }

theorem loadingHolds_chan (d : Fin 16) :
    (s.loadingHolds c w).chan d = if d = c then { s.chan c with loading := some w } else s.chan d :=
  State.chan_setChan s c d fun x => { x with loading := some w }

/-! ## Blocks that settle nothing -/

theorem block_returns (grant : s.ks.cipher = some g) (job : g.job = .background q) (kept : g.withdrawn = false)
    (hout : out = cipherBlock (s.materialOf g.key) g.input) (use : q.use.subkey = false) :
    ∃ t, exec .backgroundCipherComplete s = .next t ∧
      NoticeJudged ((s.setCipher none).backgroundResult q.use out) t :=
  ⟨_, exec_backgroundCipherComplete grant job kept hout use, noticeJudged _⟩

variable {t v : State}

theorem mask_returned (judged : NoticeJudged ((s.setCipher none).backgroundResult (.mask n o) out) t)
    (live : s.finishing n o = some r) : t.ks.cipher = none ∧ SameKeys s t ∧ SameMeters s t ∧ SameFaults s t ∧
      ∃ w f, t.slotRec n = some w ∧ w.finish = some f ∧ f.mask = some out ∧ w.state = r.state ∧ w.acc = r.acc := by
  rw [show (s.setCipher none).backgroundResult (.mask n o) out = _ from maskReturn_eq (s := s.setCipher none) live] at judged
  obtain ⟨h, -⟩ := finishing_facts live
  obtain ⟨f, finish⟩ : ∃ f, r.finish = some f := by
    unfold State.finishing at live
    rw [h] at live
    dsimp only at live
    split at live
    next both => exact Option.isSome_iff_exists.1 both.2
    next => cases live
  obtain ⟨finish', advanced, found⟩ := judged.record n _
    (setFinish_self (s := s.setCipher none) (fun f => { f with mask := some out }) h)
  refine ⟨judged.cipher, ⟨judged.keys, judged.channels⟩, judged.meters, judged.faults, ?_⟩
  rw [finish] at advanced
  rcases advanced with rfl | rfl
  · exact ⟨_, _, found, rfl, rfl, rfl, rfl⟩
  · exact ⟨_, _, found, rfl, rfl, rfl, rfl⟩

theorem notice_returned {comp : Composition} (judged : NoticeJudged ((s.setCipher none).backgroundResult (.noticeBlock o b) out) t)
    (flight : s.notices.comp = some comp) (mine : comp.opening = o) : t.ks.cipher = none ∧ SameKeys s t ∧ SameMeters s t ∧
      SameFaults s t ∧ t.notices.comp = some { comp with
        cipher := comp.cipher.set (b - 1) (some (comp.plain.getD (b - 1) 0 ^^^ out)) } := by
  rw [show (s.setCipher none).backgroundResult (.noticeBlock o b) out = _ from
    noticeKeystream_eq (s := s.setCipher none) flight mine] at judged
  obtain ⟨v, hv⟩ : ∃ v : State, v = { s.setCipher none with
    notices := { s.notices with
      comp := some { comp with cipher := comp.cipher.set (b - 1) (some (comp.plain.getD (b - 1) 0 ^^^ out)) } } } := ⟨_, rfl⟩
  rw [show { s.setCipher none with
    notices := { (s.setCipher none).notices with
      comp := some { comp with cipher := comp.cipher.set (b - 1) (some (comp.plain.getD (b - 1) 0 ^^^ out)) } } } = v
    from hv.symm] at judged
  have served := served_fold v comp.recNo b (comp.plain.getD (b - 1) 0 ^^^ out) true
  obtain ⟨⟨_, _, _, _, only⟩, -⟩ := finishing_fold v comp.recNo b (comp.plain.getD (b - 1) 0 ^^^ out) true
  have faults : (v.fold comp.recNo b (comp.plain.getD (b - 1) 0 ^^^ out) true).faults = v.faults := by rw [only]
  refine ⟨judged.cipher.trans (served.engines.1.trans (by rw [hv]; rfl)),
    ⟨judged.keys.trans (served.store.trans (by rw [hv]; rfl)), judged.channels.trans (served.channels.trans (by rw [hv]; rfl))⟩,
    ⟨judged.meters.1.trans (served.meters.1.trans (by rw [hv]; rfl)),
      judged.meters.2.trans (served.meters.2.trans (by rw [hv]; rfl))⟩,
    judged.faults.trans (faults.trans (by rw [hv]; rfl)), ?_⟩
  rw [judged.comp, served.notices, hv]

theorem stray_returned (judged : NoticeJudged ((s.setCipher none).backgroundResult (.offerPlain c work b) out) t)
    (apart : ∀ w, (s.chan c).ruling = some w → w.id ≠ work) (given : ∀ w, (s.chan c).loading = some w → w.id ≠ work) :
    t.ks.cipher = none ∧ SameKeys s t ∧ SameMeters s t ∧ SameFaults s t ∧ SameNotices s t ∧ SameControl s t := by
  rw [show (s.setCipher none).backgroundResult (.offerPlain c work b) out = _ from
    offerBlock_stray (s := s.setCipher none) apart given] at judged
  exact ⟨judged.cipher, ⟨judged.keys, judged.channels⟩, judged.meters, judged.faults, judged.notices, judged.control⟩

/-- A plaintext block that is not the last joins its reading (R136). -/
theorem more_returned {d : List Block} {got : List (Option Block)}
    (judged : NoticeJudged ((s.setCipher none).backgroundResult (.offerPlain c w.id b) out) t) (data : w.data = some d)
    (hgot : got = w.plain.set (b - 1) (some (d.getD (b - 1) 0 ^^^ out))) (short : ∃ x ∈ got, x = none)
    (live : (s.chan c).ruling = some w ∨ ((s.chan c).loading = some w ∧ ∀ v, (s.chan c).ruling = some v → v.id ≠ w.id)) :
    t.ks.cipher = none ∧ t.keys = s.keys ∧ SameMeters s t ∧ SameFaults s t ∧ OtherChannels s t c ∧
      t.chan c = (if (s.chan c).ruling = some w then { s.chan c with ruling := some { w with plain := got } }
        else { s.chan c with loading := some { w with plain := got } }) := by
  have held := deciphered_eq (out := out) data hgot
  have more : (w.deciphered b out).whole = none := by
    rw [held]
    exact whole_none short
  rcases live with ruling | ⟨loading, apart⟩
  · rw [show (s.setCipher none).backgroundResult (.offerPlain c w.id b) out = _ from
      (offerBlock_ruling (s := s.setCipher none) ruling).trans (rulingBlock_more more), held] at judged
    refine ⟨judged.cipher, judged.keys, judged.meters, judged.faults, fun d hd => ?_, ?_⟩
    · rw [judged.chan, rulingHolds_chan, if_neg hd]
      rfl
    · rw [judged.chan, rulingHolds_chan, if_pos rfl, if_pos ruling]
      rfl
  · rw [show (s.setCipher none).backgroundResult (.offerPlain c w.id b) out = _ from
      (offerBlock_loading (s := s.setCipher none) apart loading).trans (loadingBlock_more more), held] at judged
    refine ⟨judged.cipher, judged.keys, judged.meters, judged.faults, fun d hd => ?_, ?_⟩
    · rw [judged.chan, loadingHolds_chan, if_neg hd]
      rfl
    · rw [judged.chan, loadingHolds_chan, if_pos rfl, if_neg fun ruling => apart w ruling rfl]
      rfl

end Returned

end Sys2Proof.Machine

end

section
/-!
SUPPORT. A ruling settled with its payload in hand: its verdict, and the offer that is handed on (R137 to R139).
-/

namespace Sys2Proof.Machine
-- One theorem at a time: elaborated side by side, each would hold a stack of its own.
set_option Elab.async false

/-! ## Changes of one channel, one after the other -/

section Channels

variable {s : State} {c : Fin 16}

theorem setChan_setChan (s : State) (c : Fin 16) (f g : Channel → Channel) :
    (s.setChan c f).setChan c g = s.setChan c fun x => g (f x) := by
  unfold State.setChan
  simp

theorem setChan_congr {f g : Channel → Channel} (h : f (s.chan c) = g (s.chan c)) : s.setChan c f = s.setChan c g := by
  unfold State.chan at h
  unfold State.setChan
  rw [h]

end Channels

/-! ## The hold cleared (R140, R146) -/

section Cleared

variable {s : State} {c : Fin 16} {h : Hold} {x : SlotRec}

theorem judgeKey_cipher {k : Fin 32} (idle : s.ks.cipher = none) : (s.judgeKey k).ks.cipher = none := by
  unfold State.judgeKey
  (repeat' split)
  · exact idle
  · exact idle
  · have kept : (s.zeroise k).ks.cipher = (s.keystreamPurged k).ks.cipher := (served_withdrawKeystream s k).engines.1
    rw [kept]
    unfold State.keystreamPurged
    rw [idle]
    rfl
  · exact idle
  · exact idle

/-- The state in which a hold and its loading are gone, its reference not yet dropped (R140). -/
def State.holdless (s : State) (c : Fin 16) (h : Hold) : State :=
  (s.setChan c fun x => { x with hold := none, loading := none, installBuf := none }).unclaim h.recNo

theorem clearHold_eq (held : (s.chan c).hold = some h) : s.clearHold c = (s.holdless c h).dropRef h.key := by
  unfold State.clearHold
  rw [held]
  rfl

theorem clearHold_none (empty : (s.chan c).hold = none) : s.clearHold c = s := by
  unfold State.clearHold
  rw [empty]

theorem kept_clearHold (held : (s.chan c).hold = some h) : Kept (s.holdless c h) (s.clearHold c) := by
  rw [clearHold_eq held]
  exact kept_dropRef _ _

theorem clearHold_chan (held : (s.chan c).hold = some h) (d : Fin 16) : (s.clearHold c).chan d =
    if d = c then { s.chan c with hold := none, loading := none, installBuf := none } else s.chan d :=
  ((kept_clearHold held).chan d).trans
    (State.chan_setChan s c d fun x => { x with hold := none, loading := none, installBuf := none })

theorem clearHold_cipher (idle : s.ks.cipher = none) : (s.clearHold c).ks.cipher = none := by
  cases held : (s.chan c).hold with
  | none => rwa [clearHold_none held]
  | some h =>
    rw [clearHold_eq held]
    exact judgeKey_cipher (s := (s.holdless c h).untakeRef h.key) idle

/-- The role of a key slot depends on its owner and on the roles of the channels alone (R97). -/
theorem keyRole_of_roles {t : State} {k : Fin 32} (owner : (t.key k).owner = (s.key k).owner)
    (roles : ∀ d, (t.chan d).cur = (s.chan d).cur ∧ (t.chan d).next = (s.chan d).next ∧ (t.chan d).prev = (s.chan d).prev) :
    t.keyRole k = s.keyRole k := by
  unfold State.keyRole
  rw [owner]
  cases (s.key k).owner with
  | none => rfl
  | some d =>
    obtain ⟨cur, next, prev⟩ := roles d
    dsimp only
    rw [cur, next, prev]

/-- A change of one channel that leaves its roles leaves those of every channel (R97). -/
theorem roles_of_chan {t : State} {y : Channel} (chan : ∀ d, t.chan d = if d = c then y else s.chan d)
    (roles : y.cur = (s.chan c).cur ∧ y.next = (s.chan c).next ∧ y.prev = (s.chan c).prev) (d : Fin 16) :
    (t.chan d).cur = (s.chan d).cur ∧ (t.chan d).next = (s.chan d).next ∧ (t.chan d).prev = (s.chan d).prev := by
  rw [chan]
  split
  · rename_i same
    rw [same]
    exact roles
  · exact ⟨rfl, rfl, rfl⟩

theorem holdless_keyRole (s : State) (c : Fin 16) (h : Hold) (k : Fin 32) : (s.holdless c h).keyRole k = s.keyRole k :=
  keyRole_of_roles rfl (roles_of_chan (c := c)
    (fun d => State.chan_setChan s c d fun x => { x with hold := none, loading := none, installBuf := none }) ⟨rfl, rfl, rfl⟩)

/-- What becomes of the record and the key slot of a hold that was the last to name it (R118, R140). -/
structure HoldCleared (h : Hold) (x : SlotRec) (s t : State) : Prop where
  key : t.key h.key = KeySlot.zeroised
  otherKeys : OtherKeys s t h.key
  freeList : t.keys.freeList = s.keys.freeList ++ [h.key]
  faults : t.faults = s.faults
  record : ∃ y, t.slotRec h.recNo = some y ∧ BooksOnly { x with claimed := false } y

theorem holdCleared (held : (s.chan c).hold = some h) (found : s.slotRec h.recNo = some x) (role : s.keyRole h.key = none)
    (used : (s.key h.key).state ≠ .free) (last : (s.key h.key).refs = 1) (quiet : s.ks.overflow = []) :
    HoldCleared h x s (s.clearHold c) := by
  have record : (s.holdless c h).slotRec h.recNo = some { x with claimed := false } :=
    setRec_self (s := s.setChan c fun x => { x with hold := none, loading := none, installBuf := none })
      (fun r => { r with claimed := false }) found
  have kept := (kept_clearHold held).records record
  obtain ⟨key, freeList⟩ := dropRef_last (s := s.holdless c h) used ((holdless_keyRole s c h h.key).trans role) last
  have others := dropRef_others (s.holdless c h) h.key
  have faults := (dropRef_silent (s := s.holdless c h) (k := h.key) (.inr quiet)).1
  rw [← clearHold_eq held] at key freeList others faults
  exact ⟨key, others, freeList, faults, kept⟩

end Cleared

/-! ## What an offer that is handed on leaves alone (R139) -/

section Beside

variable {s t u : State} {c : Fin 16} {n : Nat} {r x : SlotRec} {h : Hold}

/-- Nothing but the hold of a channel and its loading has changed of the channels, and the cipher engine is as idle. -/
structure Beside (c : Fin 16) (s t : State) : Prop where
  cipher : s.ks.cipher = none → t.ks.cipher = none
  meters : SameMeters s t
  channels : ∀ d, ∃ hold loading buf, t.chan d =
    if d = c then { s.chan c with hold := hold, loading := loading, installBuf := buf } else s.chan d

/-- Besides, a record keeps its state and its reason, and its header result write stays asked for. -/
structure Onward (c : Fin 16) (s t : State) : Prop extends Beside c s t where
  record : ∀ m x, s.slotRec m = some x → ∃ y, t.slotRec m = some y ∧ y.state = x.state ∧ y.reason = x.reason
  wanted : ∀ m x state why, Wanted s m x state why → Wanted t m x state why

theorem Onward.trans (h : Onward c s t) (g : Onward c t u) : Onward c s u where
  cipher idle := g.cipher (h.cipher idle)
  meters := ⟨g.meters.1.trans h.meters.1, g.meters.2.trans h.meters.2⟩
  channels d := by
    obtain ⟨hold, loading, buf, later⟩ := g.channels d
    obtain ⟨hold', loading', buf', first⟩ := h.channels d
    by_cases same : d = c
    · subst same
      rw [if_pos rfl] at first later
      refine ⟨hold, loading, buf, ?_⟩
      rw [if_pos rfl, later, first]
    · rw [if_neg same] at first later
      exact ⟨hold, loading, buf, by rw [if_neg same, later, first]⟩
  record m x hx := by
    obtain ⟨y, found, state, reason⟩ := h.record m x hx
    obtain ⟨z, found', state', reason'⟩ := g.record m y found
    exact ⟨z, found', state'.trans state, reason'.trans reason⟩
  wanted m x state why asked := g.wanted m x state why (h.wanted m x state why asked)

theorem unmoved (s : State) (c d : Fin 16) : ∃ hold loading buf, s.chan d =
    if d = c then { s.chan c with hold := hold, loading := loading, installBuf := buf } else s.chan d := by
  refine ⟨(s.chan c).hold, (s.chan c).loading, (s.chan c).installBuf, ?_⟩
  split
  · rename_i same
    rw [same]
  · rfl

theorem onward_kept (c : Fin 16) (kept : Kept s t) (cipher : s.ks.cipher = none → t.ks.cipher = none) : Onward c s t where
  cipher := cipher
  meters := kept.meters
  channels d := by
    rw [kept.chan]
    exact unmoved s c d
  record m x hx := by
    obtain ⟨y, found, _, _, _, rfl⟩ := kept.records hx
    exact ⟨_, found, rfl, rfl⟩
  wanted _ _ _ _ asked := asked.framed kept.toFramed

theorem onward_refl (s : State) (c : Fin 16) : Onward c s s := onward_kept c (Kept.refl s) id

theorem onward_recordFault (c : Fin 16) (s : State) {o : Occurrence} (mild : o.severity ≠ .fatal) :
    Onward c s (s.recordFault o) :=
  onward_kept c (served_recordFault mild).toKept fun idle => (congrArg Keystream.cipher (recordFault_ks s o)).trans idle

theorem onward_setKey (c : Fin 16) (s : State) (k : Fin 32) (f : KeySlot → KeySlot) : Onward c s (s.setKey k f) :=
  onward_kept c (kept_setKey s k f) id

/-- A claim on a record set or given up. -/
theorem onward_claim (c : Fin 16) (s : State) (m : Nat) (claimed : Bool) :
    Onward c s (s.setRec m fun r => { r with claimed := claimed }) where
  cipher := id
  meters := ⟨rfl, rfl⟩
  channels := unmoved s c
  record n x hx := by
    by_cases same : n = m
    · subst same
      exact ⟨_, setRec_self (fun r => { r with claimed := claimed }) hx, rfl, rfl⟩
    · exact ⟨x, (setRec_others s m (fun r => { r with claimed := claimed }) n same).trans hx, rfl, rfl⟩
  wanted _ _ _ _ asked := asked

theorem onward_setHold (c : Fin 16) (s : State) (f : Channel → Channel)
    (h : ∃ hold loading buf, f (s.chan c) = { s.chan c with hold := hold, loading := loading, installBuf := buf }) :
    Onward c s (s.setChan c f) where
  cipher := id
  meters := ⟨rfl, rfl⟩
  channels d := by
    obtain ⟨hold, loading, buf, eq⟩ := h
    exact ⟨hold, loading, buf, by rw [State.chan_setChan, eq]⟩
  record _ x hx := ⟨x, hx, rfl, rfl⟩
  wanted _ _ _ _ asked := asked

theorem onward_startLoading (s : State) (c : Fin 16) : Onward c s (s.startLoading c) := by
  obtain ⟨loading, stamp, asked, only, -⟩ := startLoading_only s c
  have placed := onward_setHold c s (fun x => { x with loading := loading }) ⟨_, _, _, rfl⟩
  rw [only]
  exact
    { cipher := placed.cipher
      meters := placed.meters
      channels := placed.channels
      record := placed.record
      wanted := fun m x state why ⟨q, hq, op, start, access⟩ =>
        ⟨q, List.mem_append_left _ hq, op, start, access⟩ }

theorem onward_clearHold (s : State) (c : Fin 16) : Onward c s (s.clearHold c) := by
  cases held : (s.chan c).hold with
  | none =>
    rw [clearHold_none held]
    exact onward_refl s c
  | some h =>
    have begun : Onward c s (s.holdless c h) :=
      (onward_setHold c s (fun x => { x with hold := none, loading := none, installBuf := none }) ⟨_, _, _, rfl⟩).trans
        (onward_claim c _ h.recNo false)
    refine begun.trans (onward_kept c (kept_clearHold held) fun idle => ?_)
    exact clearHold_cipher (s := s) idle

theorem mild_offerFault (c : Fin 16) (cls : FaultClass) (r : SlotRec) (mild : cls.severity ≠ .fatal) :
    (offerFaultOn c cls r).severity ≠ .fatal := mild

theorem onward_offerFault (s : State) (c : Fin 16) {cls : FaultClass} (n : Nat) (mild : cls.severity ≠ .fatal) :
    Onward c s (s.offerFault c cls n) :=
  onward_recordFault c s (o := occurrence cls (some c) _ _ none) mild

theorem onward_displaceHold (s : State) (c : Fin 16) : Onward c s (s.displaceHold c) := by
  unfold State.displaceHold
  split
  · exact onward_refl s c
  · exact (onward_clearHold s c).trans (onward_offerFault _ c _ (by simp [FaultClass.severity]))

end Beside

/-! ## The new offer takes its place (R139) -/

section Held

variable {s : State} {c : Fin 16} {n : Nat} {r x : SlotRec} {h : Hold} {serial : BitVec 32} {gen : Byte} {k : Fin 32}
  {rest : List (Fin 32)}

/-- The state in which the head of the free list has been allocated to a channel (R117). -/
def State.allocated (s : State) (c : Fin 16) (k : Fin 32) (rest : List (Fin 32)) : State :=
  { s with keys := { s.keys with freeList := rest } }.setKey k fun x =>
    { x with state := .staged, owner := some c, refs := 1, nextSeq := 1 }

theorem allocated_key (s : State) (c : Fin 16) (k j : Fin 32) (rest : List (Fin 32)) : (s.allocated c k rest).key j =
    if j = k then { s.key k with state := .staged, owner := some c, refs := 1, nextSeq := 1 } else s.key j :=
  State.key_setKey { s with keys := { s.keys with freeList := rest } } k j fun x =>
    { x with state := .staged, owner := some c, refs := 1, nextSeq := 1 }

/-- The state in which an empty hold has taken an offer with the key slot at the head of the free list (R139). -/
def State.offerHeld (s : State) (c : Fin 16) (n : Nat) (serial : BitVec 32) (gen : Byte) (k : Fin 32)
    (rest : List (Fin 32)) : State :=
  ((s.allocated c k rest).setRec n fun r => { r with claimed := true }).setChan c fun x =>
    { x with hold := some ⟨n, serial, gen, k⟩ }

theorem handOn_full (full : (s.displaceHold c).keys.freeList = []) :
    s.handOn c n serial gen = (s.displaceHold c).offerFault c .keyStoreFull n := by
  unfold State.handOn State.allocate
  dsimp only
  rw [full]

theorem handOn_held (free : (s.displaceHold c).keys.freeList = k :: rest) : s.handOn c n serial gen =
    if (((s.displaceHold c).offerHeld c n serial gen k rest).chan c).renewal = .installing then
      (s.displaceHold c).offerHeld c n serial gen k rest
    else ((s.displaceHold c).offerHeld c n serial gen k rest).startLoading c := by
  unfold State.handOn State.allocate
  dsimp only
  rw [free]
  rfl

theorem onward_offerHeld (s : State) (c : Fin 16) (n : Nat) (serial : BitVec 32) (gen : Byte) (k : Fin 32)
    (rest : List (Fin 32)) : Onward c s (s.offerHeld c n serial gen k rest) := by
  have listed : Onward c s { s with keys := { s.keys with freeList := rest } } := onward_kept c (kept_withKeys s _) id
  have allocated : Onward c s (s.allocated c k rest) := listed.trans (onward_setKey c _ k _)
  exact (allocated.trans (onward_claim c _ n true)).trans (onward_setHold c _ _ ⟨_, _, _, rfl⟩)

theorem onward_handOn (s : State) (c : Fin 16) (n : Nat) (serial : BitVec 32) (gen : Byte) :
    Onward c s (s.handOn c n serial gen) := by
  have first := onward_displaceHold s c
  cases free : (s.displaceHold c).keys.freeList with
  | nil =>
    rw [handOn_full free]
    exact first.trans (onward_offerFault _ c n (by simp [FaultClass.severity]))
  | cons k rest =>
    have held := first.trans (onward_offerHeld (s.displaceHold c) c n serial gen k rest)
    rw [handOn_held free]
    split
    · exact held
    · exact held.trans (onward_startLoading _ c)

/-- What an offer that has taken the empty hold of its channel looks like (R139, R140). -/
structure Seized (c : Fin 16) (n : Nat) (serial : BitVec 32) (gen : Byte) (k : Fin 32) (s t : State) : Prop where
  hold : (t.chan c).hold = some ⟨n, serial, gen, k⟩
  freeList : t.keys.freeList = s.keys.freeList.tail
  key : t.key k = { s.key k with state := .staged, owner := some c, refs := 1, nextSeq := 1 }
  otherKeys : OtherKeys s t k
  faults : t.faults = s.faults
  record : ∀ x, s.slotRec n = some x → t.slotRec n = some { x with claimed := true }
  others : OtherRecords s t n

theorem offerHeld_chan : (s.offerHeld c n serial gen k rest).chan c = { s.chan c with hold := some ⟨n, serial, gen, k⟩ } :=
  State.chan_setChan_self _ c _

theorem offerHeld_seized (free : s.keys.freeList = k :: rest) :
    Seized c n serial gen k s (s.offerHeld c n serial gen k rest) where
  hold := by rw [offerHeld_chan]
  freeList := by
    rw [free]
    rfl
  key := (allocated_key s c k k rest).trans (if_pos rfl)
  otherKeys j hj := (allocated_key s c k j rest).trans (if_neg hj)
  faults := rfl
  record x hx := setRec_self (s := s.allocated c k rest) (fun r => { r with claimed := true }) hx
  others := setRec_others (s.allocated c k rest) n fun r => { r with claimed := true }

theorem startLoading_eq (held : (s.chan c).hold = some h) (found : s.slotRec h.recNo = some x) : s.startLoading c =
    (s.setChan c fun y => { y with loading := some (OfferWork.begin s.stamp h.recNo) }).bump.askSlot
      (.offerRead c s.stamp) 2 x 32 (.read 8) := by
  unfold State.startLoading
  rw [held]
  exact askOffer_eq (s := (s.setChan c fun y => { y with loading := some (OfferWork.begin s.stamp h.recNo) }).bump) found _

theorem startLoading_loads (held : (s.chan c).hold = some h) (found : s.slotRec h.recNo = some x) :
    ((s.startLoading c).chan c).loading = some (OfferWork.begin s.stamp h.recNo) ∧
      ∃ a ∈ (s.startLoading c).bus.injAsked, a.op = .offerRead c s.stamp ∧ a.start = s.slotBase x + 32 ∧
        a.access = .read 8 := by
  rw [startLoading_eq held found]
  exact ⟨congrArg Channel.loading
    (State.chan_setChan_self s c fun y => { y with loading := some (OfferWork.begin s.stamp h.recNo) }), _,
      mem_injAsked_ask _ _, rfl, rfl, rfl⟩

theorem Seized.loading {t : State} (h : Seized c n serial gen k s t) : Seized c n serial gen k s (t.startLoading c) := by
  obtain ⟨loading, loads⟩ := startLoading_chan t c c
  rw [if_pos rfl] at loads
  obtain ⟨_, _, _, only, -⟩ := startLoading_only t c
  refine
    { hold := by rw [loads]; exact h.hold
      freeList := by rw [only]; exact h.freeList
      key := by rw [only]; exact h.key
      otherKeys := by rw [only]; exact h.otherKeys
      faults := by rw [only]; exact h.faults
      record := by rw [only]; exact h.record
      others := by rw [only]; exact h.others }

theorem displaceHold_none (empty : (s.chan c).hold = none) : s.displaceHold c = s := by
  unfold State.displaceHold
  rw [empty]

/-- The offer takes its hold, whatever was displaced from it (R139). -/
theorem handOn_seized (free : (s.displaceHold c).keys.freeList = k :: rest) :
    Seized c n serial gen k (s.displaceHold c) (s.handOn c n serial gen) := by
  have held := offerHeld_seized (c := c) (n := n) (serial := serial) (gen := gen) free
  rw [handOn_held free]
  split
  · exact held
  · exact held.loading

/-- The loading of an offer that took an empty hold starts unless an install is under way (R140). -/
theorem handOn_loads (empty : (s.chan c).hold = none) (free : s.keys.freeList = k :: rest) (found : s.slotRec n = some x) :
    ((s.chan c).renewal ≠ .installing → ∃ v, ((s.handOn c n serial gen).chan c).loading = some v ∧ v.recNo = n ∧
      ∃ a ∈ (s.handOn c n serial gen).bus.injAsked, a.op = .offerRead c v.id ∧ a.start = s.slotBase x + 32 ∧
        a.access = .read 8) ∧
    ((s.chan c).renewal = .installing → ((s.handOn c n serial gen).chan c).loading = (s.chan c).loading) := by
  have same := displaceHold_none empty
  have eq := handOn_held (s := s) (c := c) (n := n) (serial := serial) (gen := gen) (by rw [same]; exact free)
  rw [same, offerHeld_chan] at eq
  refine ⟨fun idle => ?_, fun installing => ?_⟩
  · have taken := (offerHeld_seized (c := c) (serial := serial) (gen := gen) free).record x found
    have held : ((s.offerHeld c n serial gen k rest).chan c).hold = some ⟨n, serial, gen, k⟩ := by rw [offerHeld_chan]
    obtain ⟨loading, asked⟩ := startLoading_loads held taken
    rw [eq, if_neg idle]
    exact ⟨_, loading, rfl, asked⟩
  · rw [eq, if_pos installing, offerHeld_chan]

end Held

end Sys2Proof.Machine

end

section
/-!
SUPPORT. The verdicts of a ruling that has its payload in hand (R86, R87, R137, R138).
-/

namespace Sys2Proof.Machine
-- One theorem at a time: elaborated side by side, each would hold a stack of its own.
set_option Elab.async false

/-! ## A record that passes (R88, R89) -/

section Passed

variable {s t u : State} {c : Fin 16} {n serial : Nat} {r : SlotRec} {why : Reason} {w : OfferWork} {what : OfferPass}

/-- An inbound record that passed (R88). -/
def SlotRec.passedWith (r : SlotRec) : SlotRec :=
  { r with
    state := .passed, reason := .none, opening := none, finish := none, tagRead := none, noted := none }

theorem passRec_eq (h : s.slotRec n = some r) (channel : r.channel = some c) : s.passRec n =
    ((s.setRec n SlotRec.passedWith).askResult n).setChan c fun x => { x with rejects := 0 } := by
  unfold State.passRec
  rw [h]
  dsimp only [Option.bind]
  rw [channel]
  rfl

/-- What a verdict of PASSED leaves behind (R88, R89). -/
structure Passed (c : Fin 16) (n : Nat) (r : SlotRec) (s t : State) : Prop where
  keys : t.keys = s.keys
  frames : t.ks = s.ks
  meters : SameMeters s t
  notices : t.notices = s.notices
  faults : t.faults = s.faults
  clock : t.time = s.time
  windows : t.windows = s.windows
  chan : ∀ d, t.chan d = if d = c then { s.chan c with rejects := 0 } else s.chan d
  record : t.slotRec n = some r.passedWith
  others : OtherRecords s t n
  wanted : Wanted t n r .passed .none

theorem askResult_only (s : State) (n : Nat) : ∃ asked, s.askResult n = { s with bus := { s.bus with injAsked := asked } } := by
  unfold State.askResult
  split <;> exact ⟨_, rfl⟩

theorem passRec_passed (h : s.slotRec n = some r) (channel : r.channel = some c) : Passed c n r s (s.passRec n) := by
  have own : (s.setRec n SlotRec.passedWith).slotRec n = some r.passedWith := setRec_self SlotRec.passedWith h
  have record (m : Nat) := askResult_slotRec (s.setRec n SlotRec.passedWith) n m
  have wanted : Wanted ((s.setRec n SlotRec.passedWith).askResult n) n r .passed .none :=
    Wanted.congr (wanted_askResult own) rfl rfl rfl
  obtain ⟨asked, only⟩ := askResult_only (s.setRec n SlotRec.passedWith) n
  rw [passRec_eq h channel]
  refine
    { keys := by rw [only]; rfl
      frames := by rw [only]; rfl
      meters := by rw [only]; exact ⟨rfl, rfl⟩
      notices := by rw [only]; rfl
      faults := by rw [only]; rfl
      clock := by rw [only]; rfl
      windows := by rw [only]; rfl
      chan := fun d => ?_
      record := (record n).trans own
      others := fun m hm => (record m).trans (setRec_others s n SlotRec.passedWith m hm)
      wanted := wanted }
  rw [only]
  exact State.chan_setChan s c d fun x => { x with rejects := 0 }

/-! ## The verdicts of a ruling (R86, R87) -/

/-- A reason noted on the slot is the verdict, and CHANNEL_DOWN that of a DISABLED channel. -/
theorem rulingPass_refuses (h : s.slotRec n = some r) (unkeyed : r.keySlot = none)
    (verdict : r.noted = some why ∨ (r.noted = none ∧ (s.chan c).state = .disabled ∧ why = .channelDown)) :
    s.rulingPass c n what = (s.endRuling c).rejectRec n why := by
  have rejected (why : Reason) := reject_unkeyed (s := s.endRuling c) (n := n) (why := why) h unkeyed
  unfold State.rulingPass
  dsimp only
  rw [h]
  dsimp only [Option.bind]
  rcases verdict with noted | ⟨free, disabled, rfl⟩
  · rw [noted]
    exact rejected why
  · rw [free, disabled]
    exact rejected _

theorem rulingPass_passes (h : s.slotRec n = some r) (free : r.noted = none) (enabled : (s.chan c).state ≠ .disabled) :
    s.rulingPass c n what = (s.endRuling c).passOffer n c what := by
  unfold State.rulingPass
  dsimp only
  rw [h]
  dsimp only [Option.bind]
  rw [free]
  cases state : (s.chan c).state with
  | disabled => exact absurd state enabled
  | guarded => rfl
  | opened => rfl

/-! ## The mark, and the payload's checks (R137, R138) -/

/-- The state in which a ruling's reading is whole and the mark has been judged (R137). -/
def State.rulingMarked (s : State) (c : Fin 16) (w : OfferWork) (serial : Nat) : State :=
  s.setChan c fun x => { x with ruling := some w, highMark := max x.highMark serial }

theorem rulingMarked_chan (d : Fin 16) : (s.rulingMarked c w serial).chan d =
    if d = c then { s.chan c with ruling := some w, highMark := max (s.chan c).highMark serial } else s.chan d :=
  State.chan_setChan s c d fun x => { x with ruling := some w, highMark := max x.highMark serial }

theorem rulingHolds_raised (above : (s.chan c).highMark < serial) :
    (s.rulingHolds c w).raiseHighMark c serial = s.rulingMarked c w serial := by
  unfold State.rulingHolds State.raiseHighMark State.rulingMarked
  rw [setChan_setChan]
  exact setChan_congr (by simp [max_eq_right above.le])

theorem rulingHolds_within (within : serial ≤ (s.chan c).highMark) : s.rulingHolds c w = s.rulingMarked c w serial :=
  setChan_congr (by simp [max_eq_left within])

theorem acceptable_iff {plain : List Block} : s.offerAcceptable c plain = true ↔
    offerField plain 4 8 = 0 ∧ offerField plain 56 64 = 0 ∧
      ∀ k, (s.chan c).cur = some k → offerGen plain = (s.key k).gen + 1 := by
  unfold State.offerAcceptable offerZeros State.genAcceptable
  cases (s.chan c).cur with
  | none => simp
  | some k => simp [and_assoc]

/-- Whether a key slot is the one that an offer repeats (R138). -/
def State.Repeats (s : State) (serial : BitVec 32) (plain : List Block) (k : Fin 32) : Prop :=
  (s.key k).load = .loaded ∧ (s.key k).serial = serial ∧ (s.key k).nonce = offerNonce plain

theorem repeatOf_none {serial : BitVec 32} {plain : List Block}
    (h : ∀ k, (s.chan c).next = some k ∨ (s.chan c).cur = some k → ¬ s.Repeats serial plain k) :
    s.repeatOf c serial plain = none := by
  unfold State.Repeats at h
  unfold State.repeatOf
  cases next : (s.chan c).next <;> cases cur : (s.chan c).cur <;> simp_all

theorem repeatOf_next {serial : BitVec 32} {plain : List Block} {k : Fin 32} (next : (s.chan c).next = some k)
    (h : s.Repeats serial plain k) : s.repeatOf c serial plain = some k := by
  obtain ⟨loaded, hserial, nonce⟩ := h
  unfold State.repeatOf
  simp [next, loaded, hserial, nonce]

theorem repeatOf_cur {serial : BitVec 32} {plain : List Block} {k : Fin 32} (cur : (s.chan c).cur = some k)
    (h : s.Repeats serial plain k) (apart : ∀ j, (s.chan c).next = some j → ¬ s.Repeats serial plain j) :
    s.repeatOf c serial plain = some k := by
  obtain ⟨loaded, hserial, nonce⟩ := h
  unfold State.Repeats at apart
  unfold State.repeatOf
  cases next : (s.chan c).next with
  | none => simp [cur, loaded, hserial, nonce]
  | some j => simp [cur, loaded, hserial, nonce, apart j next]

theorem repeatOf_some {serial : BitVec 32} {plain : List Block}
    (h : ∃ k, ((s.chan c).next = some k ∨ (s.chan c).cur = some k) ∧ s.Repeats serial plain k) :
    ∃ k, s.repeatOf c serial plain = some k := by
  by_contra missing
  obtain ⟨k, role, repeats⟩ := h
  rcases role with next | cur
  · exact missing ⟨k, repeatOf_next next repeats⟩
  · by_cases other : ∃ j, (s.chan c).next = some j ∧ s.Repeats serial plain j
    · obtain ⟨j, next, first⟩ := other
      exact missing ⟨j, repeatOf_next next first⟩
    · exact missing ⟨k, repeatOf_cur cur repeats fun j next first => other ⟨j, next, first⟩⟩

theorem rulingHolds_repeatOf (plain : List Block) (seq : BitVec 32) :
    (s.rulingHolds c w).repeatOf c seq plain = s.repeatOf c seq plain := by
  unfold State.repeatOf
  rw [rulingHolds_chan, if_pos rfl]
  rfl

/-! ## The four ways a ruling is settled -/

variable {plain : List Block} {seq : BitVec 32}

theorem settleRuling_new (h : s.slotRec n = some r) (hseq : seq = r.seq.getD 0)
    (above : (s.chan c).highMark < seq.toNat) : (s.rulingHolds c w).settleRuling c n plain =
      if (s.rulingMarked c w seq.toNat).offerAcceptable c plain then
        (s.rulingMarked c w seq.toNat).rulingPass c n (.fresh seq (offerGen plain))
      else (s.rulingMarked c w seq.toNat).rulingReject c n .malformed .keySequence := by
  have mark : ((s.rulingHolds c w).chan c).highMark = (s.chan c).highMark := by rw [rulingHolds_chan, if_pos rfl]
  unfold State.settleRuling
  rw [show (s.rulingHolds c w).slotRec n = some r from h]
  dsimp only
  rw [← hseq, mark, if_pos above, rulingHolds_raised above]

theorem settleRuling_old (h : s.slotRec n = some r) (hseq : seq = r.seq.getD 0)
    (within : seq.toNat ≤ (s.chan c).highMark) :
    (∀ k, s.repeatOf c seq plain = some k →
      (s.rulingHolds c w).settleRuling c n plain = (s.rulingMarked c w seq.toNat).rulingPass c n (.repeated k)) ∧
    (s.repeatOf c seq plain = none →
      (s.rulingHolds c w).settleRuling c n plain = (s.rulingMarked c w seq.toNat).rulingReject c n .replayed .replayed) := by
  have mark : ((s.rulingHolds c w).chan c).highMark = (s.chan c).highMark := by rw [rulingHolds_chan, if_pos rfl]
  unfold State.settleRuling
  rw [show (s.rulingHolds c w).slotRec n = some r from h]
  dsimp only
  rw [← hseq, mark, if_neg (Nat.not_lt.2 within), rulingHolds_repeatOf, ← rulingHolds_within within]
  exact ⟨fun k repeated => by rw [repeated], fun fresh => by rw [fresh]⟩

/-! ## What every verdict leaves behind -/

/-- The channel and the engine after a ruling has been settled (R137, R138). -/
structure RulingSettled (c : Fin 16) (serial : Nat) (s t : State) : Prop where
  cipher : t.ks.cipher = none
  meters : SameMeters s t
  others : OtherChannels s t c
  ruling : (t.chan c).ruling = none
  queue : (t.chan c).rulingQueue = (s.chan c).rulingQueue.tail
  mark : (t.chan c).highMark = max (s.chan c).highMark serial
  cur : (t.chan c).cur = (s.chan c).cur
  next : (t.chan c).next = (s.chan c).next
  renewal : (t.chan c).renewal = (s.chan c).renewal

/-- The state in which a ruling has its verdict: its reading whole, the mark judged, and the engine idle again. -/
def State.rulingJudged (s : State) (c : Fin 16) (w : OfferWork) (serial : Nat) : State :=
  (s.setCipher none).rulingMarked c w serial

theorem rulingJudged_chan (d : Fin 16) : (s.rulingJudged c w serial).chan d =
    if d = c then { s.chan c with ruling := some w, highMark := max (s.chan c).highMark serial } else s.chan d :=
  rulingMarked_chan (s := s.setCipher none) d

theorem ended_chan (ended : RulingEnded c n r why (s.rulingJudged c w serial) u) (d : Fin 16) : u.chan d =
    if d = c then { s.chan c with
      ruling := none, rulingQueue := (s.chan c).rulingQueue.tail, highMark := max (s.chan c).highMark serial }
    else s.chan d := by
  rw [ended.chan, rulingJudged_chan, rulingJudged_chan, if_pos rfl]
  split <;> rfl

theorem settled_of_ended (ended : RulingEnded c n r why (s.rulingJudged c w serial) u) : RulingSettled c serial s u := by
  have own := (ended_chan ended c).trans (if_pos rfl)
  exact
    { cipher := by rw [ended.frames.1]; rfl
      meters := ended.meters
      others := fun d hd => (ended_chan ended d).trans (if_neg hd)
      ruling := by rw [own]
      queue := by rw [own]
      mark := by rw [own]
      cur := by rw [own]
      next := by rw [own]
      renewal := by rw [own] }

/-- The state in which the record of a ruling has passed. -/
def State.rulingPassed (s : State) (c : Fin 16) (w : OfferWork) (serial n : Nat) : State :=
  ((s.rulingJudged c w serial).endRuling c).passRec n

theorem rulingPassed_passed (h : s.slotRec n = some r) (channel : r.channel = some c) :
    Passed c n r ((s.rulingJudged c w serial).endRuling c) (s.rulingPassed c w serial n) :=
  passRec_passed (s := (s.rulingJudged c w serial).endRuling c) h channel

theorem rulingPassed_chan (h : s.slotRec n = some r) (channel : r.channel = some c) (d : Fin 16) :
    (s.rulingPassed c w serial n).chan d = if d = c then { s.chan c with
      ruling := none, rulingQueue := (s.chan c).rulingQueue.tail, highMark := max (s.chan c).highMark serial, rejects := 0 }
    else s.chan d := by
  rw [(rulingPassed_passed h channel).chan, endRuling_chan, endRuling_chan, rulingJudged_chan, rulingJudged_chan, if_pos rfl,
    if_pos rfl]
  split <;> rfl

theorem settled_of_passed (h : s.slotRec n = some r) (channel : r.channel = some c)
    (beside : Beside c (s.rulingPassed c w serial n) u) : RulingSettled c serial s u ∧ (u.chan c).rejects = 0 := by
  have passed := rulingPassed_passed (w := w) (serial := serial) h channel
  have before (d : Fin 16) := rulingPassed_chan (w := w) (serial := serial) h channel d
  obtain ⟨hold, loading, buf, own⟩ := beside.channels c
  rw [if_pos rfl, before c, if_pos rfl] at own
  refine
    ⟨{ cipher := beside.cipher (by rw [passed.frames]; rfl)
       meters := ⟨beside.meters.1.trans passed.meters.1, beside.meters.2.trans passed.meters.2⟩
       others := fun d hd => ?_
       ruling := by rw [own]
       queue := by rw [own]
       mark := by rw [own]
       cur := by rw [own]
       next := by rw [own]
       renewal := by rw [own] }, by rw [own]⟩
  obtain ⟨_, _, _, other⟩ := beside.channels d
  rw [other, if_neg hd, before d, if_neg hd]

theorem beside_handProto (c : Fin 16) (s : State) (e : ProtoEntry) : Beside c s (s.handProto e) := by
  obtain ⟨⟨-, engines, -⟩, -, meters, -⟩ := handProto_kept s e
  have chan (d : Fin 16) : (s.handProto e).chan d = s.chan d := by
    unfold State.chan
    rw [handProto_channels]
  exact
    { cipher := fun idle => by rw [engines, idle]
      meters := meters
      channels := fun d => by
        rw [chan]
        exact unmoved s c d }

theorem passOffer_beside (s : State) (c : Fin 16) (n : Nat) (what : OfferPass) :
    Beside c (s.passRec n) (s.passOffer n c what) := by
  cases what with
  | fresh serial gen => exact (onward_handOn _ c n serial gen).toBeside
  | repeated k => exact beside_handProto c _ _

end Passed

end Sys2Proof.Machine

end

section
/-!
SUPPORT. The clauses of a ruling's last block: refused, held, dropped, displacing, noted, repeated, replayed
(R86, R87, R135 to R139).
-/

namespace Sys2Proof.Machine
-- One theorem at a time: elaborated side by side, each would hold a stack of its own.
set_option Elab.async false

/-! ## The last block of a ruling's reading -/

section LastBlock

variable {s t u : State} {c : Fin 16} {n : Nat} {r : SlotRec} {why : Reason} {w : OfferWork} {plain : List Block}
  {seq : BitVec 32}

/-- Both checks of R137 on an offer's payload. -/
def State.OfferSound (s : State) (c : Fin 16) (plain : List Block) : Prop :=
  offerField plain 4 8 = 0 ∧ offerField plain 56 64 = 0 ∧
    ∀ k, (s.chan c).cur = some k → offerGen plain = (s.key k).gen + 1

/-- The state in which a ruling whose last block has come is settled. -/
def State.rulingAt (s : State) (c : Fin 16) (w : OfferWork) (n : Nat) (plain : List Block) : State :=
  ((s.setCipher none).rulingHolds c w).settleRuling c n plain

theorem rulingJudged_acceptable (serial : Nat) :
    (s.rulingJudged c w serial).offerAcceptable c plain = true ↔ s.OfferSound c plain := by
  have cur : ((s.rulingJudged c w serial).chan c).cur = (s.chan c).cur := by rw [rulingJudged_chan, if_pos rfl]
  rw [acceptable_iff, cur]
  exact Iff.rfl

theorem rulingJudged_state (serial : Nat) : ((s.rulingJudged c w serial).chan c).state = (s.chan c).state := by
  rw [rulingJudged_chan, if_pos rfl]

theorem rulingAt_unsound (h : s.slotRec n = some r) (unkeyed : r.keySlot = none) (hseq : seq = r.seq.getD 0)
    (above : (s.chan c).highMark < seq.toNat) (bad : ¬ s.OfferSound c plain) :
    RulingEnded c n r (r.noted.getD .malformed) (s.rulingJudged c w seq.toNat) (s.rulingAt c w n plain) ∧
      (s.rulingAt c w n plain).faults = (s.recordFault (offerFaultOn c .keySequence r)).faults := by
  have eq := settleRuling_new (s := s.setCipher none) (c := c) (w := w) (plain := plain) h hseq above
  have eq := eq.trans (if_neg fun ok => bad ((rulingJudged_acceptable (s := s) (w := w) seq.toNat).1 ok))
  obtain ⟨ended, faults⟩ := rulingReject_ended (s := s.rulingJudged c w seq.toNat) (c := c) (why := .malformed)
    (cls := .keySequence) h unkeyed (by simp [FaultClass.severity])
  unfold State.rulingAt
  rw [eq]
  exact ⟨ended, faults.trans (recordFault_faults_congr _ rfl rfl)⟩

theorem rulingAt_replayed (h : s.slotRec n = some r) (unkeyed : r.keySlot = none) (hseq : seq = r.seq.getD 0)
    (within : seq.toNat ≤ (s.chan c).highMark) (fresh : s.repeatOf c seq plain = none) :
    RulingEnded c n r (r.noted.getD .replayed) (s.rulingJudged c w seq.toNat) (s.rulingAt c w n plain) ∧
      (s.rulingAt c w n plain).faults = (s.recordFault (offerFaultOn c .replayed r)).faults := by
  have eq := (settleRuling_old (s := s.setCipher none) (c := c) (w := w) (plain := plain) h hseq within).2 fresh
  obtain ⟨ended, faults⟩ := rulingReject_ended (s := s.rulingJudged c w seq.toNat) (c := c) (why := .replayed)
    (cls := .replayed) h unkeyed (by simp [FaultClass.severity])
  unfold State.rulingAt
  rw [eq]
  exact ⟨ended, faults.trans (recordFault_faults_congr _ rfl rfl)⟩

/-- What the payload of an offer that is not refused for it goes on to (R137, R138). -/
theorem rulingAt_pass (h : s.slotRec n = some r) (hseq : seq = r.seq.getD 0) :
    ((s.chan c).highMark < seq.toNat → s.OfferSound c plain → s.rulingAt c w n plain =
      (s.rulingJudged c w seq.toNat).rulingPass c n (.fresh seq (offerGen plain))) ∧
    (seq.toNat ≤ (s.chan c).highMark → ∀ k, s.repeatOf c seq plain = some k → s.rulingAt c w n plain =
      (s.rulingJudged c w seq.toNat).rulingPass c n (.repeated k)) := by
  refine ⟨fun above sound => ?_, fun within k repeated => ?_⟩
  · have eq := settleRuling_new (s := s.setCipher none) (c := c) (w := w) (plain := plain) h hseq above
    exact eq.trans (if_pos ((rulingJudged_acceptable (s := s) (w := w) seq.toNat).2 sound))
  · exact (settleRuling_old (s := s.setCipher none) (c := c) (w := w) (plain := plain) h hseq within).1 k repeated

/-- The reason that goes before a ruling's PASSED (R86, R87). -/
def State.RulingBarred (s : State) (c : Fin 16) (r : SlotRec) (why : Reason) : Prop :=
  r.noted = some why ∨ (r.noted = none ∧ (s.chan c).state = .disabled ∧ why = .channelDown)

theorem rulingPass_barred {what : OfferPass} (h : s.slotRec n = some r) (unkeyed : r.keySlot = none)
    (barred : s.RulingBarred c r why) :
    RulingEnded c n r why (s.rulingJudged c w seq.toNat) ((s.rulingJudged c w seq.toNat).rulingPass c n what) ∧
      ((s.rulingJudged c w seq.toNat).rulingPass c n what).faults = s.faults := by
  rw [rulingPass_refuses (s := s.rulingJudged c w seq.toNat) h unkeyed (by rw [rulingJudged_state]; exact barred)]
  exact ⟨(rulingOver_endRuling (s.rulingJudged c w seq.toNat) c).rejectRec h why, rejectRec_faults _ n why⟩

theorem rulingPass_free {what : OfferPass} (h : s.slotRec n = some r) (free : r.noted = none)
    (enabled : (s.chan c).state ≠ .disabled) : (s.rulingJudged c w seq.toNat).rulingPass c n what =
      ((s.rulingJudged c w seq.toNat).endRuling c).passOffer n c what :=
  rulingPass_passes (s := s.rulingJudged c w seq.toNat) h free (by rw [rulingJudged_state]; exact enabled)

theorem rulingPass_settled (what : OfferPass) (h : s.slotRec n = some r) (unkeyed : r.keySlot = none)
    (channel : r.channel = some c) :
    RulingSettled c seq.toNat s ((s.rulingJudged c w seq.toNat).rulingPass c n what) := by
  cases noted : r.noted with
  | some why => exact settled_of_ended (rulingPass_barred h unkeyed (.inl noted)).1
  | none =>
    by_cases disabled : (s.chan c).state = .disabled
    · exact settled_of_ended (rulingPass_barred h unkeyed (.inr ⟨noted, disabled, rfl⟩)).1
    · rw [rulingPass_free h noted disabled]
      exact (settled_of_passed h channel
        (passOffer_beside ((s.rulingJudged c w seq.toNat).endRuling c) c n what)).1

theorem rulingAt_settled (plain : List Block) (h : s.slotRec n = some r) (unkeyed : r.keySlot = none)
    (channel : r.channel = some c) (hseq : seq = r.seq.getD 0) :
    RulingSettled c seq.toNat s (s.rulingAt c w n plain) := by
  obtain ⟨new, old⟩ := rulingAt_pass (s := s) (c := c) (w := w) (plain := plain) h hseq
  by_cases above : (s.chan c).highMark < seq.toNat
  · by_cases sound : s.OfferSound c plain
    · rw [new above sound]
      exact rulingPass_settled _ h unkeyed channel
    · exact settled_of_ended (rulingAt_unsound h unkeyed hseq above sound).1
  · have within := Nat.not_lt.1 above
    cases repeated : s.repeatOf c seq plain with
    | some k =>
      rw [old within k repeated]
      exact rulingPass_settled _ h unkeyed channel
    | none => exact settled_of_ended (rulingAt_replayed h unkeyed hseq within repeated).1

/-! ## The verdict of REJECTED, once the step has ended -/

theorem NoticeJudged.settled {serial : Nat} (judged : NoticeJudged u t) (h : RulingSettled c serial s u) :
    RulingSettled c serial s t where
  cipher := judged.cipher.trans h.cipher
  meters := ⟨judged.meters.1.trans h.meters.1, judged.meters.2.trans h.meters.2⟩
  others d hd := (judged.chan d).trans (h.others d hd)
  ruling := by rw [judged.chan, h.ruling]
  queue := by rw [judged.chan, h.queue]
  mark := by rw [judged.chan, h.mark]
  cur := by rw [judged.chan, h.cur]
  next := by rw [judged.chan, h.next]
  renewal := by rw [judged.chan, h.renewal]

theorem ended_judged {serial : Nat} (ended : RulingEnded c n r why (s.rulingJudged c w serial) u)
    (judged : NoticeJudged u t) :
    (∃ x, t.slotRec n = some x ∧ x.state = .rejected ∧ x.reason = why ∧ x.claimed = r.claimed) ∧
      ResultAsked t n r .rejected why ∧ t.keys = s.keys ∧ t.notices.list = s.notices.list ∧ t.chan c = { s.chan c with
        ruling := none, rulingQueue := (s.chan c).rulingQueue.tail, highMark := max (s.chan c).highMark serial } := by
  obtain ⟨finish, -, found⟩ := judged.record n _ ended.record
  refine ⟨⟨_, found, rfl, rfl, rfl⟩, judged.wanted _ _ _ _ ended.wanted, judged.keys.trans ended.keys,
    judged.list.trans (by rw [ended.notices]; rfl), ?_⟩
  rw [judged.chan, ended_chan ended, if_pos rfl]

/-! ## The verdict of PASSED (R88, R138, R139) -/

/-- The offer that passes afresh: its state, once it has been handed on. -/
def State.offerHanded (s : State) (c : Fin 16) (w : OfferWork) (n : Nat) (seq : BitVec 32) (plain : List Block) : State :=
  (s.rulingPassed c w seq.toNat n).handOn c n seq (offerGen plain)

theorem rulingAt_fresh (h : s.slotRec n = some r) (hseq : seq = r.seq.getD 0) (above : (s.chan c).highMark < seq.toNat)
    (sound : s.OfferSound c plain) (free : r.noted = none) (enabled : (s.chan c).state ≠ .disabled) :
    s.rulingAt c w n plain = s.offerHanded c w n seq plain :=
  ((rulingAt_pass h hseq).1 above sound).trans (rulingPass_free h free enabled)

theorem rulingAt_repeated {k : Fin 32} (h : s.slotRec n = some r) (hseq : seq = r.seq.getD 0)
    (within : seq.toNat ≤ (s.chan c).highMark) (repeated : s.repeatOf c seq plain = some k) (free : r.noted = none)
    (enabled : (s.chan c).state ≠ .disabled) : s.rulingAt c w n plain =
      (s.rulingPassed c w seq.toNat n).handProto ⟨c, .keyConfirm k⟩ :=
  ((rulingAt_pass h hseq).2 within k repeated).trans (rulingPass_free h free enabled)

theorem offerHanded_judged (h : s.slotRec n = some r) (channel : r.channel = some c)
    (judged : NoticeJudged (s.offerHanded c w n seq plain) t) :
    (∃ x, t.slotRec n = some x ∧ x.state = .passed ∧ x.reason = .none) ∧ ResultAsked t n r .passed .none ∧
      (t.chan c).rejects = 0 := by
  have passed := rulingPassed_passed (w := w) (serial := seq.toNat) h channel
  have onward := onward_handOn (s.rulingPassed c w seq.toNat n) c n seq (offerGen plain)
  obtain ⟨x, record, state, reason⟩ := onward.record n _ passed.record
  obtain ⟨_, -, found⟩ := judged.record n x record
  refine ⟨⟨_, found, state, reason⟩, judged.wanted _ _ _ _ (onward.wanted _ _ _ _ passed.wanted), ?_⟩
  rw [judged.chan]
  exact (settled_of_passed (serial := seq.toNat) h channel onward.toBeside).2

theorem rulingPassed_hold (h : s.slotRec n = some r) (channel : r.channel = some c) (serial : Nat) :
    ((s.rulingPassed c w serial n).chan c).hold = (s.chan c).hold ∧
      ((s.rulingPassed c w serial n).chan c).renewal = (s.chan c).renewal ∧
      ((s.rulingPassed c w serial n).chan c).loading = (s.chan c).loading := by
  rw [rulingPassed_chan h channel, if_pos rfl]
  exact ⟨rfl, rfl, rfl⟩

/-- An empty hold takes the offer with the head of the free list (R117, R139, R140). -/
theorem offerHanded_held {k : Fin 32} {rest : List (Fin 32)} (h : s.slotRec n = some r) (channel : r.channel = some c)
    (judged : NoticeJudged (s.offerHanded c w n seq plain) t) (empty : (s.chan c).hold = none)
    (freeList : s.keys.freeList = k :: rest) :
    (t.chan c).hold = some ⟨n, seq, offerGen plain, k⟩ ∧ t.keys.freeList = rest ∧
      t.key k = { s.key k with state := .staged, owner := some c, refs := 1, nextSeq := 1 } ∧
      OtherKeys s t k ∧ SameFaults s t ∧ (∃ x, t.slotRec n = some x ∧ x.claimed = true) ∧
      ((s.chan c).renewal ≠ .installing → ∃ v, (t.chan c).loading = some v ∧ v.recNo = n ∧
        ∃ a ∈ t.requests, a.op = .offerRead c v.id ∧ a.start = s.slotBase r + 32 ∧ a.access = .read 8) ∧
      ((s.chan c).renewal = .installing → (t.chan c).loading = (s.chan c).loading) := by
  have passed := rulingPassed_passed (w := w) (serial := seq.toNat) h channel
  obtain ⟨hold, renewal, loading⟩ := rulingPassed_hold (w := w) h channel seq.toNat
  have empty' := hold.trans empty
  have same := displaceHold_none empty'
  have free' : (s.rulingPassed c w seq.toNat n).keys.freeList = k :: rest := (congrArg KeyStore.freeList passed.keys).trans freeList
  have key (j : Fin 32) : (s.rulingPassed c w seq.toNat n).key j = s.key j :=
    congrArg (fun keys : KeyStore => keys.slots[j]) passed.keys
  have seized := handOn_seized (s := s.rulingPassed c w seq.toNat n) (c := c) (n := n) (serial := seq)
    (gen := offerGen plain) (by rw [same]; exact free')
  obtain ⟨loads, waits⟩ := handOn_loads (c := c) (n := n) (serial := seq) (gen := offerGen plain) empty' free' passed.record
  rw [same] at seized
  have keys (j : Fin 32) : t.key j = (s.offerHanded c w n seq plain).key j :=
    congrArg (fun keys : KeyStore => keys.slots[j]) judged.keys
  obtain ⟨_, -, found⟩ := judged.record n _ (seized.record _ passed.record)
  refine ⟨?_, ?_, ?_, fun j hj => ?_, ?_, ⟨_, found, rfl⟩, fun idle => ?_, fun installing => ?_⟩
  · rw [judged.chan]
    exact seized.hold
  · rw [judged.keys]
    exact seized.freeList.trans (by rw [free']; rfl)
  · rw [keys, ← key]
    exact seized.key
  · rw [keys, ← key]
    exact seized.otherKeys j hj
  · exact judged.faults.trans (seized.faults.trans passed.faults)
  · obtain ⟨v, loading, record, a, ha, op, start, access⟩ := loads (by rw [renewal]; exact idle)
    refine ⟨v, by rw [judged.chan]; exact loading, record, a, judged.asked a ha, op, start.trans ?_, access⟩
    unfold State.slotBase
    rw [passed.windows]
    rfl
  · rw [judged.chan, ← loading]
    exact waits (renewal.trans installing)

theorem offerFault_keys (s : State) (c : Fin 16) (cls : FaultClass) (n : Nat) : (s.offerFault c cls n).keys = s.keys :=
  recordFault_keys _ _

theorem offerFault_slotRec (s : State) (c : Fin 16) (cls : FaultClass) (n m : Nat) :
    (s.offerFault c cls n).slotRec m = s.slotRec m :=
  recordFault_slotRec _ _ _

/-- An offer for which no key slot is FREE is dropped (R139). -/
theorem offerHanded_full (h : s.slotRec n = some r) (channel : r.channel = some c)
    (judged : NoticeJudged (s.offerHanded c w n seq plain) t) (empty : (s.chan c).hold = none)
    (freeList : s.keys.freeList = []) :
    (t.chan c).hold = none ∧ t.keys = s.keys ∧ (∃ x, t.slotRec n = some x ∧ x.claimed = r.claimed) ∧
      t.faults = (s.recordFault (offerFaultOn c .keyStoreFull r)).faults := by
  have passed := rulingPassed_passed (w := w) (serial := seq.toNat) h channel
  obtain ⟨hold, -, -⟩ := rulingPassed_hold (w := w) h channel seq.toNat
  have same := displaceHold_none (hold.trans empty)
  have full := handOn_full (s := s.rulingPassed c w seq.toNat n) (c := c) (n := n) (serial := seq)
    (gen := offerGen plain) (by rw [same, passed.keys]; exact freeList)
  rw [same, offerFault_eq passed.record] at full
  unfold State.offerHanded at judged
  rw [full] at judged
  obtain ⟨_, -, found⟩ := judged.record n r.passedWith ((recordFault_slotRec _ _ _).trans passed.record)
  refine ⟨?_, judged.keys.trans ((recordFault_keys _ _).trans passed.keys), ⟨_, found, rfl⟩, ?_⟩
  · have mild : (offerFaultOn c .keyStoreFull r.passedWith).severity ≠ .fatal := by simp [offerFaultOn, FaultClass.severity]
    rw [judged.chan, (framed_recordFault mild).chan]
    exact hold.trans empty
  · exact judged.faults.trans (recordFault_faults_congr _ passed.faults passed.clock)

theorem offerFault_at {y : SlotRec} {cls : FaultClass} (found : s.slotRec n = some y) (window : y.window = r.window)
    (slot : y.slot = r.slot) : s.offerFault c cls n = s.recordFault (offerFaultOn c cls r) := by
  rw [offerFault_eq found]
  unfold offerFaultOn
  rw [window, slot]

/-- A held offer is displaced, its key slot zeroised first (R117, R139). -/
theorem offerHanded_displaced {hd : Hold} {x : SlotRec} {k : Fin 32} (h : s.slotRec n = some r) (channel : r.channel = some c)
    (judged : NoticeJudged (s.offerHanded c w n seq plain) t) (held : (s.chan c).hold = some hd)
    (found : s.slotRec hd.recNo = some x) (apart : hd.recNo ≠ n) (role : s.keyRole hd.key = none)
    (used : (s.key hd.key).state ≠ .free) (last : (s.key hd.key).refs = 1) (quiet : s.ks.overflow = [])
    (head : (s.keys.freeList ++ [hd.key]).head? = some k) :
    (t.chan c).hold = some ⟨n, seq, offerGen plain, k⟩ ∧ (t.key k).state = .staged ∧
      (t.key k).owner = some c ∧ (t.key k).refs = 1 ∧ (k ≠ hd.key → t.key hd.key = KeySlot.zeroised) ∧
      t.keys.freeList = (s.keys.freeList ++ [hd.key]).tail ∧
      (∃ y, t.slotRec hd.recNo = some y ∧ y.state = x.state ∧ y.claimed = false) ∧
      t.faults = (s.recordFault (offerFaultOn c .offerDisplaced x)).faults := by
  have passed := rulingPassed_passed (w := w) (serial := seq.toNat) h channel
  obtain ⟨hold, -, -⟩ := rulingPassed_hold (w := w) h channel seq.toNat
  obtain ⟨p, hp⟩ : ∃ p, p = s.rulingPassed c w seq.toNat n := ⟨_, rfl⟩
  have role' : p.keyRole hd.key = none := by
    rw [hp]
    exact (keyRole_of_roles (s := s) (congrArg (fun keys : KeyStore => keys.slots[hd.key].owner) passed.keys)
      (roles_of_chan (rulingPassed_chan (w := w) (serial := seq.toNat) h channel) ⟨rfl, rfl, rfl⟩)).trans role
  unfold State.offerHanded at judged
  rw [← hp] at judged passed hold
  have key (j : Fin 32) : p.key j = s.key j := congrArg (fun keys : KeyStore => keys.slots[j]) passed.keys
  have cleared := holdCleared (s := p) (c := c) (x := x) (hold.trans held) ((passed.others _ apart).trans found) role'
    (by rw [key]; exact used) (by rw [key]; exact last) (by rw [passed.frames]; exact quiet)
  obtain ⟨y, record, books⟩ := cleared.record
  obtain ⟨window, slot, state, unclaimed⟩ : y.window = x.window ∧ y.slot = x.slot ∧ y.state = x.state ∧ y.claimed = false := by
    obtain ⟨_, _, _, rfl⟩ := books
    exact ⟨rfl, rfl, rfl, rfl⟩
  have displaced : p.displaceHold c = (p.clearHold c).recordFault (offerFaultOn c .offerDisplaced x) := by
    unfold State.displaceHold
    rw [hold.trans held]
    exact offerFault_at record window slot
  have freed : (p.displaceHold c).keys.freeList = s.keys.freeList ++ [hd.key] := by
    rw [displaced, recordFault_keys, cleared.freeList, passed.keys]
    rfl
  obtain ⟨rest, free⟩ : ∃ rest, s.keys.freeList ++ [hd.key] = k :: rest := List.head?_eq_some_iff.1 head
  have seized := handOn_seized (s := p) (c := c) (n := n) (serial := seq) (gen := offerGen plain) (freed.trans free)
  have keys (j : Fin 32) : t.key j = (p.handOn c n seq (offerGen plain)).key j :=
    congrArg (fun keys : KeyStore => keys.slots[j]) judged.keys
  have own := (keys k).trans seized.key
  obtain ⟨_, -, kept⟩ := judged.record hd.recNo _ ((seized.others _ apart).trans
    ((congrArg (·.slotRec hd.recNo) displaced).trans ((recordFault_slotRec _ _ _).trans record)))
  refine ⟨?_, by rw [own], by rw [own], by rw [own], fun other => ?_, ?_, ⟨_, kept, state, unclaimed⟩, ?_⟩
  · rw [judged.chan]
    exact seized.hold
  · rw [keys, seized.otherKeys _ other.symm, displaced, State.key, recordFault_keys]
    exact cleared.key
  · rw [judged.keys, seized.freeList, freed]
  · have clock : (p.clearHold c).time = s.time := (kept_clearHold (hold.trans held)).time.trans passed.clock
    rw [judged.faults, seized.faults, displaced]
    exact recordFault_faults_congr _ (cleared.faults.trans passed.faults) clock

/-- A repeated offer is confirmed again (R138). -/
theorem repeated_judged {k : Fin 32} (h : s.slotRec n = some r) (channel : r.channel = some c)
    (judged : NoticeJudged ((s.rulingPassed c w seq.toNat n).handProto ⟨c, .keyConfirm k⟩) t)
    (room : s.notices.list.length < 16) :
    (∃ x, t.slotRec n = some x ∧ x.state = .passed ∧ x.claimed = r.claimed) ∧ ResultAsked t n r .passed .none ∧
      (t.chan c).rejects = 0 ∧ (t.chan c).hold = (s.chan c).hold ∧ t.keys = s.keys ∧ SameFaults s t ∧
      ⟨c, .keyConfirm k⟩ ∈ t.notices.list := by
  have passed := rulingPassed_passed (w := w) (serial := seq.toNat) h channel
  have own := rulingPassed_chan (w := w) (serial := seq.toNat) h channel c
  have room' : (s.rulingPassed c w seq.toNat n).notices.list.length < 16 := by
    rw [passed.notices]
    exact room
  rw [handProto_placed room'] at judged
  obtain ⟨_, -, found⟩ := judged.record n r.passedWith passed.record
  have chan : t.chan c = _ := (judged.chan c).trans (own.trans (if_pos rfl))
  refine ⟨⟨_, found, rfl, rfl⟩, judged.wanted n r _ _ passed.wanted, by rw [chan], by rw [chan],
    judged.keys.trans passed.keys, judged.faults.trans passed.faults, ?_⟩
  rw [judged.list]
  exact mem_handedList room'

end LastBlock

end Sys2Proof.Machine

end

section
/-!
SUPPORT. The last block of a loading: the held offer is seated, or its hold is cleared (R140, R141).
-/

namespace Sys2Proof.Machine
-- One theorem at a time: elaborated side by side, each would hold a stack of its own.
set_option Elab.async false

/-! ## The held offer is seated (R141) -/

section Seats

variable {s t u : State} {c : Fin 16} {h : Hold} {r : SlotRec} {w : OfferWork} {plain : List Block}

/-- The role that a held offer is seated in (R141). -/
def Channel.seatRole (x : Channel) : KeyRole := if x.cur = none then .current else .next

/-- The channel once a key slot has been seated in its role. -/
def Channel.seating (x : Channel) (k : Fin 32) : Channel :=
  { x with cur := if x.cur = none then some k else x.cur, next := if x.cur = none then x.next else some k }

/-- What the seating of a held offer's key slot changes before the key slot is loaded (R141 step 1). -/
structure Seating (c : Fin 16) (h : Hold) (s t : State) : Prop where
  chan : ∀ d, t.chan d = if d = c then (s.chan c).seating h.key else s.chan d
  key : t.key h.key = { s.key h.key with state := if (s.chan c).cur = none then .active else (s.key h.key).state }
  faults : s.ks.overflow = [] → t.faults = s.faults
  cipher : s.ks.cipher = none → t.ks.cipher = none
  meters : SameMeters s t
  record : ∀ m x, s.slotRec m = some x → ∃ y, t.slotRec m = some y ∧ BooksOnly x y
  old : ∀ k, (s.chan c).cur ≠ none → (s.chan c).next = some k → (∀ e ∈ t.notices.list, e.kind ≠ .keyConfirm k) ∧
    ((s.key k).owner = some c → (s.chan c).cur ≠ some k → (s.chan c).prev ≠ some k → k ≠ h.key →
      (s.key k).state ≠ .free → (s.key k).refs = 0 → t.key k = KeySlot.zeroised)

/-- The state in which a held offer's key slot has its role, its old NEXT dropped (R141 step 1). -/
def State.seatStart (s : State) (c : Fin 16) (h : Hold) : State :=
  if (s.chan c).cur.isNone then
    (s.setChan c fun x => { x with cur := some h.key }).setKey h.key fun x => { x with state := .active }
  else
    match (s.chan c).next with
    | some o => ((s.setChan c fun x => { x with next := some h.key }).judgeKey o).dropConfirmOf o
    | none => s.setChan c fun x => { x with next := some h.key }

theorem seating_first (cur : (s.chan c).cur = none) : Seating c h s (s.seatStart c h) := by
  have eq : s.seatStart c h =
      (s.setChan c fun x => { x with cur := some h.key }).setKey h.key fun x => { x with state := .active } :=
    if_pos (by rw [cur]; rfl)
  have changed : (s.chan c).seating h.key = { s.chan c with cur := some h.key } := by
    unfold Channel.seating
    rw [if_pos cur, if_pos cur]
  rw [eq]
  refine
    { chan := fun d => ?_
      key := ?_
      faults := fun _ => rfl
      cipher := id
      meters := ⟨rfl, rfl⟩
      record := fun m x hx => ⟨x, hx, BooksOnly.refl x⟩
      old := fun k present => absurd cur present }
  · rw [changed]
    exact State.chan_setChan s c d fun x => { x with cur := some h.key }
  · rw [if_pos cur]
    exact State.key_setKey_self _ _ _

theorem seatNext_chan (some' : (s.chan c).cur ≠ none) (d : Fin 16) :
    (s.setChan c fun x => { x with next := some h.key }).chan d =
      if d = c then (s.chan c).seating h.key else s.chan d := by
  have changed : (s.chan c).seating h.key = { s.chan c with next := some h.key } := by
    unfold Channel.seating
    rw [if_neg some', if_neg some']
  rw [changed]
  exact State.chan_setChan s c d fun x => { x with next := some h.key }

theorem seating_beside (cur : (s.chan c).cur ≠ none) (next : (s.chan c).next = none) :
    Seating c h s (s.seatStart c h) := by
  have eq : s.seatStart c h = s.setChan c fun x => { x with next := some h.key } := by
    unfold State.seatStart
    rw [if_neg (by simpa using cur), next]
  rw [eq]
  refine
    { chan := seatNext_chan cur
      key := ?_
      faults := fun _ => rfl
      cipher := id
      meters := ⟨rfl, rfl⟩
      record := fun m x hx => ⟨x, hx, BooksOnly.refl x⟩
      old := fun k _ held => ?_ }
  · rw [if_neg cur]
    rfl
  · rw [next] at held
    cases held

theorem seating_over {o : Fin 32} (cur : (s.chan c).cur ≠ none) (next : (s.chan c).next = some o) (apart : o ≠ h.key) :
    Seating c h s (s.seatStart c h) := by
  obtain ⟨v, hv⟩ : ∃ v, v = s.setChan c fun x => { x with next := some h.key } := ⟨_, rfl⟩
  have eq : s.seatStart c h = (v.judgeKey o).dropConfirmOf o := by
    unfold State.seatStart
    rw [if_neg (by simpa using cur), next, hv]
  have chan := seatNext_chan (h := h) cur
  rw [← hv] at chan
  have key (k : Fin 32) : v.key k = s.key k := by rw [hv]; rfl
  have kept := kept_judgeKey v o
  rw [eq]
  refine
    { chan := fun d => (kept.chan d).trans (chan d)
      key := ?_
      faults := fun quiet => ?_
      cipher := fun idle => judgeKey_cipher (s := v) (by rw [hv]; exact idle)
      meters := ⟨kept.meters.1.trans (by rw [hv]; rfl), kept.meters.2.trans (by rw [hv]; rfl)⟩
      record := fun m x hx => kept.records (by rw [hv]; exact hx)
      old := fun k _ held => ?_ }
  · rw [if_neg cur, ← key]
    exact judgeKey_others v o h.key apart.symm
  · exact (judgeKey_silent (s := v) (k := o) (by rw [hv]; exact quiet)).1.trans (by rw [hv]; rfl)
  · obtain rfl : o = k := Option.some.inj (next.symm.trans held)
    refine ⟨fun e he => of_decide_eq_true (List.mem_filter.1 he).2, fun owner notCur notPrev _ used refs => ?_⟩
    have role : v.keyRole o = none := by
      unfold State.keyRole
      rw [key, owner]
      dsimp only
      rw [chan, if_pos rfl]
      unfold Channel.seating
      rw [if_neg cur, if_neg cur, if_neg notCur, if_neg (by simpa using apart.symm), if_neg notPrev]
    have judged := judgeKey_cases (s := v) (k := o) (by rw [key]; exact used) role
    rw [if_pos (by rw [key]; exact refs)] at judged
    change (v.judgeKey o).key o = _
    rw [judged, zeroise_key, if_pos rfl]

theorem seating_starts (apart : (s.chan c).next ≠ some h.key) : Seating c h s (s.seatStart c h) := by
  by_cases cur : (s.chan c).cur = none
  · exact seating_first cur
  · cases next : (s.chan c).next with
    | none => exact seating_beside cur next
    | some o => exact seating_over cur next fun same => apart (by rw [next, same])

/-- The channel of an install that begins (R141 step 3). -/
def Channel.installs (x : Channel) (k : Fin 32) (role : KeyRole) : Channel :=
  { x with hold := none, loading := none, installBuf := none, cutover := .stopped, cutoverKey := none,
           renewal := .installing, installing := some (k, role) }

/-- The key slot of an install that begins (R141 step 2). -/
def KeySlot.installs (x : KeySlot) (plain : List Block) (serial : BitVec 32) (role : KeyRole) : KeySlot :=
  { x.loadOffer plain serial with seatedAs := some role }

/-- The end of a seating: the key slot loaded, the hold gone, and the hash subkey asked for (R141 steps 2 to 4). -/
def State.seatEnd (s : State) (c : Fin 16) (h : Hold) (plain : List Block) (role : KeyRole) : State :=
  ((((s.setKey h.key fun x => x.installs plain h.serial role).setChan c fun x => x.installs h.key role).unclaim
    h.recNo).untakeRef h.key).askCipher ⟨.hashSubkey, .slot h.key, 0⟩

theorem seat_eq (held : (s.chan c).hold = some h) :
    s.seat c plain = (s.seatStart c h).seatEnd c h plain (s.chan c).seatRole := by
  unfold State.seat
  rw [held]
  unfold State.seatStart Channel.seatRole
  cases cur : (s.chan c).cur with
  | none => rfl
  | some k =>
    cases (s.chan c).next with
    | none => rfl
    | some o => rfl

theorem seatEnd_chan (role : KeyRole) (d : Fin 16) : (s.seatEnd c h plain role).chan d =
    if d = c then (s.chan c).installs h.key role else s.chan d :=
  State.chan_setChan (s.setKey h.key fun x => x.installs plain h.serial role) c d fun x => x.installs h.key role

theorem seatEnd_key (role : KeyRole) (j : Fin 32) : (s.seatEnd c h plain role).key j =
    if j = h.key then
      { (s.key h.key).installs plain h.serial role with refs := (s.key h.key).refs - 1 }
    else s.key j := by
  have loaded (j : Fin 32) := State.key_setKey s h.key j fun x => x.installs plain h.serial role
  have dropped := untakeRef_key (s.setKey h.key fun x => x.installs plain h.serial role) h.key j
  refine Eq.trans (b := ((s.setKey h.key fun x => x.installs plain h.serial role).untakeRef h.key).key j) rfl ?_
  rw [dropped, loaded, loaded, if_pos rfl]
  split <;> rfl

theorem seatEnd_kept (s : State) (c : Fin 16) (h : Hold) (plain : List Block) (role : KeyRole) :
    SameFaults s (s.seatEnd c h plain role) ∧ SameMeters s (s.seatEnd c h plain role) ∧
      (s.seatEnd c h plain role).ks.cipher = s.ks.cipher ∧ (s.seatEnd c h plain role).notices = s.notices :=
  by simp [SameFaults, SameMeters, State.seatEnd, State.untakeRef, State.unclaim, State.askCipher]

theorem seated_key {x : KeySlot} {serial : BitVec 32} {state : KeyState} {role : KeyRole} (refs : x.refs = 1) :
    ({ ({ x with state := state } : KeySlot).installs plain serial role with refs := x.refs - 1 } : KeySlot) =
      { x.loadOffer plain serial with refs := 0, state := state, seatedAs := some role } := by
  rw [refs]
  rfl

theorem seatEnd_slotRec (role : KeyRole) {y : SlotRec} (found : s.slotRec h.recNo = some y) :
    (s.seatEnd c h plain role).slotRec h.recNo = some { y with claimed := false } :=
  setRec_self (s := (s.setKey h.key fun x => x.installs plain h.serial role).setChan c fun x => x.installs h.key role)
    (fun x => { x with claimed := false }) found

/-! ## The last block of a loading's reading -/

/-- The state in which a loading's plaintext has come into the install buffer (R140). -/
def State.loadingEnded (s : State) (c : Fin 16) (plain : List Block) : State :=
  (s.setCipher none).setChan c fun x => { x with installBuf := some plain, loading := none }

/-- The state in which a loading whose last block has come is settled. -/
def State.loadingAt (s : State) (c : Fin 16) (w : OfferWork) (plain : List Block) : State :=
  ((s.setCipher none).loadingHolds c w).endLoading c plain

theorem loadingEnded_chan (d : Fin 16) : (s.loadingEnded c plain).chan d =
    if d = c then { s.chan c with installBuf := some plain, loading := none } else s.chan d :=
  State.chan_setChan (s.setCipher none) c d fun x => { x with installBuf := some plain, loading := none }

theorem loadingEnded_acceptable : (s.loadingEnded c plain).offerAcceptable c plain = true ↔ s.OfferSound c plain := by
  have cur : ((s.loadingEnded c plain).chan c).cur = (s.chan c).cur := by rw [loadingEnded_chan, if_pos rfl]
  rw [acceptable_iff, cur]
  exact Iff.rfl

theorem loadingAt_eq (held : (s.chan c).hold = some h) : s.loadingAt c w plain =
    if (s.loadingEnded c plain).offerAcceptable c plain then (s.loadingEnded c plain).seat c plain
    else ((s.loadingEnded c plain).clearHold c).offerFault c .keySequence h.recNo := by
  have hold : (((s.setCipher none).loadingHolds c w).chan c).hold = some h := by
    rw [loadingHolds_chan, if_pos rfl]
    exact held
  have merged : (((s.setCipher none).loadingHolds c w).setChan c fun x => { x with installBuf := some plain, loading := none }) =
      s.loadingEnded c plain := setChan_setChan _ c _ _
  unfold State.loadingAt State.endLoading
  rw [hold]
  dsimp only
  rw [merged]

/-- What the end of a loading leaves behind, whichever way it ends. -/
structure LoadingSettled (c : Fin 16) (h : Hold) (r : SlotRec) (s t : State) : Prop where
  cipher : t.ks.cipher = none
  meters : SameMeters s t
  others : OtherChannels s t c
  record : ∃ x, t.slotRec h.recNo = some x ∧ x.state = r.state ∧ x.claimed = false

theorem NoticeJudged.loaded (judged : NoticeJudged u t) (done : LoadingSettled c h r s u) : LoadingSettled c h r s t where
  cipher := judged.cipher.trans done.cipher
  meters := ⟨judged.meters.1.trans done.meters.1, judged.meters.2.trans done.meters.2⟩
  others d hd := (judged.chan d).trans (done.others d hd)
  record := by
    obtain ⟨x, found, state, claimed⟩ := done.record
    obtain ⟨_, -, found'⟩ := judged.record _ x found
    exact ⟨_, found', state, claimed⟩

/-- The channel in which a held offer has been seated (R141). -/
def Channel.seated (x : Channel) (k : Fin 32) : Channel :=
  { x with
    cur := if x.cur = none then some k else x.cur
    next := if x.cur = none then x.next else some k
    hold := none, loading := none, installBuf := none, cutover := .stopped, cutoverKey := none
    renewal := .installing
    installing := some (k, if x.cur = none then .current else .next) }

/-- A sound offer is seated (R141). -/
theorem loadingAt_seats (held : (s.chan c).hold = some h) (found : s.slotRec h.recNo = some r)
    (apart : (s.chan c).next ≠ some h.key) (refs : (s.key h.key).refs = 1) (quiet : s.ks.overflow = [])
    (sound : s.OfferSound c plain) (judged : NoticeJudged (s.loadingAt c w plain) t) :
    LoadingSettled c h r s t ∧ SameFaults s t ∧ t.chan c = (s.chan c).seated h.key ∧
      t.key h.key = { (s.key h.key).loadOffer plain h.serial with
        refs := 0
        state := if (s.chan c).cur = none then .active else (s.key h.key).state
        seatedAs := some (if (s.chan c).cur = none then .current else .next) } ∧
      ⟨.hashSubkey, .slot h.key, 0⟩ ∈ t.ks.background ∧
      (∀ k, (s.chan c).cur ≠ none → (s.chan c).next = some k →
        (∀ e ∈ t.notices.list, e.kind ≠ .keyConfirm k) ∧
        ((s.key k).owner = some c → (s.chan c).cur ≠ some k → (s.chan c).prev ≠ some k →
          (s.key k).state ≠ .free → (s.key k).refs = 0 → t.key k = KeySlot.zeroised)) := by
  have own : (s.loadingEnded c plain).chan c = { s.chan c with installBuf := some plain, loading := none } :=
    (loadingEnded_chan c).trans (if_pos rfl)
  have seats := seating_starts (s := s.loadingEnded c plain) (c := c) (h := h) (by rw [own]; exact apart)
  have eq := loadingAt_eq (w := w) (plain := plain) held
  rw [if_pos (loadingEnded_acceptable.2 sound), seat_eq (by rw [own]; exact held)] at eq
  obtain ⟨m, hm⟩ : ∃ m, m = (s.loadingEnded c plain).seatStart c h := ⟨_, rfl⟩
  obtain ⟨role, hrole⟩ : ∃ role, role = ((s.loadingEnded c plain).chan c).seatRole := ⟨_, rfl⟩
  rw [← hm] at seats eq
  rw [← hrole] at eq
  rw [eq] at judged
  rw [own] at hrole
  obtain ⟨y, found', books⟩ := seats.record h.recNo r found
  have state : y.state = r.state := by
    obtain ⟨_, _, _, rfl⟩ := books
    rfl
  have chan (d : Fin 16) : (m.seatEnd c h plain role).chan d = if d = c then (s.chan c).seated h.key else s.chan d := by
    rw [seatEnd_chan, seats.chan, seats.chan, if_pos rfl, own, loadingEnded_chan, hrole]
    split <;> rfl
  obtain ⟨faults, meters, cipher, notices⟩ := seatEnd_kept m c h plain role
  have done : LoadingSettled c h r s (m.seatEnd c h plain role) :=
    { cipher := cipher.trans (seats.cipher rfl)
      meters := ⟨meters.1.trans seats.meters.1, meters.2.trans seats.meters.2⟩
      others := fun d hd => (chan d).trans (if_neg hd)
      record := ⟨_, seatEnd_slotRec role found', state, rfl⟩ }
  have keys (j : Fin 32) : t.key j = (m.seatEnd c h plain role).key j :=
    congrArg (fun keys : KeyStore => keys.slots[j]) judged.keys
  refine ⟨judged.loaded done, judged.faults.trans (faults.trans (seats.faults quiet)), ?_, ?_, ?_, fun k cur next => ⟨?_, ?_⟩⟩
  · rw [judged.chan, chan, if_pos rfl]
  · rw [keys, seatEnd_key, if_pos rfl, seats.key, own, hrole]
    exact seated_key refs
  · exact judged.background (List.mem_append_right _ (List.mem_singleton_self _))
  · rw [judged.list, notices]
    exact (seats.old k (by rw [own]; exact cur) (by rw [own]; exact next)).1
  · intro owner notCur notPrev used unused
    have other : k ≠ h.key := fun same => apart (by rw [next, same])
    rw [keys, seatEnd_key, if_neg other]
    exact (seats.old k (by rw [own]; exact cur) (by rw [own]; exact next)).2 owner (by rw [own]; exact notCur)
      (by rw [own]; exact notPrev) other used unused

/-- An offer that is not acceptable any more is discarded with its hold (R140). -/
theorem loadingAt_discards (held : (s.chan c).hold = some h) (found : s.slotRec h.recNo = some r)
    (role : s.keyRole h.key = none) (used : (s.key h.key).state ≠ .free) (refs : (s.key h.key).refs = 1)
    (quiet : s.ks.overflow = []) (bad : ¬ s.OfferSound c plain) (judged : NoticeJudged (s.loadingAt c w plain) t) :
    LoadingSettled c h r s t ∧ t.chan c = { s.chan c with hold := none, loading := none, installBuf := none } ∧
      t.key h.key = KeySlot.zeroised ∧ OtherKeys s t h.key ∧ t.keys.freeList = s.keys.freeList ++ [h.key] ∧
      t.faults = (s.recordFault (offerFaultOn c .keySequence r)).faults := by
  have own : (s.loadingEnded c plain).chan c = { s.chan c with installBuf := some plain, loading := none } :=
    (loadingEnded_chan c).trans (if_pos rfl)
  obtain ⟨v, hv⟩ : ∃ v, v = s.loadingEnded c plain := ⟨_, rfl⟩
  have held' : (v.chan c).hold = some h := by rw [hv, own]; exact held
  have role' : v.keyRole h.key = none := by
    rw [hv]
    exact (keyRole_of_roles (s := s) (t := s.loadingEnded c plain) rfl
      (roles_of_chan loadingEnded_chan ⟨rfl, rfl, rfl⟩)).trans role
  have cleared := holdCleared (s := v) (c := c) (x := r) held' (by rw [hv]; exact found) role'
    (by rw [hv]; exact used) (by rw [hv]; exact refs) (by rw [hv]; exact quiet)
  obtain ⟨y, record, books⟩ := cleared.record
  obtain ⟨window, slot, state, unclaimed⟩ : y.window = r.window ∧ y.slot = r.slot ∧ y.state = r.state ∧ y.claimed = false := by
    obtain ⟨_, _, _, rfl⟩ := books
    exact ⟨rfl, rfl, rfl, rfl⟩
  have eq := loadingAt_eq (w := w) (plain := plain) held
  have eq := eq.trans (if_neg fun ok => bad (loadingEnded_acceptable.1 ok))
  rw [← hv, offerFault_at record window slot] at eq
  rw [eq] at judged
  have mild : (offerFaultOn c .keySequence r).severity ≠ .fatal := by simp [offerFaultOn, FaultClass.severity]
  have framed := framed_recordFault (s := v.clearHold c) mild
  have kept := kept_clearHold held'
  have chan (d : Fin 16) : ((v.clearHold c).recordFault (offerFaultOn c .keySequence r)).chan d =
      if d = c then { s.chan c with hold := none, loading := none, installBuf := none } else s.chan d := by
    rw [framed.chan, clearHold_chan held', hv, own, loadingEnded_chan]
    split <;> rfl
  have done : LoadingSettled c h r s ((v.clearHold c).recordFault (offerFaultOn c .keySequence r)) :=
    { cipher := (congrArg Keystream.cipher (recordFault_ks _ _)).trans (clearHold_cipher (by rw [hv]; rfl))
      meters := ⟨framed.meters.1.trans (kept.meters.1.trans (by rw [hv]; rfl)),
        framed.meters.2.trans (kept.meters.2.trans (by rw [hv]; rfl))⟩
      others := fun d hd => (chan d).trans (if_neg hd)
      record := ⟨y, (recordFault_slotRec _ _ _).trans record, state, unclaimed⟩ }
  have keys : t.keys = (v.clearHold c).keys := judged.keys.trans (recordFault_keys _ _)
  have key (j : Fin 32) : t.key j = (v.clearHold c).key j := congrArg (fun keys : KeyStore => keys.slots[j]) keys
  refine ⟨judged.loaded done, ?_, (key _).trans cleared.key, fun j hj => ?_, ?_, ?_⟩
  · rw [judged.chan, chan, if_pos rfl]
  · rw [key, cleared.otherKeys j hj, hv]
    rfl
  · rw [keys, cleared.freeList, hv]
    rfl
  · have clock : (v.clearHold c).time = s.time := kept.time.trans (by rw [hv]; rfl)
    exact judged.faults.trans (recordFault_faults_congr _ (cleared.faults.trans (by rw [hv]; rfl)) clock)

end Seats

end Sys2Proof.Machine

end

section
/-!
SUPPORT. Every use of a background block (R39, R48, R135 to R141, R166).
-/

namespace Sys2Proof.Machine
-- One theorem at a time: elaborated side by side, each would hold a stack of its own.
set_option Elab.async false

section Uses

variable {s t : State} {c : Fin 16} {b n : Nat} {r : SlotRec} {h : Hold} {w : OfferWork} {d : List Block}
  {got : List (Option Block)} {plain : List Block} {seq : BitVec 32} {out : Block}

/-- The last block of a ruling's reading settles the ruling (R137). -/
theorem lastBlock_ruling (judged : NoticeJudged ((s.setCipher none).backgroundResult (.offerPlain c w.id b) out) t)
    (data : w.data = some d) (hgot : got = w.plain.set (b - 1) (some (d.getD (b - 1) 0 ^^^ out)))
    (full : got = plain.map some) (ruling : (s.chan c).ruling = some w) :
    NoticeJudged (s.rulingAt c (w.holding got) w.recNo plain) t := by
  have held := deciphered_eq (out := out) data hgot
  have whole : (w.deciphered b out).whole = some plain := by
    rw [held]
    exact whole_some full
  rwa [show (s.setCipher none).backgroundResult (.offerPlain c w.id b) out = _ from
    (offerBlock_ruling (s := s.setCipher none) ruling).trans (rulingBlock_last whole), held] at judged

/-- The last block of a loading's reading ends the loading (R140). -/
theorem lastBlock_loading (judged : NoticeJudged ((s.setCipher none).backgroundResult (.offerPlain c w.id b) out) t)
    (data : w.data = some d) (hgot : got = w.plain.set (b - 1) (some (d.getD (b - 1) 0 ^^^ out)))
    (full : got = plain.map some) (apart : ∀ v, (s.chan c).ruling = some v → v.id ≠ w.id)
    (loading : (s.chan c).loading = some w) : NoticeJudged (s.loadingAt c (w.holding got) plain) t := by
  have held := deciphered_eq (out := out) data hgot
  have whole : (w.deciphered b out).whole = some plain := by
    rw [held]
    exact whole_some full
  rwa [show (s.setCipher none).backgroundResult (.offerPlain c w.id b) out = _ from
    (offerBlock_loading (s := s.setCipher none) apart loading).trans (loadingBlock_last whole), held] at judged

/-- Everything that is said of a ruling's last block, of whichever verdict (R86, R87, R135 to R139). -/
theorem ruling_rules (r : SlotRec) (seq : BitVec 32) (judged : NoticeJudged (s.rulingAt c w n plain) t)
    (found : s.slotRec n = some r) (root : r.key = some .root) (channel : r.channel = some c) (hseq : seq = r.seq.getD 0) :
    RulingSettled c seq.toNat s t ∧
    ((s.chan c).highMark < seq.toNat → ¬ s.OfferSound c plain →
      (∃ x, t.slotRec n = some x ∧ x.state = .rejected ∧ x.reason = r.noted.getD .malformed) ∧
      ResultAsked t n r .rejected (r.noted.getD .malformed) ∧ t.keys = s.keys ∧
      t.faults = (s.recordFault (offerFaultOn c .keySequence r)).faults) ∧
    ((s.chan c).highMark < seq.toNat → s.OfferSound c plain → r.noted = none → (s.chan c).state ≠ .disabled →
      NoticeJudged (s.offerHanded c w n seq plain) t) ∧
    (∀ why, ((s.chan c).highMark < seq.toNat ∧ s.OfferSound c plain) ∨ (seq.toNat ≤ (s.chan c).highMark ∧
        ∃ k, ((s.chan c).next = some k ∨ (s.chan c).cur = some k) ∧ s.Repeats seq plain k) →
      s.RulingBarred c r why →
      ((∃ x, t.slotRec n = some x ∧ x.state = .rejected ∧ x.reason = why ∧ x.claimed = r.claimed) ∧
        ResultAsked t n r .rejected why ∧ t.keys = s.keys ∧ SameFaults s t ∧ t.notices.list = s.notices.list ∧
        t.chan c = { s.chan c with
          ruling := none, rulingQueue := (s.chan c).rulingQueue.tail, highMark := max (s.chan c).highMark seq.toNat })) ∧
    (∀ k : Fin 32, seq.toNat ≤ (s.chan c).highMark → r.noted = none → (s.chan c).state ≠ .disabled →
      s.repeatOf c seq plain = some k →
      NoticeJudged ((s.rulingPassed c w seq.toNat n).handProto ⟨c, .keyConfirm k⟩) t) ∧
    (seq.toNat ≤ (s.chan c).highMark → s.repeatOf c seq plain = none →
      (∃ x, t.slotRec n = some x ∧ x.state = .rejected ∧ x.reason = r.noted.getD .replayed) ∧
      ResultAsked t n r .rejected (r.noted.getD .replayed) ∧ t.keys = s.keys ∧
      t.faults = (s.recordFault (offerFaultOn c .replayed r)).faults) := by
  have unkeyed : r.keySlot = none := by
    unfold SlotRec.keySlot
    rw [root]
  obtain ⟨new, old⟩ := rulingAt_pass (s := s) (c := c) (w := w) (plain := plain) found hseq
  refine ⟨judged.settled (rulingAt_settled plain found unkeyed channel hseq), fun above bad => ?_,
    fun above sound free enabled => ?_, fun why passing barred => ?_, fun k within free enabled repeated => ?_,
    fun within fresh => ?_⟩
  · obtain ⟨ended, faults⟩ := rulingAt_unsound (w := w) found unkeyed hseq above bad
    obtain ⟨⟨x, record, state, reason, -⟩, asked, keys, -, -⟩ := ended_judged ended judged
    exact ⟨⟨x, record, state, reason⟩, asked, keys, judged.faults.trans faults⟩
  · rwa [rulingAt_fresh found hseq above sound free enabled] at judged
  · obtain ⟨what, eq⟩ : ∃ what, s.rulingAt c w n plain = (s.rulingJudged c w seq.toNat).rulingPass c n what := by
      rcases passing with ⟨above, sound⟩ | ⟨within, repeats⟩
      · exact ⟨_, new above sound⟩
      · obtain ⟨k, repeated⟩ := repeatOf_some repeats
        exact ⟨_, old within k repeated⟩
    rw [eq] at judged
    obtain ⟨ended, faults⟩ := rulingPass_barred (w := w) (what := what) (seq := seq) found unkeyed barred
    obtain ⟨record, asked, keys, list, chan⟩ := ended_judged ended judged
    exact ⟨record, asked, keys, judged.faults.trans faults, list, chan⟩
  · rwa [rulingAt_repeated found hseq within repeated free enabled] at judged
  · obtain ⟨ended, faults⟩ := rulingAt_replayed (w := w) found unkeyed hseq within fresh
    obtain ⟨⟨x, record, state, reason, -⟩, asked, keys, -, -⟩ := ended_judged ended judged
    exact ⟨⟨x, record, state, reason⟩, asked, keys, judged.faults.trans faults⟩

end Uses

/-- Settles O36: masks, a notice's blocks, strays, and an offer's blocks up to the last, which settles or seats it. -/
theorem backgroundBlocksReturn : Obligations.BackgroundBlocksReturn := by
  intro s g q out grant job kept hout
  refine ⟨fun n o r use live => ?_, fun o b comp use flight mine => ?_, fun c work b use apart given => ?_,
    fun c b w d got use data hgot => ⟨fun short live => ?_, fun plain ok full hok =>
      ⟨fun r seq ruling found root channel hseq => ?_,
        fun h r apart loading held found role owner refs used quiet next prev => ?_⟩⟩⟩
  all_goals
    obtain ⟨t, run, judged⟩ := block_returns grant job kept hout (by rw [use]; rfl)
    rw [use] at judged
    refine ⟨t, run, ?_⟩
  · exact mask_returned judged live
  · exact notice_returned judged flight mine
  · exact stray_returned judged apart given
  · exact more_returned judged data hgot short live
  · have last := lastBlock_ruling judged data hgot full ruling
    obtain ⟨settled, unsound, fresh, barred, repeated, replayed⟩ := ruling_rules r seq last found root channel hseq
    refine ⟨settled.cipher, settled.meters, settled.others, settled.ruling, settled.queue, settled.mark, settled.cur,
      settled.next, settled.renewal, fun above bad => unsound above fun sound => bad (hok.2 sound),
      fun above sound free enabled => ?_, fun why passing => barred why ?_,
      fun k within free enabled loaded serial nonce role room => ?_,
      fun within other => replayed within (repeatOf_none other)⟩
    · have handed := fresh above (hok.1 sound) free enabled
      obtain ⟨record, asked, rejects⟩ := offerHanded_judged found channel handed
      exact ⟨record, asked, rejects, fun k rest empty freeList => offerHanded_held found channel handed empty freeList,
        fun empty freeList => offerHanded_full found channel handed empty freeList,
        fun h x k held there apart role used refs quiet head =>
          offerHanded_displaced found channel handed held there apart role used refs quiet head⟩
    · exact passing.imp_left fun ⟨above, sound⟩ => ⟨above, hok.1 sound⟩
    · have repeats : s.Repeats seq plain k := ⟨loaded, serial, nonce⟩
      have first : s.repeatOf c seq plain = some k := by
        rcases role with next | ⟨cur, apart⟩
        · exact repeatOf_next next repeats
        · exact repeatOf_cur cur repeats apart
      exact repeated_judged found channel (repeated k within free enabled first) room
  · have last := lastBlock_loading judged data hgot full apart loading
    by_cases sound : ok
    · obtain ⟨settled, seated⟩ := loadingAt_seats held found next refs quiet (hok.1 sound) last
      exact ⟨settled.cipher, settled.meters, settled.others, settled.record, fun _ => seated, fun bad => absurd sound bad⟩
    · obtain ⟨settled, discarded⟩ := loadingAt_discards held found role used refs quiet (fun h => sound (hok.2 h)) last
      exact ⟨settled.cipher, settled.meters, settled.others, settled.record, fun ok => absurd ok sound, fun _ => discarded⟩

end Sys2Proof.Machine

end

section
/-!
SUPPORT. Responses to passed transactions: completed writes, delivered reads, and what a write answered ERROR does to the
slot (R15, R18, R62, R70, R79, R90).
-/

namespace Sys2Proof.Machine
-- One theorem at a time: elaborated side by side, each would hold a stack of its own.
set_option Elab.async false

/-! ## The entry that a response answers -/

section Entry

variable {s u : State} {id : Nat} {e : TransitEntry} {bytes : List (Option Byte)} {data : List Byte} {beats : Nat} {ok : Bool}

theorem issuedEntry_entry (issued : s.issuedEntry id = some e) : s.bus.entry id = some e := by
  unfold State.issuedEntry at issued
  split at issued
  next f found =>
    split at issued
    · rw [found, issued]
    · cases issued
  next => cases issued

theorem issuedEntry_id (issued : s.issuedEntry id = some e) : e.id = id := Bus.entry_id (issuedEntry_entry issued)

theorem issuedEntry_mem (issued : s.issuedEntry id = some e) : e ∈ s.bus.transit :=
  List.mem_of_find?_eq_some (issuedEntry_entry issued)

/-- An age names one entry of the transit table (R13). -/
theorem transit_unique {f : TransitEntry} (ages : s.agesSound) (he : e ∈ s.bus.transit) (hf : f ∈ s.bus.transit)
    (same : f.id = e.id) : f = e := by
  obtain ⟨rise, -⟩ := ages
  have distinct : (s.bus.transit.map (·.id)).Nodup := List.pairwise_map.2 (rise.imp Nat.ne_of_lt)
  exact List.inj_on_of_nodup_map distinct hf he same

/-- A settling leaves entries that cannot go (R10, R15). -/
theorem settle_transit_of (stay : ∀ f ∈ u.bus.transit, f.deliverable = false ∧ f.emptied = false) :
    u.settle.bus.transit = u.bus.transit := by
  rw [State.settle_transit]
  exact List.filter_eq_self.2 fun f hf => by
    obtain ⟨back, strobes⟩ := stay f hf
    simp [back, strobes]

theorem filter_map_update {α : Type} {p q : α → Bool} {g : α → α} {l : List α} (gone : ∀ x ∈ l, q x = true → p (g x) = false)
    (stay : ∀ x ∈ l, q x = false → p x = true) :
    (l.map fun x => if q x then g x else x).filter p = l.filter fun x => !q x := by
  induction l with
  | nil => rfl
  | cons x l ih =>
    have rest := ih (fun y hy => gone y (List.mem_cons_of_mem x hy)) fun y hy => stay y (List.mem_cons_of_mem x hy)
    cases hq : q x with
    | true => simp [hq, gone x (List.mem_cons_self ..) hq, rest]
    | false => simp [hq, stay x (List.mem_cons_self ..) hq, rest]

/-! ## A write completed with OKAY (R15) -/

theorem exec_passedWrite (issued : s.issuedEntry id = some e) (write : e.access = .write bytes) :
    exec (.passedResponse id []) s = .next (s.completeWrite e).settle := by
  change execPassedResponse id [] s = _
  unfold execPassedResponse
  rw [issued]
  dsimp only
  rw [write]
  rfl

theorem passedWrite_completes (rested : s.rested) (issued : s.issuedEntry id = some e) (write : e.access = .write bytes)
    (page : e.pageWrite = false) :
    ∃ t, exec (.passedResponse id []) s = .next t ∧ ⟨e.initiator, e.start, true, []⟩ ∈ t.bus.up ∧
      t.bus.transit = s.bus.transit.filter (fun f => f.id != id) ∧ SameUnits s t := by
  have mine := issuedEntry_id issued
  have eq : s.completeWrite e = s.writeFreed e := by
    rw [completeWrite_eq]
    unfold State.handPage
    rw [page]
    rfl
  refine ⟨_, exec_passedWrite issued write, completeWrite_answers s e, ?_, ?_⟩
  · rw [eq, settle_transit_of fun f hf => rested.1 f (List.mem_filter.1 hf).1, ← mine]
    rfl
  · rw [eq]
    exact SameUnits.settle ⟨⟨rfl, rfl, rfl⟩, ⟨rfl, rfl⟩, ⟨rfl, rfl⟩, rfl, rfl, rfl⟩

/-! ## A read delivered (R15, R62, R90) -/

theorem exec_passedRead (issued : s.issuedEntry id = some e) (read : e.access = .read beats) (size : data.length = 8 * beats) :
    exec (.passedResponse id data) s = .next (s.readBack id true data).settle := by
  change execPassedResponse id data s = _
  unfold execPassedResponse fitsAccess
  rw [issued]
  dsimp only
  rw [read]
  dsimp only
  rw [if_pos (by rw [size]; exact beq_self_eq_true _)]
  rfl

theorem exec_passedErrorRead (issued : s.issuedEntry id = some e) (read : e.access = .read beats)
    (size : data.length = 8 * beats) : exec (.passedErrorResponse id data) s =
      .next ((s.readBack id false data).passedMemoryError e).settle := by
  change execPassedErrorResponse id data s = _
  unfold execPassedErrorResponse fitsAccess
  rw [issued]
  dsimp only
  rw [read]
  dsimp only
  rw [if_pos (by rw [size]; exact beq_self_eq_true _)]
  rfl

/-- An entry whose response is back. -/
def TransitEntry.answered (e : TransitEntry) (ok : Bool) (data : List Byte) : TransitEntry := { e with back := some (ok, data) }

theorem answered_deliverable (served : ∀ b ∈ e.beatKeys, b ≠ .waiting) : (e.answered ok data).deliverable = true := by
  unfold TransitEntry.deliverable
  have free : .waiting ∉ e.beatKeys := fun h => served _ h rfl
  simp [TransitEntry.answered, free]

/-- The transit table and the responses when a read whose keystream is in hand has its answer. -/
theorem readBack_settled (ages : s.agesSound) (rested : s.rested) (issued : s.issuedEntry id = some e)
    (served : ∀ b ∈ e.beatKeys, b ≠ .waiting) (transit : u.bus.transit = (s.readBack id ok data).bus.transit) :
    u.settle.bus.transit = s.bus.transit.filter (fun f => f.id != id) ∧
      (⟨e.initiator, e.start, ok, e.delivered data⟩ : UpResponse) ∈ u.settle.bus.up := by
  have mine := issuedEntry_id issued
  have there := issuedEntry_mem issued
  have only (f : TransitEntry) (hf : f ∈ s.bus.transit) (h : (f.id == id) = true) : f = e :=
    transit_unique ages there hf ((eq_of_beq h).trans mine.symm)
  have goes : ((e.answered ok data).deliverable || (e.answered ok data).emptied) = true := by
    rw [answered_deliverable served, Bool.true_or]
  have marked : e.answered ok data ∈ (s.readBack id ok data).bus.transit :=
    List.mem_map.2 ⟨e, there, if_pos (by rw [mine]; exact beq_self_eq_true id)⟩
  refine ⟨?_, ?_⟩
  · rw [State.settle_transit, transit]
    refine (filter_map_update (p := fun f : TransitEntry => !(f.deliverable || f.emptied)) (q := fun f : TransitEntry => f.id == id) (fun f hf h => ?_)
      fun f hf _ => ?_).trans rfl
    · rw [only f hf h]
      exact congrArg (! ·) goes
    · obtain ⟨back, strobes⟩ := rested.1 f hf
      simp [back, strobes]
  · rw [State.settle_up, transit]
    refine List.mem_append_left _ (List.mem_reverse.2 (List.mem_map.2 ⟨_, List.mem_filter.2 ⟨marked, goes⟩, rfl⟩))

/-- How a read's data is treated, byte by byte (R15, R62, R90). -/
theorem delivered_get (e : TransitEntry) {i : Nat} {v : Byte} (got : data[i]? = some v) :
    (e.treat.getD i .raw = .raw → (e.delivered data)[i]? = some v) ∧
    (e.treat.getD i .raw = .zero → (e.delivered data)[i]? = some 0) ∧
    (∀ ks, e.treat.getD i .raw = .decipher → e.beatKeys.getD (i / 8) .none = .held ks →
      (e.delivered data)[i]? = some (v ^^^ (beatBytes ks).getD (i % 8) 0)) ∧
    (e.treat.getD i .raw = .decipher → e.beatKeys.getD (i / 8) .none = .withdrawn → (e.delivered data)[i]? = some 0) := by
  unfold TransitEntry.delivered
  rw [List.getElem?_map, List.getElem?_zipIdx, got]
  simp only [Option.map_some, Nat.zero_add]
  refine ⟨fun raw => ?_, fun zero => ?_, fun ks decipher held => ?_, fun decipher withdrawn => ?_⟩
  · rw [raw]
  · rw [zero]
  · rw [decipher, held]
  · rw [decipher, withdrawn]

theorem delivered_length (e : TransitEntry) (data : List Byte) : (e.delivered data).length = data.length := by
  unfold TransitEntry.delivered
  rw [List.length_map, List.length_zipIdx]

end Entry

end Sys2Proof.Machine

end

section
/-!
SUPPORT. A passed write answered ERROR: its fault, and what it does to the slot that it wrote (R18, R70, R79).
-/

namespace Sys2Proof.Machine
-- One theorem at a time: elaborated side by side, each would hold a stack of its own.
set_option Elab.async false

section Late

variable {s u : State} {id n off : Nat} {e : TransitEntry} {r : SlotRec} {bytes : List (Option Byte)}

/-! ## An outbound slot's write (R70) -/

theorem outboundLate_apart (h : s.slotRec n = some r) (apart : e.fills = false ∨ e.opening ≠ r.opening ∨ r.state = .tagged) :
    s.outboundLate e n = s := by
  unfold State.outboundLate
  rw [h]
  dsimp only
  split
  next mine =>
    simp only [Bool.and_eq_true, decide_eq_true_eq] at mine
    obtain ⟨⟨fills, -⟩, same⟩ := mine
    rcases apart with given | differ | tagged
    · rw [fills] at given
      cases given
    · exact absurd same.symm differ
    · rw [tagged]
  next => rfl

theorem outboundLate_own (h : s.slotRec n = some r) (fills : e.fills = true) (opened : e.opening.isSome = true)
    (same : e.opening = r.opening) :
    (r.state = .filling ∨ (r.state = .tagging ∧ (r.stage = some .waiting ∨ r.stage = some .settled)) →
      s.outboundLate e n = s.clearValid n) ∧
    (r.state = .tagging → r.stage ≠ some .waiting → r.stage ≠ some .settled → s.outboundLate e n =
      if r.reason = .disturbed then s
      else if r.frameAsked then s.setRec n fun r => { r with reason := .memory }
      else s.failOutbound n .memory) := by
  have mine : (e.fills && e.opening.isSome && decide (r.opening = e.opening)) = true := by
    rw [fills, opened, same]
    simp
  unfold State.outboundLate
  rw [h]
  dsimp only
  rw [if_pos mine]
  refine ⟨?_, fun tagging notWaiting notSettled => ?_⟩
  · rintro (filling | ⟨tagging, waiting | settled⟩)
    · rw [filling]
    · rw [tagging, waiting]
    · rw [tagging, settled]
  · rw [tagging]
    dsimp only
    split
    next waiting => exact absurd waiting notWaiting
    next settled => exact absurd settled notSettled
    next => rfl

/-- Nothing but an outbound slot that fails touches anything besides slot records and merge entries (R70). -/
theorem outboundLate_framed (s : State) (e : TransitEntry) (n : Nat) : Framed s (s.outboundLate e n) := by
  unfold State.outboundLate
  (repeat' split)
  · exact Framed.refl s
  · exact framed_of_only ⟨_, _, _, _, rfl⟩
  · exact framed_of_only ⟨_, _, _, _, rfl⟩
  · exact framed_of_only ⟨_, _, _, _, rfl⟩
  · exact Framed.refl s
  · exact framed_setRec s n _
  · exact framed_failOutbound s n _
  · exact Framed.refl s
  · exact Framed.refl s

theorem failOutbound_faults (h : s.slotRec n = some r) (why : Reason) (empty : s.ks.overflow = []) :
    (s.failOutbound n why).faults = s.faults := by
  cases key : r.keySlot with
  | none =>
    rw [failOutbound_eq h, key]
    exact (failRec_silent s n why).1
  | some k => exact failOutbound_silent h key (.inr empty)

theorem outboundLate_faults (h : s.slotRec n = some r) (quiet : s.ks.overflow = [] ∨ r.state ≠ .tagging) :
    (s.outboundLate e n).faults = s.faults := by
  unfold State.outboundLate
  rw [h]
  dsimp only
  split
  · cases state : r.state with
    | tagging =>
      dsimp only
      (repeat' split) <;> try rfl
      exact failOutbound_faults h _ (quiet.resolve_right fun still => still state)
    | _ => rfl
  · rfl

/-! ## An inbound slot's write (R79) -/

theorem inboundLate_apart (h : s.slotRec n = some r) (write : e.access = .write bytes)
    (apart : e.clear = true ∨ e.opening ≠ r.opening ∨ r.state = .passed ∨ r.state = .rejected) : s.inboundLate e n = s := by
  unfold State.inboundLate
  rw [h, write]
  dsimp only
  split
  next mine =>
    simp only [Bool.and_eq_true, decide_eq_true_eq, Bool.not_eq_true'] at mine
    obtain ⟨⟨line, -⟩, same⟩ := mine
    rcases apart with clear | differ | passed | rejected
    · rw [line] at clear
      cases clear
    · exact absurd same.symm differ
    · rw [passed]
    · rw [rejected]
  next => rfl

/-- The record of a present arrival after a line-side write of it was answered ERROR (R79). -/
def SlotRec.lateWritten (r : SlotRec) (header payload : Bool) : SlotRec :=
  { r with
    reason := if r.state = .arriving ∧ header = true then .memory else r.reason
    valid := if (r.state = .arriving ∨ r.stage = some .waiting) ∧ payload = true then false else r.valid
    noted := if r.state = .checking ∧ (header = true ∨ (r.stage ≠ some .waiting ∧ payload = true)) then
        r.noted.or (some .memory)
      else r.noted }

/-- A change of one record and of the merge entries alone. -/
def RecordOnly (n : Nat) (x : SlotRec) (s t : State) : Prop :=
  t.slotRec n = some x ∧ OtherRecords s t n ∧ SameKeys s t ∧ t.ks = s.ks

theorem recordOnly_setRec (f : SlotRec → SlotRec) (h : s.slotRec n = some r) : RecordOnly n (f r) s (s.setRec n f) :=
  ⟨setRec_self f h, setRec_others s n f, ⟨rfl, rfl⟩, rfl⟩

theorem recordOnly_clearValid (h : s.slotRec n = some r) : RecordOnly n { r with valid := false } s (s.clearValid n) :=
  ⟨clearValid_self h, clearValid_others s n, ⟨rfl, rfl⟩, rfl⟩

theorem RecordOnly.trans {x y : SlotRec} {t : State} (h : RecordOnly n x s u) (g : RecordOnly n y u t) :
    RecordOnly n y s t := by
  obtain ⟨-, others, keys, ks⟩ := h
  obtain ⟨found, others', keys', ks'⟩ := g
  exact ⟨found, fun m hm => (others' m hm).trans (others m hm), ⟨keys'.1.trans keys.1, keys'.2.trans keys.2⟩, ks'.trans ks⟩

theorem late_header (f : SlotRec → SlotRec) (header : Bool) (h : s.slotRec n = some r)
    (changed : f r = r.lateWritten true false) (left : r = r.lateWritten false false) :
    RecordOnly n (r.lateWritten header false) s (if header = true then s.setRec n f else s) := by
  cases header with
  | true =>
    rw [if_pos rfl, ← changed]
    exact recordOnly_setRec f h
  | false =>
    rw [if_neg Bool.false_ne_true, ← left]
    exact ⟨h, fun _ _ => rfl, ⟨rfl, rfl⟩, rfl⟩

theorem arriving_late (header payload : Bool) (h : s.slotRec n = some r) (state : r.state = .arriving) :
    RecordOnly n (r.lateWritten header payload) s
      (if payload = true then (if header = true then s.setRec n fun r => { r with reason := .memory } else s).clearValid n
      else if header = true then s.setRec n fun r => { r with reason := .memory } else s) := by
  have first := late_header (s := s) (fun r => { r with reason := .memory }) header h
    (by simp [SlotRec.lateWritten, state]) (by simp [SlotRec.lateWritten])
  cases payload with
  | false => exact first
  | true =>
    have spoilt : ({ r.lateWritten header false with valid := false } : SlotRec) = r.lateWritten header true := by
      simp [SlotRec.lateWritten, state]
    rw [if_pos rfl, ← spoilt]
    exact first.trans (recordOnly_clearValid first.1)

theorem checking_late (header payload : Bool) (h : s.slotRec n = some r) (state : r.state = .checking) :
    RecordOnly n (r.lateWritten header payload) s
      (if payload = true then
        (if r.stage = some .waiting then (if header = true then s.note n .memory else s).clearValid n
        else (if header = true then s.note n .memory else s).note n .memory)
      else if header = true then s.note n .memory else s) := by
  have first := late_header (s := s) (fun r => { r with noted := r.noted.or (some .memory) }) header h
    (by simp [SlotRec.lateWritten, state]) (by simp [SlotRec.lateWritten])
  cases payload with
  | false => exact first
  | true =>
    rw [if_pos rfl]
    by_cases waiting : r.stage = some .waiting
    · have spoilt : ({ r.lateWritten header false with valid := false } : SlotRec) = r.lateWritten header true := by
        simp [SlotRec.lateWritten, state, waiting]
      rw [if_pos waiting, ← spoilt]
      exact first.trans (recordOnly_clearValid first.1)
    · have noted : ({ r.lateWritten header false with
          noted := (r.lateWritten header false).noted.or (some .memory) } : SlotRec) = r.lateWritten header true := by
        cases header <;> simp [SlotRec.lateWritten, state, waiting]
      rw [if_neg waiting, ← noted]
      exact first.trans (recordOnly_setRec (fun r => { r with noted := r.noted.or (some .memory) }) first.1)

theorem inboundLate_own (h : s.slotRec n = some r) (write : e.access = .write bytes) (hoff : off = e.start % 2048)
    (line : e.clear = false) (opened : e.opening.isSome = true) (same : e.opening = r.opening)
    (state : r.state = .arriving ∨ r.state = .checking) :
    RecordOnly n (r.lateWritten (strobesIn bytes off 0 14) (strobesIn bytes off 32 2048)) s (s.inboundLate e n) := by
  have mine : (!e.clear && e.opening.isSome && decide (r.opening = e.opening)) = true := by
    rw [line, opened, same]
    simp
  subst hoff
  unfold State.inboundLate
  rw [h, write]
  dsimp only
  rw [if_pos mine]
  rcases state with arriving | checking
  · rw [arriving]
    exact arriving_late _ _ h arriving
  · rw [checking]
    have whole := checking_late (strobesIn bytes (e.start % Config.slotBytes) 0 14)
      (strobesIn bytes (e.start % Config.slotBytes) 32 Config.slotBytes) h checking
    dsimp only
    split
    next payload =>
      rw [if_pos payload] at whole
      split
      next waiting =>
        rw [if_pos waiting] at whole
        exact whole
      next other =>
        rw [if_neg other] at whole
        exact whole
    next payload =>
      rw [if_neg payload] at whole
      exact whole

/-- Nothing but slot records, merge entries and key slots changes at a late error (R70, R79). -/
theorem inboundLate_framed (s : State) (e : TransitEntry) (n : Nat) : Framed s (s.inboundLate e n) := by
  unfold State.inboundLate
  dsimp only
  (repeat' split) <;> exact framed_of_only ⟨_, _, _, _, rfl⟩

theorem inboundLate_faults (s : State) (e : TransitEntry) (n : Nat) : (s.inboundLate e n).faults = s.faults := by
  unfold State.inboundLate
  dsimp only
  (repeat' split) <;> rfl

/-! ## The response itself (R11, R18) -/

/-- The state in which a passed write was answered ERROR, before what that does to its slot (R11, R18). -/
def State.writeRefused (s : State) (e : TransitEntry) : State :=
  ((s.freeTransit e.id).respond ⟨e.initiator, e.start, false, []⟩).passedMemoryError e

/-- The occurrence of a passed transaction answered ERROR (R11, R18). -/
def passedErrorOf (e : TransitEntry) : Occurrence :=
  ⟨.memoryError, .degraded, none, e.window, e.slot, some e.initiator, false⟩

theorem passedMemoryError_eq (s : State) (e : TransitEntry) : s.passedMemoryError e = s.recordFault (passedErrorOf e) := rfl

theorem exec_passedErrorWrite (issued : s.issuedEntry id = some e) (write : e.access = .write bytes) :
    exec (.passedErrorResponse id []) s = .next ((s.writeRefused e).lateError e).settle := by
  change execPassedErrorResponse id [] s = _
  unfold execPassedErrorResponse
  rw [issued]
  dsimp only
  rw [write, ← issuedEntry_id issued]
  rfl

/-- What a refused write leaves of the state it was met in. -/
structure WriteRefused (e : TransitEntry) (s t : State) : Prop where
  pool : t.pool = s.pool
  frames : t.ks = s.ks ∧ t.merges = s.merges
  keys : SameKeys s t
  meters : SameMeters s t
  notices : t.notices = s.notices
  faults : t.faults = (s.recordFault (passedErrorOf e)).faults
  windows : t.windows = s.windows
  transit : t.bus.transit = s.bus.transit.filter fun f => f.id != e.id
  up : ⟨e.initiator, e.start, false, []⟩ ∈ t.bus.up

theorem writeRefused_refused (s : State) (e : TransitEntry) : WriteRefused e s (s.writeRefused e) := by
  have mild : (passedErrorOf e).severity ≠ .fatal := by simp [passedErrorOf]
  unfold State.writeRefused
  rw [passedMemoryError_eq]
  have served := served_recordFault (s := (s.freeTransit e.id).respond ⟨e.initiator, e.start, false, []⟩) mild
  exact
    { pool := recordFault_pool _ _
      frames := ⟨recordFault_ks _ _, recordFault_merges _ _⟩
      keys := ⟨served.store, served.channels⟩
      meters := served.meters
      notices := served.notices
      faults := recordFault_faults_congr _ rfl rfl
      windows := served.windows
      transit := by rw [recordFault_transit]; rfl
      up := by rw [served.bus.2.2.1]; exact List.mem_cons_self .. }

theorem WriteRefused.slotRec {t : State} (h : WriteRefused e s t) (n : Nat) : t.slotRec n = s.slotRec n := by
  unfold State.slotRec
  rw [h.pool]

theorem lateError_outbound (mine : e.recNo = some n) (h : s.slotRec n = some r) (role : r.role = .outbound) :
    s.lateError e = s.outboundLate e n := by
  unfold State.lateError
  rw [mine]
  dsimp only
  rw [h, Option.map_some, role]

theorem lateError_inbound (mine : e.recNo = some n) (h : s.slotRec n = some r) (role : r.role = .inbound) :
    s.lateError e = s.inboundLate e n := by
  unfold State.lateError
  rw [mine]
  dsimp only
  rw [h, Option.map_some, role]

theorem lateError_framed (s : State) (e : TransitEntry) : Framed s (s.lateError e) := by
  unfold State.lateError
  (repeat' split)
  · exact Framed.refl s
  · exact outboundLate_framed s e _
  · exact inboundLate_framed s e _
  · exact Framed.refl s

theorem lateError_faults (quiet : s.ks.overflow = [] ∨
    ∀ n, e.recNo = some n → ∀ r, s.slotRec n = some r → r.state ≠ .tagging) : (s.lateError e).faults = s.faults := by
  unfold State.lateError
  split
  · rfl
  next n mine =>
    cases found : s.slotRec n with
    | none => rfl
    | some r =>
      dsimp only [Option.map]
      split
      · exact outboundLate_faults found (quiet.imp_right fun still => still n mine r found)
      · exact inboundLate_faults s e n
      · rfl

end Late

end Sys2Proof.Machine

end

section
/-!
SUPPORT. The responses to passed transactions, together (R11, R15, R18, R62, R70, R79, R90).
-/

namespace Sys2Proof.Machine
-- One theorem at a time: elaborated side by side, each would hold a stack of its own.
set_option Elab.async false

section Passed

variable {s t v : State} {id n : Nat} {e : TransitEntry} {r : SlotRec} {bytes : List (Option Byte)} {data : List Byte}
  {beats : Nat}

/-- What a payload write of an outbound slot's present opening does to it when it was answered ERROR (R70). -/
theorem outboundError_rules (refused : WriteRefused e s v) (found : s.slotRec n = some r)
    (eq : t = (v.outboundLate e n).settle) (fills : e.fills = true) (opened : e.opening.isSome = true)
    (same : e.opening = r.opening) :
    (r.state = .filling ∨ (r.state = .tagging ∧ (r.stage = some .waiting ∨ r.stage = some .settled)) →
      t.slotRec n = some { r with valid := false } ∧ OtherRecords s t n ∧ t.ks = s.ks ∧ SameKeys s t ∧
      t.merges = s.merges.filter (fun m => m.recNo != n)) ∧
    (r.state = .tagging → r.stage ≠ some .waiting → r.stage ≠ some .settled →
      (r.reason = .disturbed → t.slotRec n = some r ∧ SameFrames s t ∧ SameKeys s t) ∧
      (r.reason ≠ .disturbed → r.frameAsked = true → t.slotRec n = some { r with reason := .memory } ∧
        OtherRecords s t n ∧ t.ks = s.ks ∧ SameKeys s t) ∧
      (r.reason ≠ .disturbed → r.frameAsked = false → ResultAsked t n r .failed .memory ∧
        ∃ q, t.slotRec n = some q ∧ q.state = .failed ∧ q.reason = .memory ∧ q.key = none ∧
          q.finish = none)) := by
  have found' : v.slotRec n = some r := (refused.slotRec n).trans found
  obtain ⟨spoils, later⟩ := outboundLate_own found' fills opened same
  refine ⟨fun early => ?_, fun tagging notWaiting notSettled => ?_⟩
  · rw [spoils early] at eq
    subst eq
    refine ⟨(State.settle_slotRec _ n).trans (clearValid_self found'), otherRecords_settle.2 fun m hm => ?_,
      (State.settle_ks _).trans refused.frames.1, sameKeys_settle.2 refused.keys, ?_⟩
    · rw [clearValid_others v n m hm, refused.slotRec]
    · rw [State.settle_merges]
      exact congrArg (List.filter _) refused.frames.2
  · rw [later tagging notWaiting notSettled] at eq
    refine ⟨fun disturbed => ?_, fun calm asked => ?_, fun calm unasked => ?_⟩
    · rw [if_pos disturbed] at eq
      subst eq
      exact ⟨(State.settle_slotRec _ n).trans found', sameFrames_settle.2 ⟨refused.pool, refused.frames⟩,
        sameKeys_settle.2 refused.keys⟩
    · rw [if_neg calm, if_pos asked] at eq
      subst eq
      refine ⟨(State.settle_slotRec _ n).trans (setRec_self (fun r => { r with reason := .memory }) found'),
        otherRecords_settle.2 fun m hm => ?_, (State.settle_ks _).trans refused.frames.1, sameKeys_settle.2 refused.keys⟩
      rw [setRec_others v n (fun r => { r with reason := .memory }) m hm, refused.slotRec]
    · rw [if_neg calm, if_neg (by simp [unasked])] at eq
      subst eq
      obtain ⟨⟨q, record, _, _, _, rfl⟩, wanted⟩ := failOutbound_result (why := .memory) found'
      exact ⟨wanted.settle, _, (State.settle_slotRec _ n).trans record, rfl, rfl, rfl, rfl⟩

theorem refused_unchanged (refused : WriteRefused e s v) : SameFrames s v.settle ∧ SameKeys s v.settle :=
  ⟨sameFrames_settle.2 ⟨refused.pool, refused.frames⟩, sameKeys_settle.2 refused.keys⟩

/-- A read's answer reaches upstream with its data treated (R15, R62, R90). -/
theorem passedRead_delivers (ages : s.agesSound) (rested : s.rested) (issued : s.issuedEntry id = some e)
    (read : e.access = .read beats) (size : data.length = 8 * beats) (served : ∀ b ∈ e.beatKeys, b ≠ .waiting) :
    ∃ t, exec (.passedResponse id data) s = .next t ∧ SameUnits s t ∧
      t.bus.transit = s.bus.transit.filter (fun f => f.id != id) ∧
      ∃ u ∈ t.bus.up, u.initiator = e.initiator ∧ u.start = e.start ∧ u.ok = true ∧ u.data.length = data.length ∧
        ∀ (i : Nat) (v : Byte), data[i]? = some v →
          (e.treat.getD i .raw = .raw → u.data[i]? = some v) ∧
          (e.treat.getD i .raw = .zero → u.data[i]? = some 0) ∧
          (∀ ks, e.treat.getD i .raw = .decipher → e.beatKeys.getD (i / 8) .none = .held ks →
            u.data[i]? = some (v ^^^ (beatBytes ks).getD (i % 8) 0)) ∧
          (e.treat.getD i .raw = .decipher → e.beatKeys.getD (i / 8) .none = .withdrawn → u.data[i]? = some 0) := by
  obtain ⟨transit, up⟩ := readBack_settled (ok := true) (data := data) ages rested issued served rfl
  exact ⟨_, exec_passedRead issued read size, SameUnits.settle ⟨⟨rfl, rfl, rfl⟩, ⟨rfl, rfl⟩, ⟨rfl, rfl⟩, rfl, rfl, rfl⟩,
    transit, _, up, rfl, rfl, rfl, delivered_length e data, fun i v got => delivered_get e got⟩

theorem passedErrorRead_delivers (ages : s.agesSound) (rested : s.rested) (issued : s.issuedEntry id = some e)
    (read : e.access = .read beats) (size : data.length = 8 * beats) (served : ∀ b ∈ e.beatKeys, b ≠ .waiting) :
    ∃ t, exec (.passedErrorResponse id data) s = .next t ∧
      t.bus.transit = s.bus.transit.filter (fun f => f.id != id) ∧ SameFrames s t ∧ SameKeys s t ∧
      t.faults = (s.recordFault (passedErrorOf e)).faults ∧
      ∃ u ∈ t.bus.up, u.initiator = e.initiator ∧ u.start = e.start ∧ u.ok = false := by
  have mild : (passedErrorOf e).severity ≠ .fatal := by simp [passedErrorOf]
  have kept := served_recordFault (s := s.readBack id false data) mild
  obtain ⟨transit, up⟩ := readBack_settled (ok := false) (data := data)
    (u := (s.readBack id false data).recordFault (passedErrorOf e)) ages rested issued served (by rw [recordFault_transit])
  exact ⟨_, exec_passedErrorRead issued read size, transit,
    sameFrames_settle.2 ⟨recordFault_pool _ _, recordFault_ks _ _, recordFault_merges _ _⟩,
    sameKeys_settle.2 ⟨kept.store, kept.channels⟩,
    (State.settle_faults _).trans (recordFault_faults_congr _ rfl rfl), _, up, rfl, rfl, rfl⟩

end Passed

/-- Settles O30: writes answered OKAY, writes answered ERROR, by the role and the stage of their slot, and reads. -/
theorem passedResponses : Obligations.PassedResponses := by
  intro id s e ages rested issued
  refine ⟨fun bytes write page => passedWrite_completes rested issued write page, fun bytes write => ?_,
    fun beats data read size served => ⟨passedRead_delivers ages rested issued read size served,
      passedErrorRead_delivers ages rested issued read size served⟩⟩
  have refused := writeRefused_refused s e
  have framed := lateError_framed (s.writeRefused e) e
  have mine := issuedEntry_id issued
  refine ⟨_, exec_passedErrorWrite issued write, mem_up_settle ?_, fun f hf => ?_, sameMeters_settle.2 ?_,
    SameNotices.settle (sameNotices_of_eq (framed.notices.trans refused.notices)), fun quiet => ?_, fun none' => ?_,
    fun n own r found => ⟨fun role fills opened same => ?_, fun role apart => ?_,
      fun off hoff role line opened same state => ?_, fun role apart => ?_⟩⟩
  · rw [framed.bus.2.2.1]
    exact refused.up
  · rw [State.settle_transit] at hf
    have there : f.id ∈ (s.writeRefused e).bus.transit.map (·.id) :=
      framed.bus.2.2.2.2 ▸ List.mem_map_of_mem (List.mem_filter.1 hf).1
    obtain ⟨g, hg, same⟩ := List.mem_map.1 there
    rw [refused.transit] at hg
    have apart := (List.mem_filter.1 hg).2
    rw [← mine, ← same]
    simpa using apart
  · exact ⟨framed.meters.1.trans refused.meters.1, framed.meters.2.trans refused.meters.2⟩
  · have faults := lateError_faults (s := s.writeRefused e) (e := e) (by
      rw [refused.frames.1]
      exact quiet.imp_right fun still n own r found => still n own r ((refused.slotRec n).symm.trans found))
    exact (State.settle_faults _).trans (faults.trans refused.faults)
  · have eq : (s.writeRefused e).lateError e = s.writeRefused e := by
      unfold State.lateError
      rw [none']
    rw [eq]
    exact (refused_unchanged refused).1
  · rw [lateError_outbound own ((refused.slotRec n).trans found) role]
    exact outboundError_rules refused found rfl fills opened same
  · rw [lateError_outbound own ((refused.slotRec n).trans found) role,
      outboundLate_apart ((refused.slotRec n).trans found) apart]
    exact refused_unchanged refused
  · rw [lateError_inbound own ((refused.slotRec n).trans found) role]
    obtain ⟨record, others, keys, -⟩ :=
      inboundLate_own ((refused.slotRec n).trans found) write hoff line opened same state
    refine ⟨otherRecords_settle.2 fun m hm => (others m hm).trans (refused.slotRec m),
      sameKeys_settle.2 ⟨keys.1.trans refused.keys.1, keys.2.trans refused.keys.2⟩,
      (State.settle_slotRec _ n).trans record⟩
  · rw [lateError_inbound own ((refused.slotRec n).trans found) role,
      inboundLate_apart ((refused.slotRec n).trans found) write apart]
    exact refused_unchanged refused

end Sys2Proof.Machine

end

section
/-!
SUPPORT. An injected transaction that fails: its fault, its entry, and the ages that keep it out of the queue
(R13, R19, R20).
-/

namespace Sys2Proof.Machine
-- One theorem at a time: elaborated side by side, each would hold a stack of its own.
set_option Elab.async false

/-! ## Ages only grow (R13) -/

section Stamps

theorem recordFault_stamp (s : State) (o : Occurrence) : (s.recordFault o).stamp = s.stamp := by
  obtain ⟨_, _, _, _, only, -⟩ := s.recordFault_only o
  rw [only]

theorem fold_stamp (s : State) (n b : Nat) (blk : Block) (whole : Bool) : (s.fold n b blk whole).stamp = s.stamp := by
  unfold State.fold
  (repeat' split) <;> simp

theorem evictMerge_stamp (s : State) : s.evictMerge.stamp = s.stamp := by
  unfold State.evictMerge
  split
  · rfl
  · exact recordFault_stamp _ _

theorem mergeStep_stamp (s : State) (n b : Nat) (bytes : List (Option Byte)) : (s.mergeStep n b bytes).stamp = s.stamp := by
  unfold State.mergeStep State.newMerge
  dsimp only
  (repeat' split) <;> simp [fold_stamp, evictMerge_stamp]

theorem serveBeat_stamp (s : State) (w : Waiter) (ks : Block) : (s.serveBeat w ks).stamp = s.stamp := by
  unfold State.serveBeat State.blockStep State.setEntry
  dsimp only
  (repeat' split) <;> simp [fold_stamp, mergeStep_stamp]

theorem lookupBeat_stamp (s : State) (o : OverflowBeat) : s.stamp ≤ (s.lookupBeat o).stamp := by
  unfold State.lookupBeat
  (repeat' split)
  · exact (serveBeat_stamp s _ _).ge
  · exact Nat.le_refl _
  · exact Nat.le_succ _
  · exact Nat.le_refl _

theorem serveOverflowList_stamp (l : List OverflowBeat) (s : State) : s.stamp ≤ (State.serveOverflowList l s).stamp := by
  induction l generalizing s with
  | nil => exact Nat.le_refl _
  | cons o l ih =>
    unfold State.serveOverflowList
    split
    · exact (lookupBeat_stamp s o).trans (ih _)
    · exact Nat.le_refl _

theorem zeroise_stamp (s : State) (k : Fin 32) : s.stamp ≤ (s.zeroise k).stamp := by
  have beats (l : List Waiter) (u : State) : (l.foldl State.withdrawBeat u).stamp = u.stamp := by
    induction l generalizing u with
    | nil => rfl
    | cons w l ih => exact ih _
  have served := serveOverflowList_stamp ((s.waitersOn k).foldl State.withdrawBeat (s.keystreamPurged k)).ks.overflow
    ((s.waitersOn k).foldl State.withdrawBeat (s.keystreamPurged k))
  rw [beats] at served
  exact served

theorem judgeKey_stamp (s : State) (k : Fin 32) : s.stamp ≤ (s.judgeKey k).stamp := by
  unfold State.judgeKey
  (repeat' split)
  · exact Nat.le_refl _
  · exact Nat.le_refl _
  · exact zeroise_stamp s k
  · exact Nat.le_refl _
  · exact Nat.le_refl _

theorem dropRef_stamp (s : State) (k : Fin 32) : s.stamp ≤ (s.dropRef k).stamp := judgeKey_stamp (s.untakeRef k) k

theorem dropRefOf_stamp (s : State) (k : Option (Fin 32)) : s.stamp ≤ (s.dropRefOf k).stamp := by
  cases k with
  | none => exact Nat.le_refl _
  | some k => exact dropRef_stamp s k

theorem failRec_stamp (s : State) (n : Nat) (why : Reason) : (s.failRec n why).stamp = s.stamp := by
  unfold State.failRec State.askResult
  split <;> rfl

theorem failOutbound_stamp (s : State) (n : Nat) (why : Reason) : s.stamp ≤ (s.failOutbound n why).stamp := by
  unfold State.failOutbound
  exact (failRec_stamp s n why).symm.le.trans (dropRefOf_stamp _ _)

theorem reject_stamp (s : State) (n : Nat) (why : Reason) : s.stamp ≤ (s.reject n why none).stamp := by
  unfold State.reject
  split
  · exact Nat.le_refl _
  next r _ =>
    obtain ⟨_, _, only⟩ := rejectRec_only s n why
    have same : (s.rejectRec n why).stamp = s.stamp := by rw [only]
    exact same.symm.le.trans (dropRefOf_stamp _ r.keySlot)

theorem releaseRec_stamp (s : State) (n : Nat) : s.stamp ≤ (s.releaseRec n).stamp := dropRefOf_stamp (s.freshen n) _

theorem clearHold_stamp (s : State) (c : Fin 16) : s.stamp ≤ (s.clearHold c).stamp := by
  unfold State.clearHold
  split
  · exact Nat.le_refl _
  next h _ => exact dropRef_stamp (s.holdless c h) h.key

theorem returnCarried_only (s : State) (c : Carried) : ∃ table, s.returnCarried c = { s with faults := { s.faults with table := table } } := by
  unfold State.returnCarried
  split <;> exact ⟨_, rfl⟩

theorem returnCarrieds_only (l : List Carried) (s : State) :
    ∃ table, l.foldl State.returnCarried s = { s with faults := { s.faults with table := table } } := by
  induction l generalizing s with
  | nil => exact ⟨_, rfl⟩
  | cons c l ih =>
    obtain ⟨_, first⟩ := returnCarried_only s c
    obtain ⟨_, rest⟩ := ih (s.returnCarried c)
    exact ⟨_, rest.trans (by rw [first])⟩

end Stamps

/-! ## The failed operation leaves the queue alone -/

section Queue

variable {s : State}

/-- The injection queue is as it was, and the next age no lower. -/
def QueueKept (s t : State) : Prop := t.bus.inj = s.bus.inj ∧ s.stamp ≤ t.stamp

theorem queueKept_of_framed {t : State} (framed : Framed s t) (stamp : s.stamp ≤ t.stamp) : QueueKept s t :=
  ⟨framed.bus.1, stamp⟩

theorem queueKept_refl (s : State) : QueueKept s s := ⟨rfl, Nat.le_refl _⟩

theorem queueKept_ctl {t : State} (h : ∃ ctl asked, t = { s with ctl := ctl, bus := { s.bus with injAsked := asked } }) :
    QueueKept s t := by
  obtain ⟨_, _, rfl⟩ := h
  exact ⟨rfl, Nat.le_refl _⟩

theorem queueKept_failComposition (s : State) (c : Composition) : QueueKept s (s.failComposition c) := by
  unfold State.failComposition
  split
  · exact queueKept_refl s
  next r _ =>
    have released : QueueKept s (({ s with notices := { s.notices with comp := none } }).releaseRec c.recNo) :=
      queueKept_of_framed (s := { s with notices := { s.notices with comp := none } }) (framed_releaseRec _ _)
        (releaseRec_stamp _ _)
    obtain ⟨_, carried⟩ := returnCarrieds_only c.carried (({ s with notices := { s.notices with comp := none } }).releaseRec c.recNo)
    have returned : QueueKept s (c.carried.foldl State.returnCarried
        (({ s with notices := { s.notices with comp := none } }).releaseRec c.recNo)) := by
      rw [carried]
      exact released
    dsimp only
    split
    · obtain ⟨_, _, _, _, blocked, -⟩ := State.noticeBlocked_only (c.carried.foldl State.returnCarried
        (({ s with notices := { s.notices with comp := none } }).releaseRec c.recNo)) ‹_› (some r.window) (some r.slot)
      rw [blocked]
      exact returned
    · exact returned

theorem queueKept_failFinish (s : State) (n o : Nat) (why : Reason) : QueueKept s (s.failFinish n o why) := by
  unfold State.failFinish
  (repeat' split)
  · exact queueKept_refl s
  · exact queueKept_of_framed (framed_failOutbound s n _) (failOutbound_stamp s n _)
  · exact queueKept_of_framed (framed_reject s n _ (fun _ h => nomatch h)) (reject_stamp s n _)
  · exact queueKept_refl s

theorem queueKept_clearHold (s : State) (c : Fin 16) : QueueKept s (s.clearHold c) := by
  cases held : (s.chan c).hold with
  | none =>
    rw [clearHold_none held]
    exact queueKept_refl s
  | some h => exact ⟨(kept_clearHold held).bus.1, clearHold_stamp s c⟩

theorem queueKept_failRuling (s : State) (c : Fin 16) (n : Nat) (why : Reason) : QueueKept s (s.failRuling c n why) :=
  queueKept_of_framed (s := s.endRuling c) (framed_reject _ n _ (fun _ h => nomatch h)) (reject_stamp _ n _)

theorem queueKept_failOffer (s : State) (c : Fin 16) (work : Nat) (why : Reason) : QueueKept s (s.failOffer c work why) := by
  unfold State.failOffer
  (repeat' split)
  · exact queueKept_failRuling s c _ why
  · exact queueKept_clearHold s c
  · exact queueKept_refl s
  · exact queueKept_clearHold s c
  · exact queueKept_refl s
  · exact queueKept_refl s

theorem queueKept_failOp (s : State) (op : InjOp) (why : Reason) : QueueKept s (s.failOp op why) := by
  cases op with
  | tagRead n o | tailFetch n o | sweepRead n o _ | frameWrite n o => exact queueKept_failFinish s n o why
  | headerResult | resetZero => exact queueKept_refl s
  | lostWord =>
    change QueueKept s s.followLost
    unfold State.followLost
    split
    · exact queueKept_refl s
    · exact ⟨rfl, Nat.le_refl _⟩
  | offerRead c work => exact queueKept_failOffer s c work why
  | noticeLine1 o | noticeLine0 o =>
    unfold State.failOp
    dsimp only
    split
    · exact queueKept_failComposition s _
    · exact queueKept_refl s
  | fetch => exact queueKept_refl s
  | statusWrite =>
    obtain ⟨_, _, only⟩ := judgeCompletion_only s
    exact queueKept_ctl ⟨_, _, only⟩
  | reportRecord =>
    obtain ⟨_, _, lost⟩ := State.loseReport_only s
    obtain ⟨_, _, turn⟩ := State.reportTurn_only s.loseReport
    exact queueKept_ctl ⟨_, _, turn.trans (by rw [lost])⟩
  | reportWord => exact queueKept_ctl (State.reportTurn_only s)

end Queue

/-! ## The fault and the entry (R19, R20) -/

section Failed

variable {s : State} {e : InjEntry} {id : Nat} {f : Occurrence} {late : Bool} {why : Reason}

/-- The state in which an injected transaction has failed, before its operation ends. -/
def State.injFailed (s : State) (id : Nat) (f : Occurrence) : State := (s.freeInj id).recordFault f

/-- The occurrence of an injected transaction that failed. -/
def injFault (e : InjEntry) (late : Bool) : Occurrence :=
  ⟨if late then .downstreamTimeout else .memoryError, .fatal, none, e.req.window, e.req.slot, none, e.req.op.quiet⟩

theorem issuedInj_mem (issued : s.issuedInj id = some e) : e ∈ s.bus.inj ∧ e.id = id := by
  unfold State.issuedInj Bus.injEntry at issued
  split at issued
  next x found =>
    split at issued
    · cases issued
      exact ⟨List.mem_of_find?_eq_some found, by simpa using List.find?_some found⟩
    · cases issued
  next => cases issued

theorem exec_injectedFailure (issued : s.issuedInj id = some e) (timed : late = true → 1 ≤ e.timeout ∧ e.timeout ≤ e.ticks)
    (hwhy : why = if late then .timeout else .memory) :
    exec (if late then .downstreamTimeout id else .injectedError id) s =
      .next ((s.injFailed id (injFault e late)).failOp e.req.op why).settle := by
  have mine := (issuedInj_mem issued).2
  cases late with
  | false =>
    subst hwhy
    change execInjectedError id s = _
    unfold execInjectedError
    rw [issued, ← mine]
    rfl
  | true =>
    subst hwhy
    obtain ⟨one, reached⟩ := timed rfl
    change execDownstreamTimeout id s = _
    unfold execDownstreamTimeout
    rw [issued]
    dsimp only
    rw [if_pos (by unfold InjEntry.timedOut; simp [one, reached]), ← mine]
    rfl

/-- A failed entry does not come back: its age is none of the new ones (R13). -/
theorem injFailed_absent (ages : s.agesSound) (issued : s.issuedInj id = some e) (f : Occurrence) (op : InjOp) (why : Reason) :
    ∀ g ∈ ((s.injFailed id f).failOp op why).settle.bus.inj, g.id ≠ id := by
  obtain ⟨mem, mine⟩ := issuedInj_mem issued
  obtain ⟨queue, stamp⟩ := queueKept_failOp (s.injFailed id f) op why
  obtain ⟨_, _, _, _, only, -⟩ := (s.freeInj id).recordFault_only f
  have before : (s.injFailed id f).bus.inj = (s.freeInj id).bus.inj ∧ (s.injFailed id f).stamp = s.stamp := by
    unfold State.injFailed
    rw [only]
    exact ⟨rfl, rfl⟩
  intro g hg same
  rcases mem_inj_of_settle hg with kept | new
  · rw [queue, before.1] at kept
    have apart := (List.mem_filter.1 kept).2
    simp [same] at apart
  · have below := ages.2.2.2 e mem
    rw [before.2] at stamp
    omega

/-- What a failed injected transaction has changed before its operation ends. -/
structure InjFailed (id : Nat) (f : Occurrence) (s t : State) : Prop where
  pool : t.pool = s.pool
  frames : t.ks = s.ks ∧ t.merges = s.merges
  keys : t.keys = s.keys ∧ t.channels = s.channels
  notices : t.notices = s.notices
  faults : t.faults = (s.recordFault f).faults
  clock : t.time = s.time
  windows : t.windows = s.windows
  straps : t.straps = s.straps
  control : SameCommand s t

theorem injFailed_failed (s : State) (id : Nat) {f : Occurrence} (nobody : f.channel = none) :
    InjFailed id f s (s.injFailed id f) := by
  have channels : ((s.freeInj id).recordFault f).channels = s.channels := by
    have device : f.scoped.channel = none := by
      unfold Occurrence.scoped
      split
      · rfl
      · exact nobody
    unfold State.recordFault State.escalate
    rw [device]
    obtain ⟨_, _, _, only⟩ := (s.freeInj id).applyFault_only f.scoped
    rw [only]
    rfl
  exact
    { pool := recordFault_pool _ _
      frames := ⟨recordFault_ks _ _, recordFault_merges _ _⟩
      keys := ⟨recordFault_keys _ _, channels⟩
      notices := recordFault_notices _ _
      faults := recordFault_faults_congr _ rfl rfl
      clock := recordFault_time _ _
      windows := recordFault_windows _ _
      straps := recordFault_straps _ _
      control := recordFault_sameCommand (s.freeInj id) f }

theorem taken_fatal {u : FaultUnit} {now : Time} {o : Occurrence} {x : FaultEntry} (fatal : o.severity = .fatal)
    (reported : (u.taken now o).2 = some x) : x.severity = .fatal := by
  unfold FaultUnit.taken at reported
  (repeat' split at reported)
  next rises =>
    cases reported
    rw [(counted_fields _ o _ now _).1, if_pos rises, fatal]
  next => cases reported
  next =>
    cases reported
    exact fatal
  next =>
    cases reported
    exact fatal
  next => cases reported

/-- Without reports of FATAL faults, the fault table alone has changed besides the entry (R155, R156). -/
theorem injFailed_unreported (s : State) (id : Nat) {f : Occurrence} (fatal : f.severity = .fatal)
    (mask : s.faults.localMask.fatal = false) (nobody : f.channel = none) :
    s.injFailed id f = (s.freeInj id).withFaults (s.recordFault f).faults := by
  have quiet : ((s.freeInj id).withFaults (s.faults.taken s.time.ms f.scoped).1).reportTaken
      (s.faults.taken s.time.ms f.scoped).2 = (s.freeInj id).withFaults (s.faults.taken s.time.ms f.scoped).1 := by
    cases reported : (s.faults.taken s.time.ms f.scoped).2 with
    | none => rfl
    | some x =>
      have severity := taken_fatal ((scoped_severity f).trans fatal) reported
      have silent : ((s.freeInj id).withFaults (s.faults.taken s.time.ms f.scoped).1).faults.localMask.has x.severity = false := by
        rw [severity]
        exact (congrArg SevMask.fatal (taken_localMask _ _ _)).trans mask
      exact if_neg (by rw [silent]; exact Bool.false_ne_true)
  have device : f.scoped.channel = none := by
    unfold Occurrence.scoped
    split
    · rfl
    · exact nobody
  rw [recordFault_faults]
  unfold State.injFailed State.recordFault State.escalate
  rw [device]
  exact (applyFault_eq (s.freeInj id) f.scoped).trans quiet

end Failed

end Sys2Proof.Machine

end

section
/-!
SUPPORT. What ends with a failed injected transaction: finishes, notices, readings of offers, and the Control Unit's own
writes (R42, R65, R83, R136, R140, R170, R175, R176, R179, R180).
-/

namespace Sys2Proof.Machine
-- One theorem at a time: elaborated side by side, each would hold a stack of its own.
set_option Elab.async false

section Ends

variable {s v : State} {id n o : Nat} {f : Occurrence} {why : Reason} {r : SlotRec} {c : Fin 16} {w : OfferWork} {h : Hold}

theorem InjFailed.slotRec (failed : InjFailed id f s v) (m : Nat) : v.slotRec m = s.slotRec m := by
  unfold State.slotRec
  rw [failed.pool]

theorem InjFailed.chan (failed : InjFailed id f s v) (d : Fin 16) : v.chan d = s.chan d := by
  unfold State.chan
  rw [failed.keys.2]

theorem InjFailed.key (failed : InjFailed id f s v) (k : Fin 32) : v.key k = s.key k := by
  unfold State.key
  rw [failed.keys.1]

theorem InjFailed.keyRole (failed : InjFailed id f s v) (k : Fin 32) : v.keyRole k = s.keyRole k :=
  keyRole_congr (by rw [failed.key]) failed.keys.2

theorem InjFailed.slotBase (failed : InjFailed id f s v) (r : SlotRec) : v.slotBase r = s.slotBase r := by
  unfold State.slotBase
  rw [failed.windows]

/-! ## A finish (R42, R65, R83) -/

theorem InjFailed.finishing (failed : InjFailed id f s v) (m o : Nat) : v.finishing m o = s.finishing m o := by
  unfold State.finishing
  rw [failed.slotRec]

theorem finishing_slotRec (live : s.finishing n o = some r) : s.slotRec n = some r := (finishing_facts live).1

theorem failFinish_outbound (live : s.finishing n o = some r) (role : r.role = .outbound) (clean : r.reason = .none) :
    (∃ q, (s.failFinish n o why).settle.slotRec n = some q ∧ q.state = .failed ∧ q.reason = why ∧ q.key = none) ∧
      ResultAsked (s.failFinish n o why).settle n r .failed why := by
  have eq : s.failFinish n o why = s.failOutbound n why := by
    unfold State.failFinish SlotRec.failReason
    rw [live]
    dsimp only
    rw [role, if_pos clean]
  obtain ⟨⟨q, record, _, _, _, rfl⟩, wanted⟩ := failOutbound_result (why := why) (finishing_slotRec live)
  rw [eq]
  exact ⟨⟨_, (State.settle_slotRec _ n).trans record, rfl, rfl, rfl⟩, wanted.settle⟩

theorem failFinish_inbound (live : s.finishing n o = some r) (role : r.role = .inbound) :
    (∃ q, (s.failFinish n o why).settle.slotRec n = some q ∧ q.state = .rejected ∧ q.reason = r.noted.getD why ∧
      q.key = none ∧ q.finish = none) ∧
      ResultAsked (s.failFinish n o why).settle n r .rejected (r.noted.getD why) := by
  have eq : s.failFinish n o why = s.reject n (r.noted.getD why) none := by
    unfold State.failFinish
    rw [live]
    dsimp only
    rw [role]
  obtain ⟨⟨q, record, _, _, _, rfl⟩, wanted⟩ := reject_result (why := r.noted.getD why) (cls := none)
    (finishing_slotRec live) (fun _ h => nomatch h)
  rw [eq]
  exact ⟨⟨_, (State.settle_slotRec _ n).trans record, rfl, rfl, rfl, rfl⟩, wanted.settle⟩

/-! ## The reading of an offer (R136, R140) -/

theorem failOffer_ruling (ruling : (s.chan c).ruling = some w) : s.failOffer c w.id why = s.failRuling c w.recNo why := by
  unfold State.failOffer
  rw [ruling]
  exact if_pos rfl

theorem failOffer_loading (apart : ∀ x, (s.chan c).ruling = some x → x.id ≠ w.id) (loading : (s.chan c).loading = some w) :
    s.failOffer c w.id why = s.clearHold c := by
  unfold State.failOffer
  rw [loading]
  cases ruling : (s.chan c).ruling with
  | none => exact if_pos rfl
  | some x =>
    dsimp only
    rw [if_neg (apart x ruling), Option.map_some, if_pos rfl]

theorem failRuling_ended (found : s.slotRec n = some r) (unkeyed : r.keySlot = none) :
    RulingEnded c n r (r.noted.getD why) s (s.failRuling c n why) ∧ (s.failRuling c n why).faults = s.faults := by
  have eq : s.failRuling c n why = (s.endRuling c).rejectRec n (r.noted.getD why) := by
    unfold State.failRuling
    rw [found]
    exact reject_unkeyed (s := s.endRuling c) found unkeyed
  rw [eq]
  exact ⟨(rulingOver_endRuling s c).rejectRec found _, rejectRec_faults _ n _⟩

/-- With no beat in the overflow list, a zeroisation serves none (R45, R47). -/
theorem zeroise_pool {k : Fin 32} (quiet : s.ks.overflow = []) : (s.zeroise k).pool = s.pool := by
  have beats (l : List Waiter) (u : State) : (l.foldl State.withdrawBeat u).pool = u.pool ∧
      (l.foldl State.withdrawBeat u).ks = u.ks := by
    induction l generalizing u with
    | nil => exact ⟨rfl, rfl⟩
    | cons x l ih => exact ih _
  obtain ⟨pool, ks⟩ := beats (s.waitersOn k) (s.keystreamPurged k)
  have purged : (s.keystreamPurged k).ks.overflow = [] := by simp [State.keystreamPurged, quiet]
  change (s.withdrawKeystream k).pool = s.pool
  rw [withdrawKeystream_eq, State.serveOverflow, ks, purged]
  exact pool

theorem judgeKey_pool {k : Fin 32} (quiet : s.ks.overflow = []) : (s.judgeKey k).pool = s.pool := by
  unfold State.judgeKey
  (repeat' split)
  · rfl
  · rfl
  · exact zeroise_pool quiet
  · rfl
  · rfl

theorem clearHold_record (held : (s.chan c).hold = some h) (found : s.slotRec h.recNo = some r)
    (quiet : s.ks.overflow = []) : (s.clearHold c).slotRec h.recNo = some { r with claimed := false } := by
  have pool : (s.clearHold c).pool = (s.holdless c h).pool := by
    rw [clearHold_eq held]
    exact judgeKey_pool (s := (s.holdless c h).untakeRef h.key) quiet
  unfold State.slotRec
  rw [pool]
  exact setRec_self (s := s.setChan c fun x => { x with hold := none, loading := none, installBuf := none })
    (fun r => { r with claimed := false }) found

/-! ## A notice's write (R170) -/

theorem returnCarrieds_congr (l : List Carried) {s t : State} (same : t.faults = s.faults) :
    (l.foldl State.returnCarried t).faults = (l.foldl State.returnCarried s).faults := by
  induction l generalizing s t with
  | nil => exact same
  | cons x l ih =>
    refine ih ?_
    have entry : t.carriedEntry x = s.carriedEntry x := by
      unfold State.carriedEntry
      rw [same]
    unfold State.returnCarried State.putFault
    rw [entry, same]
    split
    · exact same
    · rfl

/-- The state in which a failed composition has given its slot back (R170). -/
def State.compReleased (s : State) (n : Nat) : State := ({ s with notices := { s.notices with comp := none } }).releaseRec n

/-- What the failure of a composition leaves behind, when the key slot of its notice has a role or there is none (R170). -/
structure CompFailed (comp : Composition) (r : SlotRec) (ch : Fin 16) (s t : State) : Prop where
  ended : t.notices.comp = none
  list : t.notices.list = s.notices.list
  record : t.slotRec comp.recNo = some (SlotRec.fresh r.role r.window r.slot)
  key : ∀ k, r.keySlot = some k → t.key k = { s.key k with refs := (s.key k).refs - 1 } ∧ OtherKeys s t k
  faults : t.faults = ((comp.carried.foldl State.returnCarried s).recordFault
    ⟨.noticeBlocked, .degraded, some ch, some r.window, some r.slot, none, true⟩).faults

theorem failComposition_failed {comp : Composition} {ch : Fin 16} (found : s.slotRec comp.recNo = some r)
    (channel : r.channel = some ch) (role : ∀ k, r.keySlot = some k → (s.keyRole k).isSome = true) :
    CompFailed comp r ch s (s.failComposition comp) := by
  obtain ⟨m, hm⟩ : ∃ m, m = s.compReleased comp.recNo := ⟨_, rfl⟩
  have eq : s.failComposition comp =
      (comp.carried.foldl State.returnCarried m).noticeBlocked ch (some r.window) (some r.slot) := by
    unfold State.failComposition
    rw [found, hm]
    dsimp only
    rw [channel]
    rfl
  have fresh : m.slotRec comp.recNo = some (SlotRec.fresh r.role r.window r.slot) := by
    rw [hm]
    exact releaseRec_self (s := { s with notices := { s.notices with comp := none } }) found
  have framed : Framed { s with notices := { s.notices with comp := none } } m := by
    rw [hm]
    exact framed_releaseRec _ _
  have released : m = (({ s with notices := { s.notices with comp := none } }).freshen comp.recNo).dropRefOf r.keySlot := by
    rw [hm]
    exact releaseRec_eq (s := { s with notices := { s.notices with comp := none } }) found
  have dropped (k : Fin 32) (key : r.keySlot = some k) :
      m = (({ s with notices := { s.notices with comp := none } }).freshen comp.recNo).untakeRef k := by
    rw [released, key]
    exact dropRef_of_role (s := ({ s with notices := { s.notices with comp := none } }).freshen comp.recNo)
      (Option.isSome_iff_ne_none.1 (role k key))
  have faults : m.faults = s.faults := by
    cases key : r.keySlot with
    | none =>
      rw [released, key]
      rfl
    | some k =>
      rw [dropped k key]
      rfl
  obtain ⟨_, carried⟩ := returnCarrieds_only comp.carried m
  have returned := returnCarrieds_congr comp.carried faults
  rw [eq]
  refine
    { ended := ?_
      list := ?_
      record := (recordFault_slotRec _ _ _).trans (by rw [carried]; exact fresh)
      key := fun k key => ?_
      faults := recordFault_faults_congr _ returned ?_ }
  · rw [(noticeBlocked_sameStores _ _ _ _).1, carried]
    exact (congrArg NoticeEngine.comp framed.notices :)
  · rw [(noticeBlocked_sameStores _ _ _ _).1, carried]
    exact (congrArg NoticeEngine.list framed.notices :)
  · have keys : ((comp.carried.foldl State.returnCarried m).noticeBlocked ch (some r.window) (some r.slot)).keys = m.keys :=
      (recordFault_keys _ _).trans (by rw [carried])
    have same (j : Fin 32) : ((comp.carried.foldl State.returnCarried m).noticeBlocked ch (some r.window) (some r.slot)).key j =
        if j = k then { s.key k with refs := (s.key k).refs - 1 } else s.key j := by
      unfold State.key at *
      rw [keys, dropped k key]
      exact untakeRef_key (({ s with notices := { s.notices with comp := none } }).freshen comp.recNo) k j
    exact ⟨(same k).trans (if_pos rfl), fun j hj => (same j).trans (if_neg hj)⟩
  · obtain ⟨_, carried'⟩ := returnCarrieds_only comp.carried s
    rw [carried, carried']
    exact framed.time

/-! ## The Control Unit's own transactions (R175, R176, R179, R180) -/

theorem recordFault_outstanding {p : InjOp → Bool} (record : p .reportRecord = false) (lost : p .lostWord = false)
    (s : State) (f : Occurrence) : (s.recordFault f).bus.outstanding p = s.bus.outstanding p := by
  have escalated (u : State) : (u.escalate f.scoped).bus = u.bus := by
    unfold State.escalate
    (repeat' split) <;> rfl
  unfold State.recordFault
  rw [escalated, applyFault_eq]
  cases (s.faults.taken s.time.ms f.scoped).2 with
  | none => rfl
  | some x =>
    dsimp only [State.reportTaken]
    unfold State.reportFault
    split
    · exact handReport_outstanding_other record lost _ _
    · rfl

theorem loseReport_ctl (s : State) : ∃ written, s.loseReport.ctl =
    { s.ctl with lost := min (s.ctl.lost + 1) 4294967295, lostWritten := written } := by
  unfold State.loseReport Config.top32
  dsimp only
  (repeat' split)
  next same =>
    refine ⟨s.ctl.lostWritten, ?_⟩
    rw [same]
  · exact ⟨_, rfl⟩
  · exact ⟨_, rfl⟩

theorem reportTurn_idle (queue : s.ctl.queue = []) : s.reportTurn = s := by
  unfold State.reportTurn
  rw [queue]
  unfold State.reportTurns
  rw [← queue]

/-- The turn of a report queue that is not empty, once its head can be written (R179). -/
theorem reportTurn_writes {q : Report} {rest : List Report} {i : Fin 16} {x : Window} (queue : s.ctl.queue = q :: rest)
    (live : s.ringLive = true) (room : (s.ctl.ringProducer + 1) % s.ctl.ringSize ≠ s.ctl.ringConsumer)
    (out : s.reportOutstanding = false) (window : s.reportWindow = some (i, x)) :
    s.reportTurn = (s.ask ⟨.reportRecord, 4, x.base.toNat + 32 * s.ctl.ringProducer,
      .write (strobeAll q.bytes), some i, none⟩).queued rest := by
  unfold State.reportTurn
  rw [queue]
  exact reportTurns_writes out (by simp [State.ringTakes, live, ControlUnit.ringFull, room]) window

/-- The ring's rules after a failed write of a record or of the producer word, the record perhaps counted lost (R179). -/
theorem reportTurn_rules {lost : Nat} {written : Nat} (ctl : v.ctl = { s.ctl with lost := lost, lostWritten := written })
    (windows : v.windows = s.windows) (out : v.reportOutstanding = s.reportOutstanding) :
    v.reportTurn.settle.ctl.ringProducer = s.ctl.ringProducer ∧ v.reportTurn.settle.faults = v.faults ∧
    (s.ctl.queue = [] → v.reportTurn.settle.ctl.queue = [] ∧ v.reportTurn.settle.ctl.lost = lost) ∧
    (∀ (q : Report) (rest : List Report) (i : Fin 16) (x : Window), s.ctl.queue = q :: rest →
      s.ringLive = true → (s.ctl.ringProducer + 1) % s.ctl.ringSize ≠ s.ctl.ringConsumer →
      s.reportOutstanding = false → s.reportWindow = some (i, x) → v.reportTurn.settle.ctl.queue = rest ∧
      v.reportTurn.settle.ctl.lost = lost ∧
      ∃ a ∈ v.reportTurn.settle.requests, a.op = .reportRecord ∧ a.start = x.base.toNat + 32 * s.ctl.ringProducer ∧
        a.access = .write (q.bytes.map some)) := by
  obtain ⟨_, _, only⟩ := State.reportTurn_only v
  refine ⟨?_, (State.settle_faults _).trans (by rw [only]), fun queue => ?_, fun q rest i x queue live room idle window => ?_⟩
  · obtain ⟨_, _, _, _, ring⟩ := State.reportTurns_withReports v.ctl.queue v
    rw [State.settle_ctl]
    unfold State.reportTurn
    rw [ring]
    exact (congrArg ControlUnit.ringProducer ctl :)
  · have turn := reportTurn_idle (s := v) (by rw [ctl]; exact queue)
    rw [turn, State.settle_ctl, ctl]
    exact ⟨queue, rfl⟩
  · have turn := reportTurn_writes (s := v) (q := q) (rest := rest) (i := i) (x := x) (by rw [ctl]; exact queue)
      ((ringLive_of_same windows (by rw [ctl])).trans live) (by rw [ctl]; exact room) (out.trans idle)
      ((reportWindow_of_same windows).trans window)
    rw [turn]
    refine ⟨?_, ?_, _, mem_requests_of_asked (mem_injAsked_ask v _), rfl, ?_, rfl⟩
    · rw [State.settle_ctl]
      rfl
    · rw [State.settle_ctl]
      exact congrArg ControlUnit.lost ctl
    · rw [ctl]

end Ends

end Sys2Proof.Machine

end

section
/-!
SUPPORT. The failure of every injected operation, by its kind (R19, R20, R42, R65, R83, R136, R140, R170, R175, R176,
R179, R180).
-/

namespace Sys2Proof.Machine
-- One theorem at a time: elaborated side by side, each would hold a stack of its own.
set_option Elab.async false

section Kinds

variable {s v t : State} {id : Nat} {f : Occurrence} {why : Reason} {r : SlotRec} {c : Fin 16} {w : OfferWork} {h : Hold}

/-- Of a command fetch, a header result write or the zeroing write, nothing is left to end but the fetch (R19, R20). -/
theorem plainFailure {op : InjOp} (failed : InjFailed id f s v)
    (plain : op = .fetch ∨ op = .resetZero ∨ ∃ n b, op = .headerResult n b) :
    op.quiet = false ∧ (v.failOp op why).settle.faults = (s.recordFault f).faults ∧
      SameFrames s (v.failOp op why).settle ∧ SameKeys s (v.failOp op why).settle := by
  have kept : (v.failOp op why).faults = v.faults ∧ SameFrames v (v.failOp op why) ∧ SameKeys v (v.failOp op why) ∧
      op.quiet = false := by
    rcases plain with rfl | rfl | ⟨n, b, rfl⟩ <;> exact ⟨rfl, ⟨rfl, rfl, rfl⟩, ⟨rfl, rfl⟩, rfl⟩
  obtain ⟨faults, ⟨pool, ks, merges⟩, ⟨keys, channels⟩, quiet⟩ := kept
  exact ⟨quiet, (State.settle_faults _).trans (faults.trans failed.faults),
    sameFrames_settle.2 ⟨pool.trans failed.pool, ks.trans failed.frames.1, merges.trans failed.frames.2⟩,
    sameKeys_settle.2 ⟨keys.trans failed.keys.1, channels.trans failed.keys.2⟩⟩

theorem fetchFailure (failed : InjFailed id f s v) (state : s.ctl.state = .fetching) :
    (v.failOp .fetch why).settle.ctl.state = .halted ∧ (v.failOp .fetch why).settle.ctl.consumer = s.ctl.consumer := by
  obtain ⟨consumer, -, same, -⟩ := failed.control
  have halted : (v.failOp .fetch why).ctl = { v.ctl with state := .halted } := if_pos (same.trans state)
  rw [State.settle_ctl, halted]
  exact ⟨rfl, consumer⟩

/-- Of the read of a ruling (R136). -/
theorem rulingFailure (failed : InjFailed id f s v) (ruling : (s.chan c).ruling = some w)
    (found : s.slotRec w.recNo = some r) (unkeyed : r.keySlot = none)
    (ht : t = (v.failOffer c w.id why).settle) :
    (∃ q, t.slotRec w.recNo = some q ∧ q.state = .rejected ∧ q.reason = r.noted.getD why) ∧
      ResultAsked t w.recNo r .rejected (r.noted.getD why) ∧
      t.chan c = { s.chan c with ruling := none, rulingQueue := (s.chan c).rulingQueue.tail } ∧
      t.keys = s.keys ∧ OtherChannels s t c ∧ t.faults = (s.recordFault f).faults := by
  rw [failOffer_ruling (by rw [failed.chan]; exact ruling)] at ht
  obtain ⟨ended, faults⟩ := failRuling_ended (s := v) (c := c) (why := why) ((failed.slotRec _).trans found) unkeyed
  subst ht
  refine ⟨⟨_, (State.settle_slotRec _ _).trans ended.record, rfl, rfl⟩, ended.wanted.settle, ?_,
    (State.settle_keys _).trans (ended.keys.trans failed.keys.1), fun d hd => ?_,
    (State.settle_faults _).trans (faults.trans failed.faults)⟩
  · rw [State.settle_chan, ended.chan, if_pos rfl, failed.chan]
  · rw [State.settle_chan, ended.chan, if_neg hd, failed.chan]

/-- Of the read of a loading (R140). -/
theorem loadingFailure (failed : InjFailed id f s v) (apart : ∀ x, (s.chan c).ruling = some x → x.id ≠ w.id)
    (loading : (s.chan c).loading = some w) (held : (s.chan c).hold = some h) (found : s.slotRec h.recNo = some r)
    (role : s.keyRole h.key = none) (used : (s.key h.key).state ≠ .free) (last : (s.key h.key).refs = 1)
    (quiet : s.ks.overflow = []) (ht : t = (v.failOffer c w.id why).settle) :
    t.chan c = { s.chan c with hold := none, loading := none, installBuf := none } ∧ OtherChannels s t c ∧
      t.slotRec h.recNo = some { r with claimed := false } ∧ t.key h.key = KeySlot.zeroised ∧
      OtherKeys s t h.key ∧ t.keys.freeList = s.keys.freeList ++ [h.key] ∧
      t.faults = (s.recordFault f).faults := by
  rw [failOffer_loading (by rw [failed.chan]; exact apart) (by rw [failed.chan]; exact loading)] at ht
  have held' : (v.chan c).hold = some h := by rw [failed.chan]; exact held
  have found' := (failed.slotRec _).trans found
  have quiet' : v.ks.overflow = [] := by rw [failed.frames.1]; exact quiet
  have cleared := holdCleared (s := v) held' found' ((failed.keyRole _).trans role) (by rw [failed.key]; exact used)
    (by rw [failed.key]; exact last) quiet'
  have chan := clearHold_chan held'
  subst ht
  refine ⟨?_, fun d hd => ?_, (State.settle_slotRec _ _).trans (clearHold_record held' found' quiet'),
    (State.settle_key _ _).trans cleared.key, fun j hj => ?_, ?_,
    (State.settle_faults _).trans (cleared.faults.trans failed.faults)⟩
  · rw [State.settle_chan, chan, if_pos rfl, failed.chan]
  · rw [State.settle_chan, chan, if_neg hd, failed.chan]
  · rw [State.settle_key, cleared.otherKeys j hj, failed.key]
  · rw [State.settle_keys, cleared.freeList, failed.keys.1]

/-- Of a write of a notice (R170). -/
theorem noticeFailure {o : Nat} {comp : Composition} {ch : Fin 16} (failed : InjFailed id f s v)
    (flight : s.notices.comp = some comp) (mine : comp.opening = o) (found : s.slotRec comp.recNo = some r)
    (channel : r.channel = some ch) (role : ∀ k, r.keySlot = some k → (s.keyRole k).isSome = true)
    (ht : t = (v.failOp (.noticeLine1 o) why).settle) :
    t.notices.comp = none ∧ t.notices.list = s.notices.list ∧
      t.slotRec comp.recNo = some (SlotRec.fresh r.role r.window r.slot) ∧
      (∀ k, r.keySlot = some k → t.key k = { s.key k with refs := (s.key k).refs - 1 } ∧ OtherKeys s t k) ∧
      t.faults = ((comp.carried.foldl State.returnCarried (s.recordFault f)).recordFault
        ⟨.noticeBlocked, .degraded, some ch, some r.window, some r.slot, none, true⟩).faults := by
  have compOf : v.compOf o = some comp := by
    unfold State.compOf
    rw [failed.notices, flight]
    exact if_pos mine
  have eq : v.failOp (.noticeLine1 o) why = v.failComposition comp := by
    unfold State.failOp
    dsimp only
    rw [compOf]
  have ended := failComposition_failed (s := v) ((failed.slotRec _).trans found) channel
    fun k key => by rw [failed.keyRole]; exact role k key
  rw [eq] at ht
  subst ht
  refine ⟨(settle_comp _).trans ended.ended, ?_, (State.settle_slotRec _ _).trans ended.record, fun k key => ?_, ?_⟩
  · rw [settle_list, ended.list, failed.notices]
  · obtain ⟨own, others⟩ := ended.key k key
    exact ⟨by rw [State.settle_key, own, failed.key], fun j hj => by rw [State.settle_key, others j hj, failed.key]⟩
  · rw [State.settle_faults, ended.faults]
    obtain ⟨_, carried⟩ := returnCarrieds_only comp.carried v
    obtain ⟨_, carried'⟩ := returnCarrieds_only comp.carried (s.recordFault f)
    refine recordFault_faults_congr _ (returnCarrieds_congr _ failed.faults) ?_
    rw [carried, carried']
    exact failed.clock.trans (recordFault_time s f).symm

theorem statusFailure (failed : InjFailed id f s v) (state : s.ctl.state = .completing) (handed : s.ctl.doneWaiting = none)
    (answered : v.bus.outstanding (fun op => decide (op = .statusWrite)) = false) :
    (v.failOp .statusWrite why).settle.ctl.consumer = s.ctl.consumer ∧
      (v.failOp .statusWrite why).settle.ctl.state =
        if s.ctl.producer = s.ctl.consumer then .idle else .fetching := by
  obtain ⟨consumer, -, same, -, waiting, -, producer, -⟩ := failed.control
  have ends := judgeCompletion_ends (s := v) (same.trans state) (waiting.trans handed) answered
  rw [State.settle_ctl, show (v.failOp .statusWrite why).ctl = _ from ends, producer, consumer]
  exact ⟨rfl, rfl⟩

/-- What a ring write that failed leaves of the ring, with this lost-report count (R179). -/
def RingFailed (s t : State) (f : Occurrence) (id lost : Nat) : Prop :=
  t.ctl.ringProducer = s.ctl.ringProducer ∧ t.faults = (s.recordFault f).faults ∧
  (s.ctl.queue = [] → t.ctl.queue = [] ∧ t.ctl.lost = lost) ∧
  (∀ (q : Report) (rest : List Report) (i : Fin 16) (w : Window), s.ctl.queue = q :: rest →
    s.ringLive = true → (s.ctl.ringProducer + 1) % s.ctl.ringSize ≠ s.ctl.ringConsumer →
    (s.freeInj id).reportOutstanding = false → s.reportWindow = some (i, w) → t.ctl.queue = rest ∧
    t.ctl.lost = lost ∧
    ∃ a ∈ t.requests, a.op = .reportRecord ∧ a.start = w.base.toNat + 32 * s.ctl.ringProducer ∧
      a.access = .write (q.bytes.map some))

/-- Of a report record's write (R179). -/
theorem recordFailure (eq : v = (s.freeInj id).withFaults (s.recordFault f).faults) :
    RingFailed s (v.failOp .reportRecord why).settle f id (min (s.ctl.lost + 1) 4294967295) := by
  obtain ⟨written, ctl⟩ := loseReport_ctl v
  obtain ⟨_, _, lost⟩ := State.loseReport_only v
  have before : v.ctl = s.ctl ∧ v.windows = s.windows ∧ v.faults = (s.recordFault f).faults := by
    rw [eq]
    exact ⟨rfl, rfl, rfl⟩
  have out : v.reportOutstanding = (s.freeInj id).reportOutstanding := by
    rw [eq]
    rfl
  obtain ⟨producer, faults, idle, writes⟩ := reportTurn_rules (s := s.freeInj id) (v := v.loseReport)
    (lost := min (s.ctl.lost + 1) 4294967295) (written := written) (by rw [ctl, before.1]; rfl)
    (by rw [lost]; exact before.2.1) ((loseReport_outstanding rfl _).trans out)
  have ends : v.failOp .reportRecord why = v.loseReport.reportTurn := rfl
  rw [ends]
  exact ⟨producer, faults.trans (by rw [lost]; exact before.2.2), idle, writes⟩

/-- Of a producer word's write (R179). -/
theorem wordFailure (eq : v = (s.freeInj id).withFaults (s.recordFault f).faults) :
    RingFailed s (v.failOp .reportWord why).settle f id s.ctl.lost := by
  obtain ⟨producer, faults, idle, writes⟩ := reportTurn_rules (s := s.freeInj id) (v := v) (lost := s.ctl.lost)
    (written := s.ctl.lostWritten) (by rw [eq]; rfl) (by rw [eq]; rfl) (by rw [eq]; rfl)
  exact ⟨producer, faults.trans (by rw [eq]; rfl), idle, writes⟩

/-- Of a lost-report count write (R180). -/
theorem lostFailure (eq : v = (s.freeInj id).withFaults (s.recordFault f).faults)
    (ht : t = (v.failOp .lostWord why).settle) :
    t.ctl.lost = s.ctl.lost ∧ t.faults = (s.recordFault f).faults ∧ (s.ctl.lost = s.ctl.lostWritten → SameControl s t) ∧
      (s.ctl.lost ≠ s.ctl.lostWritten → t.ctl.lostWritten = s.ctl.lost ∧
        ∃ a ∈ t.requests, a.op = .lostWord ∧ a.start = s.pageBase + 16 ∧
          a.access = .write (List.replicate 4 none ++ (beBytes 4 s.ctl.lost).map some)) := by
  by_cases same : s.ctl.lost = s.ctl.lostWritten
  · have follow : v.failOp .lostWord why = v := if_pos (by rw [eq]; exact same)
    rw [follow, eq] at ht
    subst ht
    refine ⟨?_, State.settle_faults _, fun _ => SameControl.settle rfl, fun changed => absurd same changed⟩
    rw [State.settle_ctl]
    rfl
  · have follow : v.failOp .lostWord why = _ := followLost_changed (s := v) (by rw [eq]; exact same)
    rw [follow, eq] at ht
    subst ht
    refine ⟨?_, State.settle_faults _, fun kept => absurd kept same, fun _ =>
      ⟨?_, _, mem_requests_of_asked (mem_injAsked_ask _ _), rfl, rfl, wordAccess_eq _⟩⟩
    · rw [State.settle_ctl]
      rfl
    · rw [State.settle_ctl]
      rfl

end Kinds

/-- Settles O32: the failure of every injected operation. -/
theorem injectedFailures : Obligations.InjectedFailures := by
  intro id s e late why f ages issued timed hwhy hf
  have run := exec_injectedFailure issued timed hwhy
  rw [show injFault e late = f from hf.symm] at run
  have failed := injFailed_failed s id (f := f) (by rw [hf])
  refine ⟨_, run, injFailed_absent ages issued f e.req.op why, ?_, fun op state => ?_, fun plain => ?_,
    fun n o r op live role clean => ?_, fun n o r op live role => ?_, fun o comp r ch op flight mine found channel role => ?_,
    fun c w r op ruling found unkeyed => ?_, fun c w h r op apart loading held found role used last quiet => ?_,
    fun op state handed answered => ?_, fun mask => ⟨fun op => ?_, fun op => ?_⟩⟩
  · cases late with
    | false => exact exec_sameMeters _ s _ run (by intro b; simp) (by simp) (by simp [licenceOf])
    | true => exact exec_sameMeters _ s _ run (by intro b; simp) (by simp) (by simp [licenceOf])
  · rw [op]
    exact fetchFailure failed state
  · obtain ⟨quiet, rest⟩ := plainFailure (why := why) failed plain
    exact ⟨by rw [hf]; exact quiet, rest⟩
  · have live' := (failed.finishing n o).trans live
    have ends : (s.injFailed id f).failOp e.req.op why = (s.injFailed id f).failFinish n o why := by
      rcases op with op | ⟨b, op⟩ | op <;> rw [op] <;> rfl
    obtain ⟨record, asked⟩ := failFinish_outbound (why := why) live' role clean
    rw [ends]
    exact ⟨record, asked⟩
  · have live' := (failed.finishing n o).trans live
    have ends : (s.injFailed id f).failOp e.req.op why = (s.injFailed id f).failFinish n o why := by
      rcases op with op | op | ⟨b, op⟩ <;> rw [op] <;> rfl
    rw [ends]
    exact failFinish_inbound live' role
  · have quiet : f.quiet = true := by
      rw [hf]
      exact op.elim (congrArg InjOp.quiet) (congrArg InjOp.quiet)
    have ends : (s.injFailed id f).failOp e.req.op why = (s.injFailed id f).failOp (.noticeLine1 o) why := by
      rcases op with op | op
      · rw [op]
      · rw [op]
        rfl
    rw [ends]
    exact ⟨quiet, noticeFailure failed flight mine found channel role rfl⟩
  · rw [op]
    exact rulingFailure failed ruling found unkeyed rfl
  · rw [op]
    exact loadingFailure failed apart loading held found role used last quiet rfl
  · rw [op]
    exact statusFailure failed state handed ((recordFault_outstanding rfl rfl _ f).trans answered)
  · have eq := injFailed_unreported s id (f := f) (by rw [hf]) mask (by rw [hf])
    rcases op with op | op
    · rw [op]
      exact recordFailure eq
    · rw [op]
      exact wordFailure eq
  · have eq := injFailed_unreported s id (f := f) (by rw [hf]) mask (by rw [hf])
    rw [op]
    exact lostFailure eq rfl

end Sys2Proof.Machine

end

section
/-!
SUPPORT. The slots and the key slots of a teardown (R71, R95, R100, R118 to R120).
-/

namespace Sys2Proof.Machine
-- One theorem at a time: elaborated side by side, each would hold a stack of its own.
set_option Elab.async false

/-! ## Key slots judged one after the other (R100, R120) -/

section Judges

variable {s u : State} {k j : Fin 32}

/-- A key slot as the Key Store judges it, by its role and by whether it is held or being installed (R120). -/
def KeySlot.judged (x : KeySlot) (role : Option KeyRole) (held : Bool) : KeySlot :=
  if x.state = .free ∨ role.isSome = true then x
  else if x.refs = 0 then KeySlot.zeroised
  else { x with state := if held then .staged else .retiring }

theorem judgeKey_key (s : State) (k : Fin 32) :
    (s.judgeKey k).key k = (s.key k).judged (s.keyRole k) (s.heldOrInstalling k) := by
  unfold State.judgeKey KeySlot.judged
  by_cases free : (s.key k).state = .free
  · rw [if_pos free, if_pos (.inl free)]
  by_cases role : (s.keyRole k).isSome = true
  · rw [if_neg free, if_pos role, if_pos (.inr role)]
  rw [if_neg free, if_neg role, if_neg (not_or.2 ⟨free, role⟩)]
  by_cases refs : (s.key k).refs = 0
  · rw [if_pos refs, if_pos refs, zeroise_key, if_pos rfl]
  rw [if_neg refs, if_neg refs]
  by_cases held : s.heldOrInstalling k = true
  · rw [if_pos held, if_pos held, State.key_setKey, if_pos rfl]
  · rw [if_neg held, if_neg held, State.key_setKey, if_pos rfl]

theorem judged_owner (x : KeySlot) (role : Option KeyRole) (held : Bool) :
    (x.judged role held).owner = x.owner ∧ (x.judged role held).load = x.load ∨
      x.judged role held = KeySlot.zeroised := by
  unfold KeySlot.judged
  (repeat' split)
  · exact .inl ⟨rfl, rfl⟩
  · exact .inr rfl
  · exact .inl ⟨rfl, rfl⟩
  · exact .inl ⟨rfl, rfl⟩

/-- The judgement of a key slot again finds nothing to do. -/
theorem judged_judged (x : KeySlot) (role : Option KeyRole) (held : Bool) :
    (x.judged role held).judged role held = x.judged role held := by
  unfold KeySlot.judged
  by_cases rest : x.state = .free ∨ role.isSome = true
  · simp only [if_pos rest]
  · rw [if_neg rest]
    by_cases refs : x.refs = 0
    · rw [if_pos refs]
      exact if_pos (.inl rfl)
    · rw [if_neg refs]
      obtain ⟨-, role'⟩ := not_or.1 rest
      cases held <;> simp [role', refs]

theorem judgeKey_keyRole (s : State) (k j : Fin 32) (h : (s.judgeKey k).key j ≠ KeySlot.zeroised) :
    (s.judgeKey k).keyRole j = s.keyRole j ∧ (s.judgeKey k).heldOrInstalling j = s.heldOrInstalling j := by
  have channels := (kept_judgeKey s k).channels
  have same : ((s.judgeKey k).key j).owner = (s.key j).owner ∧ ((s.judgeKey k).key j).load = (s.key j).load := by
    by_cases apart : j = k
    · subst apart
      rw [judgeKey_key] at h ⊢
      exact (judged_owner _ _ _).resolve_right h
    · rw [judgeKey_others s k j apart]
      exact ⟨rfl, rfl⟩
  exact ⟨keyRole_congr same.1 channels, heldOrInstalling_congr same.1 same.2 channels⟩

/-- Judging leaves a key slot what its own judgement makes of it. -/
theorem judgeKey_key_of_judged (s : State) (k j : Fin 32) : ((s.judgeKey k).judgeKey j).key j = (s.judgeKey j).key j := by
  rw [judgeKey_key, judgeKey_key]
  by_cases same : j = k
  · subst same
    rw [judgeKey_key]
    by_cases gone : (s.key j).judged (s.keyRole j) (s.heldOrInstalling j) = KeySlot.zeroised
    · rw [gone]
      exact if_pos (.inl rfl)
    · obtain ⟨role, held⟩ := judgeKey_keyRole s j j (by rw [judgeKey_key]; exact gone)
      rw [role, held, judged_judged]
  · have key := judgeKey_others s k j same
    have channels := (kept_judgeKey s k).channels
    rw [key, keyRole_congr (congrArg KeySlot.owner key) channels,
      heldOrInstalling_congr (congrArg KeySlot.owner key) (congrArg KeySlot.load key) channels]

theorem judgeKeys_key (l : List (Fin 32)) (s : State) (k : Fin 32) :
    (l.foldl State.judgeKey s).key k = if k ∈ l then (s.judgeKey k).key k else s.key k := by
  induction l generalizing s with
  | nil => rfl
  | cons j l ih =>
    rw [List.foldl_cons, ih]
    by_cases same : k = j
    · subst same
      rw [if_pos (List.mem_cons_self ..), judgeKey_key_of_judged]
      split <;> rfl
    · have iff : k ∈ j :: l ↔ k ∈ l := by simp [same]
      simp only [iff, judgeKey_key_of_judged, judgeKey_others s j k same]

/-- A judgement appends a key slot to the free list exactly when it zeroises it (R118, R120). -/
theorem judgeKey_freeList (s : State) (k : Fin 32) : (s.judgeKey k).keys.freeList = s.keys.freeList ++
    if (s.key k).state ≠ .free ∧ s.keyRole k = none ∧ (s.key k).refs = 0 then [k] else [] := by
  unfold State.judgeKey
  by_cases free : (s.key k).state = .free
  · simp [free]
  by_cases role : s.keyRole k = none
  · by_cases refs : (s.key k).refs = 0
    · rw [if_neg free, if_neg (by simp [role]), if_pos refs, if_pos ⟨free, role, refs⟩]
      exact zeroise_freeList s k
    · have no : ¬((s.key k).state ≠ .free ∧ s.keyRole k = none ∧ (s.key k).refs = 0) := fun h => refs h.2.2
      rw [if_neg no, List.append_nil, if_neg free, if_neg (by simp [role]), if_neg refs]
      split <;> rfl
  · rw [if_neg free, if_pos (Option.isSome_iff_ne_none.2 role), if_neg fun h => role h.2.1, List.append_nil]

theorem judgeKeys_freeList (l : List (Fin 32)) (s : State) : s.keys.freeList <+: (l.foldl State.judgeKey s).keys.freeList := by
  induction l generalizing s with
  | nil => exact List.prefix_refl _
  | cons j l ih =>
    refine List.IsPrefix.trans ?_ (ih (s.judgeKey j))
    rw [judgeKey_freeList]
    exact List.prefix_append _ _

/-- A key slot without a role and a reference is on the free list once it has been judged (R118). -/
theorem judgeKeys_frees {l : List (Fin 32)} {s : State} (mem : k ∈ l) (used : (s.key k).state ≠ .free)
    (role : s.keyRole k = none) (refs : (s.key k).refs = 0) : k ∈ (l.foldl State.judgeKey s).keys.freeList := by
  induction l generalizing s with
  | nil => cases mem
  | cons j l ih =>
    rw [List.foldl_cons]
    by_cases same : k = j
    · subst same
      refine (judgeKeys_freeList l (s.judgeKey k)).subset ?_
      rw [judgeKey_freeList, if_pos ⟨used, role, refs⟩]
      exact List.mem_append_right _ (List.mem_singleton_self k)
    · have key := judgeKey_others s j k same
      refine ih ((List.mem_cons.1 mem).resolve_left same) (by rw [key]; exact used) ?_ (by rw [key]; exact refs)
      rw [keyRole_congr (congrArg KeySlot.owner key) (kept_judgeKey s j).channels]
      exact role

/-- A key slot with a reference does not join the free list (R120). -/
theorem judgeKeys_keeps {l : List (Fin 32)} {s : State} (off : k ∉ s.keys.freeList) (refs : (s.key k).refs ≠ 0) :
    k ∉ (l.foldl State.judgeKey s).keys.freeList := by
  induction l generalizing s with
  | nil => exact off
  | cons j l ih =>
    rw [List.foldl_cons]
    refine ih ?_ ?_
    · rw [judgeKey_freeList]
      split
      next gone =>
        rintro mem
        rcases List.mem_append.1 mem with before | now
        · exact off before
        · rw [List.mem_singleton.1 now] at refs
          exact refs gone.2.2
      next => rwa [List.append_nil]
    · by_cases same : k = j
      · subst same
        rw [judgeKey_key]
        unfold KeySlot.judged
        split <;> exact refs
      · rw [judgeKey_others s j k same]
        exact refs

end Judges

end Sys2Proof.Machine

end

section
/-!
PROOF. DROP_KEYS: the slot records and the key slots of the teardown (R71, R95, R100, R101).
-/

namespace Sys2Proof.Machine

-- One theorem at a time: elaborated side by side, each would hold a stack of its own.
set_option Elab.async false

/-! ## What a teardown does to one slot record (R71, R95) -/

/-- An outbound slot that a teardown of the channel fails (R71). -/
abbrev State.fails (s : State) (c : Fin 16) (r : SlotRec) : Prop :=
  r.role = .outbound ∧ r.state = .filling ∧ s.boundChannel r = some c

/-- An inbound slot that a teardown of the channel rejects (R95). -/
abbrev SlotRec.rejects (r : SlotRec) (c : Fin 16) : Prop := r.role = .inbound ∧ r.state = .arriving ∧ r.channel = some c

/-- An inbound slot under check that a teardown of the channel notes (R95). -/
abbrev SlotRec.notes (r : SlotRec) (c : Fin 16) : Prop := r.role = .inbound ∧ r.state = .checking ∧ r.channel = some c

/-- A teardown of the channel takes the record's reference away. -/
abbrev State.tears (s : State) (c : Fin 16) (r : SlotRec) : Prop := s.fails c r ∨ r.rejects c

section Slot

variable {s u : State} {c : Fin 16} {n : Nat} {r q : SlotRec}

theorem Framed.fails_iff (f : Framed s u) : u.fails c r ↔ s.fails c r := by
  unfold State.fails State.boundChannel
  rw [f.windows]

theorem Framed.tears_iff (f : Framed s u) : u.tears c r ↔ s.tears c r := or_congr f.fails_iff Iff.rfl

theorem tearSlot_fails (h : s.fails c r) : s.tearSlot c n r = (s.failRec n .channelDown).untakeOf r.keySlot := by
  obtain ⟨role, state, bound⟩ := h
  unfold State.tearSlot
  rw [role, state]
  exact if_pos bound

theorem tearSlot_rejects (h : r.rejects c) : s.tearSlot c n r = (s.rejectRec n .channelDown).untakeOf r.keySlot := by
  obtain ⟨role, state, channel⟩ := h
  unfold State.tearSlot
  rw [role, state]
  exact if_pos channel

theorem tearSlot_notes (h : r.notes c) : s.tearSlot c n r = (s.note n .channelDown, []) := by
  obtain ⟨role, state, channel⟩ := h
  unfold State.tearSlot
  rw [role, state]
  exact if_pos channel

theorem tearSlot_spares (h : ¬ s.tears c r) (unnoted : ¬ r.notes c) : s.tearSlot c n r = (s, []) := by
  obtain ⟨unfailed, kept⟩ := not_or.1 h
  unfold State.tearSlot
  split
  · exact if_neg fun bound => unfailed ⟨‹_›, ‹_›, bound⟩
  · exact if_neg fun channel => kept ⟨‹_›, ‹_›, channel⟩
  · exact if_neg fun channel => unnoted ⟨‹_›, ‹_›, channel⟩
  · rfl

theorem untakeOf_slotRec (s : State) (k : Option (Fin 32)) (m : Nat) : (s.untakeOf k).1.slotRec m = s.slotRec m := by
  cases k <;> rfl

theorem tearSlot_others (s : State) (c : Fin 16) (n : Nat) (r : SlotRec) : OtherRecords s (s.tearSlot c n r).1 n := by
  intro m apart
  by_cases fails : s.fails c r
  · rw [tearSlot_fails fails, untakeOf_slotRec]
    exact failRec_others s n _ m apart
  by_cases rejects : r.rejects c
  · rw [tearSlot_rejects rejects, untakeOf_slotRec]
    exact rejectRec_others s n _ m apart
  by_cases notes : r.notes c
  · rw [tearSlot_notes notes]
    exact setRec_others s n (fun r => { r with noted := r.noted.or (some .channelDown) }) m apart
  · rw [tearSlot_spares (not_or.2 ⟨fails, rejects⟩) notes]

/-- A key slot with fewer references. -/
def KeySlot.less (x : KeySlot) (m : Nat) : KeySlot := { x with refs := x.refs - m }

theorem untakeOf_key (s : State) (o : Option (Fin 32)) (k : Fin 32) :
    (s.untakeOf o).1.key k = (s.key k).less (if o = some k then 1 else 0) := by
  cases o with
  | none => rfl
  | some j =>
    refine (untakeRef_key s j k).trans ?_
    by_cases same : k = j
    · rw [if_pos same, if_pos (congrArg some same.symm), same]
      rfl
    · rw [if_neg same, if_neg fun h => same (Option.some.inj h).symm]
      rfl

theorem untakeOf_freeList (s : State) (o : Option (Fin 32)) : (s.untakeOf o).1.keys.freeList = s.keys.freeList := by
  cases o <;> rfl

theorem askResult_keys (s : State) (n : Nat) : (s.askResult n).keys = s.keys := by
  unfold State.askResult
  split <;> rfl

theorem rejectRec_keys (s : State) (n : Nat) (why : Reason) : (s.rejectRec n why).keys = s.keys := askResult_keys _ n

theorem tearSlot_key (s : State) (c : Fin 16) (n : Nat) (r : SlotRec) (k : Fin 32) : (s.tearSlot c n r).1.key k =
    (s.key k).less (if r.keySlot = some k ∧ s.tears c r then 1 else 0) := by
  by_cases tears : s.tears c r
  · have gone {v : State} (same : v.keys = s.keys) : (v.untakeOf r.keySlot).1.key k =
        (s.key k).less (if r.keySlot = some k ∧ s.tears c r then 1 else 0) := by
      have key : v.key k = s.key k := by rw [State.key, same, State.key]
      simp only [untakeOf_key, tears, and_true, key]
    rcases tears with fails | rejects
    · rw [tearSlot_fails fails]
      exact gone ((failRec_keys s n _).1)
    · rw [tearSlot_rejects rejects]
      exact gone (rejectRec_keys s n _)
  · rw [if_neg fun h => tears h.2]
    by_cases notes : r.notes c
    · rw [tearSlot_notes notes]
      rfl
    · rw [tearSlot_spares tears notes]
      rfl

theorem tearSlot_freeList (s : State) (c : Fin 16) (n : Nat) (r : SlotRec) :
    (s.tearSlot c n r).1.keys.freeList = s.keys.freeList := by
  by_cases fails : s.fails c r
  · rw [tearSlot_fails fails, untakeOf_freeList, (failRec_keys s n _).1]
  by_cases rejects : r.rejects c
  · rw [tearSlot_rejects rejects, untakeOf_freeList, rejectRec_keys]
  by_cases notes : r.notes c
  · rw [tearSlot_notes notes]
    rfl
  · rw [tearSlot_spares (not_or.2 ⟨fails, rejects⟩) notes]

end Slot

/-! ## What a teardown does to all of them (R100) -/

section Slots

variable {s u : State} {c : Fin 16} {n : Nat} {r : SlotRec} {k : Fin 32} {l : List (Nat × SlotRec)}

theorem tearSlots_cons (c : Fin 16) (p : Nat × SlotRec) (l : List (Nat × SlotRec)) (a : State × List (Fin 32)) :
    State.tearSlots c (p :: l) a =
      State.tearSlots c l ((a.1.tearSlot c p.1 p.2).1, a.2 ++ (a.1.tearSlot c p.1 p.2).2) := rfl

theorem tearSlots_key (l : List (Nat × SlotRec)) (a : State × List (Fin 32)) : (State.tearSlots c l a).1.key k =
    (a.1.key k).less (l.countP fun p => decide (p.2.keySlot = some k ∧ a.1.tears c p.2)) := by
  induction l generalizing a with
  | nil => rfl
  | cons p l ih =>
    have frame := framed_tearSlot a.1 c p.1 p.2
    refine (ih _).trans ?_
    simp only [frame.tears_iff, tearSlot_key, List.countP_cons, KeySlot.less, decide_eq_true_eq]
    congr 1
    omega

theorem tearSlots_freeList (l : List (Nat × SlotRec)) (a : State × List (Fin 32)) :
    (State.tearSlots c l a).1.keys.freeList = a.1.keys.freeList := by
  induction l generalizing a with
  | nil => rfl
  | cons p l ih => exact (ih _).trans (tearSlot_freeList a.1 c p.1 p.2)

theorem tearSlots_others (h : ∀ p ∈ l, p.1 ≠ n) (a : State × List (Fin 32)) :
    (State.tearSlots c l a).1.slotRec n = a.1.slotRec n := by
  induction l generalizing a with
  | nil => rfl
  | cons p l ih =>
    refine (ih (fun q mem => h q (List.mem_cons_of_mem _ mem)) _).trans ?_
    exact tearSlot_others a.1 c p.1 p.2 n (h p (List.mem_cons_self ..)).symm

/-- A teardown's work on one record, seen in the state that tears it: the others before and after leave it alone. -/
theorem tearSlots_at (rising : l.Pairwise fun p q => p.1 < q.1) (mem : (n, r) ∈ l) (a : State × List (Fin 32)) :
    ∃ v, Framed a.1 v ∧ v.slotRec n = a.1.slotRec n ∧ Framed (v.tearSlot c n r).1 (State.tearSlots c l a).1 ∧
      (State.tearSlots c l a).1.slotRec n = (v.tearSlot c n r).1.slotRec n := by
  induction l generalizing a with
  | nil => cases mem
  | cons p l ih =>
    obtain ⟨above, rising⟩ := List.pairwise_cons.1 rising
    let b := ((a.1.tearSlot c p.1 p.2).1, a.2 ++ (a.1.tearSlot c p.1 p.2).2)
    rw [tearSlots_cons]
    rcases List.mem_cons.1 mem with same | later
    · subst same
      exact ⟨a.1, Framed.refl a.1, rfl, framed_tearSlots c l b, tearSlots_others (fun q mem => (above q mem).ne') _⟩
    · obtain ⟨v, frame, own, after, last⟩ := ih rising later b
      refine ⟨v, (framed_tearSlot a.1 c p.1 p.2).trans frame, own.trans ?_, after, last⟩
      exact tearSlot_others a.1 c p.1 p.2 n (above (n, r) later).ne'

end Slots

/-! ## The hold and the channel, before the slots (R100, R146) -/

/-- A slot record that keeps all but its claim. -/
def ClaimOnly (x y : SlotRec) : Prop := ∃ claimed, y = { x with claimed := claimed }

theorem ClaimOnly.refl (x : SlotRec) : ClaimOnly x x := ⟨_, rfl⟩

section Before

variable {s : State} {c : Fin 16} {state : ChanState} {n : Nat} {r : SlotRec} {k : Fin 32}

theorem tearHold_held {h : Hold} (held : (s.chan c).hold = some h) :
    s.tearHold c = ((s.unclaim h.recNo).untakeRef h.key, [h.key]) := by
  unfold State.tearHold
  rw [held]
  rfl

theorem tearHold_empty (empty : (s.chan c).hold = none) : s.tearHold c = (s, []) := by
  unfold State.tearHold
  rw [empty]

theorem tornBefore_pool (s : State) (c : Fin 16) (state : ChanState) :
    PoolRel ClaimOnly s.pool (s.tornBefore c state).pool := by
  change PoolRel ClaimOnly s.pool (s.tearHold c).1.pool
  cases held : (s.chan c).hold with
  | none =>
    rw [tearHold_empty held]
    exact PoolRel.refl ClaimOnly.refl _
  | some h =>
    rw [tearHold_held held]
    change PoolRel ClaimOnly s.pool (s.pool.map _)
    have each (p : Nat × SlotRec) : (if p.1 == h.recNo then (p.1, { p.2 with claimed := false }) else p) =
        (p.1, if p.1 == h.recNo then { p.2 with claimed := false } else p.2) := by split <;> rfl
    rw [List.map_congr_left fun p _ => each p]
    refine PoolRel.map fun p _ => ?_
    split
    · exact ⟨_, rfl⟩
    · exact ClaimOnly.refl _

theorem tornBefore_key (s : State) (c : Fin 16) (state : ChanState) (k : Fin 32) : (s.tornBefore c state).key k =
    (s.key k).less (if (s.chan c).hold.map (·.key) = some k then 1 else 0) := by
  change (s.tearHold c).1.key k = _
  cases held : (s.chan c).hold with
  | none =>
    rw [tearHold_empty held]
    rfl
  | some h =>
    rw [tearHold_held held]
    exact untakeOf_key (s.unclaim h.recNo) (some h.key) k

theorem tornBefore_freeList (s : State) (c : Fin 16) (state : ChanState) :
    (s.tornBefore c state).keys.freeList = s.keys.freeList := by
  change (s.tearHold c).1.keys.freeList = _
  cases held : (s.chan c).hold with
  | none => rw [tearHold_empty held]
  | some h =>
    rw [tearHold_held held]
    rfl

theorem tornBefore_windows (s : State) (c : Fin 16) (state : ChanState) :
    (s.tornBefore c state).windows = s.windows := (framed_tearHold s c).windows

theorem tornBefore_chan (s : State) (c : Fin 16) (state : ChanState) :
    (s.tornBefore c state).chan c = (s.chan c).torn state := by
  rw [← (framed_tearHold s c).chan c]
  exact (State.chan_setChan (s.tearHold c).1 c c fun x => x.torn state).trans (if_pos rfl)

end Before

/-! ## The slot records after a teardown (R71, R95, R100) -/

section Records

variable {s : State} {c : Fin 16} {state : ChanState} {n : Nat} {r : SlotRec}

theorem PoolRel.rising {R : SlotRec → SlotRec → Prop} {l m : List (Nat × SlotRec)} (h : PoolRel R l m)
    (rising : l.Pairwise fun p q => p.1 < q.1) : m.Pairwise fun p q => p.1 < q.1 := by
  have numbers : l.map Prod.fst = m.map Prod.fst := by
    unfold PoolRel at h
    induction h with
    | nil => rfl
    | cons first _ ih => rw [List.map_cons, List.map_cons, first.1, ih (List.pairwise_cons.1 rising).2]
  have sorted := List.pairwise_map.2 rising
  rw [numbers] at sorted
  exact List.pairwise_map.1 sorted

/-- The work of a teardown on one slot record, its claim aside, in a state framed as the command's own (R100). -/
theorem teardown_record (rising : s.poolSound) (own : s.slotRec n = some r) (c : Fin 16) (state : ChanState) :
    ∃ (v : State) (x : SlotRec), v.windows = s.windows ∧ ClaimOnly r x ∧ v.slotRec n = some x ∧
      Framed (v.tearSlot c n x).1 (s.teardown c state) ∧
      ∀ y, (v.tearSlot c n x).1.slotRec n = some y → ∃ z, (s.teardown c state).slotRec n = some z ∧ BooksOnly y z := by
  have claims := tornBefore_pool s c state
  obtain ⟨x, found, claim⟩ := claims.lookup_some own
  obtain ⟨before, after, split, -⟩ := List.lookup_eq_some_iff.1 found
  have mem : (n, x) ∈ (s.tornBefore c state).pool := by rw [split]; exact List.mem_append_right _ (List.mem_cons_self ..)
  obtain ⟨v, frame, same, rest, last⟩ := tearSlots_at (c := c) (claims.rising rising) mem (s.tornBefore c state, [])
  have judged : Kept (s.tornSlots c state).1 (s.teardown c state) := by
    rw [teardown_eq]
    exact kept_foldl kept_judgeKey _ _
  refine ⟨v, x, frame.windows.trans (tornBefore_windows s c state), claim, same.trans found,
    rest.trans judged.toFramed, fun y torn => ?_⟩
  exact judged.pool.lookup_some (last.trans torn)

theorem teardown_fails (rising : s.poolSound) (own : s.slotRec n = some r) (fails : s.fails c r) (state : ChanState) :
    (∃ q, (s.teardown c state).slotRec n = some q ∧ q.state = .failed ∧ q.reason = .channelDown ∧ q.key = none) ∧
      Wanted (s.teardown c state) n r .failed .channelDown := by
  obtain ⟨v, x, windows, ⟨claimed, rfl⟩, found, frame, record⟩ := teardown_record rising own c state
  have fails' : v.fails c { r with claimed := claimed } := by
    unfold State.fails State.boundChannel at fails ⊢
    rwa [windows]
  rw [tearSlot_fails fails'] at frame record
  obtain ⟨q, last, _, _, _, rfl⟩ := record _ ((untakeOf_slotRec _ _ n).trans (failRec_self found))
  exact ⟨⟨_, last, rfl, rfl, rfl⟩,
    (((failRec_wanted found).framed (framed_untakeOf _ _)).framed frame).congr rfl rfl rfl⟩

theorem teardown_rejects (rising : s.poolSound) (own : s.slotRec n = some r) (rejects : r.rejects c)
    (state : ChanState) :
    (∃ q, (s.teardown c state).slotRec n = some q ∧ q.state = .rejected ∧ q.reason = .channelDown ∧ q.key = none) ∧
      Wanted (s.teardown c state) n r .rejected .channelDown := by
  obtain ⟨v, x, windows, ⟨claimed, rfl⟩, found, frame, record⟩ := teardown_record rising own c state
  have rejects' : SlotRec.rejects { r with claimed := claimed } c := rejects
  rw [tearSlot_rejects rejects'] at frame record
  obtain ⟨q, last, _, _, _, rfl⟩ := record _ ((untakeOf_slotRec _ _ n).trans (rejectRec_self found))
  exact ⟨⟨_, last, rfl, rfl, rfl⟩,
    (((rejectRec_wanted found).framed (framed_untakeOf _ _)).framed frame).congr rfl rfl rfl⟩

theorem teardown_notes (rising : s.poolSound) (own : s.slotRec n = some r) (notes : r.notes c) (state : ChanState) :
    ∃ q, (s.teardown c state).slotRec n = some q ∧ q.state = .checking ∧ q.noted = r.noted.or (some .channelDown) := by
  obtain ⟨v, x, windows, ⟨claimed, rfl⟩, found, frame, record⟩ := teardown_record rising own c state
  have notes' : SlotRec.notes { r with claimed := claimed } c := notes
  rw [tearSlot_notes notes'] at record
  obtain ⟨q, last, _, _, _, rfl⟩ :=
    record _ (setRec_self (fun r => { r with noted := r.noted.or (some .channelDown) }) found)
  exact ⟨_, last, notes.2.1, rfl⟩

/-- A slot record past its opening or its check keeps its state, key and sequence (R71, R95). -/
theorem teardown_spares (rising : s.poolSound) (own : s.slotRec n = some r)
    (past : r.state = .tagging ∨ r.state = .tagged ∨ r.state = .passed) (c : Fin 16) (state : ChanState) :
    ∃ q, (s.teardown c state).slotRec n = some q ∧ q.state = r.state ∧ q.key = r.key ∧ q.seq = r.seq := by
  obtain ⟨v, x, windows, ⟨claimed, rfl⟩, found, frame, record⟩ := teardown_record rising own c state
  have spared : ¬ v.tears c { r with claimed := claimed } ∧ ¬ SlotRec.notes { r with claimed := claimed } c := by
    rcases past with past | past | past <;> simp [State.tears, State.fails, SlotRec.rejects, SlotRec.notes, past]
  rw [tearSlot_spares spared.1 spared.2] at record
  obtain ⟨q, last, _, _, _, rfl⟩ := record _ found
  exact ⟨_, last, rfl, rfl, rfl⟩

end Records

end Sys2Proof.Machine

end

section
/-!
PROOF. DROP_KEYS: the key slots of the teardown, and the command (R100, R101, R118 to R120).
-/

namespace Sys2Proof.Machine

-- One theorem at a time: elaborated side by side, each would hold a stack of its own.
set_option Elab.async false

/-! ## The key slots of a channel (R97, R115, R119) -/

section Named

variable {s : State} {c : Fin 16} {state : ChanState} {k : Fin 32}

/-- The channel names the key slot in a role, or in its hold (R97). -/
def State.names (s : State) (c : Fin 16) (k : Fin 32) : Prop :=
  (s.chan c).prev = some k ∨ (s.chan c).cur = some k ∨ (s.chan c).next = some k ∨
    (s.chan c).hold.map (·.key) = some k

theorem named_owned (sound : s.keysSound) (named : s.names c k) : (s.key k).owner = some c := by
  obtain ⟨-, roles, -⟩ := sound
  obtain ⟨cur, next, prev, hold⟩ := roles c
  rcases named with h | h | h | h
  · exact (prev k h).1
  · exact (cur k h).1
  · exact (next k h).1
  · obtain ⟨o, held, rfl⟩ := Option.map_eq_some_iff.1 h
    exact (hold o held).1

theorem named_used (sound : s.keysSound) (named : s.names c k) : (s.key k).state ≠ .free := by
  obtain ⟨slots, roles, -⟩ := sound
  obtain ⟨-, -, -, -, active, staged, -⟩ := slots k
  obtain ⟨cur, next, prev, hold⟩ := roles c
  intro free
  have seated (h : (s.chan c).cur = some k ∨ (s.chan c).next = some k ∨ (s.chan c).prev = some k)
      (owner : (s.key k).owner = some c) : False := by
    have role : s.keyRole k ≠ none := by
      unfold State.keyRole
      rw [owner]
      rcases h with h | h | h <;> simp [h] <;> (repeat' split) <;> simp
    cases known : s.keyRole k with
    | none => exact role known
    | some seat =>
      cases seat with
      | next => exact absurd (free.symm.trans (staged known)) (by decide)
      | current => exact absurd (free.symm.trans (active.1 (.inl known))) (by decide)
      | previous => exact absurd (free.symm.trans (active.1 (.inr known))) (by decide)
  rcases named with h | h | h | h
  · exact seated (.inr (.inr h)) (prev k h).1
  · exact seated (.inl h) (cur k h).1
  · exact seated (.inr (.inl h)) (next k h).1
  · obtain ⟨o, held, rfl⟩ := Option.map_eq_some_iff.1 h
    exact absurd (free.symm.trans (hold o held).2.1) (by decide)

/-- Only the owning channel's hold can name a key slot (R119). -/
theorem holdHolders_of_owner (sound : s.keysSound) (owner : (s.key k).owner = some c) :
    s.holdHolders k = if (s.chan c).hold.map (·.key) = some k then 1 else 0 := by
  obtain ⟨-, roles, -⟩ := sound
  have only (d : Fin 16) (h : (s.chan d).hold.map (·.key) = some k) : d = c := by
    obtain ⟨o, held, rfl⟩ := Option.map_eq_some_iff.1 h
    exact Option.some.inj (((roles d).2.2.2 o held).1.symm.trans owner)
  unfold State.holdHolders
  by_cases held : (s.chan c).hold.map (·.key) = some k
  · rw [if_pos held, ← List.count_finRange c, List.count]
    refine List.countP_congr fun d _ => ?_
    simp only [decide_eq_true_eq, beq_iff_eq]
    exact ⟨only d, fun h => h ▸ held⟩
  · rw [if_neg held, List.countP_eq_zero]
    intro d _ h
    have h := of_decide_eq_true h
    exact held (only d h ▸ h)

/-- The slot records that go on naming the key slot after a teardown of the channel. -/
def State.leftHolders (s : State) (c : Fin 16) (k : Fin 32) : Nat :=
  s.pool.countP fun p => decide (p.2.keySlot = some k ∧
    ¬ (p.2.role = .outbound ∧ p.2.state = .filling ∧ s.boundChannel p.2 = some c) ∧
    ¬ (p.2.role = .inbound ∧ p.2.state = .arriving ∧ p.2.channel = some c))

theorem recordHolders_split (s : State) (c : Fin 16) (k : Fin 32) : s.recordHolders k =
    s.leftHolders c k + s.pool.countP fun p => decide (p.2.keySlot = some k ∧ s.tears c p.2) := by
  unfold State.recordHolders State.leftHolders
  induction s.pool with
  | nil => rfl
  | cons p l ih =>
    simp only [List.countP_cons, ih, decide_eq_true_eq]
    by_cases own : p.2.keySlot = some k
    · by_cases tears : s.tears c p.2
      · have gone := fun h : ¬ _ ∧ ¬ _ => tears.elim h.1 h.2
        rw [if_pos own, if_neg fun h => gone h.2, if_pos ⟨own, tears⟩]
        omega
      · rw [if_pos own, if_pos ⟨own, not_or.1 tears⟩, if_neg fun h => tears h.2]
        omega
    · rw [if_neg own, if_neg fun h => own h.1, if_neg fun h => own h.1]
      omega

theorem tornSlots_key (s : State) (c : Fin 16) (state : ChanState) (k : Fin 32) :
    (s.tornSlots c state).1.key k = ((s.key k).less (if (s.chan c).hold.map (·.key) = some k then 1 else 0)).less
      (s.pool.countP fun p => decide (p.2.keySlot = some k ∧ s.tears c p.2)) := by
  unfold State.tornSlots
  rw [tearSlots_key, tornBefore_key]
  congr 1
  have before (x : SlotRec) : (s.tornBefore c state).tears c x ↔ s.tears c x := by
    unfold State.tears State.fails State.boundChannel
    rw [tornBefore_windows]
  simp only [before]
  refine (tornBefore_pool s c state).countP (p := fun r => decide (r.keySlot = some k ∧ s.tears c r)) ?_
  rintro x _ ⟨claimed, rfl⟩
  rfl

/-- The references of a key slot that the channel names, once the hold and the slots have given theirs up (R100). -/
theorem tornSlots_left (sound : s.keysSound) (named : s.names c k) (state : ChanState) :
    (s.tornSlots c state).1.key k = { s.key k with refs := s.leftHolders c k } := by
  have refs := (sound.1 k).2.2.1
  rw [holdHolders_of_owner sound (named_owned sound named), recordHolders_split s c k] at refs
  rw [tornSlots_key]
  unfold KeySlot.less
  simp only [refs]
  congr 1
  omega

theorem tornSlots_freeList (s : State) (c : Fin 16) (state : ChanState) :
    (s.tornSlots c state).1.keys.freeList = s.keys.freeList :=
  (tearSlots_freeList _ (s.tornBefore c state, [])).trans (tornBefore_freeList s c state)

theorem tornSlots_chan (s : State) (c : Fin 16) (state : ChanState) :
    (s.tornSlots c state).1.chan c = (s.chan c).torn state :=
  ((framed_tearSlots c _ (s.tornBefore c state, [])).chan c).trans (tornBefore_chan s c state)

/-- The key slots that the channel names are judged at the teardown's end (R100). -/
theorem mem_judged (named : s.names c k) (l : List (Fin 32)) : k ∈ (s.chan c).roleKeys ++ (s.tearHold c).2 ++ l := by
  refine List.mem_append_left _ ?_
  have seated (h : some k ∈ [(s.chan c).prev, (s.chan c).cur, (s.chan c).next]) :
      k ∈ (s.chan c).roleKeys ++ (s.tearHold c).2 :=
    List.mem_append_left _ (List.mem_filterMap.2 ⟨some k, h, rfl⟩)
  rcases named with h | h | h | h
  · exact seated (by simp [h])
  · exact seated (by simp [h])
  · exact seated (by simp [h])
  · obtain ⟨o, held, rfl⟩ := Option.map_eq_some_iff.1 h
    rw [tearHold_held held]
    exact List.mem_append_right _ (List.mem_singleton_self _)

theorem teardown_freeList (s : State) (c : Fin 16) (state : ChanState) :
    s.keys.freeList <+: (s.teardown c state).keys.freeList := by
  rw [teardown_eq, ← tornSlots_freeList s c state]
  exact judgeKeys_freeList _ _

/-- A key slot that the channel names after its teardown: zeroised without a reference, and else RETIRING, or STAGED
while its install is in flight (R100, R118, R120). -/
theorem teardown_key (sound : s.keysSound) (named : s.names c k) (state : ChanState) :
    (s.leftHolders c k = 0 →
      (s.teardown c state).key k = KeySlot.zeroised ∧ k ∈ (s.teardown c state).keys.freeList) ∧
    (s.leftHolders c k ≠ 0 → k ∉ (s.teardown c state).keys.freeList ∧ (s.teardown c state).key k =
      { s.key k with state := if (s.key k).load = .part then .staged else .retiring, refs := s.leftHolders c k }) := by
  have key := tornSlots_left sound named state
  have chan := tornSlots_chan s c state
  have mem := mem_judged named (s.tornSlots c state).2
  have used := named_used sound named
  have owner := named_owned sound named
  have off : k ∉ s.keys.freeList := fun mem => used ((sound.1 k).1.1 mem)
  rw [← tornSlots_freeList s c state] at off
  rw [teardown_eq]
  generalize (s.tornSlots c state).1 = u at key chan off ⊢
  have owner' : (u.key k).owner = some c := by rw [key]; exact owner
  have used' : (u.key k).state ≠ .free := by rw [key]; exact used
  have role : u.keyRole k = none := by
    unfold State.keyRole
    rw [owner']
    simp [chan, Channel.torn]
  have held : u.heldOrInstalling k = decide ((s.key k).load = .part) := by
    unfold State.heldOrInstalling
    rw [owner', key]
    simp [chan, Channel.torn]
  rw [judgeKeys_key, if_pos mem, judgeKey_cases used' role]
  refine ⟨fun left => ?_, fun left => ?_⟩
  · have refs : (u.key k).refs = 0 := by rw [key]; exact left
    rw [if_pos refs, zeroise_key, if_pos rfl]
    exact ⟨rfl, judgeKeys_frees mem used' role refs⟩
  · have refs : (u.key k).refs ≠ 0 := by rw [key]; exact left
    rw [if_neg refs, State.key_setKey, if_pos rfl, held, key]
    exact ⟨judgeKeys_keeps off refs, by simp only [decide_eq_true_eq]⟩

end Named

/-! ## DROP_KEYS (R101) -/

theorem exec_dropKeys {s : State} (h : s.executes 0x06 = true) :
    exec .dropKeys s = .next (s.onChannel State.dropKeys).settle := by
  change command 0x06 s (fun s => s.onChannel State.dropKeys) = _
  exact if_pos h

theorem wanted_complete {u : State} {n : Nat} {r : SlotRec} {state : SlotState} {why : Reason} {status channel : Byte}
    (h : Wanted u n r state why) : Wanted (u.complete status channel) n r state why := by
  obtain ⟨q, asked, op, start, access⟩ := h
  refine ⟨q, complete_asks _ _ _ asked, op, start.trans ?_, access⟩
  unfold State.slotBase
  rw [State.complete_windows]

/-- Settles O51: a teardown record by record and key slot by key slot. -/
theorem dropKeysTearsDown : Obligations.DropKeysTearsDown := by
  intro s rising h
  refine ⟨_, exec_dropKeys h, ?_⟩
  rcases Nat.lt_or_ge 15 (s.arg 2).toNat with above | below
  · rw [onChannel_above _ above]
    obtain ⟨completed, blocks, ring⟩ := refused_completed s statusBadArgument (s.arg 2)
    exact ⟨blocks.2.2.1, ring, fun _ => ⟨completed, blocks⟩, fun c index => absurd index (by omega)⟩
  obtain ⟨c, index⟩ : ∃ c : Fin 16, (s.arg 2).toNat = c.val := ⟨⟨(s.arg 2).toNat, by omega⟩, rfl⟩
  rw [onChannel_of_index _ index]
  unfold State.dropKeys
  obtain ⟨completed, meters, ring, others, own, list⟩ :=
    torn_completed s c (if (s.chan c).state = .disabled then .disabled else .guarded) statusOk (s.arg 2)
  refine ⟨meters, ring, by omega, fun d hd => ?_⟩
  obtain rfl : d = c := Fin.ext (hd.symm.trans index)
  refine ⟨completed, others, own, list, fun n r found => ⟨fun role filling bound => ?_, fun role arriving channel => ?_,
    fun role checking channel => ?_, fun past => ?_⟩, fun sound => ⟨fun k named left count => ?_, ?_⟩⟩
  · obtain ⟨record, wanted⟩ := teardown_fails rising found ⟨role, filling, bound⟩ _
    exact ⟨by simpa using record, (wanted_complete wanted).settle⟩
  · obtain ⟨record, wanted⟩ := teardown_rejects rising found ⟨role, arriving, channel⟩ _
    exact ⟨by simpa using record, (wanted_complete wanted).settle⟩
  · simpa using teardown_notes rising found ⟨role, checking, channel⟩ _
  · simpa using teardown_spares rising found past d _
  · obtain rfl : left = s.leftHolders d k := count
    simpa using teardown_key sound named _
  · simpa using List.prefix_iff_eq_take.1 (teardown_freeList s d _)

end Sys2Proof.Machine

end

section
/-!
SUPPORT. The books of the key slots: `Ledger` says of a state what O9 says of it, but for key slots that still wait to be
judged, for references that are about to be dropped or taken, and for a channel whose held offer is being seated. One rule
for each kind of entry in the books.
-/

namespace Sys2Proof.Machine

-- One theorem at a time: elaborated side by side, each would hold a stack of its own.
set_option Elab.async false

/-! ## What the books say -/

/-- A slot record that holds no key slot, by its state: FREE, FAILED, REJECTED, or ARRIVING without a header. -/
def SlotRec.Bare (r : SlotRec) : Prop :=
  r.state = .free ∨ r.state = .failed ∨ r.state = .rejected ∨ (r.state = .arriving ∧ r.headerSeen = false)

/-- The books of the key slots, but for: the key slots `judge` that are yet to be judged, the references `due` that are
yet to be dropped and those `open` that are yet to be counted, and the channel `seating` whose held offer is being
seated. -/
structure Ledger (seating : Option (Fin 16)) (judge due unpaid : List (Fin 32)) (s : State) : Prop where
  pool : s.poolSound
  list : ∀ k, k ∈ s.keys.freeList ↔ (s.key k).state = .free
  once : s.keys.freeList.Nodup
  blank : ∀ k, (s.key k).state = .free → s.key k = KeySlot.zeroised
  refs : ∀ k, (s.key k).refs + unpaid.count k = s.recordHolders k + s.holdHolders k + due.count k
  owned : ∀ k, (s.key k).state ≠ .free → (s.key k).owner ≠ none
  used : ∀ k, k ∉ judge → (s.key k).state ≠ .free → (∃ c, (s.chan c).cur = some k ∨ (s.chan c).next = some k ∨
    (s.chan c).prev = some k) ∨ 0 < (s.key k).refs
  active : ∀ k, k ∉ judge → (s.key k).state = .active → ∃ c, (s.chan c).cur = some k ∨ (s.chan c).prev = some k
  staged : ∀ k, k ∉ judge → (s.key k).state = .staged → (s.key k).load = .part ∨
    ∃ c, (s.chan c).next = some k ∨ (s.chan c).hold.map (·.key) = some k
  cur : ∀ c k, (s.chan c).cur = some k → (s.key k).owner = some c ∧ (s.key k).state = .active ∧ (s.chan c).prev ≠ some k
  next : ∀ c k, (s.chan c).next = some k → (s.key k).owner = some c ∧ (s.key k).state = .staged ∧
    ∃ g, (s.chan c).cur = some g ∧ (seating ≠ some c → (s.key k).gen = (s.key g).gen + 1)
  prev : ∀ c k, (s.chan c).prev = some k → (s.key k).owner = some c ∧ (s.key k).state = .active ∧
    ∃ g, (s.chan c).cur = some g ∧ (s.key g).gen = (s.key k).gen + 1
  hold : ∀ c h, (s.chan c).hold = some h → (s.key h.key).owner = some c ∧ (s.key h.key).state = .staged ∧
    (seating ≠ some c → (s.chan c).next ≠ some h.key)
  bare : ∀ p ∈ s.pool, p.2.Bare → p.2.keySlot = none
  owed : ∀ (r : BgReq) (k : Fin 32), s.owed r → r.use = .hashSubkey → r.key = .slot k → (s.key k).state ≠ .free

/-- The role of a key slot is the one its owning channel names it in. -/
theorem keyRole_of_owner {s : State} {k : Fin 32} {c : Fin 16} (owner : (s.key k).owner = some c) : s.keyRole k =
    if (s.chan c).cur = some k then some .current else if (s.chan c).next = some k then some .next
      else if (s.chan c).prev = some k then some .previous else none := by
  unfold State.keyRole
  rw [owner]

theorem keyRole_owner {s : State} {k : Fin 32} {role : KeyRole} (h : s.keyRole k = some role) :
    ∃ c, (s.key k).owner = some c := by
  cases owner : (s.key k).owner with
  | some c => exact ⟨c, rfl⟩
  | none =>
    unfold State.keyRole at h
    rw [owner] at h
    cases h

/-- The channel that names a key slot in its role. -/
theorem keyRole_seated {s : State} {k : Fin 32} {seat : KeyRole} (role : s.keyRole k = some seat) : ∃ c,
    seat = .current ∧ (s.chan c).cur = some k ∨ seat = .next ∧ (s.chan c).next = some k ∨
      seat = .previous ∧ (s.chan c).prev = some k := by
  obtain ⟨c, owner⟩ := keyRole_owner role
  rw [keyRole_of_owner owner] at role
  refine ⟨c, ?_⟩
  split at role
  · exact .inl ⟨(Option.some.inj role).symm, ‹_›⟩
  split at role
  · exact .inr (.inl ⟨(Option.some.inj role).symm, ‹_›⟩)
  split at role
  · exact .inr (.inr ⟨(Option.some.inj role).symm, ‹_›⟩)
  · cases role

section Roles

variable {x : Option (Fin 16)} {D E C : List (Fin 32)} {s : State} {c : Fin 16} {k : Fin 32}

theorem Ledger.keyRole_of_cur (h : Ledger x D E C s) (cur : (s.chan c).cur = some k) : s.keyRole k = some .current := by
  rw [keyRole_of_owner (h.cur c k cur).1, if_pos cur]

theorem Ledger.keyRole_of_next (h : Ledger x D E C s) (next : (s.chan c).next = some k) : s.keyRole k = some .next := by
  obtain ⟨owner, staged, -⟩ := h.next c k next
  have uncur : (s.chan c).cur ≠ some k := fun cur => absurd (staged.symm.trans (h.cur c k cur).2.1) (by decide)
  rw [keyRole_of_owner owner, if_neg uncur, if_pos next]

theorem Ledger.keyRole_of_prev (h : Ledger x D E C s) (prev : (s.chan c).prev = some k) :
    s.keyRole k = some .previous := by
  obtain ⟨owner, active, -⟩ := h.prev c k prev
  have uncur : (s.chan c).cur ≠ some k := fun cur => (h.cur c k cur).2.2 prev
  have unnext : (s.chan c).next ≠ some k := fun next => absurd (active.symm.trans (h.next c k next).2.1) (by decide)
  rw [keyRole_of_owner owner, if_neg uncur, if_neg unnext, if_pos prev]

/-- A key slot has a role exactly while a channel names it in one. -/
theorem Ledger.keyRole_ne_none (h : Ledger x D E C s) : s.keyRole k ≠ none ↔
    ∃ c, (s.chan c).cur = some k ∨ (s.chan c).next = some k ∨ (s.chan c).prev = some k := by
  constructor
  · intro role
    obtain ⟨seat, role⟩ := Option.ne_none_iff_exists'.1 role
    obtain ⟨c, ⟨-, cur⟩ | ⟨-, next⟩ | ⟨-, prev⟩⟩ := keyRole_seated role
    · exact ⟨c, .inl cur⟩
    · exact ⟨c, .inr (.inl next)⟩
    · exact ⟨c, .inr (.inr prev)⟩
  · rintro ⟨c, cur | next | prev⟩
    · rw [h.keyRole_of_cur cur]; exact Option.some_ne_none _
    · rw [h.keyRole_of_next next]; exact Option.some_ne_none _
    · rw [h.keyRole_of_prev prev]; exact Option.some_ne_none _

end Roles

/-! ## The books and the soundness of the key slots -/

section Sound

variable {s : State}

theorem heldOrInstalling_iff {k : Fin 32} {c : Fin 16} (owner : (s.key k).owner = some c) :
    s.heldOrInstalling k = true ↔ (s.chan c).hold.map (·.key) = some k ∨ (s.key k).load = .part := by
  unfold State.heldOrInstalling
  rw [owner]
  simp

/-- Sound key slots have their books in order. -/
theorem ledger_of_sound (pool : s.poolSound) (sound : s.keysSound) : Ledger none [] [] [] s := by
  obtain ⟨slots, roles, once, bare, owed⟩ := sound
  have curRole (c : Fin 16) (k : Fin 32) (cur : (s.chan c).cur = some k) : s.keyRole k = some .current := by
    rw [keyRole_of_owner ((roles c).1 k cur).1, if_pos cur]
  have nextRole (c : Fin 16) (k : Fin 32) (next : (s.chan c).next = some k) : s.keyRole k = some .next := by
    have uncur : (s.chan c).cur ≠ some k := fun cur => ((roles c).1 k cur).2.1 next
    rw [keyRole_of_owner ((roles c).2.1 k next).1, if_neg uncur, if_pos next]
  have prevRole (c : Fin 16) (k : Fin 32) (prev : (s.chan c).prev = some k) : s.keyRole k = some .previous := by
    have uncur : (s.chan c).cur ≠ some k := fun cur => ((roles c).1 k cur).2.2 prev
    have unnext : (s.chan c).next ≠ some k := fun next => ((roles c).2.1 k next).2.1 prev
    rw [keyRole_of_owner ((roles c).2.2.1 k prev).1, if_neg uncur, if_neg unnext, if_pos prev]
  have nextStaged (k : Fin 32) (role : s.keyRole k = some .next) : (s.key k).state = .staged :=
    (slots k).2.2.2.2.2.1 role
  refine ⟨pool, fun k => (slots k).1, once, fun k => (slots k).2.1, fun k => (slots k).2.2.1,
    fun k used => ((slots k).2.2.2.1 used).1, fun k _ used => ?_, fun k _ active => ?_, fun k _ staged => ?_,
    fun c k cur => ?_, fun c k next => ?_, fun c k prev => ?_, fun c h held => ?_, bare, owed⟩
  · rcases ((slots k).2.2.2.1 used).2 with role | refs
    · obtain ⟨seat, role⟩ := Option.ne_none_iff_exists'.1 role
      obtain ⟨c, ⟨-, cur⟩ | ⟨-, next⟩ | ⟨-, prev⟩⟩ := keyRole_seated role
      · exact .inl ⟨c, .inl cur⟩
      · exact .inl ⟨c, .inr (.inl next)⟩
      · exact .inl ⟨c, .inr (.inr prev)⟩
    · exact .inr refs
  · rcases (slots k).2.2.2.2.1.2 active with role | role
    all_goals obtain ⟨c, ⟨seat, cur⟩ | ⟨seat, next⟩ | ⟨seat, prev⟩⟩ := keyRole_seated role
    · exact ⟨c, .inl cur⟩
    · cases seat
    · cases seat
    · cases seat
    · cases seat
    · exact ⟨c, .inr prev⟩
  · cases role : s.keyRole k with
    | none =>
      obtain ⟨c, owner⟩ := Option.ne_none_iff_exists'.1 ((slots k).2.2.2.1 (by rw [staged]; decide)).1
      rcases (heldOrInstalling_iff owner).1 ((slots k).2.2.2.2.2.2 staged role) with held | load
      · exact .inr ⟨c, .inr held⟩
      · exact .inl load
    | some seat =>
      obtain ⟨c, ⟨rfl, cur⟩ | ⟨-, next⟩ | ⟨rfl, prev⟩⟩ := keyRole_seated role
      · exact absurd (staged.symm.trans ((slots k).2.2.2.2.1.1 (.inl role))) (by decide)
      · exact .inr ⟨c, .inl next⟩
      · exact absurd (staged.symm.trans ((slots k).2.2.2.2.1.1 (.inr role))) (by decide)
  · obtain ⟨owner, -, apart⟩ := (roles c).1 k cur
    exact ⟨owner, (slots k).2.2.2.2.1.1 (.inl (curRole c k cur)), apart⟩
  · obtain ⟨owner, -, g, cur, gen⟩ := (roles c).2.1 k next
    exact ⟨owner, nextStaged k (nextRole c k next), g, cur, fun _ => gen⟩
  · obtain ⟨owner, g, cur, gen⟩ := (roles c).2.2.1 k prev
    exact ⟨owner, (slots k).2.2.2.2.1.1 (.inr (prevRole c k prev)), g, cur, gen⟩
  · obtain ⟨owner, staged, role⟩ := (roles c).2.2.2 h held
    exact ⟨owner, staged, fun _ next => absurd (role.symm.trans (nextRole c h.key next)) nofun⟩

/-- Key slots whose books are in order are sound. -/
theorem Ledger.sound (h : Ledger none [] [] [] s) : s.keysSound := by
  refine ⟨fun k => ⟨h.list k, h.blank k, ?_, fun used => ⟨h.owned k used, ?_⟩, ⟨?_, fun active => ?_⟩, fun role => ?_,
    fun staged role => ?_⟩, fun c => ⟨fun k cur => ?_, fun k next => ?_, fun k prev => ?_, fun o held => ?_⟩, h.once,
    h.bare, h.owed⟩
  · simpa using h.refs k
  · exact (h.used k List.not_mem_nil used).imp_left h.keyRole_ne_none.2
  · rintro (role | role)
    all_goals obtain ⟨c, ⟨seat, cur⟩ | ⟨seat, next⟩ | ⟨seat, prev⟩⟩ := keyRole_seated role
    · exact (h.cur c k cur).2.1
    · cases seat
    · cases seat
    · cases seat
    · cases seat
    · exact (h.prev c k prev).2.1
  · obtain ⟨c, cur | prev⟩ := h.active k List.not_mem_nil active
    · exact .inl (h.keyRole_of_cur cur)
    · exact .inr (h.keyRole_of_prev prev)
  · obtain ⟨c, ⟨seat, cur⟩ | ⟨seat, next⟩ | ⟨seat, prev⟩⟩ := keyRole_seated role
    · cases seat
    · exact (h.next c k next).2.1
    · cases seat
  · obtain ⟨c, owner⟩ := Option.ne_none_iff_exists'.1 (h.owned k (by rw [staged]; decide))
    rw [heldOrInstalling_iff owner]
    rcases h.staged k List.not_mem_nil staged with load | ⟨d, next | held⟩
    · exact .inr load
    · exact absurd (role.symm.trans (h.keyRole_of_next next)) nofun
    · obtain ⟨o, found, rfl⟩ := Option.map_eq_some_iff.1 held
      obtain rfl : d = c := Option.some.inj ((h.hold d o found).1.symm.trans owner)
      exact .inl held
  · obtain ⟨owner, active, apart⟩ := h.cur c k cur
    exact ⟨owner, fun next => absurd (active.symm.trans (h.next c k next).2.1) (by decide), apart⟩
  · obtain ⟨owner, staged, g, cur, gen⟩ := h.next c k next
    exact ⟨owner, fun prev => absurd (staged.symm.trans (h.prev c k prev).2.1) (by decide), g, cur, gen nofun⟩
  · obtain ⟨owner, -, g, cur, gen⟩ := h.prev c k prev
    exact ⟨owner, g, cur, gen⟩
  · obtain ⟨owner, staged, unnext⟩ := h.hold c o held
    refine ⟨owner, staged, ?_⟩
    rw [keyRole_of_owner owner]
    have uncur : (s.chan c).cur ≠ some o.key := fun cur => absurd (staged.symm.trans (h.cur c _ cur).2.1) (by decide)
    have unprev : (s.chan c).prev ≠ some o.key := fun prev => absurd (staged.symm.trans (h.prev c _ prev).2.1) (by decide)
    rw [if_neg uncur, if_neg (unnext nofun), if_neg unprev]

end Sound

end Sys2Proof.Machine

end

section
/-!
SUPPORT. The entries in the books of the key slots: what leaves them as they are, and references dropped and taken.
-/

namespace Sys2Proof.Machine

-- One theorem at a time: elaborated side by side, each would hold a stack of its own.
set_option Elab.async false

/-! ## Changes that the books do not show -/

/-- A slot record that names the key slot it named, and is bare only if it was. -/
def RefKept (x y : SlotRec) : Prop := y.keySlot = x.keySlot ∧ (y.Bare → x.Bare)

theorem RefKept.refl (x : SlotRec) : RefKept x x := ⟨rfl, id⟩

theorem RefKept.of_books {x y : SlotRec} (h : BooksOnly x y) : RefKept x y := by
  obtain ⟨_, _, _, rfl⟩ := h
  exact ⟨rfl, id⟩

/-- A channel record that names the key slots it named, in the same roles and in its hold. -/
def RolesKept (x y : Channel) : Prop := y.cur = x.cur ∧ y.next = x.next ∧ y.prev = x.prev ∧ y.hold = x.hold

theorem RolesKept.refl (x : Channel) : RolesKept x x := ⟨rfl, rfl, rfl, rfl⟩

/-- The slot records that name a key slot, when none changes what it names. -/
theorem recordHolders_of_kept {s t : State} (pool : PoolRel RefKept s.pool t.pool) (k : Fin 32) :
    t.recordHolders k = s.recordHolders k :=
  pool.countP (p := fun r => decide (r.keySlot = some k)) fun _ _ same => by simp only [same.1]

theorem holdHolders_of_same {s t : State} (hold : ∀ d, (t.chan d).hold = (s.chan d).hold) (k : Fin 32) :
    t.holdHolders k = s.holdHolders k := by
  unfold State.holdHolders
  simp only [hold]

theorem PoolRel.forall_mem {R : SlotRec → SlotRec → Prop} {l m : List (Nat × SlotRec)} (h : PoolRel R l m)
    {q : Nat × SlotRec} (mem : q ∈ m) : ∃ p ∈ l, p.1 = q.1 ∧ R p.2 q.2 := by
  unfold PoolRel at h
  induction h with
  | nil => cases mem
  | @cons p _ _ _ first _ ih =>
    rcases List.mem_cons.1 mem with rfl | later
    · exact ⟨p, List.mem_cons_self .., first⟩
    · obtain ⟨r, mem, same⟩ := ih later
      exact ⟨r, List.mem_cons_of_mem _ mem, same⟩

theorem bare_of_kept {l m : List (Nat × SlotRec)} (pool : PoolRel RefKept l m)
    (bare : ∀ p ∈ l, p.2.Bare → p.2.keySlot = none) : ∀ p ∈ m, p.2.Bare → p.2.keySlot = none := by
  intro q mem bareq
  obtain ⟨p, mem, -, same, back⟩ := pool.forall_mem mem
  exact same.trans (bare p mem (back bareq))

theorem lookup_of_mem {l : List (Nat × SlotRec)} (rising : l.Pairwise fun p q => p.1 < q.1) {p : Nat × SlotRec}
    (mem : p ∈ l) : l.lookup p.1 = some p.2 := by
  induction l with
  | nil => cases mem
  | cons q l ih =>
    obtain ⟨above, rest⟩ := List.pairwise_cons.1 rising
    rw [List.lookup_cons]
    rcases List.mem_cons.1 mem with rfl | later
    · rw [beq_self_eq_true]
    · rw [beq_false_of_ne (above p later).ne']
      exact ih rest later

/-- A slot record that stands in the pool is the one its number finds (1.2). -/
theorem slotRec_of_mem {s : State} (pool : s.poolSound) {p : Nat × SlotRec} (mem : p ∈ s.pool) :
    s.slotRec p.1 = some p.2 := lookup_of_mem pool mem

theorem mem_of_slotRec {s : State} {n : Nat} {r : SlotRec} (found : s.slotRec n = some r) : (n, r) ∈ s.pool := by
  obtain ⟨before, after, split, -⟩ := List.lookup_eq_some_iff.1 found
  rw [split]
  exact List.mem_append_right _ (List.mem_cons_self ..)

theorem setRec_pool (s : State) (n : Nat) (f : SlotRec → SlotRec) :
    (s.setRec n f).pool = s.pool.map fun p => (p.1, if p.1 = n then f p.2 else p.2) := by
  unfold State.setRec
  refine List.map_congr_left fun p _ => ?_
  by_cases same : p.1 = n <;> simp [same]

section Entries

variable {x : Option (Fin 16)} {D E C : List (Fin 32)} {s t : State} {c : Fin 16} {k : Fin 32}

theorem Ledger.kept (h : Ledger x D E C s) (keys : t.keys = s.keys)
    (chans : ∀ d, RolesKept (s.chan d) (t.chan d)) (pool : PoolRel RefKept s.pool t.pool)
    (owed : ∀ r, t.owed r → s.owed r) : Ledger x D E C t := by
  have key (k : Fin 32) : t.key k = s.key k := by rw [State.key, keys, State.key]
  have cur (d : Fin 16) := (chans d).1
  have next (d : Fin 16) := (chans d).2.1
  have prev (d : Fin 16) := (chans d).2.2.1
  have hold (d : Fin 16) := (chans d).2.2.2
  have records := recordHolders_of_kept pool
  have holds := holdHolders_of_same hold
  constructor
  case pool => exact pool.rising h.pool
  case list => simpa only [keys, key] using h.list
  case once => simpa only [keys] using h.once
  case blank => simpa only [key] using h.blank
  case refs => simpa only [key, records, holds] using h.refs
  case owned => simpa only [key] using h.owned
  case used => simpa only [key, cur, next, prev] using h.used
  case active => simpa only [key, cur, prev] using h.active
  case staged => simpa only [key, next, hold] using h.staged
  case cur => simpa only [key, cur, prev] using h.cur
  case next => simpa only [key, next, cur] using h.next
  case prev => simpa only [key, cur, prev] using h.prev
  case hold => simpa only [key, hold, next] using h.hold
  case bare => exact bare_of_kept pool h.bare
  case owed => exact fun r k asked use own => by rw [key]; exact h.owed r k (owed r asked) use own

/-- A change of anything but the key slots, the slot records, the channels, the background requests and the grant. -/
theorem Ledger.beside (h : Ledger x D E C s) (keys : t.keys = s.keys := by rfl) (pool : t.pool = s.pool := by rfl)
    (channels : t.channels = s.channels := by rfl) (owed : ∀ r, t.owed r → s.owed r := by exact fun _ asked => asked) :
    Ledger x D E C t := by
  refine h.kept keys (fun d => ?_) (by rw [pool]; exact PoolRel.refl RefKept.refl _) owed
  unfold State.chan
  rw [channels]
  exact RolesKept.refl _

/-- A change of channel records that name their key slots as before. -/
theorem Ledger.roles (h : Ledger x D E C s) (chans : ∀ d, RolesKept (s.chan d) (t.chan d))
    (keys : t.keys = s.keys := by rfl) (pool : t.pool = s.pool := by rfl)
    (owed : ∀ r, t.owed r → s.owed r := by exact fun _ asked => asked) : Ledger x D E C t :=
  h.kept keys chans (by rw [pool]; exact PoolRel.refl RefKept.refl _) owed

theorem Ledger.setChan {f : Channel → Channel} (h : Ledger x D E C s)
    (hf : ∀ y, RolesKept y (f y) := by exact fun _ => ⟨rfl, rfl, rfl, rfl⟩) : Ledger x D E C (s.setChan c f) :=
  h.roles fun d => by
    rw [State.chan_setChan]
    split
    · rename_i same
      rw [same]
      exact hf _
    · exact RolesKept.refl _

theorem Ledger.served (h : Ledger x D E C s) (served : Served s t) : Ledger x D E C t := by
  refine h.kept served.store (fun d => ?_) (served.pool.imp fun _ _ same => ⟨same.1, RefKept.of_books same.2⟩)
    fun r asked => ?_
  · rw [served.chan]
    exact RolesKept.refl _
  · obtain ⟨cipher, background, -⟩ := served.engines
    unfold State.owed at asked ⊢
    rwa [cipher, background] at asked

/-- A slot record changed in place, which names what it named. -/
theorem Ledger.setRec {m : Nat} {f : SlotRec → SlotRec} (h : Ledger x D E C s)
    (hf : ∀ r, s.slotRec m = some r → RefKept r (f r) := by exact fun _ _ => ⟨rfl, id⟩) :
    Ledger x D E C (s.setRec m f) := by
  refine h.kept rfl (fun _ => RolesKept.refl _) ?_ fun _ asked => asked
  rw [setRec_pool]
  refine PoolRel.map fun p mem => ?_
  split
  · rename_i same
    exact hf p.2 (same ▸ slotRec_of_mem h.pool mem)
  · exact RefKept.refl _

/-! ## References given up and taken (R119) -/

/-- One place in a list whose test changes. -/
theorem countP_changed_on {α : Type} {l : List α} (p q : α → Bool) {a : α} (once : l.Nodup) (mem : a ∈ l)
    (same : ∀ b ∈ l, b ≠ a → q b = p b) : l.countP q + (if p a then 1 else 0) = l.countP p + if q a then 1 else 0 := by
  induction l with
  | nil => cases mem
  | cons b l ih =>
    obtain ⟨fresh, once⟩ := List.nodup_cons.1 once
    rw [List.countP_cons, List.countP_cons]
    rcases List.mem_cons.1 mem with rfl | later
    · have tail : l.countP q = l.countP p :=
        List.countP_congr fun b mem => by
          rw [same b (List.mem_cons_of_mem _ mem) fun here => fresh (here ▸ mem)]
      omega
    · rw [same b (List.mem_cons_self ..) fun here => fresh (here ▸ later)]
      have := ih once later fun d mem => same d (List.mem_cons_of_mem _ mem)
      omega

/-- The holders of a key slot after a slot record has changed. -/
theorem recordHolders_setRec {m : Nat} {r : SlotRec} (pool : s.poolSound) (found : s.slotRec m = some r)
    (f : SlotRec → SlotRec) (k : Fin 32) :
    (s.setRec m f).recordHolders k + (if r.keySlot = some k then 1 else 0) =
      s.recordHolders k + if (f r).keySlot = some k then 1 else 0 := by
  have once : s.pool.Nodup := List.Pairwise.imp (fun below same => absurd (same ▸ below) (Nat.lt_irrefl _)) pool
  have others (p : Nat × SlotRec) (mem : p ∈ s.pool) (apart : p ≠ (m, r)) : p.1 ≠ m := fun same =>
    apart (Prod.ext same (Option.some.inj ((slotRec_of_mem pool mem).symm.trans (same ▸ found))))
  have changed := countP_changed_on (fun p => decide (p.2.keySlot = some k))
    (fun p => decide ((if p.1 = m then f p.2 else p.2).keySlot = some k)) once (mem_of_slotRec found)
    fun p mem apart => by rw [if_neg (others p mem apart)]
  unfold State.recordHolders
  rw [setRec_pool, List.countP_map]
  simpa [Function.comp_def] using changed

theorem setRec_poolSound {m : Nat} {f : SlotRec → SlotRec} (h : s.poolSound) : (s.setRec m f).poolSound := by
  unfold State.poolSound at h ⊢
  rw [setRec_pool]
  exact List.pairwise_map.2 h

/-- A slot record that names another key slot, or none, with the references that this leaves due or unpaid. -/
theorem Ledger.renamed {m : Nat} {r : SlotRec} {f : SlotRec → SlotRec} {E' C' : List (Fin 32)} (h : Ledger x D E C s)
    (found : s.slotRec m = some r) (bare : (f r).Bare → (f r).keySlot = none)
    (counts : ∀ j, (if (f r).keySlot = some j then 1 else 0) + E'.count j + C.count j =
      (if r.keySlot = some j then 1 else 0) + E.count j + C'.count j) : Ledger x D E' C' (s.setRec m f) where
  pool := setRec_poolSound h.pool
  list := h.list
  once := h.once
  blank := h.blank
  refs := fun k => by
    have before := h.refs k
    have changed := recordHolders_setRec h.pool found f k
    have change := counts k
    change (s.key k).refs + _ = _ + s.holdHolders k + _
    omega
  owned := h.owned
  used := h.used
  active := h.active
  staged := h.staged
  cur := h.cur
  next := h.next
  prev := h.prev
  hold := h.hold
  bare := by
    rw [setRec_pool]
    intro p mem
    obtain ⟨q, here, rfl⟩ := List.mem_map.1 mem
    dsimp only
    split
    · rename_i same
      obtain rfl : q.2 = r := Option.some.inj ((slotRec_of_mem h.pool here).symm.trans (same ▸ found))
      exact bare
    · exact h.bare q here
  owed := h.owed

/-- A slot record that names no key slot any more: its reference is due (R119). -/
theorem Ledger.unname {m : Nat} {r : SlotRec} {f : SlotRec → SlotRec} (h : Ledger x D E C s)
    (found : s.slotRec m = some r) (gone : (f r).keySlot = none) :
    Ledger x D (r.keySlot.toList ++ E) C (s.setRec m f) := by
  refine h.renamed found (fun _ => gone) fun j => ?_
  rw [gone, List.count_append]
  cases r.keySlot with
  | none => simp
  | some i => simp [List.count_singleton]

/-- A slot record that names a key slot, where it named none: its reference is not counted yet (R119). -/
theorem Ledger.name {m : Nat} {r : SlotRec} {f : SlotRec → SlotRec} (h : Ledger x D E C s)
    (found : s.slotRec m = some r) (empty : r.keySlot = none) (now : (f r).keySlot = some k) (filled : ¬ (f r).Bare) :
    Ledger x D E (k :: C) (s.setRec m f) := by
  refine h.renamed found (fun bare => absurd bare filled) fun j => ?_
  rw [now, empty, List.count_cons]
  simp only [Option.some.injEq, beq_iff_eq, reduceCtorEq, if_false]
  omega

/-- A key slot in use written without a change of its state, owner and generation. -/
theorem Ledger.rekeyed {f : KeySlot → KeySlot} {D' E' C' : List (Fin 32)} (h : Ledger x D E C s)
    (used : (s.key k).state ≠ .free)
    (same : (f (s.key k)).state = (s.key k).state ∧ (f (s.key k)).owner = (s.key k).owner ∧
      (f (s.key k)).gen = (s.key k).gen)
    (judge : ∀ j, j ∉ D' → j ∉ D ∧ (j = k → (f (s.key k)).load = (s.key k).load ∧ (s.key k).refs ≤ (f (s.key k)).refs))
    (counts : ∀ j, (if j = k then (f (s.key k)).refs else 0) + C'.count j + E.count j =
      (if j = k then (s.key k).refs else 0) + C.count j + E'.count j) : Ledger x D' E' C' (s.setKey k f) := by
  obtain ⟨state, owner, gen⟩ := same
  have key (j : Fin 32) : (s.setKey k f).key j = if j = k then f (s.key k) else s.key j := State.key_setKey s k j f
  have states (j : Fin 32) : ((s.setKey k f).key j).state = (s.key j).state := by rw [key]; split <;> simp [*]
  have owners (j : Fin 32) : ((s.setKey k f).key j).owner = (s.key j).owner := by rw [key]; split <;> simp [*]
  have gens (j : Fin 32) : ((s.setKey k f).key j).gen = (s.key j).gen := by rw [key]; split <;> simp [*]
  have loads {j : Fin 32} (out : j ∉ D') : ((s.setKey k f).key j).load = (s.key j).load := by
    rw [key]
    split
    · rename_i same
      rw [((judge j out).2 same).1, same]
    · rfl
  have more {j : Fin 32} (out : j ∉ D') : (s.key j).refs ≤ ((s.setKey k f).key j).refs := by
    rw [key]
    split
    · rename_i same
      rw [same]
      exact ((judge j out).2 same).2
    · exact le_rfl
  constructor
  case pool => exact h.pool
  case list =>
    simp only [states]
    exact h.list
  case once => exact h.once
  case blank =>
    intro j free
    rw [states] at free
    have apart : j ≠ k := fun here => used (here ▸ free)
    rw [key, if_neg apart]
    exact h.blank j free
  case refs =>
    intro j
    have before := h.refs j
    have change := counts j
    have now : ((s.setKey k f).key j).refs = if j = k then (f (s.key k)).refs else (s.key j).refs := by
      rw [key]
      split <;> rfl
    change _ = s.recordHolders j + s.holdHolders j + _
    by_cases here : j = k
    · subst here
      rw [if_pos rfl] at now
      rw [if_pos rfl, if_pos rfl] at change
      omega
    · rw [if_neg here] at now
      rw [if_neg here, if_neg here] at change
      omega
  case owned =>
    simp only [states, owners]
    exact h.owned
  case used =>
    intro j out live
    rw [states] at live
    exact (h.used j (judge j out).1 live).imp_right fun pos => pos.trans_le (more out)
  case active =>
    intro j out
    rw [states]
    exact h.active j (judge j out).1
  case staged =>
    intro j out
    rw [states, loads out]
    exact h.staged j (judge j out).1
  case cur =>
    simp only [states, owners]
    exact h.cur
  case next =>
    simp only [states, owners, gens]
    exact h.next
  case prev =>
    simp only [states, owners, gens]
    exact h.prev
  case hold =>
    simp only [states, owners]
    exact h.hold
  case bare => exact h.bare
  case owed =>
    simp only [states]
    exact h.owed

/-- A key slot in use written without a change of what its books show. -/
theorem Ledger.setKey {f : KeySlot → KeySlot} (h : Ledger x D E C s) (used : (s.key k).state ≠ .free)
    (same : ∀ y, (f y).state = y.state ∧ (f y).owner = y.owner ∧ (f y).gen = y.gen ∧ (f y).load = y.load ∧
      (f y).refs = y.refs := by exact fun _ => ⟨rfl, rfl, rfl, rfl, rfl⟩) : Ledger x D E C (s.setKey k f) := by
  obtain ⟨state, owner, gen, load, refs⟩ := same (s.key k)
  exact h.rekeyed used ⟨state, owner, gen⟩ (fun _ out => ⟨out, fun _ => ⟨load, refs.ge⟩⟩) fun j => by rw [refs]

/-- A reference that was due is dropped; the key slot is yet to be judged (R119). -/
theorem Ledger.untakeRef (h : Ledger x D (k :: E) [] s) : Ledger x (k :: D) E [] (s.untakeRef k) := by
  have due := h.refs k
  rw [List.count_cons_self, List.count_nil] at due
  have used : (s.key k).state ≠ .free := fun free => by
    rw [h.blank k free] at due
    exact absurd due (by simp [KeySlot.zeroised])
  refine h.rekeyed used ⟨rfl, rfl, rfl⟩ (fun j out => ?_) fun j => ?_
  · rw [List.mem_cons, not_or] at out
    exact ⟨out.2, fun here => absurd here out.1⟩
  · by_cases here : j = k
    · subst here
      rw [if_pos rfl, if_pos rfl, List.count_cons_self]
      dsimp only
      omega
    · rw [if_neg here, if_neg here, List.count_cons_of_ne (Ne.symm here)]

/-- A reference taken for a record that names the key slot already (R119). -/
theorem Ledger.takeRef (h : Ledger x D E (k :: C) s) (used : (s.key k).state ≠ .free) :
    Ledger x D E C (s.takeRef k) := by
  refine h.rekeyed used ⟨rfl, rfl, rfl⟩ (fun j out => ⟨out, fun _ => ⟨rfl, Nat.le_succ _⟩⟩) fun j => ?_
  by_cases here : j = k
  · subst here
    rw [if_pos rfl, if_pos rfl, List.count_cons_self]
    dsimp only
    omega
  · rw [if_neg here, if_neg here, List.count_cons_of_ne (Ne.symm here)]

end Entries

end Sys2Proof.Machine

end

section
/-!
SUPPORT. The entries in the books of the key slots, continued: key slots judged and zeroised, roles and holds given and
taken away.
-/

namespace Sys2Proof.Machine

-- One theorem at a time: elaborated side by side, each would hold a stack of its own.
set_option Elab.async false

section Entries

variable {x : Option (Fin 16)} {D E C : List (Fin 32)} {s t : State} {c : Fin 16} {k : Fin 32}

/-! ## Key slots judged (R118, R120) -/

/-- The holders of a key slot that has no reference. -/
theorem Ledger.unheld (h : Ledger x D E [] s) (refs : (s.key k).refs = 0) :
    s.recordHolders k = 0 ∧ s.holdHolders k = 0 ∧ E.count k = 0 := by
  have book := h.refs k
  rw [refs, List.count_nil] at book
  omega

theorem not_held {d : Fin 16} (none : s.holdHolders k = 0) : (s.chan d).hold.map (·.key) ≠ some k := fun held => by
  have absent := List.countP_eq_zero.1 none d (List.mem_finRange d)
  exact absent (decide_eq_true held)

/-- More key slots to judge. -/
theorem Ledger.mono {D' : List (Fin 32)} (h : Ledger x D E C s) (more : D ⊆ D') : Ledger x D' E C s :=
  { h with
    used := fun k out => h.used k fun mem => out (more mem)
    active := fun k out => h.active k fun mem => out (more mem)
    staged := fun k out => h.staged k fun mem => out (more mem) }

/-- A key slot that a channel names in a role needs no judgement. -/
theorem Ledger.seated {d : Fin 16} (h : Ledger x (k :: D) E C s)
    (seat : (s.chan d).cur = some k ∨ (s.chan d).next = some k ∨ (s.chan d).prev = some k) : Ledger x D E C s where
  pool := h.pool
  list := h.list
  once := h.once
  blank := h.blank
  refs := h.refs
  owned := h.owned
  used := fun j out used => by
    by_cases here : j = k
    · subst here
      exact .inl ⟨d, seat⟩
    · exact h.used j (by simp [here, out]) used
  active := fun j out active => by
    by_cases here : j = k
    · subst here
      rcases seat with cur | next | prev
      · exact ⟨d, .inl cur⟩
      · exact absurd (active.symm.trans (h.next d j next).2.1) (by decide)
      · exact ⟨d, .inr prev⟩
    · exact h.active j (by simp [here, out]) active
  staged := fun j out staged => by
    by_cases here : j = k
    · subst here
      rcases seat with cur | next | prev
      · exact absurd (staged.symm.trans (h.cur d j cur).2.1) (by decide)
      · exact .inr ⟨d, .inl next⟩
      · exact absurd (staged.symm.trans (h.prev d j prev).2.1) (by decide)
    · exact h.staged j (by simp [here, out]) staged
  cur := h.cur
  next := h.next
  prev := h.prev
  hold := h.hold
  bare := h.bare
  owed := h.owed

/-- What a zeroisation leaves of the background requests and the grant (R47). -/
theorem zeroise_owed {r : BgReq} (h : (s.zeroise k).owed r) : s.owed r ∧ r.key ≠ .slot k := by
  obtain ⟨cipher, background, -⟩ := (served_withdrawKeystream s k).engines
  have cipher' : (s.zeroise k).ks.cipher =
      s.ks.cipher.map fun g => if s.withdrawsGrant k g then { g with withdrawn := true } else g := cipher
  have background' : (s.zeroise k).ks.background = s.ks.background.filter fun r => !s.withdraws k r := background
  unfold State.owed at h ⊢
  rw [cipher', background'] at h
  have other (r : BgReq) (spared : s.withdraws k r = false) : r.key ≠ .slot k := fun own => by
    simp [State.withdraws, own] at spared
  rcases h with waits | ⟨g, granted, job, kept⟩
  · obtain ⟨waits, spared⟩ := List.mem_filter.1 waits
    exact ⟨.inl waits, other r (by simpa using spared)⟩
  · obtain ⟨g', granted', rfl⟩ := Option.map_eq_some_iff.1 granted
    by_cases withdrawn : s.withdrawsGrant k g' = true
    · rw [if_pos withdrawn] at kept
      cases kept
    · rw [if_neg withdrawn] at job kept
      refine ⟨.inr ⟨g', granted', job, kept⟩, other r ?_⟩
      unfold State.withdrawsGrant at withdrawn
      rw [job] at withdrawn
      simpa using withdrawn

theorem Ledger.unseated (h : Ledger x D E C s) (role : s.keyRole k = none) (d : Fin 16) :
    (s.chan d).cur ≠ some k ∧ (s.chan d).next ≠ some k ∧ (s.chan d).prev ≠ some k := by
  have unseated := mt h.keyRole_ne_none.2 (not_not.2 role)
  push Not at unseated
  exact unseated d

/-- What the books ask of a key slot without a role. -/
structure KeySlot.Loose (y : KeySlot) (k : Fin 32) (s : State) : Prop where
  blank : y.state = .free → y = KeySlot.zeroised
  used : y.state ≠ .free → y.owner ≠ none ∧ 0 < y.refs
  active : y.state ≠ .active
  held : ∀ d o, (s.chan d).hold = some o → o.key = k → y.owner = some d ∧ y.state = .staged

/-- A key slot without a role written, as the books ask of it. -/
theorem Ledger.replaced {y : KeySlot} {E' : List (Fin 32)} (h : Ledger x (k :: D) E C s) (role : s.keyRole k = none)
    (chan : ∀ d, t.chan d = s.chan d) (key : ∀ j, t.key j = if j = k then y else s.key j)
    (pool : PoolRel RefKept s.pool t.pool) (list : ∀ j, j ∈ t.keys.freeList ↔ (t.key j).state = .free)
    (once : t.keys.freeList.Nodup) (loose : y.Loose k s)
    (staged : k ∉ D → y.state = .staged → y.load = .part ∨ ∃ d, (s.chan d).hold.map (·.key) = some k)
    (counts : ∀ j, (if j = k then y.refs else 0) + E.count j = (if j = k then (s.key k).refs else 0) + E'.count j)
    (owed : ∀ r, t.owed r → s.owed r ∧ (r.key = .slot k → y.state ≠ .free)) : Ledger x D E' C t := by
  have seats := h.unseated role
  have own : t.key k = y := (key k).trans (if_pos rfl)
  have other {j : Fin 32} (apart : j ≠ k) : t.key j = s.key j := (key j).trans (if_neg apart)
  have out {j : Fin 32} (off : j ∉ D) (apart : j ≠ k) : j ∉ k :: D := by simp [apart, off]
  have cur {d : Fin 16} {j : Fin 32} (seat : (s.chan d).cur = some j) : t.key j = s.key j :=
    other fun here => (seats d).1 (here ▸ seat)
  constructor
  case pool => exact pool.rising h.pool
  case list => exact list
  case once => exact once
  case blank =>
    intro j free
    by_cases apart : j = k
    · rw [apart, own] at free ⊢
      exact loose.blank free
    · rw [other apart] at free ⊢
      exact h.blank j free
  case refs =>
    intro j
    have holds : t.holdHolders j = s.holdHolders j := holdHolders_of_same (fun d => by rw [chan]) j
    have before := h.refs j
    have change := counts j
    rw [recordHolders_of_kept pool, holds]
    by_cases apart : j = k
    · rw [apart] at before change ⊢
      rw [if_pos rfl, if_pos rfl] at change
      rw [own]
      omega
    · rw [if_neg apart, if_neg apart] at change
      rw [other apart]
      omega
  case owned =>
    intro j used
    by_cases apart : j = k
    · rw [apart, own] at used ⊢
      exact (loose.used used).1
    · rw [other apart] at used ⊢
      exact h.owned j used
  case used =>
    intro j off used
    by_cases apart : j = k
    · rw [apart, own] at used ⊢
      exact .inr (loose.used used).2
    · rw [other apart] at used ⊢
      simp only [chan]
      exact h.used j (out off apart) used
  case active =>
    intro j off active
    by_cases apart : j = k
    · rw [apart, own] at active
      exact absurd active loose.active
    · rw [other apart] at active
      simp only [chan]
      exact h.active j (out off apart) active
  case staged =>
    intro j off now
    simp only [chan]
    by_cases apart : j = k
    · rw [apart] at off now ⊢
      rw [own] at now ⊢
      exact (staged off now).imp_right fun ⟨d, held⟩ => ⟨d, .inr held⟩
    · rw [other apart] at now ⊢
      exact h.staged j (out off apart) now
  case cur =>
    intro d j seat
    rw [chan] at seat ⊢
    rw [cur seat]
    exact h.cur d j seat
  case next =>
    intro d j seat
    rw [chan] at seat ⊢
    rw [other fun here => (seats d).2.1 (here ▸ seat)]
    obtain ⟨owner, staged, g, seat, gen⟩ := h.next d j seat
    exact ⟨owner, staged, g, seat, by rw [cur seat]; exact gen⟩
  case prev =>
    intro d j seat
    rw [chan] at seat ⊢
    rw [other fun here => (seats d).2.2 (here ▸ seat)]
    obtain ⟨owner, active, g, seat, gen⟩ := h.prev d j seat
    exact ⟨owner, active, g, seat, by rw [cur seat]; exact gen⟩
  case hold =>
    intro d o held
    rw [chan] at held ⊢
    by_cases apart : o.key = k
    · obtain ⟨owner, staged⟩ := loose.held d o held apart
      rw [apart, own]
      exact ⟨owner, staged, fun _ => (seats d).2.1⟩
    · rw [other apart]
      exact h.hold d o held
  case bare => exact bare_of_kept pool h.bare
  case owed =>
    intro r j asked use slot
    obtain ⟨asked, apart⟩ := owed r asked
    by_cases here : j = k
    · rw [here, own]
      exact apart (here ▸ slot)
    · rw [other here]
      exact h.owed r j asked use slot

/-- A key slot without a role and a reference is zeroised (R118). -/
theorem Ledger.zeroise (h : Ledger x (k :: D) E [] s) (used : (s.key k).state ≠ .free)
    (role : s.keyRole k = none) (refs : (s.key k).refs = 0) : Ledger x D E [] (s.zeroise k) := by
  have kept := kept_zeroise s k
  have free : (s.zeroise k).keys.freeList = s.keys.freeList ++ [k] := zeroise_freeList s k
  refine h.replaced role kept.chan (zeroise_key s k) (kept.pool.imp fun _ _ same => ⟨same.1, RefKept.of_books same.2⟩)
    (fun j => ?_) ?_ ?_ nofun (fun j => ?_)
    fun r asked => ⟨(zeroise_owed asked).1, fun own => absurd own (zeroise_owed asked).2⟩
  · rw [free, List.mem_append, List.mem_singleton, h.list, zeroise_key]
    by_cases here : j = k
    · simp [here, KeySlot.zeroised]
    · simp [here]
  · rw [free]
    exact List.nodup_append.2 ⟨h.once, List.nodup_singleton k, fun i mem j last => by
      rw [List.mem_singleton.1 last]
      rintro rfl
      exact used ((h.list i).1 mem)⟩
  · refine ⟨fun _ => rfl, fun live => absurd rfl live, nofun, fun d o held here => ?_⟩
    exact absurd (by rw [held, ← here]; rfl) (not_held (d := d) (h.unheld refs).2.1)
  · rw [refs]
    rfl

/-- A key slot without a role, but with a reference, is STAGED while it is held or being installed, and else RETIRING
(R120). -/
theorem Ledger.restate (h : Ledger x (k :: D) E C s) (used : (s.key k).state ≠ .free) (role : s.keyRole k = none)
    (refs : (s.key k).refs ≠ 0) : Ledger x D E C
      (s.setKey k fun y => { y with state := if s.heldOrInstalling k then .staged else .retiring }) := by
  obtain ⟨c, owner⟩ := Option.ne_none_iff_exists'.1 (h.owned k used)
  have key := fun j => State.key_setKey s k j fun y =>
    { y with state := if s.heldOrInstalling k then .staged else .retiring }
  have live : (if s.heldOrInstalling k = true then KeyState.staged else .retiring) ≠ .free := by split <;> decide
  refine h.replaced role (fun _ => rfl) key (PoolRel.refl RefKept.refl _) (fun j => ?_) h.once ?_
    (fun _ staged => ?_) (fun j => rfl) fun r asked => ⟨asked, fun _ => live⟩
  · change j ∈ s.keys.freeList ↔ _
    rw [h.list, key]
    by_cases here : j = k
    · rw [if_pos here, here]
      exact iff_of_false used live
    · rw [if_neg here]
  · refine ⟨fun free => absurd free live, fun _ => ⟨h.owned k used, Nat.pos_of_ne_zero refs⟩, ?_, fun d o held here => ?_⟩
    · dsimp only
      split <;> decide
    · obtain ⟨own, staged, -⟩ := h.hold d o held
      rw [here] at own
      refine ⟨own, if_pos ?_⟩
      rw [heldOrInstalling_iff own, held, ← here]
      exact .inl rfl
  · dsimp only at staged
    split at staged
    · rename_i held
      exact ((heldOrInstalling_iff owner).1 held).symm.imp_right fun held => ⟨c, held⟩
    · cases staged

/-- A key slot judged (R120). -/
theorem Ledger.judgeKey (h : Ledger x (k :: D) E [] s) : Ledger x D E [] (s.judgeKey k) := by
  by_cases free : (s.key k).state = .free
  · rw [State.judgeKey_kept s k (.inl free)]
    have out {j : Fin 32} (off : j ∉ D) (live : (s.key j).state ≠ .free) : j ∉ k :: D := by
      have apart : j ≠ k := fun here => live (here ▸ free)
      simp [apart, off]
    exact { h with
      used := fun j off used => h.used j (out off used) used
      active := fun j off active => h.active j (out off (by rw [active]; decide)) active
      staged := fun j off staged => h.staged j (out off (by rw [staged]; decide)) staged }
  by_cases role : s.keyRole k = none
  · rw [judgeKey_cases free role]
    split
    · exact h.zeroise free role ‹_›
    · exact h.restate free role ‹_›
  · rw [State.judgeKey_kept s k (.inr (Option.isSome_iff_ne_none.2 role))]
    obtain ⟨d, seat⟩ := h.keyRole_ne_none.1 role
    exact h.seated seat

/-- A reference that was due is dropped, and its key slot judged (R119, R120). -/
theorem Ledger.dropRef (h : Ledger x (k :: D) (k :: E) [] s) : Ledger x D E [] (s.dropRef k) :=
  (h.untakeRef.mono fun j mem => by simpa using mem).judgeKey

theorem Ledger.dropRefOf {o : Option (Fin 32)} (h : Ledger x D (o.toList ++ E) [] s) :
    Ledger x D E [] (s.dropRefOf o) := by
  cases o with
  | none => exact h
  | some k => exact (h.mono (List.subset_cons_self k D)).dropRef

/-! ## Roles and holds taken away -/

/-- The channels whose offer hold names a key slot, after one channel's hold has changed. -/
theorem holdHolders_changed (others : OtherChannels s t c) (k : Fin 32) :
    t.holdHolders k + (if (s.chan c).hold.map (·.key) = some k then 1 else 0) =
      s.holdHolders k + if (t.chan c).hold.map (·.key) = some k then 1 else 0 := by
  have changed := countP_changed_on (fun d => decide ((s.chan d).hold.map (·.key) = some k))
    (fun d => decide ((t.chan d).hold.map (·.key) = some k)) (List.nodup_finRange 16) (List.mem_finRange c)
    fun d _ apart => by rw [others d apart]
  simpa [State.holdHolders] using changed

/-- The channel record y names no key slot that x does not, and keeps its CURRENT key while it has another. -/
structure Channel.Fewer (x y : Channel) : Prop where
  cur : y.cur = x.cur ∨ y.cur = none ∧ y.next = none ∧ y.prev = none
  next : y.next = x.next ∨ y.next = none
  prev : y.prev = x.prev ∨ y.prev = none
  hold : y.hold = x.hold ∨ y.hold = none

/-- The key slot keeps the places that the channel record x gives it. -/
def Channel.Keeps (x y : Channel) (k : Fin 32) : Prop :=
  (x.cur = some k → y.cur = some k) ∧ (x.next = some k → y.next = some k) ∧ (x.prev = some k → y.prev = some k) ∧
    (x.hold.map (·.key) = some k → y.hold.map (·.key) = some k)

/-- A channel that names fewer key slots: those it names no more are yet to be judged, and the reference of the hold it
has lost is due (R100, R132, R140). -/
theorem Ledger.lose {D' E' : List (Fin 32)} (h : Ledger x D E C s) (keys : t.keys = s.keys) (same : t.pool = s.pool)
    (owed : ∀ r, t.owed r → s.owed r) (others : OtherChannels s t c) (fewer : (s.chan c).Fewer (t.chan c))
    (judge : ∀ k, k ∉ D' → k ∉ D ∧ (s.chan c).Keeps (t.chan c) k)
    (counts : ∀ k, (if (t.chan c).hold.map (·.key) = some k then 1 else 0) + E'.count k =
      (if (s.chan c).hold.map (·.key) = some k then 1 else 0) + E.count k) : Ledger x D' E' C t := by
  have key (k : Fin 32) : t.key k = s.key k := by rw [State.key, keys, State.key]
  have each (d : Fin 16) : (s.chan d).Fewer (t.chan d) := by
    by_cases here : d = c
    · exact here ▸ fewer
    · rw [others d here]
      exact ⟨.inl rfl, .inl rfl, .inl rfl, .inl rfl⟩
  have keep {k : Fin 32} (out : k ∉ D') (d : Fin 16) : (s.chan d).Keeps (t.chan d) k := by
    by_cases here : d = c
    · exact here ▸ (judge k out).2
    · rw [others d here]
      exact ⟨id, id, id, id⟩
  have back {α : Type} {a b : Option α} {v : α} (sub : b = a ∨ b = none) (seat : b = some v) : a = some v := by
    rcases sub with kept | gone
    · exact kept ▸ seat
    · rw [gone] at seat
      cases seat
  have curs {d : Fin 16} {k : Fin 32} (seat : (t.chan d).cur = some k) : (s.chan d).cur = some k :=
    back ((each d).cur.imp_right And.left) seat
  have nexts {d : Fin 16} {k : Fin 32} := back (v := k) (each d).next
  have prevs {d : Fin 16} {k : Fin 32} := back (v := k) (each d).prev
  have anchor {d : Fin 16} {g k : Fin 32} (seat : (t.chan d).next = some k ∨ (t.chan d).prev = some k)
      (cur : (s.chan d).cur = some g) : (t.chan d).cur = some g := by
    rcases (each d).cur with kept | ⟨-, next, prev⟩
    · exact kept.trans cur
    · rw [next, prev] at seat
      rcases seat with seat | seat <;> cases seat
  constructor
  case pool =>
    unfold State.poolSound
    rw [same]
    exact h.pool
  case list =>
    simp only [keys, key]
    exact h.list
  case once =>
    rw [keys]
    exact h.once
  case blank =>
    simp only [key]
    exact h.blank
  case refs =>
    intro k
    have before := h.refs k
    have change := counts k
    have held := holdHolders_changed others k
    have records : t.recordHolders k = s.recordHolders k := by rw [State.recordHolders, same, State.recordHolders]
    rw [key, records]
    omega
  case owned =>
    simp only [key]
    exact h.owned
  case used =>
    intro k out used
    rw [key] at used ⊢
    refine (h.used k (judge k out).1 used).imp_left fun ⟨d, seat⟩ => ⟨d, ?_⟩
    obtain ⟨cur, next, prev, -⟩ := keep out d
    exact seat.imp cur (Or.imp next prev)
  case active =>
    intro k out active
    rw [key] at active
    obtain ⟨d, seat⟩ := h.active k (judge k out).1 active
    obtain ⟨cur, -, prev, -⟩ := keep out d
    exact ⟨d, seat.imp cur prev⟩
  case staged =>
    intro k out staged
    rw [key] at staged ⊢
    refine (h.staged k (judge k out).1 staged).imp_right fun ⟨d, seat⟩ => ⟨d, ?_⟩
    obtain ⟨-, next, -, hold⟩ := keep out d
    exact seat.imp next hold
  case cur =>
    intro d k seat
    obtain ⟨owner, active, apart⟩ := h.cur d k (curs seat)
    rw [key]
    exact ⟨owner, active, fun prev => apart (prevs prev)⟩
  case next =>
    intro d k seat
    obtain ⟨owner, staged, g, cur, gen⟩ := h.next d k (nexts seat)
    simp only [key]
    exact ⟨owner, staged, g, anchor (.inl seat) cur, gen⟩
  case prev =>
    intro d k seat
    obtain ⟨owner, active, g, cur, gen⟩ := h.prev d k (prevs seat)
    simp only [key]
    exact ⟨owner, active, g, anchor (.inr seat) cur, gen⟩
  case hold =>
    intro d o held
    obtain ⟨owner, staged, apart⟩ := h.hold d o (back (each d).hold held)
    simp only [key]
    exact ⟨owner, staged, fun plain next => apart plain (nexts next)⟩
  case bare =>
    rw [same]
    exact h.bare
  case owed =>
    intro r k asked use own
    rw [key]
    exact h.owed r k (owed r asked) use own

end Entries

end Sys2Proof.Machine

end

section
/-!
SUPPORT. The operations that leave the books of the key slots as they are: the port, the Control Unit, the Fault Unit, the
keystream, the merge queue and the finish of a tag; and what writes a key slot in use.
-/

namespace Sys2Proof.Machine

-- One theorem at a time: elaborated side by side, each would hold a stack of its own.
set_option Elab.async false

section Ops

variable {x : Option (Fin 16)} {D E C : List (Fin 32)} {s t : State} {c : Fin 16} {k : Fin 32}

/-! ## The port, the Control Unit and the Fault Unit -/

theorem Ledger.bump (h : Ledger x D E C s) : Ledger x D E C s.bump := h.beside

theorem Ledger.setCtl {f : ControlUnit → ControlUnit} (h : Ledger x D E C s) : Ledger x D E C (s.setCtl f) := h.beside

theorem Ledger.answer {a : Transaction} {ok : Bool} (h : Ledger x D E C s) : Ledger x D E C (s.answer a ok) := h.beside

theorem Ledger.respond {r : UpResponse} (h : Ledger x D E C s) : Ledger x D E C (s.respond r) := h.beside

theorem Ledger.askSlot {op : InjOp} {u : Fin 5} {r : SlotRec} {off : Nat} {a : Access} (h : Ledger x D E C s) :
    Ledger x D E C (s.askSlot op u r off a) := h.beside

theorem Ledger.askPage {op : InjOp} {off : Nat} {a : Access} (h : Ledger x D E C s) :
    Ledger x D E C (s.askPage op off a) := h.beside

theorem Ledger.freeInj {id : Nat} (h : Ledger x D E C s) : Ledger x D E C (s.freeInj id) := h.beside

theorem Ledger.freeTransit {id : Nat} (h : Ledger x D E C s) : Ledger x D E C (s.freeTransit id) := h.beside

theorem Ledger.setEntry {id : Nat} {f : TransitEntry → TransitEntry} (h : Ledger x D E C s) :
    Ledger x D E C (s.setEntry id f) := h.beside

theorem Ledger.enter {e : TransitEntry} (h : Ledger x D E C s) : Ledger x D E C (s.enter e) := h.beside

theorem Ledger.setProto {l : List ProtoEntry} (h : Ledger x D E C s) : Ledger x D E C (s.setProto l) := h.beside

theorem Ledger.putFault {i : Fin 32} {e : Option FaultEntry} (h : Ledger x D E C s) : Ledger x D E C (s.putFault i e) :=
  h.beside

/-- A change of the Control Unit and the requests of the step alone. -/
theorem Ledger.told (h : Ledger x D E C s)
    (only : ∃ ctl asked, t = { s with ctl := ctl, bus := { s.bus with injAsked := asked } }) : Ledger x D E C t := by
  obtain ⟨_, _, rfl⟩ := only
  exact h.beside

theorem Ledger.handReport {r : Report} (h : Ledger x D E C s) : Ledger x D E C (s.handReport r) :=
  h.told (s.handReport_only r)

theorem Ledger.loseReport (h : Ledger x D E C s) : Ledger x D E C s.loseReport := h.told s.loseReport_only

theorem Ledger.reportTurn (h : Ledger x D E C s) : Ledger x D E C s.reportTurn := h.told s.reportTurn_only

theorem rolesKept_escalated (y : Channel) : RolesKept y y.escalated := by
  unfold Channel.escalated
  split
  · exact ⟨rfl, rfl, rfl, rfl⟩
  · exact RolesKept.refl y

theorem Ledger.recordFault {o : Occurrence} (h : Ledger x D E C s) : Ledger x D E C (s.recordFault o) := by
  obtain ⟨_, _, _, _, only, chans⟩ := s.recordFault_only o
  refine h.roles (fun d => ?_) (by rw [only]) (by rw [only]) (by rw [only]; exact fun _ asked => asked)
  rcases chans d with same | guarded
  · rw [same]
    exact RolesKept.refl _
  · rw [guarded]
    exact rolesKept_escalated _

theorem Ledger.handProto {e : ProtoEntry} (h : Ledger x D E C s) : Ledger x D E C (s.handProto e) := by
  unfold State.handProto
  (repeat' split)
  · exact h.setProto
  · exact h.setProto
  · exact h.recordFault

theorem Ledger.setMeter {l : Link} {f : Meter → Meter} (h : Ledger x D E C s) : Ledger x D E C (s.setMeter l f) := by
  cases l <;> exact h.beside

theorem Ledger.debit {size : Nat} {w : Option (Fin 16)} {slot : Option Nat} {quiet : Bool} (h : Ledger x D E C s) :
    Ledger x D E C (s.debit c size w slot quiet) := by
  unfold State.debit
  dsimp only
  split
  · exact h.setMeter.recordFault
  · exact h.setMeter

theorem Ledger.foldl {α : Type} {f : State → α → State} (step : ∀ u a, Ledger x D E C u → Ledger x D E C (f u a))
    (l : List α) (h : Ledger x D E C s) : Ledger x D E C (l.foldl f s) := by
  induction l generalizing s with
  | nil => exact h
  | cons a l ih => exact ih (step s a h)

theorem Ledger.settle (h : Ledger x D E C s) : Ledger x D E C s.settle := by
  obtain ⟨_, _, _, _, _, _, only⟩ := s.settle_only
  rw [only]
  exact h.beside

theorem Ledger.complete {status channel : Byte} (h : Ledger x D E C s) : Ledger x D E C (s.complete status channel) := by
  obtain ⟨_, _, _, _, _, only⟩ := s.complete_only status channel
  rw [only]
  exact h.beside

theorem Ledger.handPage {e : TransitEntry} (h : Ledger x D E C s) : Ledger x D E C (s.handPage e) :=
  h.told (handPage_only s e)

theorem Ledger.completeWrite {e : TransitEntry} (h : Ledger x D E C s) : Ledger x D E C (s.completeWrite e) :=
  h.freeTransit.respond.handPage

theorem Ledger.judgeCompletion (h : Ledger x D E C s) : Ledger x D E C s.judgeCompletion := by
  obtain ⟨_, _, only⟩ := judgeCompletion_only s
  exact h.told ⟨_, _, only⟩

theorem Ledger.handSnapshot (l : List FaultEntry) (h : Ledger x D E C s) : Ledger x D E C (State.handSnapshot l s) := by
  induction l generalizing s with
  | nil => exact h.complete
  | cons e l ih =>
    unfold State.handSnapshot
    split
    · exact ih h.handReport
    · exact h.setCtl

theorem Ledger.followLost (h : Ledger x D E C s) : Ledger x D E C s.followLost := by
  unfold State.followLost
  split
  · exact h
  · exact h.setCtl.askPage

/-! ## The keystream, the merge queue and the finish -/

theorem Ledger.clearValid {m : Nat} (h : Ledger x D E C s) : Ledger x D E C (s.clearValid m) :=
  h.served (served_clearValid s m)

theorem Ledger.dropMerges {m : Nat} (h : Ledger x D E C s) : Ledger x D E C (s.dropMerges m) := h.beside

theorem Ledger.askMul {r : MulReq} (h : Ledger x D E C s) : Ledger x D E C (s.askMul r) := h.beside

/-- A background request that asks for no hash subkey, or for that of a key slot in use. -/
theorem Ledger.askCipher {r : BgReq} (h : Ledger x D E C s)
    (fits : r.use = .hashSubkey → ∀ k, r.key = .slot k → (s.key k).state ≠ .free) : Ledger x D E C (s.askCipher r) :=
  { h with
    owed := fun q k asked use own => by
      rcases asked with waits | granted
      · rcases List.mem_append.1 waits with before | now
        · exact h.owed q k (.inl before) use own
        · obtain rfl := List.mem_singleton.1 now
          exact fits use k own
      · exact h.owed q k (.inr granted) use own }

theorem Ledger.fold {m b : Nat} {blk : Block} {whole : Bool} (h : Ledger x D E C s) :
    Ledger x D E C (s.fold m b blk whole) := h.served (served_fold s m b blk whole)

theorem Ledger.lookupBeats {e : TransitEntry} {r : SlotRec} (h : Ledger x D E C s) :
    Ledger x D E C (s.lookupBeats e k r) := h.served (served_lookupBeats s e k r)

theorem Ledger.setFinish {m : Nat} {f : Finish → Finish} (h : Ledger x D E C s) : Ledger x D E C (s.setFinish m f) :=
  h.setRec

theorem Ledger.askResult {m : Nat} (h : Ledger x D E C s) : Ledger x D E C (s.askResult m) := by
  obtain ⟨_, only⟩ := askResult_only s m
  rw [only]
  exact h.beside

theorem Ledger.beginDirect {m : Nat} (h : Ledger x D E C s) : Ledger x D E C (s.beginDirect m) := by
  unfold State.beginDirect
  (repeat' split)
  · exact h
  · exact h.setFinish.askMul.askCipher nofun
  · exact h

theorem Ledger.beginSweep {m : Nat} (h : Ledger x D E C s) : Ledger x D E C (s.beginSweep m) := by
  unfold State.beginSweep
  split
  · exact h
  · split
    · dsimp only
      split
      · exact (Ledger.foldl (fun _ _ hu => hu.askSlot) _ h.setRec.setFinish).beginDirect
      · exact Ledger.foldl (fun _ _ hu => hu.askSlot) _ h.setRec.setFinish
    · exact h

theorem Ledger.beginTail {m : Nat} (h : Ledger x D E C s) : Ledger x D E C (s.beginTail m) := by
  unfold State.beginTail
  (repeat' split)
  · exact h
  · exact h.setFinish.askSlot
  · exact h

theorem Ledger.beginFinish {m : Nat} (h : Ledger x D E C s) : Ledger x D E C (s.beginFinish m) := by
  unfold State.beginFinish
  (repeat' split)
  · exact h
  · exact h
  · exact h.beginDirect
  · exact h.beginTail
  · exact h.beginSweep

/-! ## Key slots in use -/

/-- A key slot that a slot record names is in use (R119). -/
theorem Ledger.used_of_record {m : Nat} {r : SlotRec} (h : Ledger x D E [] s) (found : s.slotRec m = some r)
    (own : r.keySlot = some k) : (s.key k).state ≠ .free := by
  intro free
  have book := h.refs k
  have named : s.recordHolders k ≠ 0 := fun gone =>
    List.countP_eq_zero.1 gone (m, r) (mem_of_slotRec found) (decide_eq_true own)
  rw [h.blank k free, List.count_nil] at book
  exact named (by simp [KeySlot.zeroised] at book; omega)

/-- A key slot that a channel names in a role is in use (R115). -/
theorem Ledger.used_of_seat (h : Ledger x D E C s)
    (seat : (s.chan c).cur = some k ∨ (s.chan c).next = some k ∨ (s.chan c).prev = some k) :
    (s.key k).state ≠ .free := by
  rcases seat with cur | next | prev
  · rw [(h.cur c k cur).2.1]; decide
  · rw [(h.next c k next).2.1]; decide
  · rw [(h.prev c k prev).2.1]; decide

theorem Ledger.used_of_role (h : Ledger x D E C s) (role : s.keyRole k ≠ none) : (s.key k).state ≠ .free := by
  obtain ⟨c, seat⟩ := h.keyRole_ne_none.1 role
  exact h.used_of_seat seat

theorem Ledger.spentCurrent (h : Ledger x D E C s) : Ledger x D E C (s.spentCurrent k) := by
  unfold State.spentCurrent
  split
  · exact h.handProto.recordFault
  · exact h

theorem Ledger.judgeSpent (h : Ledger x D E C s) (used : (s.key k).state ≠ .free) : Ledger x D E C (s.judgeSpent k) := by
  unfold State.judgeSpent
  (repeat' split)
  · exact (h.setKey used).spentCurrent
  · exact h.setKey used
  · exact h

theorem Ledger.judgeSoft (h : Ledger x D E C s) : Ledger x D E C (s.judgeSoft k) := by
  unfold State.judgeSoft
  split
  next role =>
    split
    · exact (h.setKey (h.used_of_role (by rw [role.1]; exact Option.some_ne_none _))).handProto
    · exact h
  next => exact h

theorem Ledger.judgeMarks (h : Ledger x D E C s) (used : (s.key k).state ≠ .free) : Ledger x D E C (s.judgeMarks k) :=
  (h.judgeSpent used).judgeSoft

theorem Ledger.takeSequence (h : Ledger x D E C s) (used : (s.key k).state ≠ .free) :
    Ledger x D E C (s.takeSequence k) := h.setKey used

/-- A key slot stays in use when one is written without a change of its state. -/
theorem used_setKey {f : KeySlot → KeySlot} {j : Fin 32} (used : (s.key j).state ≠ .free)
    (state : ∀ y, (f y).state = y.state := by exact fun _ => rfl) : ((s.setKey k f).key j).state ≠ .free := by
  rw [State.key_setKey]
  split
  · rename_i here
    rw [state, ← here]
    exact used
  · exact used

theorem Ledger.addBytes {size : Nat} (h : Ledger x D E C s) (used : (s.key k).state ≠ .free) :
    Ledger x D E C (s.addBytes k size) :=
  (h.setKey used).judgeMarks (used_setKey used)

end Ops

end Sys2Proof.Machine

end

section
/-!
SUPPORT. The books of the key slots through the openings, failures and releases of slot records, and through the Outbound
Frame Unit.
-/

namespace Sys2Proof.Machine

-- One theorem at a time: elaborated side by side, each would hold a stack of its own.
set_option Elab.async false

section Ops

variable {x : Option (Fin 16)} {D E : List (Fin 32)} {s t : State} {c : Fin 16} {k : Fin 32} {m : Nat} {r : SlotRec}

/-! ## Slot records that fail, are rejected, or come back to FREE -/

/-- A slot record in a state that does not end it keeps its key slot. -/
theorem Ledger.setLive {C : List (Fin 32)} {f : SlotRec → SlotRec} (h : Ledger x D E C s)
    (same : ∀ r, (f r).keySlot = r.keySlot := by exact fun _ => rfl)
    (live : ∀ r, ¬ (f r).Bare := by exact fun _ => by simp [SlotRec.Bare]) : Ledger x D E C (s.setRec m f) :=
  h.setRec fun r _ => ⟨same r, fun bare => absurd bare (live r)⟩

/-- A slot record that comes to an end, and no longer names the key slot whose reference it gives up. -/
theorem Ledger.endRec {f : SlotRec → SlotRec} (h : Ledger x D E [] s) (gone : ∀ r, (f r).keySlot = none) :
    Ledger x D (((s.slotRec m).bind (·.keySlot)).toList ++ E) [] (s.setRec m f) := by
  cases found : s.slotRec m with
  | none => exact h.setRec fun r here => absurd (found.symm.trans here) nofun
  | some r => exact h.unname found (gone r)

theorem Ledger.failRec {why : Reason} (h : Ledger x D E [] s) :
    Ledger x D (((s.slotRec m).bind (·.keySlot)).toList ++ E) [] (s.failRec m why) :=
  (h.endRec fun _ => rfl).dropMerges.askResult

theorem Ledger.rejectRec {why : Reason} (h : Ledger x D E [] s) :
    Ledger x D (((s.slotRec m).bind (·.keySlot)).toList ++ E) [] (s.rejectRec m why) :=
  (h.endRec fun _ => rfl).askResult

theorem Ledger.failOutbound {why : Reason} (h : Ledger x D E [] s) : Ledger x D E [] (s.failOutbound m why) :=
  h.failRec.dropRefOf

theorem Ledger.releaseRec (h : Ledger x D E [] s) : Ledger x D E [] (s.releaseRec m) :=
  Ledger.dropRefOf (h.endRec fun _ => rfl)

theorem Ledger.slotFaultOf {cls : Option FaultClass} (h : Ledger x D E [] s) : Ledger x D E [] (s.slotFaultOf cls r) := by
  cases cls with
  | none => exact h
  | some cls => exact h.recordFault

theorem Ledger.reject {why : Reason} {cls : Option FaultClass} (h : Ledger x D E [] s) :
    Ledger x D E [] (s.reject m why cls) := by
  unfold State.reject
  split
  · exact h
  · rename_i r found
    have ended := h.rejectRec (m := m) (why := why)
    rw [found] at ended
    exact ended.dropRefOf.slotFaultOf

/-! ## Openings and arrivals -/

/-- A key slot of a channel's roles taken by a record that named none (R53, R76, R166). -/
theorem Ledger.take {f : SlotRec → SlotRec} (h : Ledger x D E [] s) (found : s.slotRec m = some r)
    (empty : r.keySlot = none) (now : (f r).keySlot = some k) (filled : ¬ (f r).Bare) :
    Ledger x D E [k] (s.setRec m f) := h.name found empty now filled

theorem Ledger.keyless (h : Ledger x D E [] s) (found : s.slotRec m = some r) (bare : r.Bare) : r.keySlot = none :=
  h.bare (m, r) (mem_of_slotRec found) bare

theorem Ledger.admitFrame (h : Ledger x D E [] s) (found : s.slotRec m = some r) (free : r.state = .free)
    (cur : (s.chan c).cur = some k) : Ledger x D E [] (s.admitFrame m c k) := by
  have used := h.used_of_seat (.inl cur)
  have opened : Ledger x D E [k] (s.setRec m fun r => r.opened c k (s.key k) s.stamp) :=
    h.take found (h.keyless found (.inl free)) rfl (by simp [SlotRec.Bare, SlotRec.opened])
  exact ((opened.bump.takeRef used).takeSequence (used_setKey used)).judgeMarks (used_setKey (used_setKey used))

theorem Ledger.failAdmission {why : Reason} {i : Fin 16} (h : Ledger x D E [] s) (found : s.slotRec m = some r)
    (free : r.state = .free) : Ledger x D E [] (s.failAdmission m c why i) := by
  have failed : Ledger x D E [] (s.setRec m fun r => { r with state := .failed, channel := some c, reason := why }) :=
    h.setRec fun y here => ⟨rfl, fun _ => .inl (Option.some.inj (here.symm.trans found) ▸ free)⟩
  unfold State.failAdmission
  dsimp only
  split
  · exact failed.askResult.recordFault
  · exact failed.askResult

theorem Ledger.openOutbound {i : Fin 16} (h : Ledger x D E [] s) (found : s.slotRec m = some r)
    (free : r.state = .free) : Ledger x D E [] (s.openOutbound m i) := by
  unfold State.openOutbound
  split
  · exact h
  · split
    · rename_i admitted
      exact h.admitFrame found free (admission_ok admitted)
    · exact h.failAdmission found free

theorem Ledger.takeClose (h : Ledger x D E [] s) : Ledger x D E [] (s.takeClose m) := by
  unfold State.takeClose
  dsimp only
  (repeat' split)
  · exact h
  · exact h.failOutbound
  · exact h.failOutbound
  · exact h.setLive

theorem Ledger.outboundRequest {v : Option Byte} {payload : Bool} (h : Ledger x D E [] s) :
    Ledger x D E [] (s.outboundRequest m v payload) := by
  unfold State.outboundRequest
  split
  · split
    · exact h.takeClose
    · exact h
  · split
    · exact h.releaseRec
    · exact h
  · split
    · exact h.releaseRec
    · exact h
  · exact h

theorem Ledger.mirrorEntry {id off : Nat} (h : Ledger x D E [] s) : Ledger x D E [] (s.mirrorEntry id m off) := by
  unfold State.mirrorEntry
  split
  · exact h
  · exact h.setEntry

theorem Ledger.noteRetouch {off : Nat} {bytes : List (Option Byte)} (h : Ledger x D E [] s) :
    Ledger x D E [] (s.noteRetouch m bytes off) := by
  unfold State.noteRetouch
  split
  · refine h.setRec fun r _ => ?_
    split
    · exact ⟨rfl, id⟩
    · exact RefKept.refl r
  · exact h

theorem Ledger.writeOutbound {a : Transaction} {p : Place} {bytes : List (Option Byte)} (h : Ledger x D E [] s) :
    Ledger x D E [] (s.writeOutbound a p m bytes) := by
  have captured : Ledger x D E [] (s.setRec m fun r => r.capture bytes p.off) := h.setRec
  unfold State.writeOutbound
  dsimp only
  split
  · exact captured
  · split
    · exact captured.answer
    · refine (Ledger.outboundRequest ?_).noteRetouch.mirrorEntry
      split
      · split
        · exact captured.enter.lookupBeats
        · exact captured.enter
      · exact captured.enter

theorem Ledger.disturb (h : Ledger x D E [] s) : Ledger x D E [] (s.disturb m) := h.setRec

theorem Ledger.dropOutbound {a : Transaction} {p : Place} {bytes : List (Option Byte)} (h : Ledger x D E [] s) :
    Ledger x D E [] (s.dropOutbound a p m bytes r) := (h.setRec).answer.recordFault

theorem Ledger.outboundWrite {a : Transaction} {p : Place} {bytes : List (Option Byte)} (h : Ledger x D E [] s) :
    Ledger x D E [] (s.outboundWrite a p m bytes) := by
  unfold State.outboundWrite
  dsimp only
  split
  · exact h
  rename_i r found
  split
  · exact h.answer
  split
  · rename_i free
    split
    · exact (h.openOutbound found free).writeOutbound
    · exact h.writeOutbound
  · split
    · exact h.disturb.dropOutbound
    · exact h.writeOutbound
  · split
    · exact h.dropOutbound
    · exact h.writeOutbound
  · exact h.writeOutbound

theorem Ledger.forwardRead {a : Transaction} {p : Place} {beats : Nat} {treat : Nat → Treat}
    (h : Ledger x D E [] s) : Ledger x D E [] (s.forwardRead a p beats r treat) := by
  unfold State.forwardRead
  dsimp only
  split
  · exact h.enter.lookupBeats
  · exact h.enter

theorem Ledger.outboundLine {a : Transaction} {p : Place} (h : Ledger x D E [] s) :
    Ledger x D E [] (s.outboundLine a p m) := by
  unfold State.outboundLine
  dsimp only
  (repeat' split)
  · exact h.answer.recordFault
  · exact h.answer.recordFault.failOutbound.recordFault
  · exact h.answer.recordFault.disturb.recordFault
  · exact h.answer.recordFault

theorem Ledger.outboundTag {tag : Block} (h : Ledger x D E [] s) : Ledger x D E [] (s.outboundTag m tag) := by
  unfold State.outboundTag
  (repeat' split)
  · exact h
  · exact h.failOutbound
  · exact h.setRec.setFinish.askSlot
  · exact h

theorem Ledger.payFrame {len : Nat} {quiet : Bool} (h : Ledger x D E [] s)
    (used : ∀ k, r.keySlot = some k → (s.key k).state ≠ .free) : Ledger x D E [] (s.payFrame r len quiet) := by
  unfold State.payFrame
  dsimp only
  split
  · refine Ledger.debit ?_
    split
    · rename_i k own
      exact h.addBytes (used k own)
    · exact h
  · split
    · rename_i k own
      exact h.addBytes (used k own)
    · exact h

theorem Ledger.frameLanded (h : Ledger x D E [] s) : Ledger x D E [] (s.frameLanded m) := by
  unfold State.frameLanded
  dsimp only
  split
  · exact h
  rename_i r found
  have used (k : Fin 32) (own : r.keySlot = some k) := h.used_of_record found own
  split
  · have paid : Ledger x D E [] ((s.setRec m fun r => { r with
        state := .tagged, finish := none, frameAsked := false, retouched := false }).payFrame r
        ((r.finish.map (·.len)).getD 0) false) := h.setLive.payFrame used
    split
    · exact paid.askResult
    · exact paid
  · exact (h.payFrame used).failOutbound

theorem Ledger.outboundLate {e : TransitEntry} (h : Ledger x D E [] s) : Ledger x D E [] (s.outboundLate e m) := by
  unfold State.outboundLate
  split
  · exact h
  split
  · split
    · exact h.clearValid
    · split
      · exact h.clearValid
      · exact h.clearValid
      · split
        · exact h
        · split
          · exact h.setRec
          · exact h.failOutbound
    · exact h
  · exact h

end Ops

end Sys2Proof.Machine

end

section
/-!
SUPPORT. The books of the key slots through the roles and the hold of a channel: the hold, promotion and seating.
-/

namespace Sys2Proof.Machine

-- One theorem at a time: elaborated side by side, each would hold a stack of its own.
set_option Elab.async false

section Ops

variable {x : Option (Fin 16)} {D E : List (Fin 32)} {s t : State} {c : Fin 16} {k : Fin 32} {m : Nat} {r : SlotRec}

/-! ## The hold (R139, R140, R146) -/

theorem setChan_others (s : State) (c : Fin 16) (f : Channel → Channel) : OtherChannels s (s.setChan c f) c :=
  fun d apart => by rw [State.chan_setChan, if_neg apart]

theorem setChan_own (s : State) (c : Fin 16) (f : Channel → Channel) : (s.setChan c f).chan c = f (s.chan c) := by
  rw [State.chan_setChan, if_pos rfl]

theorem Ledger.unclaim {C : List (Fin 32)} (h : Ledger x D E C s) : Ledger x D E C (s.unclaim m) := h.setRec

/-- A hold cleared: its key slot is yet to be judged, and its reference is due (R140). -/
theorem Ledger.loseHold {o : Hold} (h : Ledger x D E [] s) (held : (s.chan c).hold = some o) :
    Ledger x (o.key :: D) (o.key :: E) []
      (s.setChan c fun x => { x with hold := none, loading := none, installBuf := none }) := by
  have own := setChan_own s c fun x => { x with hold := none, loading := none, installBuf := none }
  refine h.lose rfl rfl (fun _ asked => asked) (setChan_others s c _) ?_ (fun k out => ?_) fun k => ?_
  · rw [own]
    exact ⟨.inl rfl, .inl rfl, .inl rfl, .inr rfl⟩
  · obtain ⟨apart, out⟩ := not_or.1 (mt List.mem_cons.2 out)
    rw [own]
    exact ⟨out, id, id, id, fun here => absurd (Option.some.inj (by simpa [held] using here)).symm apart⟩
  · rw [own, held, List.count_cons]
    simp only [Option.map_none, Option.map_some, reduceCtorEq, if_false, Option.some.injEq, beq_iff_eq]
    omega

theorem Ledger.clearHold (h : Ledger x D E [] s) : Ledger x D E [] (s.clearHold c) := by
  unfold State.clearHold
  split
  · exact h
  · rename_i o held
    exact (h.loseHold held).unclaim.dropRef

theorem Ledger.askOffer {C : List (Fin 32)} {work : Nat} (h : Ledger x D E C s) :
    Ledger x D E C (s.askOffer c work m) := by
  unfold State.askOffer
  split
  · exact h
  · exact h.askSlot

theorem Ledger.startLoading (h : Ledger x D E [] s) : Ledger x D E [] (s.startLoading c) := by
  unfold State.startLoading
  split
  · exact h
  · exact h.setChan.bump.askOffer

theorem Ledger.displaceHold (h : Ledger x D E [] s) : Ledger x D E [] (s.displaceHold c) := by
  unfold State.displaceHold
  split
  · exact h
  · exact h.clearHold.recordFault

theorem recordFault_hold {o : Occurrence} (empty : (s.chan c).hold = none) : ((s.recordFault o).chan c).hold = none := by
  obtain ⟨_, _, _, _, -, chans⟩ := s.recordFault_only o
  rcases chans c with same | guarded
  · rw [same]
    exact empty
  · rw [guarded, (rolesKept_escalated _).2.2.2]
    exact empty

theorem displaceHold_empty (s : State) (c : Fin 16) : ((s.displaceHold c).chan c).hold = none := by
  unfold State.displaceHold
  split
  · assumption
  · rename_i o held
    refine recordFault_hold ?_
    rw [clearHold_chan held, if_pos rfl]

/-- A free key slot taken for a channel's hold, in a state where its reference is not yet the hold's (R117). -/
theorem Ledger.allocate {u : State} (h : Ledger x D E [] s) (allocated : s.allocate c = some (k, u)) :
    Ledger x (k :: D) (k :: E) [] u ∧ u.channels = s.channels ∧ (u.key k).state = .staged ∧ (u.key k).owner = some c ∧
      (∀ d, (u.chan d).next ≠ some k) := by
  unfold State.allocate at allocated
  split at allocated
  · cases allocated
  rename_i rest list
  cases allocated
  have free : (s.key k).state = .free := (h.list k).1 (by rw [list]; exact List.mem_cons_self ..)
  have blank := h.blank k free
  have once := h.once
  rw [list] at once
  obtain ⟨fresh, once⟩ := List.nodup_cons.1 once
  have role : s.keyRole k = none := by
    by_contra role
    exact h.used_of_role role free
  have unheld (d : Fin 16) (o : Hold) (held : (s.chan d).hold = some o) : o.key ≠ k := fun here =>
    absurd ((here ▸ (h.hold d o held).2.1).symm.trans free) (by decide)
  have key := fun j => State.key_setKey { s with keys := { s.keys with freeList := rest } } k j fun y =>
    { y with state := .staged, owner := some c, refs := 1, nextSeq := 1 }
  refine ⟨(h.mono (D' := k :: k :: D) fun _ mem => by simp [mem]).replaced role (fun _ => rfl) key
    (PoolRel.refl RefKept.refl _) (fun j => ?_) once ?_ (fun out => absurd (List.mem_cons_self ..) out) (fun j => ?_)
    fun r asked => ⟨asked, fun _ => nofun⟩, rfl, ?_, ?_, fun d => (h.unseated role d).2.1⟩
  · change j ∈ rest ↔ _
    rw [key]
    by_cases here : j = k
    · rw [if_pos here, here]
      exact iff_of_false fresh nofun
    · rw [if_neg here]
      refine Iff.trans ?_ (h.list j)
      rw [list]
      simp [here]
  · exact ⟨nofun, fun _ => ⟨nofun, Nat.one_pos⟩, nofun, fun d o held here => absurd here (unheld d o held)⟩
  · by_cases here : j = k
    · rw [if_pos here, if_pos here, here, List.count_cons_self, blank]
      change 1 + _ = 0 + _
      omega
    · rw [if_neg here, if_neg here, List.count_cons_of_ne (Ne.symm here)]
  · rw [key, if_pos rfl]
  · rw [key, if_pos rfl]

/-- A STAGED key slot of the channel put into its empty hold, whose reference it then is (R139). -/
theorem Ledger.fillHold {o : Hold} (h : Ledger x (o.key :: D) (o.key :: E) [] s) (empty : (s.chan c).hold = none)
    (staged : (s.key o.key).state = .staged) (owner : (s.key o.key).owner = some c)
    (unnext : (s.chan c).next ≠ some o.key) : Ledger x D E [] (s.setChan c fun x => { x with hold := some o }) := by
  have chan := fun d => State.chan_setChan s c d fun x => { x with hold := some o }
  have others := setChan_others s c fun x => { x with hold := some o }
  have own := setChan_own s c fun x => { x with hold := some o }
  have key (k : Fin 32) : (s.setChan c fun x => { x with hold := some o }).key k = s.key k := rfl
  have pool : (s.setChan c fun x => { x with hold := some o }).pool = s.pool := rfl
  have records (k : Fin 32) : (s.setChan c fun x => { x with hold := some o }).recordHolders k = s.recordHolders k := rfl
  have keys : (s.setChan c fun x => { x with hold := some o }).keys = s.keys := rfl
  have owed (r : BgReq) (asked : (s.setChan c fun x => { x with hold := some o }).owed r) : s.owed r := asked
  generalize (s.setChan c fun x => { x with hold := some o }) = t at *
  have cur (d : Fin 16) : (t.chan d).cur = (s.chan d).cur := by rw [chan]; split <;> simp [*]
  have next (d : Fin 16) : (t.chan d).next = (s.chan d).next := by rw [chan]; split <;> simp [*]
  have prev (d : Fin 16) : (t.chan d).prev = (s.chan d).prev := by rw [chan]; split <;> simp [*]
  have hold {d : Fin 16} {p : Hold} (held : (t.chan d).hold = some p) : d = c ∧ p = o ∨ (s.chan d).hold = some p := by
    rw [chan] at held
    split at held
    · exact .inl ⟨‹_›, (Option.some.inj held).symm⟩
    · exact .inr held
  have held {d : Fin 16} {k : Fin 32} (before : (s.chan d).hold.map (·.key) = some k) :
      (t.chan d).hold.map (·.key) = some k := by
    rw [others d fun here => by rw [here, empty] at before; cases before]
    exact before
  constructor
  case pool =>
    unfold State.poolSound
    rw [pool]
    exact h.pool
  case list =>
    rw [keys]
    simp only [key]
    exact h.list
  case once =>
    rw [keys]
    exact h.once
  case blank =>
    simp only [key]
    exact h.blank
  case refs =>
    intro k
    have before := h.refs k
    have change := holdHolders_changed others k
    rw [own, empty] at change
    simp only [Option.map_none, Option.map_some, reduceCtorEq, if_false, Option.some.injEq] at change
    rw [List.count_cons] at before
    simp only [beq_iff_eq] at before
    rw [key, records]
    omega
  case owned =>
    simp only [key]
    exact h.owned
  case used =>
    intro k out used
    rw [key] at used ⊢
    simp only [cur, next, prev]
    by_cases here : k = o.key
    · have before := h.refs k
      rw [here, List.count_cons_self, List.count_nil] at before
      rw [here]
      exact .inr (by omega)
    · exact h.used k (by simp [here, out]) used
  case active =>
    intro k out active
    rw [key] at active
    simp only [cur, prev]
    by_cases here : k = o.key
    · exact absurd ((here ▸ staged).symm.trans active) (by decide)
    · exact h.active k (by simp [here, out]) active
  case staged =>
    intro k out now
    rw [key] at now ⊢
    by_cases here : k = o.key
    · exact .inr ⟨c, .inr (by rw [own, here]; rfl)⟩
    · refine (h.staged k (by simp [here, out]) now).imp_right fun ⟨d, seat⟩ => ⟨d, seat.imp ?_ held⟩
      rw [next]
      exact id
  case cur =>
    simp only [key, cur, prev]
    exact h.cur
  case next =>
    simp only [key, next, cur]
    exact h.next
  case prev =>
    simp only [key, cur, prev]
    exact h.prev
  case hold =>
    intro d p held
    rw [key, next]
    rcases hold held with ⟨rfl, rfl⟩ | before
    · exact ⟨owner, staged, fun _ => unnext⟩
    · exact h.hold d p before
  case bare =>
    rw [pool]
    exact h.bare
  case owed =>
    intro r k asked use slot
    rw [key]
    exact h.owed r k (owed r asked) use slot

theorem Ledger.handOn {serial : BitVec 32} {gen : Byte} (h : Ledger x D E [] s) :
    Ledger x D E [] (s.handOn c m serial gen) := by
  have displaced := h.displaceHold (c := c)
  have empty := displaceHold_empty s c
  unfold State.handOn
  dsimp only
  split
  · exact displaced.recordFault
  · rename_i k u allocated
    obtain ⟨taken, channels, staged, owner, unnext⟩ := displaced.allocate allocated
    have claimed : Ledger x (k :: D) (k :: E) [] (u.setRec m fun r => { r with claimed := true }) := taken.setRec
    have same (d : Fin 16) : u.chan d = (s.displaceHold c).chan d := by rw [State.chan, channels, State.chan]
    have held := claimed.fillHold (c := c) (o := ⟨m, serial, gen, k⟩) ((congrArg Channel.hold (same c)).trans empty)
      staged owner (unnext c)
    split
    · exact held
    · exact held.startLoading

/-! ## Promotion (R129, R130) -/

/-- The NEXT key becomes CURRENT and the CURRENT one PREVIOUS; the PREVIOUS one is yet to be judged (R129). -/
theorem Ledger.rolesMoved (h : Ledger none D E [] s) (seat : (s.chan c).next = some k) :
    Ledger none ((s.chan c).prev.toList ++ D) E [] (s.rolesMoved c k) := by
  obtain ⟨owner, fresh, g, anchor, gen⟩ := h.next c k seat
  obtain ⟨-, live, -⟩ := h.cur c g anchor
  have apart : g ≠ k := fun here => absurd ((here ▸ live).symm.trans fresh) (by decide)
  have chan (d : Fin 16) : (s.rolesMoved c k).chan d = if d = c then (s.chan c).promoted else s.chan d := rolesMoved_chan d
  have key (j : Fin 32) : (s.rolesMoved c k).key j = if j = k then { s.key k with state := .active } else s.key j :=
    rolesMoved_key j
  have pool : (s.rolesMoved c k).pool = s.pool := rfl
  have free : (s.rolesMoved c k).keys.freeList = s.keys.freeList := rfl
  have owed (r : BgReq) (asked : (s.rolesMoved c k).owed r) : s.owed r := asked
  generalize s.rolesMoved c k = t at *
  have own : t.chan c = (s.chan c).promoted := by rw [chan, if_pos rfl]
  have others : OtherChannels s t c := fun d apart => by rw [chan, if_neg apart]
  have hold (d : Fin 16) : (t.chan d).hold = (s.chan d).hold := by rw [chan]; split <;> simp [*, Channel.promoted]
  have records (j : Fin 32) : t.recordHolders j = s.recordHolders j := by
    rw [State.recordHolders, pool, State.recordHolders]
  have holds (j : Fin 32) : t.holdHolders j = s.holdHolders j := holdHolders_of_same hold j
  have gens (j : Fin 32) : (t.key j).gen = (s.key j).gen := by rw [key]; split <;> simp [*]
  have owners (j : Fin 32) : (t.key j).owner = (s.key j).owner := by rw [key]; split <;> simp [*]
  have loads (j : Fin 32) : (t.key j).load = (s.key j).load := by rw [key]; split <;> simp [*]
  have refs (j : Fin 32) : (t.key j).refs = (s.key j).refs := by rw [key]; split <;> simp [*]
  have mine : (t.key k).state = .active := by rw [key, if_pos rfl]
  have other {j : Fin 32} (apart : j ≠ k) : t.key j = s.key j := by rw [key, if_neg apart]
  have free' (j : Fin 32) : (t.key j).state = .free ↔ (s.key j).state = .free := by
    by_cases here : j = k
    · rw [here, mine, fresh]
      exact iff_of_false nofun nofun
    · rw [other here]
  have away {d : Fin 16} {j : Fin 32} (here : d ≠ c) (owned : (s.key j).owner = some d) : j ≠ k := fun same =>
    here (Option.some.inj (owned.symm.trans (same ▸ owner)))
  have seats {d : Fin 16} {j : Fin 32} (out : (s.chan c).prev ≠ some j)
      (was : (s.chan d).cur = some j ∨ (s.chan d).next = some j ∨ (s.chan d).prev = some j) :
      (t.chan d).cur = some j ∨ (t.chan d).prev = some j ∨ d ≠ c ∧ (t.chan d).next = some j := by
    by_cases here : d = c
    · subst here
      rw [own]
      rcases was with cur | next | prev
      · exact .inr (.inl cur)
      · exact .inl next
      · exact absurd prev out
    · rw [others d here]
      exact was.imp_right fun was => was.symm.imp_right fun next => ⟨here, next⟩
  have out {j : Fin 32} (off : j ∉ (s.chan c).prev.toList ++ D) : (s.chan c).prev ≠ some j ∧ j ∉ D := by
    rw [List.mem_append, not_or] at off
    exact ⟨fun prev => off.1 (by simp [prev]), off.2⟩
  constructor
  case pool =>
    unfold State.poolSound
    rw [pool]
    exact h.pool
  case list =>
    intro j
    rw [free, free']
    exact h.list j
  case once =>
    rw [free]
    exact h.once
  case blank =>
    intro j gone
    have apart : j ≠ k := fun here => absurd ((here ▸ gone).symm.trans mine) (by decide)
    rw [other apart] at gone ⊢
    exact h.blank j gone
  case refs =>
    intro j
    rw [refs, records, holds]
    exact h.refs j
  case owned =>
    intro j
    rw [owners, ne_eq, free']
    exact h.owned j
  case used =>
    intro j off used
    rw [ne_eq, free'] at used
    rw [refs]
    refine (h.used j (out off).2 used).imp_left fun ⟨d, was⟩ => ⟨d, ?_⟩
    rcases seats (out off).1 was with cur | prev | ⟨-, next⟩
    · exact .inl cur
    · exact .inr (.inr prev)
    · exact .inr (.inl next)
  case active =>
    intro j off active
    by_cases here : j = k
    · exact ⟨c, .inl (by rw [own, here]; exact seat)⟩
    · rw [other here] at active
      obtain ⟨d, was⟩ := h.active j (out off).2 active
      refine ⟨d, ?_⟩
      rcases seats (out off).1 (was.imp_right .inr) with cur | prev | ⟨apart, -⟩
      · exact .inl cur
      · exact .inr prev
      · rw [others d apart]
        exact was
  case staged =>
    intro j off staged
    have apart : j ≠ k := fun here => absurd ((here ▸ staged).symm.trans mine) (by decide)
    rw [loads]
    rw [other apart] at staged
    refine (h.staged j (out off).2 staged).imp_right fun ⟨d, was⟩ => ⟨d, ?_⟩
    rw [hold]
    refine was.imp_left fun next => ?_
    rw [others d fun here => apart (Option.some.inj ((here ▸ next).symm.trans seat))]
    exact next
  case cur =>
    intro d j cur
    rw [owners]
    by_cases here : d = c
    · subst here
      rw [own] at cur ⊢
      obtain rfl : k = j := Option.some.inj (seat.symm.trans cur)
      exact ⟨owner, mine, fun prev => apart (Option.some.inj (anchor.symm.trans prev))⟩
    · rw [others d here] at cur ⊢
      rw [other (away here (h.cur d j cur).1)]
      exact h.cur d j cur
  case next =>
    intro d j next
    by_cases here : d = c
    · subst here
      rw [own] at next
      cases next
    · rw [others d here] at next ⊢
      simp only [owners, gens]
      rw [other (away here (h.next d j next).1)]
      exact h.next d j next
  case prev =>
    intro d j prev
    simp only [owners, gens]
    by_cases here : d = c
    · subst here
      rw [own] at prev ⊢
      obtain rfl : g = j := Option.some.inj (anchor.symm.trans prev)
      exact ⟨(h.cur d g anchor).1, by rw [other apart]; exact live, k, seat, gen nofun⟩
    · rw [others d here] at prev ⊢
      rw [other (away here (h.prev d j prev).1)]
      exact h.prev d j prev
  case hold =>
    intro d o held
    rw [hold] at held
    obtain ⟨owned, staged, unnext⟩ := h.hold d o held
    rw [owners]
    by_cases here : d = c
    · subst here
      have apart : o.key ≠ k := fun same => unnext nofun (seat.trans (congrArg some same.symm))
      rw [other apart, own]
      exact ⟨owned, staged, fun _ => nofun⟩
    · rw [other (away here owned), others d here]
      exact ⟨owned, staged, unnext⟩
  case bare =>
    rw [pool]
    exact h.bare
  case owed =>
    intro r j asked use slot
    rw [ne_eq, free']
    exact h.owed r j (owed r asked) use slot

theorem Ledger.judgeKeyOf {o : Option (Fin 32)} (h : Ledger x (o.toList ++ D) E [] s) :
    Ledger x D E [] (s.judgeKeyOf o) := by
  cases o with
  | none => exact h
  | some k => exact h.judgeKey

theorem Ledger.judgePromoted (h : Ledger x D E [] s) (used : (s.key k).state ≠ .free) :
    Ledger x D E [] (s.judgePromoted k) := by
  unfold State.judgePromoted
  split
  · exact h.spentCurrent.judgeMarks (by rw [(judging_spentCurrent s k).flags]; exact used)
  · exact h.judgeMarks used

theorem Ledger.promote (h : Ledger none D E [] s) : Ledger none D E [] (s.promote c) := by
  cases seat : (s.chan c).next with
  | none =>
    unfold State.promote
    rw [seat]
    exact h
  | some k =>
    rw [promote_eq seat]
    have judged := (h.rolesMoved seat).judgeKeyOf
    have told : Ledger none D E [] (((s.rolesMoved c k).judgeKeyOf (s.chan c).prev).promotionTold c k) :=
      judged.handReport.setProto
    refine told.judgePromoted ?_
    obtain ⟨_, _, only⟩ := promotionTold_only ((s.rolesMoved c k).judgeKeyOf (s.chan c).prev) c k
    rw [only]
    refine judged.used_of_seat (c := c) (.inl ?_)
    rw [(kept_judgeKeyOf _ _).chan, rolesMoved_chan, if_pos rfl]
    exact seat

/-! ## Seating and the end of an install (R141, R142) -/

/-- The hold's key slot has come into its role, and the hold is gone: its reference is due (R141). -/
theorem Ledger.installed {o : Hold} {y : KeySlot} (h : Ledger x D E [] s) (held : (s.chan c).hold = some o)
    (others : OtherChannels s t c) (gone : (t.chan c).hold = none) (past : (t.chan c).prev = (s.chan c).prev)
    (key : ∀ j, t.key j = if j = o.key then y else s.key j)
    (same : y.owner = (s.key o.key).owner ∧ y.refs = (s.key o.key).refs) (pool : t.pool = s.pool)
    (free : t.keys.freeList = s.keys.freeList) (owed : ∀ r, t.owed r → s.owed r)
    (seat : x = none ∧ (s.chan c).cur = none ∧ (t.chan c).cur = some o.key ∧ (t.chan c).next = (s.chan c).next ∧
        y.state = .active ∨
      x = some c ∧ (s.chan c).next = some o.key ∧ (t.chan c).cur = (s.chan c).cur ∧ (t.chan c).next = some o.key ∧
        y.state = .staged ∧ ∀ g, (s.chan c).cur = some g → y.gen = (s.key g).gen + 1) :
    Ledger none D (o.key :: E) [] t := by
  obtain ⟨owner, staged, -⟩ := h.hold c o held
  have own : t.key o.key = y := (key o.key).trans (if_pos rfl)
  have other {j : Fin 32} (apart : j ≠ o.key) : t.key j = s.key j := (key j).trans (if_neg apart)
  have inactive {j : Fin 32} (active : (s.key j).state = .active) : j ≠ o.key := fun here =>
    absurd ((here ▸ active).symm.trans staged) (by decide)
  have live : y.state ≠ .free := by
    rcases seat with ⟨-, -, -, -, state⟩ | ⟨-, -, -, -, state, -⟩ <;> rw [state] <;> decide
  have free' (j : Fin 32) : (t.key j).state = .free ↔ (s.key j).state = .free := by
    by_cases here : j = o.key
    · rw [here, own, staged]
      exact iff_of_false live nofun
    · rw [other here]
  have owners (j : Fin 32) : (t.key j).owner = (s.key j).owner := by
    by_cases here : j = o.key
    · rw [here, own, same.1]
    · rw [other here]
  have refs (j : Fin 32) : (t.key j).refs = (s.key j).refs := by
    by_cases here : j = o.key
    · rw [here, own, same.2]
    · rw [other here]
  have prev (d : Fin 16) : (t.chan d).prev = (s.chan d).prev := by
    by_cases here : d = c
    · rw [here, past]
    · rw [others d here]
  have hold {d : Fin 16} {p : Hold} (now : (t.chan d).hold = some p) : d ≠ c ∧ (s.chan d).hold = some p := by
    have apart : d ≠ c := fun here => by rw [here, gone] at now; cases now
    rw [others d apart] at now
    exact ⟨apart, now⟩
  have cur {d : Fin 16} {j : Fin 32} (apart : j ≠ o.key) : (t.chan d).cur = some j ↔ (s.chan d).cur = some j := by
    by_cases here : d = c
    · rw [here]
      rcases seat with ⟨-, empty, now, -⟩ | ⟨-, -, now, -⟩
      · rw [empty, now]
        exact iff_of_false (fun same => apart (Option.some.inj same).symm) nofun
      · rw [now]
    · rw [others d here]
  have next {d : Fin 16} {j : Fin 32} (apart : j ≠ o.key) : (t.chan d).next = some j ↔ (s.chan d).next = some j := by
    by_cases here : d = c
    · rw [here]
      rcases seat with ⟨-, -, -, now, -⟩ | ⟨-, was, -, now, -⟩
      · rw [now]
      · rw [now, was]
    · rw [others d here]
  have mine {d : Fin 16} (named : (s.key o.key).owner = some d) : d = c := Option.some.inj (named.symm.trans owner)
  have unprev (d : Fin 16) : (s.chan d).prev ≠ some o.key := fun now => inactive (h.prev d _ now).2.1 rfl
  have seated : (t.chan c).cur = some o.key ∨ (t.chan c).next = some o.key := by
    rcases seat with ⟨-, -, now, -⟩ | ⟨-, -, -, now, -⟩
    · exact .inl now
    · exact .inr now
  constructor
  case pool =>
    unfold State.poolSound
    rw [pool]
    exact h.pool
  case list =>
    intro j
    rw [free, free']
    exact h.list j
  case once =>
    rw [free]
    exact h.once
  case blank =>
    intro j blank
    have apart : j ≠ o.key := fun here => live (by rw [here, own] at blank; exact blank)
    rw [other apart] at blank ⊢
    exact h.blank j blank
  case refs =>
    intro j
    have before := h.refs j
    have change := holdHolders_changed others j
    have records : t.recordHolders j = s.recordHolders j := by rw [State.recordHolders, pool, State.recordHolders]
    rw [held, gone] at change
    simp only [Option.map_none, Option.map_some, reduceCtorEq, if_false, Option.some.injEq] at change
    rw [List.count_cons, refs, records]
    simp only [beq_iff_eq]
    omega
  case owned =>
    intro j
    rw [owners, ne_eq, free']
    exact h.owned j
  case used =>
    intro j out used
    by_cases here : j = o.key
    · rw [here]
      exact .inl ⟨c, seated.imp_right .inl⟩
    · rw [other here] at used ⊢
      simp only [cur here, next here, prev]
      exact h.used j out used
  case active =>
    intro j out active
    by_cases here : j = o.key
    · rw [here, own] at active
      rw [here]
      rcases seat with ⟨-, -, now, -⟩ | ⟨-, -, -, -, state, -⟩
      · exact ⟨c, .inl now⟩
      · exact absurd (state.symm.trans active) (by decide)
    · rw [other here] at active
      simp only [cur here, prev]
      exact h.active j out active
  case staged =>
    intro j out now
    by_cases here : j = o.key
    · rw [here, own] at now
      rw [here]
      rcases seat with ⟨-, -, -, -, state⟩ | ⟨-, -, -, seat, -⟩
      · exact absurd (state.symm.trans now) (by decide)
      · exact .inr ⟨c, .inl seat⟩
    · rw [other here] at now ⊢
      simp only [next here]
      refine (h.staged j out now).imp_right fun ⟨d, was⟩ => ⟨d, was.imp_right fun was => ?_⟩
      have apart : d ≠ c := fun same => here (by rw [same, held] at was; exact (Option.some.inj was).symm)
      rw [others d apart]
      exact was
  case cur =>
    intro d j now
    rw [owners, prev]
    by_cases here : j = o.key
    · rw [here] at now ⊢
      by_cases same : d = c
      · rw [same] at now ⊢
        refine ⟨owner, ?_, unprev c⟩
        rw [own]
        rcases seat with ⟨-, -, -, -, state⟩ | ⟨-, -, kept, -⟩
        · exact state
        · exact absurd rfl (inactive (h.cur c _ (kept ▸ now)).2.1)
      · rw [others d same] at now
        exact absurd rfl (inactive (h.cur d _ now).2.1)
    · rw [cur here] at now
      rw [other here]
      exact h.cur d j now
  case next =>
    intro d j now
    rw [owners]
    by_cases here : j = o.key
    · rw [here] at now ⊢
      by_cases same : d = c
      · rw [same] at now ⊢
        rcases seat with ⟨rfl, empty, -, kept, -⟩ | ⟨-, was, kept, -, state, gen⟩
        · obtain ⟨-, -, g, anchor, -⟩ := h.next c _ (kept ▸ now)
          rw [empty] at anchor
          cases anchor
        · obtain ⟨-, -, g, anchor, -⟩ := h.next c _ was
          rw [own, kept, anchor]
          exact ⟨owner, state, g, rfl, fun _ => by
            rw [other (inactive (h.cur c g anchor).2.1)]
            exact gen g anchor⟩
      · rw [others d same] at now
        exact absurd (mine (h.next d _ now).1) same
    · rw [next here] at now
      obtain ⟨owned, state, g, anchor, gen⟩ := h.next d j now
      have apart := inactive (h.cur d g anchor).2.1
      rw [other here]
      refine ⟨owned, state, g, (cur apart).2 anchor, fun _ => ?_⟩
      rw [other apart]
      refine gen ?_
      rcases seat with ⟨rfl, -⟩ | ⟨rfl, was, -⟩
      · exact nofun
      · intro same
        obtain rfl := Option.some.inj same
        exact here (Option.some.inj (now.symm.trans was))
  case prev =>
    intro d j now
    rw [prev] at now
    obtain ⟨owned, state, g, anchor, gen⟩ := h.prev d j now
    have apart := inactive (h.cur d g anchor).2.1
    rw [owners, other (inactive state), cur apart |>.2 anchor]
    exact ⟨owned, state, g, rfl, by rw [other apart]; exact gen⟩
  case hold =>
    intro d p now
    obtain ⟨apart, was⟩ := hold now
    obtain ⟨owned, state, unnext⟩ := h.hold d p was
    have here : p.key ≠ o.key := fun same => apart (mine (same ▸ owned))
    rw [owners, other here]
    refine ⟨owned, state, fun _ => ?_⟩
    rw [others d apart]
    refine unnext ?_
    rcases seat with ⟨rfl, -⟩ | ⟨rfl, -⟩
    · exact nofun
    · exact fun same => apart (Option.some.inj same).symm
  case bare =>
    rw [pool]
    exact h.bare
  case owed =>
    intro r j asked use slot
    rw [ne_eq, free']
    exact h.owed r j (owed r asked) use slot

/-- A channel's NEXT role given to the key slot of its hold; the old NEXT key is yet to be judged (R141). -/
theorem Ledger.seatNext {o : Hold} {g : Fin 32} (h : Ledger none D E [] s) (held : (s.chan c).hold = some o)
    (anchor : (s.chan c).cur = some g) : Ledger (some c) ((s.chan c).next.toList ++ D) E []
      (s.setChan c fun x => { x with next := some o.key }) := by
  obtain ⟨owner, staged, -⟩ := h.hold c o held
  have chan := fun d => State.chan_setChan s c d fun x => { x with next := some o.key }
  have others := setChan_others s c fun x => { x with next := some o.key }
  have own := setChan_own s c fun x => { x with next := some o.key }
  have beside : (s.setChan c fun x => { x with next := some o.key }).keys = s.keys ∧
      (s.setChan c fun x => { x with next := some o.key }).pool = s.pool := ⟨rfl, rfl⟩
  have owed (r : BgReq) (asked : (s.setChan c fun x => { x with next := some o.key }).owed r) : s.owed r := asked
  generalize (s.setChan c fun x => { x with next := some o.key }) = t at *
  obtain ⟨keys, pool⟩ := beside
  have key (j : Fin 32) : t.key j = s.key j := by rw [State.key, keys, State.key]
  have cur (d : Fin 16) : (t.chan d).cur = (s.chan d).cur := by rw [chan]; split <;> simp [*]
  have prev (d : Fin 16) : (t.chan d).prev = (s.chan d).prev := by rw [chan]; split <;> simp [*]
  have hold (d : Fin 16) : (t.chan d).hold = (s.chan d).hold := by rw [chan]; split <;> simp [*]
  have records (j : Fin 32) : t.recordHolders j = s.recordHolders j := by
    rw [State.recordHolders, pool, State.recordHolders]
  have holds (j : Fin 32) : t.holdHolders j = s.holdHolders j := holdHolders_of_same hold j
  have out {j : Fin 32} (off : j ∉ (s.chan c).next.toList ++ D) : (s.chan c).next ≠ some j ∧ j ∉ D := by
    rw [List.mem_append, not_or] at off
    exact ⟨fun next => off.1 (by simp [next]), off.2⟩
  have next {d : Fin 16} {j : Fin 32} (off : (s.chan c).next ≠ some j) (was : (s.chan d).next = some j) :
      (t.chan d).next = some j := by
    rw [others d fun here => off (here ▸ was)]
    exact was
  constructor
  case pool =>
    unfold State.poolSound
    rw [pool]
    exact h.pool
  case list =>
    simp only [keys, key]
    exact h.list
  case once =>
    rw [keys]
    exact h.once
  case blank =>
    simp only [key]
    exact h.blank
  case refs =>
    intro j
    rw [key, records, holds]
    exact h.refs j
  case owned =>
    simp only [key]
    exact h.owned
  case used =>
    intro j off used
    rw [key] at used ⊢
    refine (h.used j (out off).2 used).imp_left fun ⟨d, was⟩ => ⟨d, ?_⟩
    rw [cur, prev]
    exact was.imp_right (Or.imp_left (next (out off).1))
  case active =>
    intro j off
    simp only [key, cur, prev]
    exact h.active j (out off).2
  case staged =>
    intro j off staged
    rw [key] at staged ⊢
    refine (h.staged j (out off).2 staged).imp_right fun ⟨d, was⟩ => ⟨d, ?_⟩
    rw [hold]
    exact was.imp_left (next (out off).1)
  case cur =>
    simp only [key, cur, prev]
    exact h.cur
  case next =>
    intro d j now
    simp only [key, cur]
    by_cases here : d = c
    · rw [here] at now ⊢
      rw [own] at now
      obtain rfl : o.key = j := Option.some.inj now
      exact ⟨owner, staged, g, anchor, fun apart => absurd rfl apart⟩
    · rw [others d here] at now
      obtain ⟨owned, state, g, anchor, gen⟩ := h.next d j now
      exact ⟨owned, state, g, anchor, fun _ => gen nofun⟩
  case prev =>
    simp only [key, cur, prev]
    exact h.prev
  case hold =>
    intro d p now
    rw [hold] at now
    obtain ⟨owned, state, unnext⟩ := h.hold d p now
    rw [key]
    refine ⟨owned, state, fun apart => ?_⟩
    rw [others d fun here => apart (congrArg some here.symm)]
    exact unnext nofun
  case bare =>
    rw [pool]
    exact h.bare
  case owed =>
    intro r j asked use slot
    rw [key]
    exact h.owed r j (owed r asked) use slot

end Ops

end Sys2Proof.Machine

end

section
/-!
SUPPORT. The books of the key slots through seating, the end of an install, the timers of a channel, and teardown.
-/

namespace Sys2Proof.Machine

-- One theorem at a time: elaborated side by side, each would hold a stack of its own.
set_option Elab.async false

section Ops

variable {x : Option (Fin 16)} {D E : List (Fin 32)} {s t : State} {c : Fin 16} {k : Fin 32} {m : Nat} {r : SlotRec}

/-! ## Seating (R140, R141) -/

/-- The last steps of a seating: the hold's reference is dropped and the hash subkey asked for (R141 steps 3 and 4). -/
theorem Ledger.installAsked (h : Ledger none D (k :: E) [] s)
    (seat : (s.chan c).cur = some k ∨ (s.chan c).next = some k ∨ (s.chan c).prev = some k) :
    Ledger none D E [] (((s.unclaim m).untakeRef k).askCipher ⟨.hashSubkey, .slot k, 0⟩) := by
  have dropped : Ledger none D E [] ((s.unclaim m).untakeRef k) := h.unclaim.untakeRef.seated seat
  refine dropped.askCipher fun _ j own => ?_
  cases own
  exact dropped.used_of_seat seat

/-- A seating ends with the hold's key slot in its role, loaded with the offer (R141 steps 2 to 4). -/
theorem Ledger.seatEnd {o : Hold} {plain : List Block} {role : KeyRole} (h : Ledger x D E [] s)
    (held : (s.chan c).hold = some o) (others : OtherChannels s t c) (past : (t.chan c).prev = (s.chan c).prev)
    (key : OtherKeys s t o.key)
    (same : (t.key o.key).owner = (s.key o.key).owner ∧ (t.key o.key).refs = (s.key o.key).refs) (pool : t.pool = s.pool)
    (free : t.keys.freeList = s.keys.freeList) (owed : ∀ r, t.owed r → s.owed r)
    (seat : x = none ∧ (s.chan c).cur = none ∧ (t.chan c).cur = some o.key ∧ (t.chan c).next = (s.chan c).next ∧
        (t.key o.key).state = .active ∨
      x = some c ∧ (s.chan c).next = some o.key ∧ (t.chan c).cur = (s.chan c).cur ∧ (t.chan c).next = some o.key ∧
        (t.key o.key).state = .staged ∧ ∀ g, (s.chan c).cur = some g → offerGen plain = (s.key g).gen + 1) :
    Ledger none D E [] (t.seatEnd c o plain role) := by
  unfold State.seatEnd
  have own : ((t.setKey o.key fun y => y.installs plain o.serial role).setChan c fun y => y.installs o.key role).chan c =
      (t.chan c).installs o.key role := setChan_own _ c _
  refine Ledger.installAsked (c := c) (h.installed (y := (t.key o.key).installs plain o.serial role) held
    (fun d apart => ?_) (by rw [own]; rfl) (by rw [own]; exact past) (fun j => ?_) same pool free owed
    (by rw [own]; exact seat)) ?_
  · rw [State.chan_setChan, if_neg apart]
    exact others d apart
  · refine (State.key_setKey t o.key j fun y => y.installs plain o.serial role).trans ?_
    by_cases here : j = o.key
    · rw [if_pos here, if_pos here]
    · rw [if_neg here, if_neg here, key j here]
  · rw [own]
    rcases seat with ⟨-, -, cur, -⟩ | ⟨-, -, -, next, -⟩
    · exact .inl cur
    · exact .inr (.inl next)

/-- The old NEXT key that a seating takes out of its role, judged (R141 step 1). -/
def State.oldDropped (s : State) : Option (Fin 32) → State
  | some o => (s.judgeKey o).dropConfirmOf o
  | none => s

theorem Ledger.oldDropped {o : Option (Fin 32)} (h : Ledger x (o.toList ++ D) E [] s) :
    Ledger x D E [] (s.oldDropped o) := by
  cases o with
  | none => exact h
  | some o => exact Ledger.setProto (Ledger.judgeKey h)

theorem oldDropped_kept (s : State) (o : Option (Fin 32)) :
    (∀ d, (s.oldDropped o).chan d = s.chan d) ∧ ∀ j, o ≠ some j → (s.oldDropped o).key j = s.key j := by
  cases o with
  | none => exact ⟨fun _ => rfl, fun _ _ => rfl⟩
  | some o => exact ⟨(kept_judgeKey s o).chan, fun j apart => judgeKey_others s o j fun same => apart (congrArg some same.symm)⟩

theorem seatStart_first {o : Hold} (first : (s.chan c).cur = none) : s.seatStart c o =
    (s.setChan c fun x => { x with cur := some o.key }).setKey o.key fun x => { x with state := .active } :=
  if_pos (by rw [first]; rfl)

theorem seatStart_later {o : Hold} {g : Fin 32} (later : (s.chan c).cur = some g) : s.seatStart c o =
    (s.setChan c fun x => { x with next := some o.key }).oldDropped (s.chan c).next := by
  unfold State.seatStart
  rw [if_neg (by rw [later]; exact nofun)]
  cases (s.chan c).next <;> rfl

theorem Ledger.seat {plain : List Block} (h : Ledger none D E [] s)
    (gen : ∀ g, (s.chan c).cur = some g → offerGen plain = (s.key g).gen + 1) : Ledger none D E [] (s.seat c plain) := by
  cases held : (s.chan c).hold with
  | none =>
    unfold State.seat
    rw [held]
    exact h
  | some o =>
    obtain ⟨-, staged, unnext⟩ := h.hold c o held
    rw [seat_eq held]
    cases cur : (s.chan c).cur with
    | none =>
      rw [seatStart_first cur]
      have key := fun j => State.key_setKey (s.setChan c fun x => { x with cur := some o.key }) o.key j fun x =>
        { x with state := .active }
      have chan := fun d => State.chan_setChan s c d fun x => { x with cur := some o.key }
      have own := (chan c).trans (if_pos rfl)
      refine h.seatEnd held (fun d apart => ?_) ?_ (fun j apart => ?_) ?_ rfl rfl (fun _ asked => asked)
        (.inl ⟨rfl, cur, ?_, ?_, ?_⟩)
      · exact (chan d).trans (if_neg apart)
      · exact (congrArg Channel.prev own).trans rfl
      · exact (key j).trans (if_neg apart)
      · rw [key, if_pos rfl]
        exact ⟨rfl, rfl⟩
      · exact congrArg Channel.cur own
      · exact (congrArg Channel.next own).trans rfl
      · rw [key, if_pos rfl]
    | some g =>
      rw [seatStart_later cur]
      have moved := (h.seatNext held cur).oldDropped
      obtain ⟨chan, keys⟩ := oldDropped_kept (s.setChan c fun x => { x with next := some o.key }) (s.chan c).next
      generalize (s.setChan c fun x => { x with next := some o.key }).oldDropped (s.chan c).next = t at *
      have own : t.chan c = { s.chan c with next := some o.key } := (chan c).trans (setChan_own s c _)
      have active : (s.key g).state = .active := (h.cur c g cur).2.1
      have mine : t.key o.key = s.key o.key := keys o.key (unnext nofun)
      have anchor : t.key g = s.key g := keys g fun next =>
        absurd (active.symm.trans (h.next c g next).2.1) (by decide)
      refine moved.seatEnd (by rw [own]; exact held) (fun _ _ => rfl) rfl (fun _ _ => rfl) ⟨rfl, rfl⟩ rfl rfl
        (fun _ asked => asked) (.inr ⟨rfl, by rw [own], rfl, by rw [own], by rw [mine]; exact staged, fun i seat => ?_⟩)
      rw [own] at seat
      obtain rfl : g = i := Option.some.inj (cur.symm.trans seat)
      rw [anchor]
      exact gen g cur

theorem Ledger.endLoading {plain : List Block} (h : Ledger none D E [] s) : Ledger none D E [] (s.endLoading c plain) := by
  unfold State.endLoading
  split
  · exact h
  dsimp only
  split
  · rename_i acceptable
    exact Ledger.seat h.setChan (acceptable_iff.1 acceptable).2.2
  · exact Ledger.recordFault (Ledger.clearHold h.setChan)

/-! ## The end of an install, and the confirmation (R142, R143) -/

theorem Ledger.endInstall (h : Ledger x D E [] s) : Ledger x D E [] (s.endInstall c k) :=
  Ledger.startLoading (Ledger.handReport h.handProto.setChan)

/-- The hash subkey of a key slot in use is stored (R33, R142). -/
theorem Ledger.subkeyReturn {b : Block} (h : Ledger x D E [] s) (used : (s.key k).state ≠ .free) :
    Ledger x D E [] (s.subkeyReturn k b) := by
  have stored : Ledger x (k :: D) E [] (s.setKey k fun x => { x with subkey := b, load := .loaded }) := by
    refine h.rekeyed used ⟨rfl, rfl, rfl⟩ (fun j out => ?_) fun _ => rfl
    rw [List.mem_cons, not_or] at out
    exact ⟨out.2, fun here => absurd here out.1⟩
  unfold State.subkeyReturn
  dsimp only
  split
  · rename_i unowned
    exact absurd unowned (h.owned k used)
  split
  · rename_i current
    refine Ledger.endInstall ?_
    unfold State.installCurrent at current
    split at current
    · obtain ⟨d, seat⟩ := h.keyRole_ne_none.1 (by
        rw [of_decide_eq_true (Bool.and_eq_true_iff.1 current).2]
        exact Option.some_ne_none _)
      exact stored.seated seat
    · cases current
  · exact stored.judgeKey

theorem Ledger.confirmTagged (h : Ledger x D E [] s) : Ledger x D E [] (s.confirmTagged c k) := by
  rcases s.confirmTagged_cases c k with same | ⟨-, -, -, same⟩ | ⟨-, -, -, same⟩ <;> rw [same]
  · exact h
  · exact h.setChan
  · exact h.setChan

end Ops

end Sys2Proof.Machine

end

section
/-!
SUPPORT. The books of the key slots through the Inbound Frame Unit: arrival, the check, the verdicts and the rulings.
-/

namespace Sys2Proof.Machine

-- One theorem at a time: elaborated side by side, each would hold a stack of its own.
set_option Elab.async false

section Ops

variable {D E : List (Fin 32)} {s t : State} {c : Fin 16} {k : Fin 32} {m : Nat} {r : SlotRec}

/-! ## The verdicts (R84 to R89) -/

theorem Ledger.raiseRejects (h : Ledger none D E [] s) : Ledger none D E [] (s.raiseRejects c r) := by
  unfold State.raiseRejects
  dsimp only
  split
  · exact h.setChan.recordFault
  · exact h.setChan

theorem Ledger.rejectTag (h : Ledger none D E [] s) : Ledger none D E [] (s.rejectTag m) := by
  unfold State.rejectTag
  dsimp only
  (repeat' split)
  · exact h
  · exact h.reject.raiseRejects
  · exact h.reject

theorem Ledger.passRec (h : Ledger none D E [] s) : Ledger none D E [] (s.passRec m) := by
  unfold State.passRec
  dsimp only
  split
  · exact h.setLive.askResult.setChan
  · exact h.setLive.askResult

theorem Ledger.passData (h : Ledger none D E [] s) : Ledger none D E [] (s.passData m) := by
  unfold State.passData
  dsimp only
  (repeat' split)
  · exact h.passRec
  · exact h.passRec.promote
  · exact h.passRec
  · exact h.passRec

theorem Ledger.passOffer {what : OfferPass} (h : Ledger none D E [] s) :
    Ledger none D E [] (s.passOffer m c what) := by
  cases what with
  | fresh serial gen => exact h.passRec.handOn
  | repeated k => exact h.passRec.handProto

/-- The replay window of a key slot written, which is in use (R85). -/
theorem Ledger.slideWindow {window : KeySlot} {seq : Nat} (h : Ledger none D E [] s) (used : (s.key k).state ≠ .free)
    (passed : (s.key k).replayDecision seq = some window) : Ledger none D E [] (s.setKey k fun _ => window) := by
  have same : window.state = (s.key k).state ∧ window.owner = (s.key k).owner ∧ window.gen = (s.key k).gen ∧
      window.load = (s.key k).load ∧ window.refs = (s.key k).refs := by
    unfold KeySlot.replayDecision at passed
    (repeat' split at passed) <;> cases passed <;> exact ⟨rfl, rfl, rfl, rfl, rfl⟩
  obtain ⟨state, owner, gen, load, refs⟩ := same
  exact h.rekeyed used ⟨state, owner, gen⟩ (fun _ out => ⟨out, fun _ => ⟨load, refs.ge⟩⟩) fun j => by rw [refs]

theorem Ledger.decideData (h : Ledger none D E [] s) (found : s.slotRec m = some r) :
    Ledger none D E [] (s.decideData m r) := by
  unfold State.decideData
  split
  · rename_i own
    have used := h.used_of_record found own
    split
    · exact h.reject
    · rename_i passed
      dsimp only
      split
      · exact (h.slideWindow used passed).passData
      · exact (h.slideWindow used passed).reject
      · exact (h.slideWindow used passed).reject
  · exact h

theorem Ledger.tryCompare (h : Ledger none D E [] s) : Ledger none D E [] (s.tryCompare m) := by
  unfold State.tryCompare
  split
  · exact h
  rename_i r found
  (repeat' split)
  · exact h.reject
  · exact h.rejectTag
  · exact h.setChan
  · exact h
  · exact h.decideData found
  · exact h

theorem Ledger.note {why : Reason} (h : Ledger none D E [] s) : Ledger none D E [] (s.note m why) := h.setRec

theorem Ledger.inboundTag {tag : Block} (h : Ledger none D E [] s) : Ledger none D E [] (s.inboundTag m tag) :=
  h.setFinish.tryCompare

/-! ## The rulings (R135 to R138) -/

theorem Ledger.endRuling (h : Ledger none D E [] s) : Ledger none D E [] (s.endRuling c) := h.setChan

theorem Ledger.rulingReject {why : Reason} {cls : FaultClass} (h : Ledger none D E [] s) :
    Ledger none D E [] (s.rulingReject c m why cls) := h.endRuling.recordFault.reject

theorem Ledger.rulingPass {what : OfferPass} (h : Ledger none D E [] s) :
    Ledger none D E [] (s.rulingPass c m what) := by
  unfold State.rulingPass
  dsimp only
  (repeat' split)
  · exact h.endRuling.reject
  · exact h.endRuling.reject
  · exact h.endRuling.passOffer
  · exact h.endRuling.passOffer

theorem Ledger.raiseHighMark {serial : Nat} (h : Ledger none D E [] s) :
    Ledger none D E [] (s.raiseHighMark c serial) := h.setChan

theorem Ledger.startRuling (h : Ledger none D E [] s) : Ledger none D E [] (s.startRuling c m) := by
  unfold State.startRuling
  dsimp only
  (repeat' split)
  · exact h.endRuling
  · exact h.rulingReject
  · exact h.setChan.bump.askOffer
  · exact h.rulingReject
  · exact h.raiseHighMark.rulingReject

theorem Ledger.settleRuling {plain : List Block} (h : Ledger none D E [] s) :
    Ledger none D E [] (s.settleRuling c m plain) := by
  unfold State.settleRuling
  dsimp only
  (repeat' split)
  · exact h.endRuling
  · exact h.raiseHighMark.rulingPass
  · exact h.raiseHighMark.rulingReject
  · exact h.rulingPass
  · exact h.rulingReject

theorem Ledger.failRuling {why : Reason} (h : Ledger none D E [] s) : Ledger none D E [] (s.failRuling c m why) :=
  h.endRuling.reject

/-! ## Arrival (R74 to R78) -/

/-- A key slot that a channel's generation finds is in use (R76). -/
theorem Ledger.used_of_gen {g : Byte} (h : Ledger none D E [] s) (found : s.keyOfGen c g = some k) :
    (s.key k).state ≠ .free := by
  have seat {role : Option (Fin 32)} (own : s.withGen role g = some k) : role = some k :=
    (Option.filter_eq_some_iff.1 own).1
  rw [keyOfGen_eq] at found
  rcases Option.or_eq_some_iff.1 found with early | ⟨-, prev⟩
  · rcases Option.or_eq_some_iff.1 early with cur | ⟨-, next⟩
    · exact h.used_of_seat (.inl (seat cur))
    · exact h.used_of_seat (.inr (.inl (seat next)))
  · exact h.used_of_seat (.inr (.inr (seat prev)))

theorem Ledger.chooseKey (h : Ledger none D E [] s) (found : s.slotRec m = some r) (empty : r.keySlot = none)
    (parsed : ¬ r.Bare) : Ledger none D E [] (s.chooseKey m r) := by
  unfold State.chooseKey
  dsimp only
  (repeat' split)
  · exact h.setRec
  · refine h.setRec fun y here => ?_
    rw [found] at here
    cases here
    exact ⟨empty.symm, id⟩
  · exact h.setRec
  · exact h.setRec
  · rename_i gen
    exact (h.take found empty rfl parsed).takeRef (h.used_of_gen gen)

theorem Ledger.parseHeader {off : Nat} {bytes : List (Option Byte)} (h : Ledger none D E [] s)
    (found : s.slotRec m = some r) (empty : r.keySlot = none) (arriving : r.state = .arriving) :
    Ledger none D E [] (s.parseHeader m bytes off) := by
  have parsed : Ledger none D E [] (s.setRec m fun r => r.parsed bytes off (headerSound bytes off s.shop)) := by
    refine h.setRec fun y here => ?_
    rw [found] at here
    cases here
    exact ⟨rfl, fun bare => by simp [SlotRec.Bare, SlotRec.parsed, arriving] at bare⟩
  unfold State.parseHeader
  dsimp only
  rw [setRec_self _ found]
  dsimp only
  split
  · exact parsed.chooseKey (setRec_self _ found) empty (by simp [SlotRec.Bare, SlotRec.parsed, arriving])
  · exact parsed

theorem Ledger.arriveHeader {off : Nat} {bytes : List (Option Byte)} (h : Ledger none D E [] s)
    (found : s.slotRec m = some r) (arriving : r.state = .arriving) :
    Ledger none D E [] (s.arriveHeader m bytes off) := by
  unfold State.arriveHeader
  rw [found]
  dsimp only
  split
  · split
    · exact h.setRec
    · exact h
  · rename_i unseen
    split
    · exact h.parseHeader found (h.keyless found (.inr (.inr (.inr ⟨arriving, by simpa using unseen⟩)))) arriving
    · exact h

theorem Ledger.arriveBlock {off b : Nat} {bytes : List (Option Byte)} (h : Ledger none D E [] s) :
    Ledger none D E [] (s.arriveBlock m bytes off b) := by
  unfold State.arriveBlock
  dsimp only
  (repeat' split)
  · exact h
  · exact h.clearValid
  · exact h
  · exact h
  · exact h.fold
  · exact h
  · exact h.clearValid

theorem Ledger.arriveWrite {a : Transaction} {p : Place} {bytes : List (Option Byte)} (h : Ledger none D E [] s)
    (found : s.slotRec m = some r) (arriving : r.state = .arriving) : Ledger none D E [] (s.arriveWrite a p m bytes) :=
  (Ledger.foldl (fun _ _ hu => hu.arriveBlock) _ (h.arriveHeader found arriving)).enter

theorem Ledger.inboundLine {a : Transaction} {p : Place} {bytes : List (Option Byte)} (h : Ledger none D E [] s) :
    Ledger none D E [] (s.inboundLine a p m bytes) := by
  unfold State.inboundLine
  split
  · exact h
  rename_i r found
  split
  · rename_i free
    have arrived : Ledger none D E [] (s.setRec m fun r => r.arrive s.stamp) := by
      refine h.setRec fun y here => ?_
      rw [found] at here
      cases here
      exact ⟨rfl, fun _ => .inl free⟩
    exact arrived.bump.arriveWrite (r := r.arrive s.stamp) (setRec_self (fun r => r.arrive s.stamp) found) rfl
  · exact h.arriveWrite found ‹_›
  · exact h.answer.note.recordFault
  · exact h.answer.recordFault

/-! ## The clear side (R80, R81, R90, R93, R94) -/

theorem Ledger.takeCheck (h : Ledger none D E [] s) : Ledger none D E [] (s.takeCheck m) := by
  unfold State.takeCheck
  (repeat' split)
  · exact h
  · exact h.reject
  · exact h.setLive.askSlot

theorem Ledger.inboundRequest {v : Option Byte} (h : Ledger none D E [] s) :
    Ledger none D E [] (s.inboundRequest m v) := by
  unfold State.inboundRequest
  (repeat' split)
  · exact h.takeCheck
  · exact h
  · exact h.releaseRec
  · exact h
  · exact h.releaseRec
  · exact h
  · exact h
  · exact h

theorem Ledger.inboundHeader {a : Transaction} {p : Place} {bytes : List (Option Byte)} (h : Ledger none D E [] s) :
    Ledger none D E [] (s.inboundHeader a p m bytes) := by
  unfold State.inboundHeader
  dsimp only
  split
  · exact h.answer
  · exact h.enter.inboundRequest.mirrorEntry

theorem Ledger.inboundPayload {a : Transaction} {p : Place} (h : Ledger none D E [] s) :
    Ledger none D E [] (s.inboundPayload a p m) := by
  unfold State.inboundPayload
  dsimp only
  (repeat' split)
  · exact h.answer.recordFault
  · exact h.answer.recordFault.reject.recordFault
  · exact h.answer.recordFault

theorem Ledger.inboundRead {a : Transaction} {p : Place} {beats : Nat} (h : Ledger none D E [] s) :
    Ledger none D E [] (s.inboundRead a p m beats) := by
  unfold State.inboundRead
  dsimp only
  (repeat' split)
  · exact h
  · exact h.recordFault.answer
  · exact h.recordFault.forwardRead
  · exact h.forwardRead

theorem Ledger.inboundLate {e : TransitEntry} (h : Ledger none D E [] s) : Ledger none D E [] (s.inboundLate e m) := by
  have marked (b : Bool) : Ledger none D E [] (if b then s.setRec m fun r => { r with reason := .memory } else s) := by
    split
    · exact h.setRec
    · exact h
  have noted (b : Bool) : Ledger none D E [] (if b then s.note m .memory else s) := by
    split
    · exact h.note
    · exact h
  have late (b : Bool) {u : State} (hu : Ledger none D E [] u) : Ledger none D E [] (if b then u.clearValid m else u) := by
    split
    · exact hu.clearValid
    · exact hu
  unfold State.inboundLate
  split
  · dsimp only
    split
    · split
      · exact late _ (marked _)
      · split
        · split
          · exact (noted _).clearValid
          · exact (noted _).note
        · exact noted _
      · exact h
    · exact h
  · exact h

end Ops

end Sys2Proof.Machine

end

section
/-!
SUPPORT. The books of the key slots through the acceptance of transactions and the Notice Engine.
-/

namespace Sys2Proof.Machine

-- One theorem at a time: elaborated side by side, each would hold a stack of its own.
set_option Elab.async false

section Ops

variable {D E : List (Fin 32)} {s t : State} {c : Fin 16} {k : Fin 32} {m : Nat} {r : SlotRec}

/-! ## Acceptance (R9, R10) -/

theorem Ledger.refuse {a : Transaction} {cls : FaultClass} {ch : Option (Fin 16)} {p : Place}
    (h : Ledger none D E [] s) : Ledger none D E [] (s.refuse a cls ch p) := h.answer.recordFault

theorem Ledger.noticeHeader {a : Transaction} {p : Place} {bytes : List (Option Byte)} (h : Ledger none D E [] s) :
    Ledger none D E [] (s.noticeHeader a p m bytes) := by
  unfold State.noticeHeader
  dsimp only
  (repeat' split)
  · exact h
  · exact h.enter.releaseRec
  · exact h.enter
  · exact h.refuse

theorem Ledger.accept {a : Transaction} (h : Ledger none D E [] s) : Ledger none D E [] (s.accept a) := by
  unfold State.accept
  split
  · exact h.enter
  · cases s.routeOf a with
    | untouched | raw | pageWrite => exact h.enter
    | busProtocol | blocked | conflict => exact h.refuse
    | outboundClearWrite => exact h.outboundWrite
    | outboundClearRead =>
      unfold State.acceptAt
      dsimp only
      split
      · exact h.forwardRead
      · exact h
    | outboundLineWrite => exact h.outboundLine
    | inboundLineWrite => exact h.inboundLine
    | inboundClearHeader => exact h.inboundHeader
    | inboundClearPayload => exact h.inboundPayload
    | inboundClearRead => exact h.inboundRead
    | noticeClearHeader => exact h.noticeHeader

/-! ## The beginning of a composition (R165 to R168) -/

/-- The composition in flight set, moved on or ended, and the flag and timers of the Notice Engine. -/
theorem Ledger.setNotices {e : NoticeEngine} (h : Ledger none D E [] s) : Ledger none D E [] { s with notices := e } :=
  h.beside

theorem Ledger.askNotice {o blocks : Nat} (h : Ledger none D E [] s) :
    Ledger none D E [] (s.askNotice m o k blocks) := by
  unfold State.askNotice
  split
  · exact h
  · exact Ledger.foldl (fun _ _ hu => hu.askCipher (by exact nofun)) _ h

theorem askNotice_key (s : State) (m o : Nat) (k j : Fin 32) (blocks : Nat) :
    (s.askNotice m o k blocks).key j = s.key j := by
  obtain ⟨_, only⟩ := askNotice_only s m o k blocks
  rw [only]
  rfl

theorem composing_filled {plan : NoticePlan} {key : KeySlot} {o : Nat} : ¬ (r.compose plan key o).Bare := by
  simp [SlotRec.Bare, SlotRec.compose]

theorem Ledger.composeTaken {plan : NoticePlan} (h : Ledger none D E [] s) (found : s.slotRec m = some r)
    (free : r.state = .free) (used : (s.key plan.key).state ≠ .free) : Ledger none D E [] (s.composeTaken m plan) := by
  have opened : Ledger none D E [plan.key] (s.setRec m fun r => r.compose plan (s.key plan.key) s.stamp) :=
    h.take found (h.keyless found (.inl free)) rfl composing_filled
  exact (opened.bump.takeRef used).takeSequence (used_setKey used)

theorem Ledger.compose {plan : NoticePlan} {payload : State → List Byte} (h : Ledger none D E [] s)
    (found : s.slotRec m = some r) (free : r.state = .free) (used : (s.key plan.key).state ≠ .free) :
    Ledger none D E [] (s.compose m plan payload) := by
  rw [compose_eq]
  refine Ledger.judgeMarks (Ledger.askNotice (h.composeTaken found free used).setNotices) ?_
  unfold State.composeBegun
  rw [askNotice_key]
  change ((s.composeTaken m plan).key plan.key).state ≠ .free
  rw [composeTaken_key, if_pos rfl]
  exact used

/-- The notice slot that a composition takes is FREE (R162, R166). -/
theorem freeNoticeSlot_free (slot : s.freeNoticeSlot = some m) : ∃ r, s.slotRec m = some r ∧ r.state = .free := by
  unfold State.freeNoticeSlot at slot
  split at slot
  · cases slot
  · obtain ⟨i, -, here⟩ := List.exists_of_findSome?_eq_some slot
    split at here
    · cases here
    split at here
    · rename_i r found
      split at here
      · cases here
        exact ⟨r, found, ‹_›⟩
      · cases here
    · cases here

/-- An entry is composed under a key slot that its channel names in a role (R165). -/
theorem Ledger.used_of_composable {e : ProtoEntry} (h : Ledger none D E [] s) (composable : s.composable e = some k) :
    (s.key k).state ≠ .free := by
  unfold State.composable at composable
  split at composable
  · cases composable
  split at composable
  · rename_i role
    cases composable
    obtain ⟨-, holds, -⟩ := role
    simp only [State.holdsRole, Bool.or_eq_true, decide_eq_true_eq, or_assoc] at holds
    exact h.used_of_seat holds
  · cases composable

theorem protoPlan_key (e : ProtoEntry) : (e.plan k).key = k := by
  unfold ProtoEntry.plan
  split <;> rfl

theorem Ledger.startProtocol (l : List ProtoEntry) (h : Ledger none D E [] s) (found : s.slotRec m = some r)
    (free : r.state = .free) : Ledger none D E [] (State.startProtocol m l s) := by
  induction l generalizing s with
  | nil => exact h.setProto
  | cons e rest ih =>
    unfold State.startProtocol
    split
    · rename_i composable
      exact h.setProto.compose (m := m) (r := r) found free
        (by rw [protoPlan_key]; exact h.used_of_composable composable)
    · refine ih h.setProto.recordFault ?_
      rw [State.slotRec, State.noticeBlocked, recordFault_pool]
      exact found

theorem Ledger.used_of_reporting (h : Ledger none D E [] s) (key : s.reportingKey = some k) :
    (s.key k).state ≠ .free := by
  unfold State.reportingKey at key
  split at key
  · cases key
  · rename_i cur
    split at key
    · cases key
      exact h.used_of_seat (.inl cur)
    · cases key

theorem Ledger.startFaultNotice {l : List (Fin 32 × FaultEntry)} (h : Ledger none D E [] s)
    (found : s.slotRec m = some r) (free : r.state = .free) (used : (s.key k).state ≠ .free) :
    Ledger none D E [] (s.startFaultNotice m k l) := by
  obtain ⟨faults, only, -⟩ := markComposing_only s l
  have marked : Ledger none D E [] (s.markComposing l) ∧ (s.markComposing l).slotRec m = some r ∧
      ((s.markComposing l).key k).state ≠ .free := by
    rw [only]
    exact ⟨h.beside, found, used⟩
  obtain ⟨marked, found, used⟩ := marked
  unfold State.startFaultNotice
  exact Ledger.compose (r := r) (Ledger.setNotices marked.setNotices) found free used

theorem Ledger.blockNotices (h : Ledger none D E [] s) : Ledger none D E [] s.blockNotices := by
  unfold State.blockNotices
  split
  · exact h
  · exact h.setNotices.recordFault

/-! ## The composition in flight (R166, R169, R170) -/

theorem Ledger.noticeKeystream {o b : Nat} {out : Block} (h : Ledger none D E [] s) :
    Ledger none D E [] (s.noticeKeystream o b out) := by
  unfold State.noticeKeystream
  split
  · exact h
  · exact h.setNotices.fold

theorem Ledger.judgeNotice (h : Ledger none D E [] s) : Ledger none D E [] s.judgeNotice := by
  unfold State.judgeNotice
  (repeat' split)
  · exact h
  · exact h.beginDirect
  · exact h
  · exact h

theorem Ledger.askNoticeLine0 {o : Composition} (h : Ledger none D E [] s) : Ledger none D E [] (s.askNoticeLine0 o) := by
  unfold State.askNoticeLine0
  split
  · exact h
  · exact h.askSlot

theorem Ledger.noticeTag {tag : Block} (h : Ledger none D E [] s) : Ledger none D E [] (s.noticeTag m tag) := by
  unfold State.noticeTag
  dsimp only
  (repeat' split)
  · exact h.setFinish.askNoticeLine0
  · exact h.setFinish.askSlot
  · exact h.setFinish

theorem Ledger.settleCarried {e : Carried} (h : Ledger none D E [] s) : Ledger none D E [] (s.settleCarried e) := by
  unfold State.settleCarried
  split
  · exact h
  · exact h.putFault

theorem Ledger.returnCarried {e : Carried} (h : Ledger none D E [] s) : Ledger none D E [] (s.returnCarried e) := by
  unfold State.returnCarried
  split
  · exact h
  · exact h.putFault

theorem Ledger.subtractLost {lost : Nat} (h : Ledger none D E [] s) : Ledger none D E [] (s.subtractLost lost) := by
  unfold State.subtractLost
  split
  · exact h.beside
  · exact h.beside

theorem Ledger.noticeDone {o : Composition} {kind : Byte} (h : Ledger none D E [] s) :
    Ledger none D E [] (s.noticeDone o c kind) := by
  unfold State.noticeDone
  (repeat' split)
  · exact h.confirmTagged
  · exact (Ledger.foldl (fun _ _ hu => hu.settleCarried) _ h).subtractLost
  · exact h

theorem Ledger.completeComposition {o : Composition} (h : Ledger none D E [] s) :
    Ledger none D E [] (s.completeComposition o) := by
  unfold State.completeComposition
  dsimp only
  split
  · exact h
  rename_i r found
  have tagged : Ledger none D E [] (({ s with notices := { s.notices with comp := none } }).setRec o.recNo fun r =>
      { r with state := .tagged, finish := none }) := h.setNotices.setLive
  have paid : Ledger none D E [] ((({ s with notices := { s.notices with comp := none } }).setRec o.recNo fun r =>
      { r with state := .tagged, finish := none }).payFrame r (r.length.getD 0) true) :=
    tagged.payFrame fun _ own => h.used_of_record found own
  split
  · exact paid.handReport.noticeDone
  · exact paid.handReport

theorem Ledger.failComposition {o : Composition} (h : Ledger none D E [] s) :
    Ledger none D E [] (s.failComposition o) := by
  unfold State.failComposition
  dsimp only
  split
  · exact h
  · have returned : Ledger none D E [] (o.carried.foldl State.returnCarried
        (({ s with notices := { s.notices with comp := none } }).releaseRec o.recNo)) :=
      Ledger.foldl (fun _ _ hu => hu.returnCarried) _ h.setNotices.releaseRec
    split
    · exact returned.recordFault
    · exact returned

end Ops

end Sys2Proof.Machine

end

section
/-!
SUPPORT. The books of the key slots through the arbiter, the failures of injected operations, the two engines, the finish
of a tag and the readings of offers.
-/

namespace Sys2Proof.Machine

-- One theorem at a time: elaborated side by side, each would hold a stack of its own.
set_option Elab.async false

section Ops

variable {D E : List (Fin 32)} {s t : State} {c : Fin 16} {k : Fin 32} {m : Nat} {r : SlotRec}

/-! ## The port and the arbiter (R15 to R18) -/

theorem Ledger.readBack {id : Nat} {ok : Bool} {data : List Byte} (h : Ledger none D E [] s) :
    Ledger none D E [] (s.readBack id ok data) := h.setEntry

theorem Ledger.lateError {e : TransitEntry} (h : Ledger none D E [] s) : Ledger none D E [] (s.lateError e) := by
  unfold State.lateError
  (repeat' split)
  · exact h
  · exact h.outboundLate
  · exact h.inboundLate
  · exact h

theorem Ledger.grantTransit {e : TransitEntry} {passover : Nat} (h : Ledger none D E [] s) :
    Ledger none D E [] (s.grantTransit e passover) := h.beside

theorem Ledger.grantInj {e : InjEntry} (h : Ledger none D E [] s) : Ledger none D E [] (s.grantInj e) := h.beside

/-! ## Failed operations (R19, R20) -/

theorem Ledger.failFinish {o : Nat} {why : Reason} (h : Ledger none D E [] s) :
    Ledger none D E [] (s.failFinish m o why) := by
  unfold State.failFinish
  (repeat' split)
  · exact h
  · exact h.failOutbound
  · exact h.reject
  · exact h

theorem Ledger.failOffer {work : Nat} {why : Reason} (h : Ledger none D E [] s) :
    Ledger none D E [] (s.failOffer c work why) := by
  unfold State.failOffer
  (repeat' split)
  · exact h.failRuling
  · exact h.clearHold
  · exact h
  · exact h.clearHold
  · exact h
  · exact h

theorem Ledger.failOp {op : InjOp} {why : Reason} (h : Ledger none D E [] s) : Ledger none D E [] (s.failOp op why) := by
  cases op with
  | tagRead | tailFetch | sweepRead | frameWrite => exact h.failFinish
  | headerResult | resetZero => exact h
  | lostWord => exact h.followLost
  | offerRead => exact h.failOffer
  | noticeLine1 | noticeLine0 =>
    unfold State.failOp
    dsimp only
    split
    · exact h.failComposition
    · exact h
  | fetch => exact h.setCtl
  | statusWrite => exact h.judgeCompletion
  | reportRecord => exact h.loseReport.reportTurn
  | reportWord => exact h.reportTurn

theorem Ledger.failInjected {e : InjEntry} {cls : FaultClass} {why : Reason} (h : Ledger none D E [] s) :
    Ledger none D E [] (s.failInjected e cls why) := h.freeInj.recordFault.failOp

theorem Ledger.advanceRing (h : Ledger none D E [] s) : Ledger none D E [] s.advanceRing := by
  unfold State.advanceRing
  split
  · exact h.beside
  · exact h.setCtl

/-! ## The cipher engine (R44 to R48) -/

/-- A grant that serves no background request, or one that waited. -/
theorem Ledger.setCipher {g : Option CipherGrant} (h : Ledger none D E [] s)
    (asked : ∀ j r, g = some j → j.job = .background r → s.owed r := by exact fun _ _ => nofun) :
    Ledger none D E [] (s.setCipher g) :=
  h.beside rfl rfl rfl fun r owed => by
    rcases owed with waits | ⟨j, granted, job, -⟩
    · exact .inl waits
    · exact asked j r granted job

theorem Ledger.grantMiss {e : MissEntry} (h : Ledger none D E [] s) : Ledger none D E [] (s.grantMiss e) := by
  have misses : Ledger none D E []
      (s.setMisses (s.ks.misses.map fun x => if x.id == e.id then { x with granted := true } else x)) := h.beside
  exact misses.setCipher fun j r granted job => by
    cases granted
    cases job

theorem Ledger.grantBackground {q : BgReq} (h : Ledger none D E [] s) (waits : q ∈ s.ks.background) :
    Ledger none D E [] (s.grantBackground q) :=
  h.beside rfl rfl rfl fun r owed => by
    rcases owed with left | ⟨g, granted, job, -⟩
    · exact .inl (List.mem_of_mem_erase left)
    · cases granted
      cases job
      exact .inl waits

theorem Ledger.completeMiss {e : MissEntry} {out : Block} (h : Ledger none D E [] s) :
    Ledger none D E [] (s.completeMiss e out) := by
  have inserted : Ledger none D E [] (s.missInserted e out) := h.beside
  exact inserted.served (served_completeMiss s e out)

/-! ## Background results (R48, R136 to R140) -/

theorem Ledger.rulingBlock {w : OfferWork} {b : Nat} {out : Block} (h : Ledger none D E [] s) :
    Ledger none D E [] (s.rulingBlock c w b out) := by
  unfold State.rulingBlock
  dsimp only
  split
  · exact h.setChan.settleRuling
  · exact h.setChan

theorem Ledger.loadingBlock {w : OfferWork} {b : Nat} {out : Block} (h : Ledger none D E [] s) :
    Ledger none D E [] (s.loadingBlock c w b out) := by
  unfold State.loadingBlock
  dsimp only
  split
  · exact h.setChan.endLoading
  · exact h.setChan

theorem Ledger.offerBlock {work b : Nat} {out : Block} (h : Ledger none D E [] s) :
    Ledger none D E [] (s.offerBlock c work b out) := by
  unfold State.offerBlock
  (repeat' split)
  · exact h.rulingBlock
  · exact h.loadingBlock
  · exact h
  · exact h.rulingBlock
  · exact h
  · exact h.loadingBlock
  · exact h
  · exact h

theorem Ledger.backgroundResult {use : BgUse} {out : Block} (h : Ledger none D E [] s) :
    Ledger none D E [] (s.backgroundResult use out) := by
  cases use with
  | offerPlain => exact h.offerBlock
  | mask =>
    unfold State.backgroundResult State.maskReturn
    dsimp only
    split
    · exact h.setFinish
    · exact h
  | noticeBlock => exact h.noticeKeystream
  | rootSubkey | hashSubkey => exact h

/-! ## The multiplier and the finish (R36 to R41) -/

theorem Ledger.judgeSweep {o : Nat} (h : Ledger none D E [] s) : Ledger none D E [] (s.judgeSweep m o) := by
  unfold State.judgeSweep
  (repeat' split)
  · exact h.beginDirect
  · exact h
  · exact h

theorem Ledger.productReturn {q : MulReq} {product : Block} (h : Ledger none D E [] s) :
    Ledger none D E [] (s.productReturn q product) := by
  unfold State.productReturn
  split
  · exact h
  split
  · split
    · refine (Ledger.judgeSweep ?_).judgeNotice
      split
      · exact h.setRec
      · exact h
    · unfold State.correctionReturn
      dsimp only
      split
      · exact h
      · exact (h.setRec (m := q.recNo)).setRec.beginDirect
    · exact h.setFinish
  · exact h

theorem Ledger.settleMerges {len : Nat} (h : Ledger none D E [] s) : Ledger none D E [] (s.settleMerges m len) := by
  unfold State.settleMerges
  split
  · exact h.dropMerges.fold
  · exact h.dropMerges

theorem Ledger.decideFinish {o len : Nat} {stage : FinishStage} (h : Ledger none D E [] s) :
    Ledger none D E [] (s.decideFinish m o len stage) := by
  unfold State.decideFinish
  dsimp only
  (repeat' split)
  · exact h.beginFinish
  · exact h.settleMerges.beginFinish
  · exact h.settleMerges.setFinish

theorem Ledger.tailReturn {o : Nat} {blk : Block} (h : Ledger none D E [] s) :
    Ledger none D E [] (s.tailReturn m o blk) := by
  unfold State.tailReturn
  (repeat' split)
  · exact h
  · exact h.askMul
  · exact h
  · exact h

theorem Ledger.sweepFold {len b : Nat} {blk : Block} (h : Ledger none D E [] s) :
    Ledger none D E [] (s.sweepFold m len b blk) := by
  unfold State.sweepFold
  split
  · exact h.fold
  · exact h.fold

theorem Ledger.sweepReturn {o first : Nat} {blocks : List Block} (h : Ledger none D E [] s) :
    Ledger none D E [] (s.sweepReturn m o first blocks) := by
  unfold State.sweepReturn
  (repeat' split)
  · exact h
  · exact Ledger.foldl (fun _ _ hu => hu.sweepFold) _ h.setFinish
  · exact h
  · exact h

theorem Ledger.handTag {role : WinRole} {tag : Block} (h : Ledger none D E [] s) :
    Ledger none D E [] (s.handTag m role tag) := by
  cases role with
  | outbound => exact h.outboundTag
  | inbound => exact h.inboundTag
  | notice => exact h.noticeTag
  | report | controlPage => exact h

theorem Ledger.frameAnswered {o : Nat} (h : Ledger none D E [] s) : Ledger none D E [] (s.frameAnswered m o) := by
  unfold State.frameAnswered
  split
  · exact h.frameLanded
  · exact h

theorem Ledger.tagHeld {o : Nat} {tag : Block} (h : Ledger none D E [] s) : Ledger none D E [] (s.tagHeld m o tag) := by
  unfold State.tagHeld
  split
  · exact h.setRec.tryCompare
  · exact h

theorem Ledger.askPlain {work : Nat} (h : Ledger none D E [] s) : Ledger none D E [] (s.askPlain c work m) := by
  unfold State.askPlain
  split
  · exact h
  · exact Ledger.foldl (fun _ _ hu => hu.askCipher (by exact nofun)) _ h

theorem Ledger.offerData {work : Nat} {blocks : List Block} (h : Ledger none D E [] s) :
    Ledger none D E [] (s.offerData c work blocks) := by
  unfold State.offerData
  (repeat' split)
  · exact h.setChan.askPlain
  · exact h.setChan.askPlain
  · exact h
  · exact h
  · exact h.setChan.askPlain
  · exact h
  · exact h

end Ops

end Sys2Proof.Machine

end

section
/-!
SUPPORT. The books of the key slots through the timers, a teardown, and the commands of the control page.
-/

namespace Sys2Proof.Machine

-- One theorem at a time: elaborated side by side, each would hold a stack of its own.
set_option Elab.async false

section Ops

variable {D E : List (Fin 32)} {s t : State} {c : Fin 16} {k : Fin 32} {m : Nat} {r : SlotRec}

/-! ## The timers (R126, R132, R182) -/

theorem Ledger.tickTimers (h : Ledger none D E [] s) : Ledger none D E [] s.tickTimers :=
  h.roles fun d => by
    have ticked : s.tickTimers.chan d =
        { s.chan d with cutover := (s.chan d).cutover.tick, grace := (s.chan d).grace.tick } := by
      simp [State.chan, State.tickTimers]
    rw [ticked]
    exact ⟨rfl, rfl, rfl, rfl⟩

theorem Ledger.tickInjected (h : Ledger none D E [] s) : Ledger none D E [] s.tickInjected := h.beside

theorem Ledger.lifetimeTick (h : Ledger none D E [] s) : Ledger none D E [] (s.lifetimeTick k) := by
  unfold State.lifetimeTick
  split
  · rename_i counted
    simp only [KeySlot.counted, Bool.and_eq_true, decide_eq_true_eq] at counted
    exact (h.setKey counted.1.1).judgeMarks (used_setKey counted.1.1)
  · exact h

/-- The PREVIOUS key taken off its channel is yet to be judged (R132). -/
theorem Ledger.losePrevious (h : Ledger none D E [] s) : Ledger none ((s.chan c).prev.toList ++ D) E []
    (s.setChan c fun x => { x with grace := .stopped, prev := none }) := by
  have own := setChan_own s c fun x => { x with grace := .stopped, prev := none }
  refine h.lose rfl rfl (fun _ asked => asked) (setChan_others s c _) ?_ (fun j out => ?_) fun j => ?_
  · rw [own]
    exact ⟨.inl rfl, .inl rfl, .inr rfl, .inl rfl⟩
  · rw [List.mem_append, not_or] at out
    rw [own]
    exact ⟨out.2, id, id, fun prev => absurd (by simp [prev]) out.1, id⟩
  · rw [own]

/-! ## Teardown (R100) -/

theorem Ledger.judgeKeys (l : List (Fin 32)) (h : Ledger none (l ++ D) E [] s) :
    Ledger none D E [] (l.foldl State.judgeKey s) := by
  induction l generalizing s with
  | nil => exact h
  | cons k l ih => exact ih h.judgeKey

theorem Ledger.untakeOf {o : Option (Fin 32)} (h : Ledger none D (o.toList ++ E) [] s) :
    Ledger none ((s.untakeOf o).2 ++ D) E [] (s.untakeOf o).1 := by
  cases o with
  | none => exact h
  | some k => exact h.untakeRef

theorem Ledger.tearSlot (h : Ledger none D E [] s) (found : s.slotRec m = some r) :
    Ledger none ((s.tearSlot c m r).2 ++ D) E [] (s.tearSlot c m r).1 := by
  have failed := h.failRec (m := m) (why := .channelDown)
  have rejected := h.rejectRec (m := m) (why := .channelDown)
  rw [found] at failed rejected
  unfold State.tearSlot
  (repeat' split)
  · exact failed.untakeOf
  · exact h
  · exact rejected.untakeOf
  · exact h
  · exact h.note
  · exact h
  · exact h

theorem Ledger.tearSlots (l : List (Nat × SlotRec)) (a : State × List (Fin 32)) (rising : l.Pairwise fun p q => p.1 < q.1)
    (found : ∀ p ∈ l, a.1.slotRec p.1 = some p.2) (h : Ledger none (a.2 ++ D) E [] a.1) :
    Ledger none ((State.tearSlots c l a).2 ++ D) E [] (State.tearSlots c l a).1 := by
  induction l generalizing a with
  | nil => exact h
  | cons p l ih =>
    obtain ⟨above, rest⟩ := List.pairwise_cons.1 rising
    have torn := (h.tearSlot (c := c) (found p (List.mem_cons_self ..))).mono
      (D' := a.2 ++ (a.1.tearSlot c p.1 p.2).2 ++ D) fun j mem => by
        simp only [List.mem_append] at mem ⊢
        exact mem.elim (fun here => .inl (.inr here)) (.imp_left .inl)
    refine ih _ rest (fun q mem => ?_) torn
    rw [tearSlot_others a.1 c p.1 p.2 q.1 (above q mem).ne']
    exact found q (List.mem_cons_of_mem _ mem)

theorem mem_roleKeys {y : Channel} : k ∈ y.roleKeys ↔ y.cur = some k ∨ y.next = some k ∨ y.prev = some k := by
  simp only [Channel.roleKeys, List.mem_filterMap, List.mem_cons, List.not_mem_nil, or_false, id_eq, exists_eq_right]
  grind

/-- The channel emptied by a teardown: its key slots are yet to be judged, and the hold's reference is due (R100). -/
theorem Ledger.channelTorn {state : ChanState} (h : Ledger none D E [] s) :
    Ledger none ((s.chan c).roleKeys ++ (((s.chan c).hold.map (·.key)).toList ++ D))
      (((s.chan c).hold.map (·.key)).toList ++ E) [] (s.channelTorn c state) := by
  have own : (s.channelTorn c state).chan c = (s.chan c).torn state := setChan_own s c fun x => x.torn state
  refine h.lose rfl rfl (fun _ asked => asked) (setChan_others s c fun x => x.torn state) ?_ (fun j out => ?_) fun j => ?_
  · rw [own]
    exact ⟨.inr ⟨rfl, rfl, rfl⟩, .inr rfl, .inr rfl, .inr rfl⟩
  · simp only [List.mem_append, mem_roleKeys, not_or, Option.mem_toList] at out
    obtain ⟨⟨cur, next, prev⟩, held, out⟩ := out
    exact ⟨out, fun here => absurd here cur, fun here => absurd here next, fun here => absurd here prev,
      fun here => absurd here held⟩
  · rw [own, List.count_append]
    cases (s.chan c).hold with
    | none => simp [Channel.torn]
    | some o => simp [Channel.torn, List.count_singleton]

theorem Ledger.tornBefore {state : ChanState} (h : Ledger none D E [] s) :
    Ledger none ((s.chan c).roleKeys ++ (s.tearHold c).2 ++ D) E [] (s.tornBefore c state) := by
  cases held : (s.chan c).hold with
  | none =>
    have torn := h.channelTorn (c := c) (state := state)
    rw [held] at torn
    unfold State.tornBefore
    rw [tearHold_empty held, List.append_nil]
    exact torn
  | some o =>
    have torn := (h.unclaim (m := o.recNo)).channelTorn (c := c) (state := state)
    have same : (s.unclaim o.recNo).chan c = s.chan c := rfl
    rw [same, held] at torn
    have commuted : s.tornBefore c state = ((s.unclaim o.recNo).channelTorn c state).untakeRef o.key := by
      unfold State.tornBefore
      rw [tearHold_held held]
      rfl
    rw [commuted, tearHold_held held]
    refine torn.untakeRef.mono fun j mem => ?_
    simp only [Option.map_some, Option.toList_some, List.mem_append, List.mem_cons, List.not_mem_nil, or_false] at mem ⊢
    tauto

theorem Ledger.teardown {state : ChanState} (h : Ledger none D E [] s) : Ledger none D E [] (s.teardown c state) := by
  have before := h.tornBefore (c := c) (state := state)
  have torn := Ledger.tearSlots (c := c) (D := (s.chan c).roleKeys ++ (s.tearHold c).2 ++ D)
    (s.tornBefore c state).pool (s.tornBefore c state, []) before.pool
    (fun p mem => slotRec_of_mem before.pool mem) before
  rw [teardown_eq]
  refine (torn.mono fun j mem => ?_).judgeKeys
  simp only [State.tornSlots, List.mem_append] at mem ⊢
  tauto

/-! ## The commands on channels and meters (R99, R101, R103, R106, R177) -/

theorem Ledger.onChannel {f : Fin 16 → State → State} (h : Ledger none D E [] s)
    (hf : ∀ c, Ledger none D E [] (f c s)) : Ledger none D E [] (s.onChannel f) := by
  unfold State.onChannel
  split
  · exact hf _
  · exact h.complete

theorem Ledger.setChannel (h : Ledger none D E [] s) : Ledger none D E [] (State.setChannel c s) := by
  unfold State.setChannel
  split
  · exact h.complete
  · exact h.setChan.complete

theorem Ledger.setChannelState (h : Ledger none D E [] s) : Ledger none D E [] (State.setChannelState c s) := by
  unfold State.setChannelState
  (repeat' split)
  · exact h.teardown.complete
  · exact h.setChan.complete
  · exact h.setChan.complete
  · exact h.complete
  · exact h.complete

theorem Ledger.dropKeys (h : Ledger none D E [] s) : Ledger none D E [] (State.dropKeys c s) := h.teardown.complete

theorem Ledger.requestRenewal (h : Ledger none D E [] s) : Ledger none D E [] (State.requestRenewal c s) := by
  unfold State.requestRenewal
  split
  · exact h.handProto.complete
  · exact h.complete

theorem Ledger.setMeterCommand (h : Ledger none D E [] s) : Ledger none D E [] s.setMeterCommand := by
  unfold State.setMeterCommand
  split
  · exact h.complete
  · exact h.setMeter.complete

/-! ## The commands on the windows (R3 to R5) -/

/-- Slot records assigned and unassigned, none of which names a key slot. -/
theorem Ledger.putWindow {i : Fin 16} {w : Option Window} {l : List (Nat × SlotRec)} (h : Ledger none D E [] s)
    (rising : l.Pairwise fun p q => p.1 < q.1)
    (same : ∀ j, l.countP (fun p => decide (p.2.keySlot = some j)) = s.recordHolders j)
    (bare : ∀ p ∈ l, p ∈ s.pool ∨ p.2.keySlot = none) : Ledger none D E [] (s.putWindow i w l) :=
  { h with
    pool := rising
    refs := fun j => (h.refs j).trans (by rw [← same]; rfl)
    bare := fun p mem own => (bare p mem).elim (fun before => h.bare p before own) id }

/-- The records of a window whose slots are all FREE name no key slot (R5). -/
theorem Ledger.holders_poolWithout {i : Fin 16} (h : Ledger none D E [] s)
    (idle : ¬ ((s.recordsOf i).any fun p => decide (p.2.state ≠ .free)) = true) (j : Fin 32) :
    (s.poolWithout i).countP (fun p => decide (p.2.keySlot = some j)) = s.recordHolders j := by
  have free : ∀ p ∈ s.pool, p.2.window = i → p.2.state = .free := by
    intro p mem own
    by_contra busy
    exact idle (List.any_eq_true.2 ⟨p, List.mem_filter.2 ⟨mem, decide_eq_true own⟩, decide_eq_true busy⟩)
  unfold State.poolWithout
  rw [List.countP_filter]
  refine List.countP_congr fun p mem => ?_
  simp only [Bool.and_eq_true, decide_eq_true_eq, and_iff_left_iff_imp]
  intro named own
  rw [h.bare p mem (.inl (free p mem own))] at named
  cases named

/-- A run of fresh records put into a pool names no key slot (R4, R7). -/
theorem countP_assignRun (pool : List (Nat × SlotRec)) (first count : Nat) (role : WinRole) (i : Fin 16) (j : Fin 32) :
    (assignRun pool first count role i).countP (fun p => decide (p.2.keySlot = some j)) =
      pool.countP fun p => decide (p.2.keySlot = some j) := by
  have fresh : ((List.range count).map fun k => (first + k, SlotRec.fresh role i k)).countP
      (fun p => decide (p.2.keySlot = some j)) = 0 := by
    refine List.countP_eq_zero.2 fun p mem => ?_
    obtain ⟨_, -, rfl⟩ := List.mem_map.1 mem
    exact nofun
  unfold assignRun
  rw [List.countP_append, List.countP_append, fresh, Nat.add_zero, List.countP_filter, List.countP_filter]
  induction pool with
  | nil => rfl
  | cons p pool ih =>
    simp only [List.countP_cons, Bool.and_eq_true, decide_eq_true_eq]
    by_cases low : p.1 < first
    · have high : ¬ first ≤ p.1 := by omega
      simp only [low, high, and_true, and_false, if_false]
      omega
    · have high : first ≤ p.1 := by omega
      simp only [low, high, and_true, and_false, if_false]
      omega

theorem mem_assignRun {pool : List (Nat × SlotRec)} {first count : Nat} {role : WinRole} {i : Fin 16}
    {p : Nat × SlotRec} (mem : p ∈ assignRun pool first count role i) : p ∈ pool ∨ p.2.keySlot = none := by
  unfold assignRun at mem
  rcases List.mem_append.1 mem with mem | mem
  · rcases List.mem_append.1 mem with mem | mem
    · exact .inl (List.mem_of_mem_filter mem)
    · obtain ⟨_, -, rfl⟩ := List.mem_map.1 mem
      exact .inr rfl
  · exact .inl (List.mem_of_mem_filter mem)

theorem Ledger.tryWindow {a : WindowAsk} (h : Ledger none D E [] s) : Ledger none D E [] (s.tryWindow a).1 := by
  have kept (i : Fin 16) : (s.poolWithout i).Pairwise fun p q => p.1 < q.1 :=
    List.Pairwise.sublist (poolWithout_sublist s i) h.pool
  have before (i : Fin 16) (p : Nat × SlotRec) (mem : p ∈ s.poolWithout i) : p ∈ s.pool :=
    (poolWithout_sublist s i).subset mem
  unfold State.tryWindow State.placeWindow
  (repeat' split)
  · exact h
  · exact h
  · exact h
  · exact h
  · rename_i idle _ _ first run
    exact h.putWindow (assignRun_sound run (kept _))
      (fun j => (countP_assignRun _ _ _ _ _ j).trans (h.holders_poolWithout idle j))
      fun p mem => (mem_assignRun mem).imp_left (before _ p)
  · rename_i idle _
    exact h.putWindow (kept _) (h.holders_poolWithout idle) fun p mem => .inl (before _ p mem)
  · exact h
  · exact h

theorem Ledger.setWindow (h : Ledger none D E [] s) : Ledger none D E [] s.setWindow := by
  unfold State.setWindow
  split
  · exact h.setCtl
  · exact h.setCtl.tryWindow.complete

theorem Ledger.clearWindow (h : Ledger none D E [] s) : Ledger none D E [] s.clearWindow := by
  unfold State.clearWindow
  (repeat' split)
  · exact h.complete
  · exact h.complete
  · exact h.complete
  · exact h.complete
  · rename_i idle
    exact (h.putWindow (List.Pairwise.sublist (poolWithout_sublist s _) h.pool) (h.holders_poolWithout idle)
      fun p mem => .inl ((poolWithout_sublist s _).subset mem)).complete

/-! ## The other commands and the leaving of the resets (R8, R159, R160, R177) -/

theorem Ledger.setInitiator (h : Ledger none D E [] s) : Ledger none D E [] s.setInitiator := by
  unfold State.setInitiator
  (repeat' split)
  · exact h.complete
  · exact Ledger.complete h.beside
  · exact h.complete

theorem Ledger.writeRing {size : Nat} (h : Ledger none D E [] s) : Ledger none D E [] (s.writeRing size) := by
  unfold State.writeRing
  dsimp only
  split
  · exact h.setCtl.setCtl.askPage
  · exact h.setCtl

theorem Ledger.writePolicy (h : Ledger none D E [] s) : Ledger none D E [] (s.writePolicy c) := h.beside

theorem Ledger.setPolicy (h : Ledger none D E [] s) : Ledger none D E [] s.setPolicy := by
  unfold State.setPolicy
  (repeat' split)
  · exact h.complete
  · exact h.complete
  · exact h.writePolicy.writeRing.complete

theorem Ledger.discardFaults (h : Ledger none D E [] s) : Ledger none D E [] s.discardFaults := by
  unfold State.discardFaults State.clearOne
  (repeat' split)
  · exact h.putFault
  · exact h
  · exact h
  · exact h.beside
  · exact h

theorem Ledger.readFuses (h : Ledger none D E [] s) : Ledger none D E [] s.readFuses := by
  unfold State.readFuses
  split
  · exact h.askCipher nofun
  · exact h.recordFault

theorem Ledger.returnComposing (h : Ledger none D E [] s) : Ledger none D E [] s.returnComposing := h.beside

theorem Ledger.restartFaults (h : Ledger none D E [] s) : Ledger none D E [] s.restartFaults := by
  have advanced : Ledger none D E [] { s with free := s.free + 1 } := h.beside
  unfold State.restartFaults
  (repeat' split)
  · exact h.recordFault.readFuses
  · exact advanced.readFuses.recordFault
  · exact advanced.recordFault.readFuses

end Ops

end Sys2Proof.Machine

end

section
/-!
PROOF. The key slots stay sound over every step (O9): each row leaves their books in order.
-/

namespace Sys2Proof.Machine

-- One theorem at a time: elaborated side by side, each would hold a stack of its own.
set_option Elab.async false

/-- A row after which the books are in order. -/
def Booked (o : Host.Outcome State Fault Refusal) : Prop := ∀ t, o = .next t → Ledger none [] [] [] t

section Booked

variable {s u : State} {c : Fin 16}

theorem Booked.idle (h : Ledger none [] [] [] s) : Booked (idle s) := fun _ same => (idle_eq_next _ _).1 same ▸ h

theorem Booked.fault {f : Fault} : Booked (.fault f) := fun _ h => nomatch h

theorem Booked.done (h : Ledger none [] [] [] u) : Booked (done u) := fun _ next => (done_eq_next _ _).1 next ▸ h.settle

theorem Booked.command {code : Nat} {f : State → State} (h : Ledger none [] [] [] s)
    (effect : Ledger none [] [] [] (f s)) : Booked (command code s f) := by
  unfold Machine.command
  split
  · exact .done effect
  · exact .idle h

theorem Booked.answered {id : Nat} {mine : InjOp → Bool} {f : State → State} (h : Ledger none [] [] [] s)
    (effect : Ledger none [] [] [] (f (s.freeInj id))) : Booked (answered id mine s f) := by
  unfold Machine.answered
  (repeat' split)
  · exact .done effect
  · exact .idle h
  · exact .idle h

theorem Booked.readReturned {id : Nat} {data : List Byte} {mine : InjOp → Bool} {f : InjOp → State → State}
    (h : Ledger none [] [] [] s) (effect : ∀ op, Ledger none [] [] [] (f op (s.freeInj id))) :
    Booked (readReturned id data mine s f) := by
  unfold Machine.readReturned
  (repeat' split)
  · exact .done (effect _)
  · exact .fault
  · exact .idle h
  · exact .idle h

theorem Booked.acceptWhen {mine : Bool} {a : Transaction} (h : Ledger none [] [] [] s) :
    Booked (acceptWhen mine a s) := by
  unfold Machine.acceptWhen
  (repeat' split)
  · exact .done h.accept
  · exact .idle h
  · exact .fault

end Booked

/-! ## The rows -/

section Rows

variable {s : State} (h : Ledger none [] [] [] s)

include h

theorem leavePowerOnReset_booked {f : Fuses} : Booked (execLeavePowerOnReset f s) := by
  unfold execLeavePowerOnReset
  (repeat' split)
  · exact .done h.beside
  · exact .done (Ledger.readFuses (Ledger.askPage h.beside))
  · exact .idle h

theorem leaveWarmReset_booked : Booked (execLeaveWarmReset s) := by
  unfold execLeaveWarmReset
  split
  · exact .idle h
  · exact .done (Ledger.restartFaults (Ledger.returnComposing (Ledger.askPage h.beside)))
  · exact .done h.beside

theorem protocolNoticeStart_booked : Booked (execProtocolNoticeStart s) := by
  unfold execProtocolNoticeStart
  split
  · rename_i slot _
    obtain ⟨r, found, free⟩ := freeNoticeSlot_free slot
    exact .done (h.startProtocol _ found free)
  · exact .idle h

theorem faultNoticeStart_booked : Booked (execFaultNoticeStart s) := by
  unfold execFaultNoticeStart
  dsimp only
  (repeat' split)
  · exact .done h.blockNotices
  · exact .idle h
  · rename_i slot _ _ _ _ key _
    obtain ⟨r, found, free⟩ := freeNoticeSlot_free slot
    exact .done (h.startFaultNotice found free (h.used_of_reporting key))
  · exact .idle h
  · exact .idle h

theorem controlPageOtherWrite_booked {w : PageWrite} : Booked (execControlPageOtherWrite w s) := by
  unfold execControlPageOtherWrite
  (repeat' split)
  · exact .done h.accept
  · exact .idle h
  · exact .fault
  · exact .done h.completeWrite
  · exact .idle h
  · exact .idle h

theorem commandProducerIndexWrite_booked {id : Nat} : Booked (execCommandProducerIndexWrite id s) := by
  unfold execCommandProducerIndexWrite
  (repeat' split)
  · exact .done h.completeWrite
  · exact .idle h
  · exact .idle h

theorem reportConsumerIndexWrite_booked {id : Nat} : Booked (execReportConsumerIndexWrite id s) := by
  unfold execReportConsumerIndexWrite
  (repeat' split)
  · exact .done h.completeWrite
  · exact .idle h
  · exact .idle h

theorem snapshotRecordHanded_booked : Booked (execSnapshotRecordHanded s) := by
  unfold execSnapshotRecordHanded
  (repeat' split)
  · exact .done (h.handSnapshot _)
  · exact .idle h
  · exact .idle h

theorem commandDoneHanded_booked : Booked (execCommandDoneHanded s) := by
  unfold execCommandDoneHanded
  (repeat' split)
  · exact .done h.setCtl.handReport.judgeCompletion
  · exact .idle h
  · exact .idle h

theorem downstreamGrant_booked : Booked (execDownstreamGrant s) := by
  unfold execDownstreamGrant
  (repeat' split)
  · exact .done h.grantInj
  · exact .done h.grantTransit
  · exact .done h.grantTransit
  · exact .done h.grantInj
  · exact .idle h

theorem passedResponse_booked {id : Nat} {data : List Byte} : Booked (execPassedResponse id data s) := by
  unfold execPassedResponse
  (repeat' split)
  · exact .idle h
  · exact .done h.readBack
  · exact .done h.completeWrite
  · exact .fault

theorem passedErrorResponse_booked {id : Nat} {data : List Byte} :
    Booked (execPassedErrorResponse id data s) := by
  unfold execPassedErrorResponse
  (repeat' split)
  · exact .idle h
  · exact .done h.readBack.recordFault
  · exact .done h.freeTransit.respond.recordFault.lateError
  · exact .fault

theorem injectionRequestServed_booked : Booked (execInjectionRequestServed s) := by
  unfold execInjectionRequestServed
  (repeat' split)
  · exact .idle h
  · exact .done h.beside
  · exact .idle h

theorem injectedError_booked {id : Nat} : Booked (execInjectedError id s) := by
  unfold execInjectedError
  split
  · exact .done h.failInjected
  · exact .idle h

theorem downstreamTimeout_booked {id : Nat} : Booked (execDownstreamTimeout id s) := by
  unfold execDownstreamTimeout
  (repeat' split)
  · exact .done h.failInjected
  · exact .idle h
  · exact .idle h

theorem commandFetchReturn_booked {id : Nat} {data : List Byte} : Booked (execCommandFetchReturn id data s) := by
  unfold execCommandFetchReturn
  (repeat' split)
  · exact .done h.freeInj.setCtl
  · exact .fault
  · exact .idle h
  · exact .idle h

theorem cipherGrant_booked : Booked (execCipherGrant s) := by
  unfold execCipherGrant
  (repeat' split)
  · exact .idle h
  · exact .done h.grantMiss
  · rename_i next
    exact .done (h.grantBackground (List.mem_of_find?_eq_some next))
  · exact .idle h

theorem keystreamMissComplete_booked : Booked (execKeystreamMissComplete s) := by
  unfold execKeystreamMissComplete
  (repeat' split)
  · exact .idle h
  · exact .done h.setCipher
  · exact .done h.setCipher.completeMiss
  · exact .done h.setCipher
  · exact .idle h

theorem backgroundCipherComplete_booked : Booked (execBackgroundCipherComplete s) := by
  unfold execBackgroundCipherComplete
  (repeat' split)
  · exact .idle h
  · exact .done h.setCipher
  · exact .done h.setCipher.backgroundResult.judgeNotice
  · exact .idle h

theorem rootSubkeyComplete_booked : Booked (execRootSubkeyComplete s) := by
  unfold execRootSubkeyComplete
  (repeat' split)
  · exact .done (Ledger.beside (h.setCipher (g := none)))
  · exact .idle h
  · exact .idle h

omit h in
/-- The background request that the engine serves, unless it was withdrawn, is still asked for (R47). -/
theorem owed_of_grant {g : CipherGrant} {r : BgReq} (granted : s.ks.backgroundGrant = some (g, r))
    (kept : g.withdrawn = false) : s.owed r := by
  unfold Keystream.backgroundGrant at granted
  split at granted
  · rename_i job here
    split at granted
    · rename_i own
      cases granted
      exact .inr ⟨_, here, own, kept⟩
    · cases granted
  · cases granted

theorem hashSubkeyReturn_booked : Booked (execHashSubkeyReturn s) := by
  unfold execHashSubkeyReturn
  (repeat' split)
  · rename_i granted use _ _ _ kept slot
    exact .done (h.setCipher.subkeyReturn (h.owed _ _ (owed_of_grant granted kept) use slot))
  · exact .done h.setCipher
  · exact .idle h
  · exact .idle h

theorem multiplierGrant_booked : Booked (execMultiplierGrant s) := by
  unfold execMultiplierGrant
  (repeat' split)
  · exact .idle h
  · exact .done h.beside
  · exact .idle h

theorem multiplierProductReturn_booked : Booked (execMultiplierProductReturn s) := by
  unfold execMultiplierProductReturn
  dsimp only
  (repeat' split)
  · exact .idle h
  · exact .done h.beside
  · exact .done (Ledger.productReturn h.beside)

theorem finishDecision_booked {n : Nat} : Booked (execFinishDecision n s) := by
  unfold execFinishDecision
  (repeat' split)
  · exact .idle h
  · exact .done h.decideFinish
  · exact .idle h
  · exact .idle h

theorem tailFetchReturn_booked {id : Nat} {data : List Byte} : Booked (execTailFetchReturn id data s) :=
  .readReturned h fun op => by
    split
    · exact h.freeInj.tailReturn
    · exact h.freeInj

theorem sweepReadReturn_booked {id : Nat} {data : List Byte} : Booked (execSweepReadReturn id data s) :=
  .readReturned h fun op => by
    split
    · exact h.freeInj.sweepReturn
    · exact h.freeInj

theorem directFinishComplete_booked {n : Nat} : Booked (execDirectFinishComplete n s) := by
  unfold execDirectFinishComplete
  (repeat' split)
  · exact .idle h
  · exact .done h.handTag
  · exact .idle h

theorem frameWriteAnswered_booked {id : Nat} : Booked (execFrameWriteAnswered id s) := by
  unfold execFrameWriteAnswered
  (repeat' split)
  · exact .done h.freeInj.frameAnswered
  · exact .idle h
  · exact .idle h

theorem tagReadReturn_booked {id : Nat} {data : List Byte} : Booked (execTagReadReturn id data s) :=
  .readReturned h fun op => by
    split
    · exact h.freeInj.tagHeld
    · exact h.freeInj

theorem noticeLine1WriteAnswered_booked {id : Nat} : Booked (execNoticeLine1WriteAnswered id s) := by
  unfold execNoticeLine1WriteAnswered
  dsimp only
  (repeat' split)
  · exact .done h.freeInj.askNoticeLine0
  · exact .done h.freeInj
  · exact .idle h
  · exact .idle h

theorem noticeCompositionComplete_booked {id : Nat} : Booked (execNoticeCompositionComplete id s) := by
  unfold execNoticeCompositionComplete
  dsimp only
  (repeat' split)
  · exact .done h.freeInj.completeComposition
  · exact .done h.freeInj
  · exact .idle h
  · exact .idle h

theorem offerRulingStart_booked {c : Fin 16} : Booked (execOfferRulingStart c s) := by
  unfold execOfferRulingStart
  split
  · exact .done h.startRuling
  · exact .idle h

theorem offerPayloadReadReturn_booked {id : Nat} {data : List Byte} :
    Booked (execOfferPayloadReadReturn id data s) :=
  .readReturned h fun op => by
    split
    · exact h.freeInj.offerData
    · exact h.freeInj

theorem timeBaseTick_booked : Booked (execTimeBaseTick s) := by
  unfold execTimeBaseTick
  dsimp only
  (repeat' split)
  · exact .idle h
  · exact .done (Ledger.beside h.tickInjected)
  · exact .done (Ledger.tickTimers (Ledger.beside h.tickInjected))

theorem meterRefill_booked : Booked (execMeterRefill s) := by
  unfold execMeterRefill
  split
  · exact .idle h
  · exact .done h.beside

theorem cutoverTimerExpiry_booked {c : Fin 16} : Booked (execCutoverTimerExpiry c s) := by
  unfold execCutoverTimerExpiry
  dsimp only
  have stop : Ledger none [] [] [] (s.setChan c fun x => { x with cutover := .stopped, cutoverKey := none }) := h.setChan
  split
  · split
    · exact .done stop.promote
    · exact .done stop
  · exact .idle h

theorem graceTimerExpiry_booked {c : Fin 16} : Booked (execGraceTimerExpiry c s) := by
  unfold execGraceTimerExpiry
  split
  · exact .done h.losePrevious.judgeKeyOf
  · exact .idle h

theorem holdoffTimerExpiry_booked : Booked (execHoldoffTimerExpiry s) := by
  unfold execHoldoffTimerExpiry
  split
  · exact .done h.beside
  · exact .idle h

theorem keyLifetimeTick_booked : Booked (execKeyLifetimeTick s) := by
  unfold execKeyLifetimeTick
  dsimp only
  split
  · exact .idle h
  · exact .done (Ledger.foldl (fun _ _ hu => hu.lifetimeTick) _ h.beside)

theorem setWindow_booked : Booked (execSetWindow s) := .command h h.setWindow

theorem clearWindow_booked : Booked (execClearWindow s) := .command h h.clearWindow

theorem setInitiator_booked : Booked (execSetInitiator s) := .command h h.setInitiator

theorem setChannel_booked : Booked (execSetChannel s) :=
  .command h (h.onChannel fun _ => h.setChannel)

theorem setChannelState_booked : Booked (execSetChannelState s) :=
  .command h (h.onChannel fun _ => h.setChannelState)

theorem dropKeys_booked : Booked (execDropKeys s) :=
  .command h (h.onChannel fun _ => h.dropKeys)

theorem requestRenewal_booked : Booked (execRequestRenewal s) :=
  .command h (h.onChannel fun _ => h.requestRenewal)

theorem setMeter_booked : Booked (execSetMeter s) := .command h h.setMeterCommand

theorem setPolicy_booked : Booked (execSetPolicy s) := .command h h.setPolicy

theorem clearFaults_booked : Booked (execClearFaults s) := .command h h.discardFaults.complete

theorem snapshotFaults_booked : Booked (execSnapshotFaults s) := .command h (h.handSnapshot _)

theorem statusWriteAnswered_booked {id : Nat} : Booked (execStatusWriteAnswered id s) :=
  .answered h h.freeInj.judgeCompletion

theorem reportRecordWriteAnswered_booked {id : Nat} : Booked (execReportRecordWriteAnswered id s) :=
  .answered h h.freeInj.advanceRing.askPage

theorem reportProducerWordAnswered_booked {id : Nat} : Booked (execReportProducerWordAnswered id s) :=
  .answered h h.freeInj.reportTurn

theorem lostReportCountWriteAnswered_booked {id : Nat} : Booked (execLostReportCountWriteAnswered id s) :=
  .answered h h.freeInj.followLost

theorem headerResultWriteAnswered_booked {id : Nat} : Booked (execHeaderResultWriteAnswered id s) :=
  .answered h h.freeInj

theorem resetZeroingWriteAnswered_booked {id : Nat} : Booked (execResetZeroingWriteAnswered id s) :=
  .answered h h.freeInj

theorem unknownCommand_booked : Booked (execUnknownCommand s) := by
  unfold execUnknownCommand
  split
  · exact .done h.complete
  · exact .idle h

end Rows

/-! ## Every command, and every step -/

/-- The books of the power-on reset values, in whatever state the rest of the block is (R21). -/
theorem ledger_of_cleared {s : State} (pool : s.pool = []) (keys : s.keys = KeyStore.cleared)
    (ks : s.ks = Keystream.cleared) (chan : ∀ d, ∃ mark, s.chan d = Channel.cleared mark) :
    Ledger none [] [] [] s := by
  have reset : Ledger none [] [] [] State.reset := ledger_of_sound List.Pairwise.nil reset_keysSound
  refine reset.kept keys (fun d => ?_) (by rw [pool]; exact PoolRel.refl RefKept.refl _) fun r asked => ?_
  · obtain ⟨mark, own⟩ := chan d
    rw [own, reset_chan]
    exact ⟨rfl, rfl, rfl, rfl⟩
  · unfold State.owed at asked ⊢
    rwa [ks] at asked

theorem powerOnReset_booked {b : BitVec 28} {s : State} : Booked (execPowerOnReset b s) := fun _ next => by
  rw [← execPowerOnReset_next.1 next]
  exact (ledger_of_cleared rfl rfl rfl fun d => ⟨0, poweredOn_chan s b d⟩).settle

theorem warmReset_booked {s : State} (h : Ledger none [] [] [] s) : Booked (execWarmReset s) := fun _ next => by
  rcases execWarmReset_next next with ⟨-, rfl⟩ | ⟨-, rfl⟩
  · exact Ledger.settle h.beside
  · exact (ledger_of_cleared rfl rfl rfl fun d => ⟨_, warmed_chan s d⟩).settle

/-- Every command leaves the books in order. -/
theorem exec_booked {s : State} (h : Ledger none [] [] [] s) (c : Instr) : Booked (exec c s) := by
  cases c with
  | powerOnReset b => exact powerOnReset_booked
  | warmReset => exact warmReset_booked h
  | leavePowerOnReset f => exact leavePowerOnReset_booked h
  | leaveWarmReset => exact leaveWarmReset_booked h
  | transactionAccept t | outboundClearWrite t | outboundClearRead t | outboundLineWrite t | inboundLineWrite t
  | inboundClearHeaderWrite t | inboundClearPayloadWrite t | inboundClearRead t | noticeClearHeaderWrite t =>
    exact .acceptWhen h
  | controlPageOtherWrite w => exact controlPageOtherWrite_booked h
  | commandProducerIndexWrite i => exact commandProducerIndexWrite_booked h
  | reportConsumerIndexWrite i => exact reportConsumerIndexWrite_booked h
  | downstreamGrant => exact downstreamGrant_booked h
  | passedResponse i data => exact passedResponse_booked h
  | passedErrorResponse i data => exact passedErrorResponse_booked h
  | injectionRequestServed => exact injectionRequestServed_booked h
  | injectedError i => exact injectedError_booked h
  | downstreamTimeout i => exact downstreamTimeout_booked h
  | staleResponse i => exact .idle h
  | cipherGrant => exact cipherGrant_booked h
  | keystreamMissComplete => exact keystreamMissComplete_booked h
  | backgroundCipherComplete => exact backgroundCipherComplete_booked h
  | rootSubkeyComplete => exact rootSubkeyComplete_booked h
  | multiplierGrant => exact multiplierGrant_booked h
  | multiplierProductReturn => exact multiplierProductReturn_booked h
  | finishDecision n => exact finishDecision_booked h
  | tailFetchReturn i data => exact tailFetchReturn_booked h
  | sweepReadReturn i data => exact sweepReadReturn_booked h
  | directFinishComplete n => exact directFinishComplete_booked h
  | frameWriteAnswered i => exact frameWriteAnswered_booked h
  | tagReadReturn i data => exact tagReadReturn_booked h
  | offerRulingStart c => exact offerRulingStart_booked h
  | offerPayloadReadReturn i data => exact offerPayloadReadReturn_booked h
  | hashSubkeyReturn => exact hashSubkeyReturn_booked h
  | protocolNoticeStart => exact protocolNoticeStart_booked h
  | faultNoticeStart => exact faultNoticeStart_booked h
  | noticeLine1WriteAnswered i => exact noticeLine1WriteAnswered_booked h
  | noticeCompositionComplete i => exact noticeCompositionComplete_booked h
  | commandFetchReturn i data => exact commandFetchReturn_booked h
  | setWindow => exact setWindow_booked h
  | clearWindow => exact clearWindow_booked h
  | setInitiator => exact setInitiator_booked h
  | setChannel => exact setChannel_booked h
  | setChannelState => exact setChannelState_booked h
  | dropKeys => exact dropKeys_booked h
  | requestRenewal => exact requestRenewal_booked h
  | setMeter => exact setMeter_booked h
  | setPolicy => exact setPolicy_booked h
  | clearFaults => exact clearFaults_booked h
  | snapshotFaults => exact snapshotFaults_booked h
  | snapshotRecordHanded => exact snapshotRecordHanded_booked h
  | unknownCommand => exact unknownCommand_booked h
  | commandDoneHanded => exact commandDoneHanded_booked h
  | statusWriteAnswered i => exact statusWriteAnswered_booked h
  | reportRecordWriteAnswered i => exact reportRecordWriteAnswered_booked h
  | reportProducerWordAnswered i => exact reportProducerWordAnswered_booked h
  | lostReportCountWriteAnswered i => exact lostReportCountWriteAnswered_booked h
  | timeBaseTick => exact timeBaseTick_booked h
  | meterRefill => exact meterRefill_booked h
  | cutoverTimerExpiry c => exact cutoverTimerExpiry_booked h
  | graceTimerExpiry c => exact graceTimerExpiry_booked h
  | holdoffTimerExpiry => exact holdoffTimerExpiry_booked h
  | keyLifetimeTick => exact keyLifetimeTick_booked h
  | headerResultWriteAnswered i => exact headerResultWriteAnswered_booked h
  | resetZeroingWriteAnswered i => exact resetZeroingWriteAnswered_booked h
/-- Settles O9: every step leaves the books of the key slots in order, and they say that the key slots are sound. -/
theorem keySlotsStaySound : Obligations.KeySlotsStaySound := fun _ _ pool sound next =>
  (step_keeps (P := Ledger none [] [] []) (fun _ _ h => h.beside) (fun c _ t h next => exec_booked h c t next)
    (ledger_of_sound pool sound) next).sound

end Sys2Proof.Machine

end
